-- ==== Sys2Proof/Word.lean ====
section
/-!
DEFINITION. The word types of the device: 64-bit words carry every register, envelope, payload,
descriptor and flit payload (little-endian, R7); bytes appear only at the SMBus port.
Sparse indexed state (mailboxes, slots, ports, lanes …) is a list of index/value pairs.
-/
namespace Sys2Proof

/-- A 64-bit word: 8 bytes of a little-endian value (R7, R8). -/
abbrev Word := BitVec 64

/-- One byte of an SMBus message. -/
abbrev Byte := BitVec 8

/-- A sparse map from an index to a value: index/value pairs, ascending, one per index.
An index that is not listed holds the default that each reader of the map names. -/
abbrev Map (α : Type) := List (Nat × α)

end Sys2Proof
end

