-- ==== Sys2Proof/Syntax.lean ====
section
/-!
DEFINITION. The commands of the device: one constructor of `Instr` per row of the opcode table,
and the operand structures they carry.
-/
namespace Sys2Proof

/-- A mailbox command as its issuer gives it: the source of the register writes (0–31 tenant,
32 system host admin, 33 rack manager, 36 Proctor), the mailbox, SEQ, CTX_TAG, PAYLOAD_LEN in
bytes, the payload words, and the DONE_WB request (Table 2.13). -/
structure Cmd where
  src : Nat
  mbx : Nat
  seq : Nat
  tag : Nat := 0
  len : Nat := 0
  pay : List Word := []
  doneWb : Bool := false
  doneAddr : Nat := 0
  deriving DecidableEq, Repr

/-- Message kinds of Table 8.4. -/
inductive MsgKind where
  | write | read | atomic | fill | grantReq
  | wack | rdata | aold | credit
  | raw | partialSum | result | counts | row | abort | nack
  deriving DecidableEq, Repr

/-- A fabric message (R268): the fields of the flit header that all its flits share and of the
16 B message header of Table 8.4, the multicast MASK, and the data that follows. `units` is
LEN + 1 (elements for ATOMIC); `nfl` is NFLM1 + 1. -/
structure Msg where
  kind : MsgKind
  dst : Nat
  src : Nat
  tag : Nat := 0
  cls : Nat
  hp : Bool := false
  mark : Bool := false
  units : Nat := 1
  atop : Nat := 0
  reqId : Nat := 0
  conf : Bool := false
  addr : Nat := 0
  blocks : Nat := 0
  grant : Nat := 0
  echo : Bool := false
  cred : Nat := 0
  poison : Bool := false
  coll : Nat := 0
  member : Nat := 0
  chunk : Nat := 0
  tree : Nat := 0
  minus : Bool := false
  hops : Nat := 0
  offset : Nat := 0
  agree : Nat := 0
  mask : Nat := 0
  data : List Word := []
  deriving DecidableEq, Repr

/-- A flit (Table 8.2): header fields, the number of message bytes it carries (R325), and the 30
payload words. For CLS 2 and 3, `seq` holds MSG × 32 + FIDX. `masked` marks a CLS 2 copy that a split of R294
made and whose payload still holds the MASK (log entry 14). -/
structure Flit where
  dst : Nat
  src : Nat
  tag : Nat := 0
  cls : Nat
  esc : Bool := false
  aux : Bool := false
  hp : Bool := false
  mark : Bool := false
  seq : Nat := 0
  bytes : Nat := 240
  masked : Bool := false
  data : List Word := []
  deriving DecidableEq, Repr

/-- A link control flit as it arrives (Table 10.3): `cr` holds the six cumulative credit counts in the order of
the credit classes of R306 with the shared part last; `txeq` is (lane of the port, tap, step). -/
structure Lcf where
  ack : Nat
  nak : Bool := false
  req : Nat := 0
  cr : List Nat := []
  hb : Option (List Word) := none
  txeq : Option (Nat × Nat × Int) := none
  deriving DecidableEq, Repr

/-- A training sequence as it arrives (Table 10.7). -/
structure Ts where
  marker : Nat := 0x7E813CC35AA50FF0
  version : Nat := 1
  quad : Nat := 0
  lane : Nat := 0
  kind : Nat
  preReq : Bool := false
  fecReq : Bool := false
  rate : Nat := 0
  phase : Nat := 2
  port : Nat := 0
  node : Nat := 0
  inSlots : Nat := 0
  rxGood : Nat := 0
  echoAge : Nat := 0
  echoTick : Nat := 0
  tick : Nat := 0
  lx : Nat := 1
  ly : Nat := 1
  lz : Nat := 1
  crc : Nat := 0
  deriving DecidableEq, Repr

/-- A data flit as a slot brings it, with the slot's CRC-64 (Table 10.3). -/
structure FlitRx where
  flit : Flit
  crc : Word
  deriving DecidableEq, Repr

/-- A link control flit as a slot brings it, with the slot's CRC-64 (Table 10.3). -/
structure LcfRx where
  lcf : Lcf
  crc : Word
  deriving DecidableEq, Repr

/-- A codeword of a lane as it was received: the lane, the level before it, and its levels (R332, R337). -/
structure CodewordRx where
  lane : Nat
  before : Nat
  levels : List Nat
  deriving DecidableEq, Repr

/-- A beat as a slice of the HDP brings it, with its CRC-7 (R49, R50), and the number of beats from it on. -/
structure BeatRx where
  beats : Nat
  header : Bool
  data : List Word
  crc : Nat
  deriving DecidableEq, Repr

/-- One eye of a scan (R366): height in mV, width in 1/64 UI, signed centre steps. -/
structure Eye where
  eh : Nat
  ew : Nat
  vc : Int := 0
  pc : Int := 0
  deriving DecidableEq, Repr

/-- The measurement of a finished scan: the lower, middle and upper eye, and the bitmaps of a map scan. -/
structure ScanRes where
  eyes : List Eye
  maps : List Word := []
  deriving DecidableEq, Repr

/-- What an SRAM error hits: data of a collective's accumulators, data of a RED_LOCAL, state of a translation unit, map
store or sequencer, or a word that no operation needs. -/
inductive SramHit where
  | coll (id : Nat)
  | red (id : Nat)
  | sequencer
  | idle
  deriving DecidableEq, Repr

/-- The commands of the device: one constructor per row of the opcode table. Mailbox commands take a `Cmd`; events of
units, links and pins take the unit they concern and the reading they bring. -/
inductive Instr where
  | nop (c : Cmd)
  | seqQuery (c : Cmd)
  | cmdAbort (c : Cmd)
  | undefinedOpcode (c : Cmd) (op : Nat)
  | messageTimeEnd (order : Nat)
  | ctxCreate (c : Cmd)
  | ctxDestroy (c : Cmd)
  | contextLingerEnd (tag : Nat)
  | ctxQuery (c : Cmd)
  | segSet (c : Cmd)
  | segSetDrained (mbx : Nat)
  | invalidate (c : Cmd)
  | invalidateDrained (mbx : Nat)
  | ctxResume (c : Cmd)
  | prefetchRange (c : Cmd)
  | advise (c : Cmd)
  | submitList (c : Cmd)
  | xferOne (c : Cmd)
  | listStatus (c : Cmd)
  | listCancel (c : Cmd)
  | descriptorStart (p : Nat) (e : Nat)
  | tileIssue (p : Nat) (e : Nat)
  | streamPrefetch (p : Nat) (e : Nat) (dst : Bool)
  | requestTimeout (reqId : Nat)
  | parCcSnap (src : Nat) (p : Nat) (w : Word)
  | nringEnable (src : Nat) (ring : Nat) (base : Nat)
  | nringDisable (src : Nat) (ring : Nat)
  | nringTailWrite (src : Nat) (ring : Nat) (index : Nat)
  | noticeDeferredWrite (ring : Nat)
  | registerWrite (src : Nat) (off : Nat) (size : Nat) (data : List Word)
  | hdpRdData (tag : Nat) (data : List Word) (poison : Bool)
  | hdpWrAck (tag : Nat) (nack : Bool)
  | hdpAtomicRsp (tag : Nat) (old : Word)
  | hdpCrcError (slice : Nat) (beats : BeatRx)
  | hdpReplayRequest (slice : Nat) (beats : Nat)
  | powerOn
  | rstNAssert
  | rstNRelease (straps : Nat)
  | calendarMark (count : Nat)
  | refclkEdgeGap
  | proctorImageLoaded (ok : Bool) (words : List Word) (len : Nat)
  | firmwareReady
  | trialBootTimeout
  | brownout (retention : Bool)
  | brownoutRecovery
  | bubbleUpdate (est : Nat) (pA : Nat) (pM : Nat) (pL : Nat)
  | powerRecalibrate (ok : Bool) (w : Nat) (mv : Nat) (amps : Nat)
  | canarySample (samples : List (Nat × Nat × Nat))
  | floorReplan (mv : Nat)
  | targetStep
  | thermalSample (tj : Nat)
  | thermalLimitStep
  | currentLimitStep (amps : Nat)
  | droopDetect
  | droopRelease
  | throttleNotice
  | slackWindowEnd
  | opPointApply
  | powerCap (c : Cmd)
  | opPointDefine (c : Cmd)
  | opPointSelect (c : Cmd)
  | fwStage (c : Cmd)
  | fwStageVerified (ok : Bool)
  | fwActivateAtReset (c : Cmd)
  | fwActivateRestart (c : Cmd)
  | bootRecordSet (c : Cmd)
  | collPost (c : Cmd)
  | groupSet (c : Cmd)
  | collCancel (c : Cmd)
  | collStatus (c : Cmd)
  | bellRead (c : Cmd)
  | journalSet (c : Cmd)
  | journalStatus (c : Cmd)
  | redLocal (c : Cmd)
  | collLaunch (p : Nat) (id : Nat)
  | collWaitTimeout (p : Nat) (id : Nat)
  | collResendTimer (p : Nat) (id : Nat)
  | bellHoldover
  | emapSet (c : Cmd)
  | dispatchPost (c : Cmd)
  | dispatchStatus (c : Cmd)
  | dispatchCancel (c : Cmd)
  | pageMove (c : Cmd)
  | routeUpdate (c : Cmd)
  | routeDrainDone (order : Nat)
  | routeDrainTimeout (order : Nat)
  | timetableSet (c : Cmd)
  | timetableWindowOpen (n : Nat)
  | timetableWindowClose (n : Nat)
  | seatSet (c : Cmd)
  | flowSet (c : Cmd)
  | telemSnap (c : Cmd)
  | portCtlSet (c : Cmd)
  | portCtlRetrain (c : Cmd)
  | portCtlBounce (c : Cmd)
  | laneScanContour (c : Cmd)
  | laneScanMap (c : Cmd)
  | scanComplete (lane : Nat) (m : ScanRes)
  | backgroundScan
  | laneTestStart (c : Cmd)
  | laneTestStop (c : Cmd)
  | linkDataFlitRx (k : Nat) (x : FlitRx)
  | linkSlotFailed (k : Nat)
  | fecUncorrectable (lane : CodewordRx)
  | lcfRx (k : Nat) (m : LcfRx)
  | replayTimeout (k : Nat)
  | laneLockLoss (lane : Nat)
  | trainingSequenceRx (k : Nat) (t : Ts) (good : Nat)
  | quietEnd (k : Nat)
  | rateTryTimeout (k : Nat)
  | rateFallback (k : Nat) (energy : Nat)
  | laneWaitExpire (k : Nat)
  | retrainLimit (k : Nat)
  | napEntry (k : Nat)
  | txWake (k : Nat)
  | wakeRelockTimeout (k : Nat)
  | flitTx (k : Nat)
  | escapeTimeout (order : Nat)
  | gapTimeout (src : Nat) (cls : Nat)
  | msgGapTimeout (src : Nat) (msg : Nat)
  | msgSettleTimeout (msg : Nat)
  | creditFlush (src : Nat)
  | grantReclaim (src : Nat)
  | grantRelease (dst : Nat)
  | grantReq (m : Msg)
  | credit (m : Msg)
  | write (m : Msg)
  | read (m : Msg)
  | atomic (m : Msg)
  | fill (m : Msg)
  | hpRelease (order : Nat)
  | wack (m : Msg)
  | rdata (m : Msg)
  | aold (m : Msg)
  | rateIncrease (key : Nat)
  | raw (m : Msg)
  | partial_ (m : Msg)
  | result (m : Msg)
  | counts (m : Msg)
  | row (m : Msg)
  | abort (m : Msg)
  | nack (m : Msg)
  | sramError (unit : Nat) (ue : Bool) (p : Nat) (hit : SramHit) (addr : Word) (syndrome : Word)
  | heartbeatSend (k : Nat)
  | rollcallMiss (k : Nat)
  | tallyTimeout (node : Nat)
  | isolationTimeout
  | engineProgressExpire (p : Nat) (e : Nat)
  | eResetDone (p : Nat) (e : Nat)
  | eResetHung (p : Nat) (e : Nat)
  | partitionProgressExpire (p : Nat)
  | pResetDrainDone (p : Nat)
  | pResetScrubDone (p : Nat)
  | pResetHung (p : Nat)
  | pResetQuietEnd (p : Nat)
  | portProgressExpire (k : Nat)
  | watchdogExpire (core : Nat)
  | mcRestartDone
  | dResetReadyTimeout
  | resetLevelC (c : Cmd)
  | resetLevelE (c : Cmd)
  | resetLevelP (c : Cmd)
  | resetLevelD (c : Cmd)
  | hangSet (c : Cmd)
  | rollcallStatus (c : Cmd)
  | rollcallAdmit (c : Cmd)
  | rollcallExpel (c : Cmd)
  | substituteSeat (c : Cmd)
  | substituteAnnounce (c : Cmd)
  | substituteCommit (c : Cmd)
  | substituteRelease (c : Cmd)
  | injectPolicy (c : Cmd)
  | injectFaultLane (c : Cmd)
  | injectFaultSramCe (c : Cmd)
  | injectFaultSramUe (c : Cmd)
  | injectFaultHdpCrc (c : Cmd)
  | injectFaultEngineStall (c : Cmd)
  | injectFaultResetStall (c : Cmd)
  | injectFaultCsStall (c : Cmd)
  | injectFaultMcStall (c : Cmd)
  | injectFaultHbSilence (c : Cmd)
  | injectAtBell
  | logRead (c : Cmd)
  | getVersion (c : Cmd)
  | getCapabilities (c : Cmd)
  | negotiateAlgorithms (c : Cmd)
  | getDigests (c : Cmd)
  | getCertificate (c : Cmd)
  | challenge (c : Cmd)
  | getMeasurements (c : Cmd)
  | keyExchange (c : Cmd)
  | finish (c : Cmd)
  | heartbeat (c : Cmd)
  | keyUpdate (c : Cmd)
  | endSession (c : Cmd)
  | spdmSessionTimeout (mbx : Nat)
  | reportCardGet (c : Cmd)
  | keyWrapLoad (c : Cmd)
  | keyRotateAdvance (c : Cmd)
  | keyRotateDropRetiring (c : Cmd)
  | keyChangeDrained (mbx : Nat)
  | sealBind (c : Cmd)
  | sealUnbind (c : Cmd)
  | confClaim (c : Cmd)
  | claimScrubDone (p : Nat)
  | confRelease (c : Cmd)
  | deviceScrubDone
  | keyStatus (c : Cmd)
  | debugUnlock (c : Cmd)
  | meterRead (c : Cmd)
  | meterMark (c : Cmd)
  | meterLogRead (c : Cmd)
  | meterTime (c : Cmd)
  | meterIdentity (c : Cmd)
  | meterResponseRx (good : Bool)
  | meterTickRx (good : Bool)
  | meterRequestTimeout
  | meterLinkSilence
  | meterSyncRetry
  | meterCalendarTick
  | meterSample (n : Nat) (vCode : Int) (iCode : Int)
  | meterSealChange (n : Nat) (opened : Bool)
  | meterSupplyLoss (n : Nat)
  | meterSupplyReturn (n : Nat) (good : Bool)
  | meterBackupCheck (low : Bool)
  | meterRecordSigned
  | sync (seq : Nat)
  | readValues (seq : Nat)
  | readRecord (seq : Nat) (rseq : Nat)
  | writeMark (n : Nat) (seq : Nat) (data : List Word)
  | readIdentity (seq : Nat)
  | readStatus (seq : Nat)
  | mtlUnknownType (type : Nat) (seq : Nat)
  | paramWrite (n : Nat) (seq : Nat) (params : List Word)
  | timeSet (n : Nat) (seq : Nat) (cal : Nat)
  | paramRead (seq : Nat)
  | counterSnap (c : Cmd)
  | traceArmRing (c : Cmd)
  | traceArmArm (c : Cmd)
  | traceArmStop (c : Cmd)
  | traceArmClear (c : Cmd)
  | traceTrigger (core : Nat) (value : Word)
  | traceRead (c : Cmd)
  | waitforDump (c : Cmd)
  | status (pec : Bool)
  | regRead (pec : Bool) (w : Word)
  | mbxWrite (pec : Bool) (off : Nat) (data : List Word)
  | mbxRead (pec : Bool) (off : Nat) (len : Nat)
  | alertClear (pec : Bool) (mask : Nat)
  | alertResponseRead (won : Bool)
  | smbusBusTimeout
  | spdmUnsupportedRequest (c : Cmd) (code : Nat)
  | partitionFenceDone (p : Nat)
  | partitionFenceHung (p : Nat)
  | portDrainDone (k : Nat)
  | portDrainTimeout (k : Nat)
  | nakRepeat (k : Nat)
  | linkControlFlitSend (k : Nat)
  | prbsCheckerLock (lane : Nat) (errors : Nat) (bits : Nat)
  | laneLossEnd (lane : Nat)
  | hdpTrainingDone (outFailed inFailed : List (Nat × List Nat))
  deriving DecidableEq, Repr

end Sys2Proof
end

