-- ==== Sys2Proof/Decode.lean ====
section
/-!
DEFINITION. The rows of the opcode table that a word of bits spells: the table gives no row any bits.
-/
namespace Sys2Proof

/-- The command that a word spells by the table's bits. No row of the table has bits, so every word is refused. -/
def decodeTableWord (_nbits _w : Nat) : Option Instr := none

end Sys2Proof
end

