-- ==== Sys2Proof/Machine/Bits.lean ====
section
/-!
DEFINITION. Bit fields of 64-bit words (R7, R8), payload words, sparse maps and the small list
operations that the meanings share.
-/
namespace Sys2Proof

/-- Field [hi:lo] of a word (R8). -/
def fld (w : Word) (hi lo : Nat) : Nat := w.toNat / 2 ^ lo % 2 ^ (hi + 1 - lo)

/-- Bit n of a word. -/
def bit (w : Word) (n : Nat) : Bool := w.toNat / 2 ^ n % 2 == 1

/-- A flag as a one-bit number. -/
def b2n (b : Bool) : Nat := if b then 1 else 0

/-- A word from fields (hi, lo, value); each value is cut to its field's width. -/
def pack : List (Nat × Nat × Nat) → Word
  | [] => 0
  | (hi, lo, v) :: fs => BitVec.ofNat 64 (v % 2 ^ (hi + 1 - lo) * 2 ^ lo) ||| pack fs

/-- A number as a 64-bit word (wrapping). -/
def w64 (n : Nat) : Word := BitVec.ofNat 64 n

/-- Word i of a payload; words that were not given are zero. -/
def wd (p : List Word) (i : Nat) : Word := p.getD i 0

/-- Word i as a number. -/
def wn (p : List Word) (i : Nat) : Nat := (wd p i).toNat

/-- True when every bit of a word outside the given fields (hi, lo) is zero. -/
def onlyBits (w : Word) (fs : List (Nat × Nat)) : Bool :=
  w &&& ~~~ (pack (fs.map fun (hi, lo) => (hi, lo, 2 ^ (hi + 1 - lo) - 1))) == 0

/-- The first n words of a list, padded with zeros. -/
def takePad : Nat → List Word → List Word
  | 0, _ => []
  | n + 1, [] => 0 :: takePad n []
  | n + 1, w :: ws => w :: takePad n ws

/-- n zero words. -/
def zeros (n : Nat) : List Word := List.replicate n 0

/-- Saturating 32-bit count. -/
def sat32 (n : Nat) : Nat := min n 0xFFFFFFFF

/-- Rounded-up quotient. -/
def ceilDiv (a b : Nat) : Nat := (a + b - 1) / b

/-- Round down to a multiple. -/
def down (n m : Nat) : Nat := n - n % m

/-! ### Sparse maps -/

/-- The value at an index, or the default. -/
def Map.get {α : Type} : Map α → Nat → α → α
  | [], _, d => d
  | (k, v) :: m, i, d => if k = i then v else Map.get m i d

/-- The value at an index, if one is listed. -/
def Map.find {α : Type} : Map α → Nat → Option α
  | [], _ => none
  | (k, v) :: m, i => if k = i then some v else Map.find m i

/-- Set the value at an index; the list stays ascending. -/
def Map.set {α : Type} : Map α → Nat → α → Map α
  | [], i, v => [(i, v)]
  | (k, w) :: m, i, v =>
    if k = i then (i, v) :: m else if i < k then (i, v) :: (k, w) :: m else (k, w) :: Map.set m i v

/-- Remove an index. -/
def Map.del {α : Type} (m : Map α) (i : Nat) : Map α := m.filter fun e => e.1 != i

/-- Set consecutive indices from i. -/
def Map.setList {α : Type} (m : Map α) (i : Nat) : List α → Map α
  | [] => m
  | v :: vs => Map.setList (Map.set m i v) (i + 1) vs

/-- The values of a map in ascending order of index. -/
def Map.vals {α : Type} (m : Map α) : List α := m.map Prod.snd

/-- Apply a change at every listed index. -/
def Map.mapVals {α : Type} (m : Map α) (g : Nat → α → α) : Map α := m.map fun e => (e.1, g e.1 e.2)

/-- The words at indices i … i+n-1, zero where not listed. -/
def Map.words (m : Map Word) (i n : Nat) : List Word :=
  (List.range n).map fun k => Map.get m (i + k) 0

/-- Change the elements that satisfy a test. -/
def updWhere {α : Type} (l : List α) (p : α → Bool) (g : α → α) : List α :=
  l.map fun x => if p x then g x else x

/-- The numbers lo … lo+n-1. -/
def rangeFrom (lo n : Nat) : List Nat := (List.range n).map (lo + ·)

/-- The bits 0 … n-1 that are set in a mask. -/
def bitsOf (mask n : Nat) : List Nat := (List.range n).filter fun i => mask / 2 ^ i % 2 == 1

/-- The mask of a list of bit numbers. -/
def maskOf (l : List Nat) : Nat := l.foldl (fun a i => if a / 2 ^ i % 2 == 1 then a else a + 2 ^ i) 0

/-- One bit of a cyclic redundancy check of n bits with polynomial `poly` (its top bit left out), most significant bit of
the remainder first. -/
def crcBit (n poly r : Nat) (b : Bool) : Nat :=
  let r' := 2 * r % 2 ^ n
  if (r / 2 ^ (n - 1) % 2 == 1) != b then Nat.xor r' poly else r'

/-- The remainder of a string of bits. -/
def crcBits (n poly init : Nat) (bits : List Bool) : Nat := bits.foldl (crcBit n poly) init

/-- The bits of a word, bit 0 first. -/
def wordBits (w : Word) : List Bool := (List.range 64).map fun i => w.toNat / 2 ^ i % 2 == 1

/-! ### Bytes and CRC-32C -/

/-- k steps of the reflected CRC-32C. -/
def crcStep (c : Nat) : Nat → Nat
  | 0 => c
  | k + 1 => crcStep (if c % 2 = 1 then (c / 2) ^^^ 0x82F63B78 else c / 2) k

/-- CRC-32C of bytes: polynomial 0x1EDC_6F41, reflected, all ones in and out. -/
def crc32c (bytes : List Nat) : Nat :=
  (bytes.foldl (fun c b => crcStep (c ^^^ (b % 256)) 8) 0xFFFFFFFF) ^^^ 0xFFFFFFFF

/-- The eight bytes of a word, little-endian. -/
def wordBytes (w : Word) : List Nat := (List.range 8).map fun i => w.toNat / 2 ^ (8 * i) % 256

/-- The element that is least under a key; the earlier one on a tie. -/
def minBy {α : Type} (key : α → Nat) : List α → Option α
  | [] => none
  | x :: xs => match minBy key xs with
    | none => some x
    | some y => if key y < key x then some y else some x

/-- A signed value from a field of n bits (two's complement). -/
def signed (n v : Nat) : Int := if v < 2 ^ (n - 1) then (v : Int) else (v : Int) - (2 ^ n : Nat)

end Sys2Proof
end

