-- ==== Sys2Proof/Config.lean ====
section
/-!
DEFINITION. What the spec leaves open and what an implementation fixes outside the model: free values,
and the cryptographic functions of published standards, which are kept uninterpreted.
-/
namespace Sys2Proof.Config

/-- A value that the spec does not state; the state's counter selects a fresh one each time (log entry 3). -/
opaque freeValue : Nat → Word

/-- Which of the active slices the n-th transaction of the device travels on (R57 allows any; log entry 10). -/
opaque hdpSlice : Nat → Nat

/-- AES-256-GCM open (R474): key, nonce, additional data, ciphertext, tag; none when the tag fails. -/
opaque gcmOpen : List Word → List Word → List Word → List Word → List Word → Option (List Word)

/-- AES-256-GCM seal (R473): key, nonce, additional data, plaintext; ciphertext and 16 B tag. -/
opaque gcmSeal : List Word → List Word → List Word → List Word → List Word × List Word

/-- Which reason counts where the thermal and the current limit are equal and below the cap (R395 names only CAP's tie). -/
opaque currentTie : Bool

/-- A value on the meter die that the spec does not state (log entry 3). -/
opaque meterValue : Nat → Word

/-- The meter's offsets are subtracted from a code (or added): R487 does not say which. -/
opaque offsetSubtracted : Bool

/-- SHA-384 of a byte string, 48 bytes as six words (chapter 13). -/
opaque sha384 : List Nat → List Word

/-- HMAC-SHA-384 under a key of a byte string (R468, R469). -/
opaque hmac384 : List Word → List Nat → List Word

/-- ECDSA P-384 signature of a byte string under the identity key (R455). -/
opaque identitySign : List Nat → List Word

/-- An ECDSA P-384 signature verifies under the debug key (R480). -/
opaque debugVerify : List Nat → List Word → Bool

/-- An SPDM response (R457): request code, request words, the report card that the Proctor answers from; its length in
bytes and its words. -/
opaque spdmBody : Nat → List Word → List Word → Nat × List Word

/-- A secured SPDM frame opens: secret, key updates so far, header words, body; the plaintext (R458, R460). -/
opaque spdmOpen : List Word → Nat → List Word → List Word → Option (List Word)

/-- A secured SPDM response is sealed: secret, key updates so far, header words, plaintext. -/
opaque spdmSeal : List Word → Nat → List Word → List Word → List Word

/-- CTR_DRBG of SP 800-90A with AES-256 and a derivation function (R450): the seed, the personalisation string, the number of the
request since the seed; the words that it returns. -/
opaque ctrDrbg : List Word → List Word → Nat → List Word

/-- Export master secret of a session that a KEY_EXCHANGE opens: its request and the Proctor's fresh randomness. -/
opaque exportSecret : List Word → List Word → List Word

/-- What fuses and ROM hold: 0 ROOT, 1 digest of the Proctor ROM, 2 digest of the identity public key (R451, R453). -/
opaque fuseWords : Nat → List Word

/-- Digest of the fuse map without its secrets (R453): FUSE_SVN, the fused-off mask, DEBUG_FUSE. -/
opaque fuseDigest : Nat → Nat → Bool → List Word

/-- SHA-512 of a byte string, 64 bytes as eight words (R500). -/
opaque sha512 : List Nat → List Word

/-- Ed25519 signature of the meter over a byte string (R501). -/
opaque meterSign : List Nat → List Word

/-- What the meter die holds from manufacture: 0 serial, 1 public key, 2 software version, 3 software digest. -/
opaque meterIdentity : Nat → List Word

/-- Seed of the test pattern of the i-th lane of a port (R355 names the pattern and no seed; log entry 167). -/
opaque prbsSeed : Nat → Nat

end Sys2Proof.Config
end

