-- ==== Sys2Proof/Machine/State.lean ====
section
/-!
DEFINITION. The state of the device, as plain data: the fabric die (`Fabric`) and the meter die
(`Meter`), the queue of commands that wait, and the state right after reset (`State.reset`).
Every field's default value is its value at reset; a comment names the rule that gives it, or the
entry of the assumption log that names the model's choice.
-/
namespace Sys2Proof.Machine

/-! ## Host Die Port, mailboxes and notices (chapter 02) -/

/-- Mailbox envelope, Table 2.13; the reset value of the whole envelope is zero (R73). -/
structure Env where
  seq : Nat := 0
  doneWb : Bool := false
  opcode : Nat := 0
  respLen : Nat := 0
  payLen : Nat := 0
  tag : Nat := 0
  doneAddr : Nat := 0
  mbx : Nat := 0
  accept : Nat := 0
  seqEcho : Nat := 0
  issueTick : Nat := 0
  doneTick : Nat := 0
  result0 : Word := 0
  own : Bool := false
  status : Nat := 0
  deriving DecidableEq, Repr

/-- The record of the last completed command of a mailbox (R74). -/
structure CmdRecord where
  env : Env
  resp : List Word
  deriving DecidableEq, Repr

/-- One mailbox (R70): envelope, payload area (504 words, zero where not listed), the source of
the command in progress, whether firmware has accepted it, and the record of R74. -/
structure Mailbox where
  env : Env := {}
  pay : List Word := []
  src : Nat := 0
  accepted : Bool := false
  record : Option CmdRecord := none
  /-- SEQ and STATUS of the last completed command, whatever its STATUS (Table 2.17, SEQ_QUERY). -/
  last : Nat × Nat := (0, 0)
  deriving DecidableEq, Repr

/-- A notice before it has a place in a ring (Table 2.19): source unit, code, Context Tag, tick,
its number in the ring and the five payload words at 0x18–0x3F. -/
structure Notice where
  part : Nat := 0
  unit : Nat := 0
  unitIdx : Nat := 0
  code : Nat := 0
  tag : Nat := 0
  tick : Nat := 0
  nseq : Nat := 0
  pay : List Word := []
  deriving DecidableEq, Repr

/-- Notice ring registers, Table 2.12 (reset CODE_MASK all ones, LOG2_ENTRIES 6, the rest 0),
the next NSEQ, the NSEQ that the next delivered notice would have if none were dropped, and the
notices held for want of room (R83, R84). -/
structure Ring where
  enable : Bool := false
  base : Nat := 0
  mask : Nat := 0x3FF
  log2 : Nat := 6
  lost : Nat := 0
  phase : Bool := false
  head : Nat := 0
  tail : Nat := 0
  nseq : Nat := 0
  expect : Nat := 0
  held : List Notice := []
  recent : List Notice := []
  deriving DecidableEq, Repr

/-- HDP transaction types that the device sends and that are answered (Table 2.3). -/
inductive HdpKind where
  | memRd | memWr | atomic
  deriving DecidableEq, Repr

/-- What an outstanding HDP transaction serves, so that its answer finds its operation. -/
inductive Purpose where
  /-- A notice entry of a ring (R83). -/
  | notice (ring : Nat)
  /-- A DONE_WB envelope (Table 2.14, step 6). -/
  | doneWb
  /-- A counter snapshot (R172). -/
  | ccSnap
  /-- The list header that SUBMIT_LIST in mailbox `mbx` points to (R79). -/
  | listHeader (mbx : Nat)
  /-- Work list slots from `slot` on (R81). -/
  | listFetch (part list slot : Nat)
  /-- A completion record of a slot (R154). -/
  | record (part list slot : Nat)
  /-- A list-end record (R157). -/
  | listEnd (part list : Nat)
  /-- A page-table line of a walk (R106). -/
  | walk (part walk : Nat)
  /-- Data that a tile reads, from word `off` of what its phase reads. -/
  | tileRd (part run tile off : Nat)
  /-- A write of a tile. -/
  | tileWr (part run tile : Nat)
  /-- Element `elem` of a local ATOMIC tile (R161). -/
  | tileAt (part run tile elem : Nat)
  /-- A request served at this device as a target (R129). -/
  | target (op piece : Nat)
  /-- A member list that GROUP_SET in mailbox `mbx` reads (R204). -/
  | groupRead (mbx piece : Nat)
  /-- An expert map that EMAP_SET in mailbox `mbx` reads (R236). -/
  | emapRead (mbx piece : Nat)
  /-- Input data of a collective (chapter 06), from word `off`. -/
  | collIn (part coll off : Nat)
  /-- Result data of a collective. -/
  | collOut (part coll off : Nat)
  /-- The completion record of a collective, dispatch or combine. -/
  | collRec (part coll : Nat)
  /-- A journal entry's header, data or trailer (R233). -/
  | journal (part coll : Nat)
  /-- Operand data of RED_LOCAL (R200). -/
  | redIn (part op vec off : Nat)
  /-- Result data of RED_LOCAL. -/
  | redOut (part op off : Nat)
  /-- Trace data written by TRACE_READ in mailbox `mbx` (R525). -/
  | trace (mbx : Nat)
  /-- A list of descriptors or structure that a command reads in pieces. -/
  | cmdRead (mbx piece : Nat)
  /-- A write that a command waits for. -/
  | cmdWrite (mbx : Nat)
  deriving DecidableEq, Repr

/-- One HDP transaction of the device (Table 2.2). `units` is LEN + 1. -/
structure HdpTx where
  tag : Nat := 0
  kind : HdpKind := .memRd
  addr : Nat := 0
  units : Nat := 1
  data : List Word := []
  atop : Nat := 0
  conf : Bool := false
  notice : Bool := false
  purpose : Purpose
  deriving DecidableEq, Repr

/-- A beat of an HDP slice: whether control bit 0 marks it as a header beat, and its 64 B (Table 2.1). -/
structure Beat where
  header : Bool
  data : List Word
  deriving DecidableEq, Repr

/-- The Host Die Port (R48–R63): training state, retired slices and spare-wire map, replay counts,
outstanding and waiting transactions, the credits of R58 with the register credits that the device has granted
(`regGrant`), the replay buffer of each slice (R50, oldest beat first), the replays that the device has asked for by
slice, in beats (`asked`), the beats that the last resend put on each slice (`again`), how many transactions have been
put on slices (the model's own count), and the data of the last REG_RSP. -/
structure Hdp where
  regGrant : Nat := 0
  buf : Map (List Beat) := []
  asked : Map Nat := []
  again : List (Nat × Beat) := []
  placed : Nat := 0
  regRsp : Option Word := none
  trained : Bool := false
  stopped : Bool := false
  retired : Map Bool := []
  repair : Map Nat := []
  replays : Map Nat := []
  window : Nat := 0
  outstanding : List HdpTx := []
  waiting : List HdpTx := []
  nextTag : Nat := 0
  crdRd : Nat := 256
  crdWr : Nat := 256
  crdAt : Nat := 64
  rdBytes : Nat := 0
  wrBytes : Nat := 0
  atoms : Nat := 0
  replayBeats : Nat := 0
  deriving DecidableEq, Repr

/-- An object that an arbitrated order sets (R88): a block, an index and a field. -/
structure Obj where
  block : Nat
  index : Nat
  field : Nat
  deriving DecidableEq, Repr

/-- An arbitrated order that waits for the end of its message time (R89): its mailbox, rank,
ISSUE_TICK, source, opcode, payload and the objects it sets with their values. -/
structure Order where
  id : Nat
  mbx : Nat
  rank : Nat
  tick : Nat
  src : Nat
  opcode : Nat
  tag : Nat
  pay : List Word
  len : Nat
  sets : List (Obj × Nat)
  deriving DecidableEq, Repr

/-! ## Contexts, segments and translation (chapter 03) -/

/-- Context slot states, Table 3.2. -/
inductive CtxState where
  | free | live | switchedOut | draining
  deriving DecidableEq, Repr

/-- A segment descriptor, Table 3.3, kept as the four words that SEG_SET gave. -/
structure Seg where
  w0 : Word := 0
  w1 : Word := 0
  w2 : Word := 0
  w3 : Word := 0
  deriving DecidableEq, Repr

/-- One advice range of a context (R126): first 4 KiB page, pages, prefetch depth, pin. -/
structure Advice where
  page : Nat
  pages : Nat
  depth : Nat
  pin : Bool
  deriving DecidableEq, Repr

/-- Seal binding of a segment slot (chapter 13, Table 13.6): key slot and TAG_VA. -/
structure SealBind where
  keySlot : Nat
  tagBase : Nat
  deriving DecidableEq, Repr

/-- One context slot (Table 3.12). `outTicks` is the total of ref ticks spent SWITCHED_OUT and
`outSince` the tick of the present switch-out, for the bounds that stop meanwhile (R117). -/
structure Ctx where
  state : CtxState := .free
  gen : Nat := 0
  retiredGen : Nat := 0
  weight : Nat := 0
  faultFail : Bool := false
  root : Nat := 0
  faultSeq : Nat := 0
  segs : Map Seg := []
  seals : Map SealBind := []
  advice : List Advice := []
  rr : Int := 0
  outTicks : Nat := 0
  outSince : Nat := 0
  lastClose : Nat := 0
  destroyMbx : List Nat := []
  deriving DecidableEq, Repr

/-- A TLB entry (R108): full tag, leaf level 1–3, virtual page number at that level, the entry. -/
structure TlbEntry where
  tag : Nat
  level : Nat
  vpn : Nat
  pte : Word
  pinned : Bool := false
  colls : List Nat := []
  /-- The engine whose stream prefetcher fetched it (R131). -/
  eng : Option Nat := none
  deriving DecidableEq, Repr

/-- A walk-cache entry (R109): tag, level of the table it names, the VA bits above that level. -/
structure WalkEntry where
  tag : Nat
  level : Nat
  prefix_ : Nat
  table : Nat
  deriving DecidableEq, Repr

/-- What a walk is for: a demand of a run (access kind), a prefetch of an engine's stream, a page
of PREFETCH_RANGE or of ADVISE PIN in a mailbox, or the pre-translation of a collective or
RED_LOCAL. -/
inductive WalkFor where
  | demand (run : Nat) (access : Nat)
  | prefetch (eng : Nat) (dst : Bool)
  | range (mbx : Nat)
  | pin (mbx : Nat)
  | coll (coll : Nat) (write : Bool)
  deriving DecidableEq, Repr

/-- A walk in progress (R111): the level it reads and the table it reads it from. -/
structure Walk where
  id : Nat
  tag : Nat
  va : Nat
  level : Nat
  table : Nat
  for_ : WalkFor
  aborted : Bool := false
  deriving DecidableEq, Repr

/-! ## Loads, stores, copies and atomics (chapter 04) -/

/-- Where a descriptor comes from: a slot of a list, or the mailbox of an XFER_ONE or PAGE_MOVE. -/
inductive RunSrc where
  | list (list slot : Nat)
  | mailbox (mbx : Nat)
  deriving DecidableEq, Repr

/-- Phases of a tile of a descriptor. Each phase waits for `pend` answers. -/
inductive TilePhase where
  /-- A page-list (or index table) line is being read (R150, R258). -/
  | list (dst : Bool) (line : Nat)
  /-- The tag entry of a sealed source page is being read (R472). -/
  | tagRead
  /-- Source data, or operands of an ATOMIC, are being read. -/
  | read
  /-- Compare values of an ATOMIC are being read. -/
  | compare
  /-- Destination data is being written. -/
  | write
  /-- Atomics are being executed. -/
  | atomics
  /-- The tag entry of a sealed destination page is being written (R473). -/
  | tagWrite
  /-- Old values are being written at RET_VA (R153). -/
  | ret
  /-- Old values wait for an earlier write of the same 64 B unit at RET_VA. -/
  | retWait
  deriving DecidableEq, Repr

/-- Sealing of one side of a tile: key slot, its KIND, page index in the segment, physical address of
the tag entry, and the key generation the tile resolved (R472, R478). -/
structure Sealing where
  slot : Nat
  weight : Bool
  index : Nat
  /-- Physical address of the tag entry; none where its access is a violation (R166). -/
  tagPa : Option Nat
  /-- The use that its access makes: segment slot, virtual address, bytes. -/
  tagUse : Nat × Nat × Nat := (8, 0, 0)
  gen : Nat := 0
  key : List Word := []
  deriving DecidableEq, Repr

/-- A tile in flight (R112, R136): position and size in 64 B units (elements for ATOMIC), addresses,
the data it has, and how many answers its phase still waits for. -/
structure Tile where
  id : Nat
  pos : Nat
  size : Nat
  phase : TilePhase
  srcVa : Nat := 0
  dstVa : Nat := 0
  srcPa : Nat := 0
  dstPa : Nat := 0
  /-- Where an ATOMIC's compare values are; none: the access is a violation and reads zeros (R166). -/
  cmpPa : Option Nat := none
  retPa : Option Nat := none
  zeros : Bool := false
  data : Map Word := []
  cmp : Map Word := []
  tag : List Word := []
  old : Map Word := []
  pend : Nat := 0
  srcSeal : Option Sealing := none
  dstSeal : Option Sealing := none
  /-- The accesses of the tile: segment slot, virtual address, bytes (R101, R122). -/
  uses : List (Nat × Nat × Nat) := []
  /-- Its next access is local and waits under R160. -/
  blocked : Bool := false
  deriving DecidableEq, Repr

/-- Where a started descriptor stands (R113, R132). -/
inductive RunPhase where
  | running (eng : Nat)
  | parked (fault : Nat)
  | held
  /-- A parked or held descriptor that waits for an engine after a resume (R116). -/
  | ready
  /-- Every access is closed and the completion record is being written. -/
  | finishing
  deriving DecidableEq, Repr

/-- A started descriptor and its progress. -/
structure Run where
  id : Nat
  tag : Nat
  src : RunSrc
  words : List Word
  phase : RunPhase
  nextPos : Nat := 0
  nextTile : Nat := 0
  tiles : List Tile := []
  done : Nat := 0
  startTick : Nat := 0
  parks : Nat := 0
  flits : Nat := 0
  srcList : Map Word := []
  dstList : Map Word := []
  retUnits : Map Word := []
  fin : Option (Nat × Nat) := none
  /-- Command ID that stands behind the descriptor. -/
  cmdId : Nat := 0
  /-- The engine that runs it or ran it last. -/
  lastEng : Nat := 0
  /-- Pages that the prefetcher found not present: stream (destination or source) and page (R114). -/
  marks : List (Bool × Nat) := []
  /-- A demand miss that waits for a walker: virtual address and access (R111). -/
  want : Option (Nat × Nat) := none
  /-- Its next local access waits under R160. -/
  hpHold : Bool := false
  /-- Translations of the next tile that the TLB did not hold. -/
  missed : Nat := 0
  lastProgress : Nat := 0
  pageMove : Bool := false
  hpWait : Option (List (Nat × Nat × TilePhase)) := none
  deriving DecidableEq, Repr

/-- Why the unstarted slots of a list end without starting (R141, R156, R420). -/
inductive Sweep where
  | cancelled | skipped | reset
  deriving DecidableEq, Repr

/-- An accepted work list (R79–R81, R140). -/
structure WList where
  id : Nat
  cmdId : Nat
  mbx : Nat := 0
  tag : Nat
  listId : Word
  descBase : Nat
  count : Nat
  cplBase : Nat
  halt : Bool
  entry : Nat
  fetched : Map (List Word) := []
  fetchNext : Nat := 0
  nextStart : Nat := 0
  ended : List Nat := []
  lowest : Nat := 0
  pendingRecs : Nat := 0
  sweep : Option Sweep := none
  swept : Nat := 0
  cancelMbx : List Nat := []
  started : Bool := false
  endSent : Bool := false
  finished : Bool := false
  deriving DecidableEq, Repr

/-- Counter entry (Table 4.11). `freedAt` orders the frees of a partition's entries, 0 for one never in use (R171). -/
structure CounterEntry where
  cmdId : Nat := 0
  timeouts : Nat := 0
  descDone : Nat := 0
  bytes : Nat := 0
  flits : Nat := 0
  stall : Nat := 0
  parks : Nat := 0
  late : Nat := 0
  final : Bool := false
  busy : Bool := false
  freedAt : Nat := 0
  deriving DecidableEq, Repr

/-- A descriptor that a mailbox has issued and that has not started (R133). -/
structure Issued where
  mbx : Nat
  tag : Nat
  words : List Word
  pageMove : Bool := false
  deriving DecidableEq, Repr

/-- Uses that a SEG_SET or INVALIDATE waits to drain (R101, R122): tiles (partition, run, tile) and launched
collectives (partition, collective) admitted before it, and how many there were. -/
structure Drain where
  mbx : Nat
  uses : List (Nat × Nat × Nat) := []
  colls : List (Nat × Nat) := []
  /-- Accesses of RED_LOCALs: partition, operation, access. -/
  reds : List (Nat × Nat × Nat) := []
  /-- Requests of peers that the old landing window had admitted (R101). -/
  targets : List Nat := []
  count : Nat := 0
  segSet : Bool
  deriving DecidableEq, Repr

/-- A PREFETCH_RANGE or ADVISE PIN in progress: the pages still to walk and the bits found so far. -/
structure RangeOp where
  mbx : Nat
  tag : Nat
  page : Nat
  pages : Nat
  next : Nat := 0
  missing : List Nat := []
  pin : Bool := false
  /-- A walk read of ADVISE PIN returned POISON (R63). -/
  poison : Bool := false
  /-- ADVISEs of the context that were accepted later and are already applied: page, pages, ADVICE (R97). -/
  later : List (Nat × Nat × Nat) := []
  deriving DecidableEq, Repr

/-! ## Addressing, spraying and routes (chapter 08); flow control (chapter 09) -/

/-- A flit in the router core (R315): the port it arrived on (8: this device), the output it is
assigned to (none: it waits at its input), its circuit entry, its arrival order, the slot group it
shares with the other branches of a multicast flit, and the tick it came to the head of its input
queue. `upOnly` marks flits of a group with PATH UPLINK (R289). -/
structure QFlit where
  flit : Flit
  inPort : Nat := 8
  out : Option Nat := none
  circuit : Option Nat := none
  order : Nat := 0
  group : Nat := 0
  since : Nat := 0
  upOnly : Bool := false
  inCls : Nat := 0
  deriving DecidableEq, Repr

/-- Source-side state toward one destination (R266, R281, R282): next SEQ of CLS 0 and 1, flits
uncredited with the MSG they belong to (oldest first), grant blocks, tick of the last send,
whether a GRANT_REQ is open, messages that wait for window or rate. -/
structure SrcState where
  seq0 : Nat := 0
  seq1 : Nat := 0
  owed : List (Option Nat × Nat) := []
  grant : Nat := 0
  lastSend : Nat := 0
  asked : Bool := false
  deriving DecidableEq, Repr

/-- An open message (R267, R559): its MSG number, or for CLS 0 and 1 a number of the model's own from 128 up; the
receivers toward which it is not settled; the tick of its last flit. -/
structure OpenMsg where
  msg : Nat
  receivers : List Nat
  last : Nat
  deriving DecidableEq, Repr

/-- A flit held in the reorder pool: the port it arrived on and its tick. -/
structure Held where
  flit : Flit
  port : Nat
  tick : Nat
  deriving DecidableEq, Repr

/-- A request message of a source released at this destination, not yet served (R285). -/
structure Arrived where
  order : Nat
  msg : Msg
  deriving DecidableEq, Repr

/-- Destination-side state of one source (R283–R286, R559): next SEQ and held flits per class, the
message being assembled per class with the flits it still needs, credits gathered with the tick of
the first, grant, last arrival, open CLS 2/3 messages, and the echo owed (R316). -/
structure DstState where
  next0 : Nat := 0
  next1 : Nat := 0
  held0 : List Held := []
  held1 : List Held := []
  asm0 : List Flit := []
  asm1 : List Flit := []
  need0 : Nat := 0
  need1 : Nat := 0
  broken0 : Bool := false
  broken1 : Bool := false
  credits : Nat := 0
  creditSince : Nat := 0
  grant : Nat := 0
  lastArrival : Nat := 0
  msgs : Map (List Held) := []
  echo : Bool := false
  deriving DecidableEq, Repr

/-- Branch state of a multicast message at an input port (R293, R294): the outputs decided at the
first flit, the members that take split unicast copies, and whether this node takes a copy. -/
structure Branch where
  port : Nat
  src : Nat
  msg : Nat
  nfl : Nat := 1
  outs : List Nat := []
  splits : List Nat := []
  here : Bool := false
  deriving DecidableEq, Repr

/-- A request of a remote source that this device serves (R129): it has taken effect when `pend`
is 0. -/
structure TargetOp where
  id : Nat
  order : Nat
  msg : Msg
  pend : Nat
  data : Map Word := []
  poison : Bool := false
  deriving DecidableEq, Repr

/-- An open remote request (R167): the tile it belongs to, its Context Tag and TIMEOUT, whether the router core has it
(`handed`), the tick at which it got it, the SWITCHED_OUT ticks of its context at that tick, and its bound. -/
structure Request where
  part : Nat
  run : Nat
  tile : Nat
  tag : Nat := 0
  timeout : Nat := 0
  handed : Bool := false
  start : Nat := 0
  outAt : Nat := 0
  bound : Nat := 0
  deriving DecidableEq, Repr

/-- A drain of ports (Table 8.6): the order that waits for it, its ports and start tick. -/
structure PortDrain where
  order : Order
  ports : List Nat
  start : Nat
  pool : Bool := false
  deriving DecidableEq, Repr

/-- Rate-table entry (R318–R322); R is in GB/s, `allow` in units of 1/10 byte. -/
structure RateEntry where
  rate : Nat
  start : Nat
  lastCut : Nat
  timer : Nat
  allow : Nat
  dests : List Nat := []
  allows : Map Nat := []
  deriving DecidableEq, Repr

/-- A message that the device has given its router core and that waits for reorder credit or rate
allowance (R281, R320); `begun` once its first flit has left. -/
structure OutMsg where
  flits : List Flit
  dsts : List Nat
  kind : MsgKind
  reqId : Nat := 0
  msgNo : Option Nat := none
  upOnly : Bool := false
  begun : Bool := false
  deriving DecidableEq, Repr

/-- Router core (Tables 8.7–8.17) and its flit state. -/
structure Router where
  lx : Nat := 1
  ly : Nat := 1
  lz : Nat := 1
  node : Nat := 0
  drainUnits : Nat := 10
  nmThresh : Nat := 32
  escWait : Nat := 64
  portEn : Nat := 0xFF
  nmEn : Bool := true
  dor : Bool := false
  gapTicks : Nat := 312500
  maxWin : Nat := 2048
  base : Nat := 0
  unreach : Nat := 0
  gapSkips : Nat := 0
  lateDrops : Nat := 0
  escapes : Nat := 0
  nmHops : Nat := 0
  mcSplits : Nat := 0
  rack : Map (Nat × Bool) := []
  seats : Map Word := []
  timetable : Map (List Word) := []
  pointer : Map Nat := []
  queue : List QFlit := []
  order : Nat := 0
  srcs : Map SrcState := []
  dsts : Map DstState := []
  nextMsg : Nat := 0
  nextOpen : Nat := 0
  openMsgs : List OpenMsg := []
  branches : List Branch := []
  outbox : List OutMsg := []
  inbox : List Arrived := []
  hpHeld : List Arrived := []
  targets : List TargetOp := []
  nextTarget : Nat := 0
  reqId : Nat := 0
  reqs : Map Request := []
  /-- REQIDs closed without an answer: partition, counter entry, command ID (R170). -/
  closed : Map (Nat × Nat × Nat) := []
  drains : List PortDrain := []
  deriving DecidableEq, Repr

/-- Congestion control (Table 9.8) and the rate table. -/
structure Flow where
  ccEn : Bool := true
  markEn : Bool := true
  markThresh : Nat := 256
  incTicks : Nat := 156
  cutTicks : Nat := 128
  cutShift : Nat := 2
  rateMin : Nat := 8
  addStep : Nat := 32
  rates : Map RateEntry := []
  overflow : Option RateEntry := none
  echoes : Nat := 0
  heldTicks : Nat := 0
  /-- PRT_CC_CTL values that apply from the next ref tick (R323). -/
  newCtl : Option Word := none
  /-- Accepted TELEM_SNAPs that wait for the start of the next ref tick: mailbox, ports, CLR_HWM (R329). -/
  snaps : List (Nat × Nat × Bool) := []
  deriving DecidableEq, Repr

/-! ## Always-on domain, sideband pins, SMBus alerts (chapters 12 and 16) -/

/-- The crash dump of R425, less the registers and stacks of the management cores. -/
structure Dump where
  cause : Nat
  units : Nat
  records : Map CmdRecord
  parStatus : List Word
  lnState : List Word
  notices : Map (List Notice)
  deriving DecidableEq, Repr

/-- AON domain (Table 12.16): only a power cycle clears the reset record, the log and the dump. -/
structure Aon where
  stage : Nat := 0
  trial : Bool := false
  slotB : Bool := false
  lastCount : Nat := 0
  dCount : Nat := 0
  cause : Nat := 0
  bell : Nat := 0
  log : Map (List Word) := []
  logCount : Nat := 0
  logNext : Nat := 0
  dump : Option Dump := none
  deriving DecidableEq, Repr

/-- Sideband pins and SMBus alerts (R551–R553): standing fault causes, ALERTS and the bits set
since the last won Alert Response Address read, what the SMBus target last answered. -/
structure Pins where
  faults : List Nat := []
  trayReq : Bool := false
  alerts : Nat := 0
  fresh : Nat := 0
  rstN : Bool := false
  powerGood : Bool := false
  straps : Nat := 0
  smbData : List Word := []
  deriving DecidableEq, Repr
/-! ## Groups, collectives, dispatch and combine (chapters 05 to 07) -/

/-- A group slot (Table 6.1): kind (0 AXIS, 1 RACK, 2 LIST), axis, RING, PATH, member node addresses in
index order. -/
structure Group where
  kind : Nat
  axis : Nat := 0
  ring : Bool := false
  uplink : Bool := false
  members : List Nat
  deriving DecidableEq, Repr

/-- A collective message that a member has admitted (R225, R226). -/
structure Frag where
  kind : MsgKind
  chunk : Nat
  offset : Nat
  member : Nat
  agree : Nat
  data : List Word
  deriving DecidableEq, Repr

/-- A message that a member has sent, for the resends of R226, and a resend that is due at a tick. -/
structure Resend where
  due : Nat
  msg : Msg
  deriving DecidableEq, Repr

/-- A result block of a chunk: chunk, block, words in OUT_FMT. -/
structure BlockRes where
  chunk : Nat
  block : Nat
  data : List Word
  deriving DecidableEq, Repr

/-- The journal ring of a context (R233): BASE, LOG2_BYTES, ENABLE, next JSEQ, next offset. -/
structure Journal where
  enable : Bool := false
  base : Nat := 0
  log2 : Nat := 0
  jseq : Nat := 1
  offset : Nat := 0
  /-- Earlier rings, base and LOG2_BYTES, with the offset each has reached: collectives launched under one still write there
  (R235). -/
  olds : List (Nat × Nat × Nat) := []
  deriving DecidableEq, Repr

/-- Which step of its journal entry a collective is at (R234). -/
inductive JPhase where
  | none_ | data | trailer | done
  deriving DecidableEq, Repr

/-- A posted collective, dispatch or combine (R206–R256). `inPend`, `outPend` and `jPend` count HDP
transactions still unanswered; `xlat` and `segs` are the translations and segments it launched with. -/
structure Coll where
  id : Nat
  cmdId : Nat
  tag : Nat
  disp : Bool := false
  words : List Word
  algo : Nat
  group : Group
  agree : Nat
  order : Nat
  parked : Option Nat := none
  late : Bool := false
  launched : Bool := false
  launchTick : Nat := 0
  lastProgress : Nat := 0
  outAt : Nat := 0
  reserve : Nat := 0
  inData : Map Word := []
  inPend : Nat := 0
  frags : List Frag := []
  sent : List Msg := []
  greeted : List Nat := []
  /-- Nodes of which a message other than a ROW has been admitted (R217). -/
  heard : List Nat := []
  resends : List Resend := []
  upDone : List (Nat × Nat) := []
  results : List BlockRes := []
  fwdDone : List (Nat × Nat) := []
  out : Map Word := []
  outPend : Nat := 0
  chunksDone : Nat := 0
  exc : Nat := 0
  early : Nat := 0
  dups : Nat := 0
  discards : Nat := 0
  jphase : JPhase := .none_
  jring : Option Journal := none
  jseq : Nat := 0
  jbase : Nat := 0
  jPend : Nat := 0
  jskip : Bool := false
  stage : Nat := 0
  rowsOut : Nat := 0
  rowsIn : Nat := 0
  drops : Nat := 0
  unmapped : Nat := 0
  fin : Option (Nat × Nat) := none
  missing : Nat := 0xFFFF
  xlat : List TlbEntry := []
  segs : Map Seg := []
  deriving DecidableEq, Repr

/-- What the sequencer keeps of a completed collective (R235): the 64 most recent, and whether it was a
dispatch, its ORIGIN_VA and its STATUS, for a combine that reverses it. -/
structure CollDone where
  tag : Nat
  collId : Word
  disp : Bool
  cmdId : Nat
  chunks : Nat
  launchTick : Nat
  status : Nat
  origin : Nat := 0
  deriving DecidableEq, Repr

/-- An expert map of a context (R236): its entries, two words each, and MAP_CRC. -/
structure Emap where
  tag : Nat
  entries : List Word
  crc : Nat
  deriving DecidableEq, Repr

/-- A RED_LOCAL in progress (R199–R201): source data by vector, answers still awaited, the vector and unit it is at. -/
structure RedOp where
  id : Nat
  mbx : Nat
  tag : Nat
  words : List Word
  vec : Nat := 0
  pos : Nat := 0
  writing : Bool := false
  data : Map (Map Word) := []
  out : List Word := []
  pend : Nat := 0
  exc : Nat := 0
  /-- Its accesses in flight: number, segment slot, virtual address, bytes (R101, R122). -/
  uses : List (Nat × Nat × Nat × Nat) := []
  deriving DecidableEq, Repr

/-- A command that reads a table from host-die memory (GROUP_SET LIST, EMAP_SET): the words so far. -/
structure TableRead where
  mbx : Nat
  tag : Nat
  words : List Word
  data : Map Word := []
  pend : Nat
  poison : Bool := false
  deriving DecidableEq, Repr

/-- Bell-count state (R220–R222, Table 6.13): the fraction, the (ROOT, DEPTH) that each torus port last heard, and the
Bell count at which it last sent a heartbeat. -/
structure BellState where
  state : Nat := 0
  root : Nat := 0
  depth : Nat := 0
  offset : Int := 0
  parent : Nat := 7
  good : Nat := 0
  lastMsg : Nat := 0
  stepped : Bool := false
  frac : Nat := 0
  roots : Map (Nat × Nat) := []
  /-- Bell counts at which the latest heartbeats left on each link, newest first. -/
  sent : Map (List Nat) := []
  /-- The last BELL_RX of each link and the Bell count at which the heartbeat that it reports left. -/
  pair : Map (Nat × Nat) := []
  deriving DecidableEq, Repr


/-! ## Resets, the ladder and roll call (chapter 12) -/

/-- A P reset or fence in progress (Table 12.5): start, TRIGGER (0 where commanded), whether the ladder ordered it, the
commands that wait for it, what it ended, and whether its scrub runs (`scrubbing`) or the fence does (`fence`). -/
structure PReset where
  start : Nat
  trigger : Nat
  ladder : Bool
  release : Bool := false
  mbxs : List Nat := []
  lists : Nat := 0
  colls : Nat := 0
  descs : Nat := 0
  contexts : Nat := 0
  cleared : Bool := false
  fence : Option Nat := none
  deriving DecidableEq, Repr

/-- An E reset in progress: engine, start, whether it hangs, the run it ends, the RESET_LEVEL commands that wait for it. -/
structure EReset where
  eng : Nat
  start : Nat
  hang : Bool
  ladder : Bool
  run : Option Nat := none
  mbxs : List Nat := []
  deriving DecidableEq, Repr

/-- A node as roll call holds it (R429), with the verdict item that made it dead. -/
structure NodeLife where
  dead : Bool := false
  life : Nat := 0
  item : List Word := []
  deriving DecidableEq, Repr

/-- An open vote tally (R433). -/
structure Tally where
  node : Nat
  opened : Nat
  deadVotes : List Nat := []
  aliveVotes : List Nat := []
  deriving DecidableEq, Repr

/-- A hand-over record (Table 12.9, ROLLCALL_STATUS). -/
structure HandOver where
  alias_ : Nat
  real : Nat
  partner : Nat
  phase : Nat
  registrar : Nat
  deriving DecidableEq, Repr

/-- Roll call (R428–R445): own state (0 JOINING, 1 ALIVE, 2 DETAINED) and life, nodes other than (alive, 0), per torus
port the tick of the last good heartbeat, consecutive misses and the start of the present period, the sender's
RC_STATE and when a heartbeat was last sent, tallies, items already received, items owed per port, hand-overs. -/
structure Roll where
  state : Nat := 0
  life : Nat := 0
  nodes : Map NodeLife := []
  heard : Map Nat := []
  heardBell : Map Nat := []
  misses : Map Nat := []
  period : Map Nat := []
  peerState : Map Nat := []
  sent : Map Nat := []
  tallies : List Tally := []
  voted : List (Nat × Nat) := []
  seen : List (List Word) := []
  owed : Map (List (List Word)) := []
  handovers : List HandOver := []
  deriving DecidableEq, Repr

/-- An injection that waits for its AT_BELL (R446). -/
structure Injection where
  mbx : Nat
  bell : Nat
  pay : List Word
  deriving DecidableEq, Repr

/-- The ladder's device side: watchdog restarts, the restart in progress, cores that no longer write their watchdog
word, INJ_POLICY, the injections that wait, and a request for a device reset in arbitration. -/
structure Ladder where
  lastRestart : Option Nat := none
  restarting : Bool := false
  lost : List Nat := []
  stalledCores : List Nat := []
  policy : Nat := 0
  injections : List Injection := []
  injectedUe : List (Nat × Bool) := []
  crcSlices : List Nat := []
  repeats : List (Nat × Nat × Nat) := []
  activated : Bool := false
  bootFrom : Nat := 0
  bootAt : Nat := 0
  rolledBack : Bool := false
  bootHeld : Option (List Word) := none
  deriving DecidableEq, Repr

/-! ## Lanes, quads and links (chapter 10); port buffers and counters (chapter 09) -/

/-- Link states, Table 10.5. -/
inductive LinkState where
  | off | quiet | lock | align | config | active | nap | wake | retrain | test
  deriving DecidableEq, Repr

/-- Scan of a lane in progress (R366, R367): who asked for it (none: the background scan). -/
structure Scan where
  mbx : Option Nat
  map : Bool
  dwell : Nat
  deriving DecidableEq, Repr

/-- One lane (Table 10.17) with its scan history, uncorrectable codewords and injected loss. -/
structure Lane where
  eh : Nat := 0
  ew : Nat := 0
  cls : Nat := 0
  eye : Nat := 0
  slope : Int := 0
  predict : Nat := 0
  scanTick : Nat := 0
  /-- The last 16 background scans: tick and the three EH (R367). -/
  hist : List (Nat × List Nat) := []
  prbsLock : Bool := false
  prbsRun : Bool := false
  prbsErrors : Nat := 0
  prbsBits : Nat := 0
  unc : List Nat := []
  locked : Bool := false
  scan : Option Scan := none
  lossUntil : Option Nat := none
  nextScan : Nat := 0
  symErrors : Nat := 0
  taps : Map Int := []
  /-- Outbound stream (R333, R335): message bits of the current codeword and their number, the last symbol sent, and the
  symbols of the last slot. -/
  txAcc : Nat := 0
  txLen : Nat := 0
  txPrev : Nat := 0
  wire : List Nat := []
  /-- Inbound stream (R337): codewords decoded, slots taken, slots that the decoder has marked as failed. -/
  cw : Nat := 0
  rxSlots : Nat := 0
  badSlots : List Nat := []
  /-- The FFE step of Table 10.9 that the next scan judges: tap, step, EH before it. -/
  tried : Option (Nat × Int × Nat) := none
  /-- The receiver runs in high-bias mode (R393). -/
  highBias : Bool := false
  deriving DecidableEq, Repr

/-- A LANE_SCAN in progress (R366, R374): its lanes in order and the records it has. -/
structure ScanOp where
  mbx : Nat
  map : Bool
  lanes : List Nat
  recs : Map (List Word) := []
  deriving DecidableEq, Repr

/-- Parameters of a LANE_TEST (R369, Table 10.18). -/
structure PortTest where
  rate : Nat
  prbs31 : Bool
  loop : Bool
  mask : Nat
  injPeriod : Nat
  injCount : Nat
  deriving DecidableEq, Repr

/-- A PORT_CTL that waits for its ports to drain (R373), and the mask of ports whose state it changes. -/
structure PortCtl where
  mbx : Nat
  mask : Nat
  deriving DecidableEq, Repr

/-- A flit kept for retry under its LSEQ (R312, R339). -/
structure Retx where
  lseq : Nat
  flit : Flit
  deriving DecidableEq, Repr

/-- Why a port drains, beside a ROUTE_UPDATE: PORT_CTL off, BOUNCE, or the port rung of the ladder. -/
inductive DrainFor where
  | off | bounce | rung
  deriving DecidableEq, Repr

/-- One fabric port: quad map (Table 10.12), link state and control (Tables 10.13, 10.14), counters
(Tables 9.4–9.7, 10.16), link credits (R306–R308), and the retry state (R344–R346). -/
structure Port where
  first : Nat := 0
  count : Nat := 0
  inSlots : Nat := 0
  state : LinkState := .off
  active : Nat := 0
  rate : Nat := 0
  fec : Bool := false
  txPre : Bool := false
  rxPre : Bool := false
  rxNap : Bool := false
  txWake : Bool := false
  peerKind : Nat := 0
  peer : Nat := 0
  retrains : Nat := 0
  enable : Bool := true
  fecReq : Bool := false
  preReq : Bool := false
  napEn : Bool := true
  maxRate : Nat := 0
  napTicks : Nat := 1563
  rtt : Nat := 0
  replayTicks : Nat := 0
  fecCw : Nat := 0
  fecCorr : Nat := 0
  fecUnc : Nat := 0
  lcfTx : Nat := 0
  entered : Nat := 0
  reason : Nat := 0
  rxGood : Nat := 0
  rxRate : Option Nat := none
  trySince : Nat := 0
  fellAt : Nat := 0
  miscable : Bool := false
  sendReady : Bool := false
  wakeSince : Nat := 0
  rxWake : Option Nat := none
  progress : Nat := 0
  expiries : List Nat := []
  txFlits : Nat := 0
  txBytes : Nat := 0
  rxFlits : Nat := 0
  rxBytes : Nat := 0
  stallLink : Nat := 0
  stallRetx : Nat := 0
  stallCredit : Nat := 0
  stallNow : Nat := 0
  /-- The port sent a flit in this ref tick (R324). -/
  sentNow : Bool := false
  retryEvents : Nat := 0
  resent : Nat := 0
  marks : Nat := 0
  drops : Nat := 0
  hwm : Nat := 0
  retxHwm : Nat := 0
  reordHeld : Nat := 0
  inUse : Map Nat := []
  credits : Map Nat := []
  freed : Map Nat := []
  lastCr : Map Nat := []
  retx : List Retx := []
  nextLseq : Nat := 0
  expLseq : Nat := 0
  nakWait : Bool := false
  nakTick : Nat := 0
  ackTick : Nat := 0
  noProgress : Nat := 0
  awaitLcf : Bool := false
  slot : Nat := 0
  owed : Bool := false
  owedSince : Nat := 0
  owedNak : Bool := false
  owedReq : Nat := 0
  owedHb : Bool := false
  idleSince : Nat := 0
  vcPointer : Nat := 0
  drainFor : Option DrainFor := none
  drainStart : Nat := 0
  drainMbxs : List Nat := []
  test : Option PortTest := none
  replaying : Bool := false
  /-- The next retransmit slot that a running resend sends (R346). -/
  replayAt : Nat := 0
  /-- The fixed-rate schedule that the slot series follows now (R342). -/
  fixedNow : Bool := false
  /-- Slots taken since the entry to ACTIVE. -/
  rxSlot : Nat := 0
  /-- FFE requests that wait for an LCF: lane of the port, tap, step (Table 10.9). -/
  txeq : List (Nat × Nat × Int) := []
  /-- TICK of the last good training sequence, and the ref tick of its receipt (Table 10.7). -/
  tsTick : Nat := 0
  tsAt : Nat := 0
  lcfDrop : Bool := false
  crcInject : Bool := false
  silence : Nat := 0
  deriving DecidableEq, Repr

/-! ## Reference clock, flash, power (chapter 11) -/

/-- REFCLK judgement (Tables 11.10 and 11.11): faults, STATE, last window, and the marks that R384 names; `before`
holds the link states at the fault and `returning` stands from the passing window to the end of HDP training. -/
structure Clk where
  losses : Nat := 0
  state : Nat := 0
  lastCount : Nat := 0
  lastCal : Nat := 0
  windows : Nat := 0
  winBefore : Nat := 0
  passCount : Nat := 0
  passTick : Nat := 0
  bellMark : Nat := 0
  calMark : Nat := 0
  returning : Bool := false
  windowOpen : Bool := false
  before : Map LinkState := []
  deriving DecidableEq, Repr

/-- An operating point (R405). -/
structure OpPoint where
  mv : Nat := 750
  fixed : Bool := false
  deriving DecidableEq, Repr

/-- The power manager and the safety monitors (R390–R407, Tables 11.9 to 11.14). `est` is the estimate over 160 ref
ticks in mW; `lowered` is how far R398 has taken TARGET below its planned value. -/
structure Pwr where
  cap : Nat := 640
  thermal : Nat := 640
  current : Nat := 640
  tjThrottle : Nat := 105
  tjTrip : Nat := 120
  iccLimit : Nat := 450
  pmbus : List (Nat × Nat) := [(0x40, 0)]
  bubA : Nat := 0
  bubM : Nat := 0
  bubL : Nat := 0
  droop : Bool := false
  droopSince : Nat := 0
  points : Map OpPoint := []
  point : Nat := 0
  selects : List (Nat × Nat) := []
  floor : Nat := 650
  freshFloor : Nat := 650
  lowered : Nat := 0
  marginOut : Bool := false
  pmbusFails : Nat := 0
  pmbusFault : Bool := false
  capUnmet : Bool := false
  napForced : Bool := false
  est : Nat := 0
  fabricW : Nat := 0
  tjMax : Nat := 0
  icore : Nat := 0
  vcoreMv : Nat := 0
  canary : Map (Nat × Nat) := []
  worst : Nat := 0
  agePpm : Nat := 0
  planned : Map Nat := []
  lastPlan : Nat := 0
  bubSince : Option Nat := none
  freeSince : Nat := 0
  lastTarget : Nat := 0
  hot : Bool := false
  coolSince : Option Nat := none
  lastThermal : Option Nat := none
  easeSince : Option Nat := none
  lastCurrent : Option Nat := none
  thr : Map Nat := []
  noted : Nat := 0
  changed : Bool := false
  seen : Nat := 0
  lastNotice : Option Nat := none
  thrTicks : Nat := 0
  slackW : Int := 0
  thrPm : Nat := 0
  waitPm : Nat := 0
  winStart : Nat := 0
  estSum : Nat := 0
  icSum : Nat := 0
  thrSum : Nat := 0
  waitSum : Nat := 0
  avgW : Nat := 0
  avgA : Nat := 0
  deriving DecidableEq, Repr

/-- A firmware image as the flash holds it: header and body words (Table 13.1), its bytes. -/
structure Image where
  words : List Word := []
  len : Nat := 0
  deriving DecidableEq, Repr

/-- A FW_STAGE in progress (R410): its slot, what is still to be read, the words so far. -/
structure Staging where
  mbx : Nat
  slot : Nat
  len : Nat
  pend : Nat
  poison : Bool := false
  data : Map Word := []
  deriving DecidableEq, Repr

/-- Flash (Table 11.3): image slots, directory, the boot configuration record as bytes; and the staging of an image. -/
structure Flash where
  slots : Map Image := []
  active : Nat := 0
  failed : List Nat := []
  staged : Option Nat := none
  trialNext : Bool := false
  record : List Nat := []
  writing : Option Staging := none
  /-- BOOT_RECORD_SET commands accepted while the flash master is stopped (R31): mailbox and record. -/
  held : List (Nat × List Nat) := []
  deriving DecidableEq, Repr

/-! ## Proctor and sessions (chapter 13) -/

/-- An SPDM session (R459): SESSION_ID, state (1 HANDSHAKE, 2 ESTABLISHED), the next SEQ_NUM of requests and responses,
tick of the last good secured message, export master secret, key updates of each direction. -/
structure Session where
  id : Nat
  state : Nat := 1
  reqSeq : Nat := 0
  rspSeq : Nat := 0
  last : Nat := 0
  secret : List Word := []
  reqKeys : Nat := 0
  rspKeys : Nat := 0
  deriving DecidableEq, Repr

/-- A CTR_DRBG instance (R450): its seed and the requests since. -/
structure Drbg where
  seed : List Word
  reqs : Nat := 0
  deriving DecidableEq, Repr

/-- A CONF_CLAIM whose scrub runs (R462). -/
structure ClaimOp where
  mbx : Nat
  part : Nat
  session : Nat
  deriving DecidableEq, Repr

/-- A key change that waits for tiles that resolved a destroyed generation (R478): (partition, run, tile). -/
structure KeyOp where
  mbx : Nat
  part : Nat
  gen : Nat
  tiles : List (Nat × Nat)
  deriving DecidableEq, Repr

/-- The Proctor (R449–R483). `mapping` is the physical partition behind each logical one (R3). -/
structure Prc where
  epoch : Nat := 1
  restarts : Nat := 0
  measured : Bool := false
  running : Image := {}
  slot : Nat := 0
  trial : Bool := false
  debugFuse : Bool := false
  debugNow : Bool := false
  fuseSvn : Nat := 0
  fusedOff : Nat := 0
  scrubbing : Bool := false
  conns : Map Nat := []
  sessions : Map Session := []
  claims : Map Nat := []
  claimOps : List ClaimOp := []
  keyOps : List KeyOp := []
  bootRecord : List Nat := []
  /-- The DRBG, once instantiated after a device reset (R450). -/
  drbg : Option Drbg := none
  deriving DecidableEq, Repr

/-! ## Meter Link, fabric side (chapter 14) -/

/-- What a Meter Link request is for: link start-up, the periodic values, a new record, or a command. -/
inductive MtlFor where
  | sync | values | record | mark (mbx : Nat) | log (mbx : Nat) | identity (mbx : Nat)
  deriving DecidableEq, Repr

/-- The two signals of one direction of the Meter Link (R493): MTL_FD and MTL_FP, or MTL_MD and MTL_MP. -/
structure Line where
  data : Bool := false
  phase : Bool := false
  deriving DecidableEq, Repr

/-- A request frame (Table 14.3): TYPE, payload words, and what it is for. -/
structure MtlReq where
  type : Nat
  data : List Word
  why : MtlFor
  deriving DecidableEq, Repr

/-- METER_LOG_READ in progress. -/
structure MtlLog where
  mbx : Nat
  next : Nat
  left : Nat
  recs : List Word := []
  deriving DecidableEq, Repr

/-- The fabric side of the Meter Link (R496–R499) and the MTR_ registers (Table 14.11). -/
structure Mtl where
  link : Nat := 0
  lost : Bool := false
  seq : Nat := 0
  out : Option MtlReq := none
  /-- MTL_FD and MTL_FP (R493). -/
  line : Line := {}
  sentAt : Nat := 0
  tries : Nat := 0
  queue : List MtlReq := []
  lastMark : Nat := 0
  lastSync : Nat := 0
  crcErrors : Nat := 0
  resends : Nat := 0
  frames : Nat := 0
  era : Nat := 0
  eventCount : Nat := 0
  latest : Nat := 0
  flags : Nat := 0
  paramSet : Nat := 0
  signPending : Nat := 0
  winCal : Nat := 0
  energy : Nat := 0
  pAvg : Nat := 0
  pMax : Nat := 0
  vAvg : Nat := 0
  iAvg : Nat := 0
  cal : Nat := 0
  calBell : Nat := 0
  winBell : Nat := 0
  nextRec : Option Nat := none
  lastMarkCmd : Option Nat := none
  logs : List MtlLog := []
  wasUp : Bool := false
  deriving DecidableEq, Repr

/-! ## Trace and wait-for graphs (chapter 15) -/

/-- Trigger condition of an armed trace (Table 15.9) and whether it has been met. -/
structure TraceArm where
  cores : Nat
  kind : Nat
  value : Word
  post : Nat
  met : Bool := false
  deriving DecidableEq, Repr

/-- Trace of one core (Tables 15.11 and 15.12): state, window size, the ring (newest record first) and the window
(newest first), each record two words; records lost and not yet told, and when the last SYNC was written (R520, R521). -/
structure CoreTrace where
  state : Nat := 0
  cross : Bool := false
  post : Nat := 0
  kind : Nat := 0
  value : Word := 0
  ring : List (Word × Word) := []
  ringCount : Nat := 0
  win : List (Word × Word) := []
  winCount : Nat := 0
  lostBefore : Nat := 0
  lostAfter : Nat := 0
  lostNow : Nat := 0
  needSync : Bool := false
  sinceSync : Nat := 0
  syncTick : Nat := 0
  deriving DecidableEq, Repr

/-- A TRACE_READ in progress: answers awaited, RESULT0. -/
structure TraceRead where
  mbx : Nat
  pend : Nat
  result : Word
  deriving DecidableEq, Repr

/-- A WAITFOR_DUMP whose writes are not all acknowledged. -/
structure DumpOp where
  mbx : Nat
  pend : Nat
  bytes : Nat
  deriving DecidableEq, Repr

/-- Trace unit (chapter 15). -/
structure Trace where
  arms : List TraceArm := []
  cores : Map CoreTrace := []
  origin : Nat := 0
  trigTick : Nat := 0
  reads : List TraceRead := []
  dumps : List DumpOp := []
  /-- Command IDs whose MARK a core writes in the next tick (R519). -/
  marks : List Word := []
  /-- COUNTER_SNAPs that wait for the start of the next ref tick: mailbox and payload (R515). -/
  snaps : List (Nat × Word) := []
  deriving DecidableEq, Repr

/-- Partition counters (Table 15.3). -/
structure PartCnt where
  teBusy : Nat := 0
  reBusy : Nat := 0
  csBusy : Nat := 0
  tlbHit : Nat := 0
  tlbMiss : Nat := 0
  walkDem : Nat := 0
  walkPf : Nat := 0
  pfault : Nat := 0
  smUe : Nat := 0
  smCe : Nat := 0
  deriving DecidableEq, Repr

/-! ## Partitions and the fabric die -/

/-- A key slot (R467): KIND, current generation and key, retiring generation, DOMAIN, pages sealed. -/
structure KeySlot where
  loaded : Bool := false
  weight : Bool := false
  gen : Nat := 0
  key : List Word := []
  retiring : Option (Nat × List Word) := none
  secret : List Word := []
  sealedPages : Nat := 0
  deriving DecidableEq, Repr

/-- One partition (chapters 03 to 07): its status, registers, context slots, translation unit,
engines, lists and counters. -/
structure Part where
  disabled : Bool := false
  draining : Bool := false
  claimed : Bool := false
  quietUntil : Nat := 0
  timeoutDef : Nat := 156250
  lateDiscard : Nat := 0
  snapAddr : Nat := 0
  ctxs : Map Ctx := []
  tlb : List TlbEntry := []
  walkCache : List WalkEntry := []
  walks : List Walk := []
  nextWalk : Nat := 0
  runs : List Run := []
  nextRun : Nat := 0
  lists : List WList := []
  nextList : Nat := 0
  issued : List Issued := []
  entries : Map CounterEntry := []
  ranges : List RangeOp := []
  keys : Map KeySlot := []
  /-- The nonce generator, once the Proctor has seeded it (R450, R473). -/
  nonces : Option Drbg := none
  stalled : List Nat := []
  groups : Map Group := []
  colls : List Coll := []
  collsDone : List CollDone := []
  nextColl : Nat := 0
  journals : Map Journal := []
  emaps : List Emap := []
  reds : List RedOp := []
  tables : List TableRead := []
  csStalled : Bool := false
  csProgress : Nat := 0
  resetStall : List Nat := []
  eResets : List EReset := []
  eResetAt : Map Nat := []
  reset : Option PReset := none
  ladderResets : List Nat := []
  pResets : Nat := 0
  cnt : PartCnt := {}
  deriving DecidableEq, Repr

/-- Progress windows (Table 12.17). -/
structure Windows where
  eng : Nat := 312500
  par : Nat := 1562500
  port : Nat := 156250
  deriving DecidableEq, Repr

/-- The Phiux fabric die. -/
structure Fabric where
  /-- Ref ticks since the fabric die started to count (R11). -/
  tick : Nat := 0
  bell : Nat := 0
  bells : BellState := {}
  hdp : Hdp := {}
  mbxs : Map Mailbox := []
  rings : Map Ring := []
  accepts : Nat := 0
  waiting : List Nat := []
  ready : Bool := false
  abi : Nat := 0
  major : Nat := 0
  minor : Nat := 0
  p28 : Bool := false
  orders : List Order := []
  nextOrder : Nat := 0
  violations : Nat := 0
  conf : Bool := false
  aon : Aon := {}
  trc : Trace := {}
  pins : Pins := {}
  parts : Map Part := []
  win : Windows := {}
  drains : List Drain := []
  rtr : Router := {}
  flow : Flow := {}
  ports : Map Port := []
  lanes : Map Lane := []
  scanOps : List ScanOp := []
  portCtls : List PortCtl := []
  /-- Fixed-rate mode (R342, R406). -/
  fixedRate : Bool := false
  /-- SOURCE of LN_QMAP (Table 10.12). -/
  qmapSource : Nat := 0
  clk : Clk := {}
  pwr : Pwr := {}
  flash : Flash := {}
  roll : Roll := {}
  ladder : Ladder := {}
  prc : Prc := {}
  mtl : Mtl := {}
  /-- Uncorrectable and corrected errors of CNT_SRAM 0–5 (Table 15.2). -/
  sram : Map (Nat × Nat) := []
  /-- CNT_MC_BUSY of each core. -/
  mcBusy : Map Nat := []
  /-- Wraps of each wrapping counter, by register offset (Table 15.4). -/
  wraps : Map Nat := []
  /-- The model's own counter of free values drawn so far (log entry 3). -/
  free : Nat := 0
  deriving DecidableEq, Repr

/-- No meaning of the model ends in a fault: the device answers every command (R87, Table 2.15),
and the few it does not finish it leaves waiting. -/
inductive Fault where
  /-- Raised by no meaning; it stands so that the type of faults is a closed inductive. Safe. -/
  | none_
  deriving DecidableEq, Repr

/-- Why a command has no meaning. -/
inductive Refusal where
  /-- Raised by an arm of `exec` whose meaning is not written yet, under the row's mnemonic. Safe. -/
  | notModelled (mnemonic : String)
  deriving DecidableEq, Repr

/-! ## The meter die (chapter 14) -/

/-- An audit record (Table 14.6): its words 0–7 and its signature (no words while it is pending). -/
structure Record where
  words : List Word
  sig : List Word := []
  deriving DecidableEq, Repr

/-- The Ballimer meter die: calendar, energy, window, parameters, seal, supply, audit log, and the replay caches of its
two message ports. Energy residue is in units of 2^-78 J ÷ 5; `latched` holds the seal changes of a time on backup (R538),
`overflow` the records that wait for room beyond 8 unsigned ones. At reset the first era has just begun (R492). -/
structure Meter where
  cal : Nat := 0
  calValid : Bool := false
  era : Nat := 1
  eraExhausted : Bool := false
  energy : Nat := 0
  residue : Nat := 0
  params : List (List Word) := []
  inForce : Nat := 0
  eventCount : Nat := 0
  sealOpen : Bool := false
  latched : List (Bool × Nat) := []
  overflow : List (List Word) := []
  backup : Bool := false
  backupSince : Nat := 0
  backupLow : Bool := false
  sumV : Int := 0
  sumI : Int := 0
  sumP : Int := 0
  maxP : Int := 0
  samples : Nat := 0
  overNow : Bool := false
  lastOver : Bool := false
  winCal : Nat := 0
  winEnergy : Nat := 0
  vAvg : Nat := 0
  iAvg : Nat := 0
  pAvg : Nat := 0
  pMax : Nat := 0
  recs : Map Record := [(0, { words := [0x60100000000, 0, 0, 0, 1, 0, 0, 0] })]
  rseq : Nat := 1
  waiting : List Nat := [0]
  marks : List (Nat × Nat × Nat × Nat) := []
  kept : Option (Nat × List Word) := none
  keptCal : Option (Nat × List Word) := none
  answer : List Word := []
  /-- MTL_MD and MTL_MP (R493). -/
  line : Line := {}
  calAnswer : List Word := []
  /-- The calibration port's two outgoing signals, coded as those of the Meter Link (Table 14.8). -/
  calLine : Line := {}
  tickFrame : List Word := []
  newTime : Option Nat := none
  /-- The model's own counter of free values drawn on the meter die (log entry 3). -/
  free : Nat := 0
  deriving DecidableEq, Repr

/-- The device: the commands that wait, first in first out, and its two dies (R1). -/
structure State where
  pending : List Instr := []
  fab : Fabric := {}
  meter : Meter := {}
  deriving DecidableEq, Repr

/-- The device right after reset. -/
def State.reset : State := {}

end Sys2Proof.Machine
end

