-- ==== Sys2Proof/Machine/Ops.lean ====
section
/-!
DEFINITION. The named operations that every family shares: reading and updating parts of the
fabric die, HDP transactions (R50–R63), notices (R83–R85), the AON log (R425), alerts (R551), and
the mailbox protocol (R70–R76): issue, acceptance, replay, completion, the silent answer (R87), and
holding an arbitrated order for its message time (R89).
-/
namespace Sys2Proof.Machine

/-! ### Readers and updates -/

/-- Enabled partitions of the grade (Table 0.1, R3). -/
def Fabric.partCount (f : Fabric) : Nat := if f.p28 then 28 else 32

def Fabric.mbx (f : Fabric) (m : Nat) : Mailbox := f.mbxs.get m {}
def Fabric.setMbx (f : Fabric) (m : Nat) (b : Mailbox) : Fabric := { f with mbxs := f.mbxs.set m b }
def Fabric.ring (f : Fabric) (r : Nat) : Ring := f.rings.get r {}
def Fabric.setRing (f : Fabric) (r : Nat) (x : Ring) : Fabric := { f with rings := f.rings.set r x }
def Fabric.part (f : Fabric) (p : Nat) : Part := f.parts.get p {}
def Fabric.setPart (f : Fabric) (p : Nat) (x : Part) : Fabric := { f with parts := f.parts.set p x }
def Fabric.updPart (f : Fabric) (p : Nat) (g : Part → Part) : Fabric := f.setPart p (g (f.part p))
/-- Change a partition's counters (Table 15.3). -/
def Fabric.count (f : Fabric) (p : Nat) (g : PartCnt → PartCnt) : Fabric :=
  f.updPart p fun x => { x with cnt := g x.cnt }
def Part.ctx (x : Part) (s : Nat) : Ctx := x.ctxs.get s {}
def Part.setCtx (x : Part) (s : Nat) (c : Ctx) : Part := { x with ctxs := x.ctxs.set s c }
def Part.updCtx (x : Part) (s : Nat) (g : Ctx → Ctx) : Part := x.setCtx s (g (x.ctx s))

/-- PARTITION of a Context Tag (Table 3.1). -/
def tagPart (t : Nat) : Nat := t / 2048 % 32
/-- SLOT of a Context Tag. -/
def tagSlot (t : Nat) : Nat := t / 32 % 64
/-- GEN of a Context Tag. -/
def tagGen (t : Nat) : Nat := t % 32
/-- The Context Tag of a partition, slot and generation. -/
def mkTag (p s g : Nat) : Nat := p * 2048 + s * 32 + g

/-- The context slot that a tag names. -/
def Fabric.ctx (f : Fabric) (t : Nat) : Ctx := (f.part (tagPart t)).ctx (tagSlot t)

/-- Change the context slot that a tag names. -/
def Fabric.updCtx (f : Fabric) (t : Nat) (g : Ctx → Ctx) : Fabric :=
  f.updPart (tagPart t) fun x => x.updCtx (tagSlot t) g

/-- SWITCHED_OUT ticks of a context up to now (R117). -/
def Ctx.outNow (c : Ctx) (tick : Nat) : Nat :=
  c.outTicks + if c.state == .switchedOut then tick - c.outSince else 0

/-- A context is live when it is LIVE or SWITCHED_OUT under the tag's own generation. -/
def Fabric.tagLive (f : Fabric) (t : Nat) : Bool :=
  let c := f.ctx t
  tagGen t != 0 && c.gen == tagGen t && (c.state == .live || c.state == .switchedOut)

/-- A partition whose claim bit is set, while the device is in confidential mode (R67). -/
def Fabric.confPart (f : Fabric) (p : Nat) : Bool := f.conf && (f.part p).claimed

/-- Count one violation (R87, CNT_VIOL, saturating). -/
def Fabric.violate (f : Fabric) : Fabric :=
  { f with violations := min (f.violations + 1) (2 ^ 64 - 1) }

/-! ### Sideband alerts -/

/-- Latch an ALERTS bit (R551). -/
def Fabric.alert (f : Fabric) (i : Nat) : Fabric :=
  let m := 2 ^ i
  let put (x : Nat) := if x / m % 2 == 1 then x else x + m
  { f with pins := { f.pins with alerts := put f.pins.alerts, fresh := put f.pins.fresh } }

/-- A cause of FCAUSE begins to hold: FAULT_N is asserted while any cause holds (R552). -/
def Fabric.faultOn (f : Fabric) (cause : Nat) : Fabric :=
  let f' := if f.pins.faults.isEmpty then f.alert 0 else f
  if f.pins.faults.contains cause then f'
  else { f' with pins := { f'.pins with faults := f'.pins.faults ++ [cause] } }

/-- A cause of FCAUSE ends. -/
def Fabric.faultOff (f : Fabric) (cause : Nat) : Fabric :=
  { f with pins := { f.pins with faults := f.pins.faults.filter (· != cause) } }

/-! ### HDP transactions -/

/-- A tag that no outstanding transaction holds (Table 2.2), counting up from the next one. -/
def pickTag : Nat → Nat → List HdpTx → Nat
  | 0, t, _ => t
  | k + 1, t, out =>
    if out.any (fun x => x.tag == t % 4096) then pickTag k (t + 1) out else t % 4096

/-- Credits left for a class of transaction (R58). -/
def Hdp.credit (h : Hdp) : HdpKind → Nat
  | .memRd => h.crdRd | .memWr => h.crdWr | .atomic => h.crdAt

/-- Change the credits of a class. -/
def Hdp.setCredit (h : Hdp) (k : HdpKind) (n : Nat) : Hdp :=
  match k with
  | .memRd => { h with crdRd := n }
  | .memWr => { h with crdWr := n }
  | .atomic => { h with crdAt := n }

/-- TYPE of Table 2.3 for a transaction that the device sends. -/
def HdpKind.code : HdpKind → Nat
  | .memRd => 0 | .memWr => 1 | .atomic => 2

/-- What the host die sends (Table 2.3). -/
inductive HostType where
  | rdData | wrAck | atomicRsp | regRd | regWr
  deriving DecidableEq, Repr

/-- TYPE of a transaction that arrives from the host die; a receiver discards every other TYPE (Table 2.3). -/
def hostType : Nat → Option HostType
  | 3 => some .rdData
  | 4 => some .wrAck
  | 5 => some .atomicRsp
  | 8 => some .regRd
  | 9 => some .regWr
  | _ => none

/-- The 16 B transaction header (Table 2.2), low word first. SRC, POISON and CONF_NACK are zero in what the device
sends. -/
def HdpTx.header (t : HdpTx) : List Word :=
  [ pack [(47, 0, t.addr)],
    pack [(63, 60, t.kind.code), (53, 42, t.tag), (41, 34, t.atop), (33, 33, b2n t.conf), (31, 31, b2n t.notice),
          (5, 0, t.units - 1)] ]

/-- The beats of a transaction: its header, alone in a header beat (log entry 146), then its data beats (Table 2.3). -/
def HdpTx.beats (t : HdpTx) : List Beat :=
  let n := match t.kind with | .memRd => 0 | .memWr => t.units | .atomic => 1
  { header := true, data := takePad 8 t.header } ::
    (List.range n).map fun i => { header := false, data := takePad 8 (t.data.drop (8 * i)) }

/-- CRC-7 of a beat (R50): polynomial x^7 + x^3 + 1 over the 512 data bits and the header flag; the order of the bits and
the start value 0 are log entry 146. -/
def Beat.crc (b : Beat) : Nat := crcBits 7 9 0 ((takePad 8 b.data).flatMap wordBits ++ [b.header])

/-- Slices that are not retired, lowest first. -/
def Hdp.active (h : Hdp) : List Nat := (List.range 64).filter fun i => !h.retired.get i false

/-- Put beats on a slice: its replay buffer keeps the last 64 (R50). -/
def Hdp.put (h : Hdp) (slice : Nat) (bs : List Beat) : Hdp :=
  let all := h.buf.get slice [] ++ bs
  { h with buf := h.buf.set slice (all.drop (all.length - 64)) }

/-- Put the beats of one transaction on an active slice (R57). -/
def Hdp.place (h : Hdp) (bs : List Beat) : Hdp :=
  let a := h.active
  { h.put (a.getD (Config.hdpSlice h.placed % max 1 a.length) 0) bs with placed := h.placed + 1 }

/-- A slice retires in service (R52): every beat of its replay buffer is sent again on other active slices. -/
def Hdp.retire (h : Hdp) (slice : Nat) : Hdp :=
  let left := h.buf.get slice []
  let h := { h with retired := h.retired.set slice true, buf := h.buf.del slice, again := [] }
  left.foldl (fun g b =>
    let a := Sys2Proof.Machine.Hdp.active g
    let s := a.getD (Config.hdpSlice g.placed % max 1 a.length) 0
    { g.put s [b] with placed := g.placed + 1, again := g.again ++ [(s, b)] }) h

/-- After a REFCLK fault each side resends what was not acknowledged before it (Table 11.2, step 2). -/
def Hdp.resendAll (h : Hdp) : Hdp := { h with again := h.buf.flatMap fun e => e.2.map fun b => (e.1, b) }

/-- The failed data wires of a slice in one direction, ascending, each once. -/
def failedWires (failed : List (Nat × List Nat)) (slice : Nat) : List Nat :=
  (List.range 64).filter fun w => failed.any fun e => e.1 == slice && e.2.contains w

/-- The four spare fields of a direction (Table 2.11): failed wires take the spares in ascending order (log entry 151). -/
def spareFields (ws : List Nat) : Nat :=
  ((List.range 4).map fun i => match ws[i]? with | some w => (64 + w) * 2 ^ (7 * i) | none => 0).sum

/-- The outcome of training for one slice (R51): retired with more than 4 failed wires in a direction, else its repair word. -/
def trainSlice (outFailed inFailed : List (Nat × List Nat)) (slice : Nat) : Bool × Nat :=
  let o := failedWires outFailed slice
  let i := failedWires inFailed slice
  if 4 < o.length || 4 < i.length then (true, 0) else (false, spareFields o + spareFields i * 2 ^ 28)

/-- HDP training (R51) from what both dies found: repair words, slices that it retires; the 64 register credits of R58 are
granted. -/
def Hdp.train (h : Hdp) (outFailed inFailed : List (Nat × List Nat)) : Hdp :=
  let out := (List.range 64).map fun s => (s, trainSlice outFailed inFailed s)
  { h with
    retired := out.foldl (fun (m : Map Bool) e => if e.2.1 then m.set e.1 true else m) h.retired
    repair := out.foldl (fun (m : Map Nat) e => if e.2.2 = 0 then m.del e.1 else m.set e.1 e.2.2) h.repair
    trained := true, stopped := false, replays := [], regGrant := 64 }

/-- Send a transaction when its class has credit, or hold it (R58); what leaves is counted (Table 15.2). -/
def Hdp.send (h : Hdp) (t : HdpTx) : Hdp :=
  if h.credit t.kind = 0 then { h with waiting := h.waiting ++ [t] }
  else
    let g := pickTag 600 h.nextTag h.outstanding
    let h' := (h.setCredit t.kind (h.credit t.kind - 1)).place ({ t with tag := g } : HdpTx).beats
    { h' with outstanding := h'.outstanding ++ [{ t with tag := g }], nextTag := (g + 1) % 4096,
              wrBytes := if t.kind == .memWr then h'.wrBytes + 64 * t.units else h'.wrBytes,
              atoms := if t.kind == .atomic then h'.atoms + 1 else h'.atoms }

/-- The oldest waiting transaction of a class, and the others. -/
def takeKind (k : HdpKind) : List HdpTx → Option (HdpTx × List HdpTx)
  | [] => none
  | t :: ts => if t.kind == k then some (t, ts) else
    match takeKind k ts with
    | none => none
    | some (u, us) => some (u, t :: us)

/-- An answer returns a credit; the oldest held transaction of the class then leaves (R58). -/
def Hdp.answered (h : Hdp) (t : HdpTx) : Hdp :=
  let h' := h.setCredit t.kind (h.credit t.kind + 1)
  let h' := { h' with outstanding := h'.outstanding.filter fun x => x.tag != t.tag }
  match takeKind t.kind h'.waiting with
  | none => h'
  | some (u, us) => { h' with waiting := us }.send u

def Fabric.hdpSend (f : Fabric) (t : HdpTx) : Fabric := { f with hdp := f.hdp.send t }

/-- Cut a span of 64 B units into transactions of at most 4 KiB that cross no 4 KiB boundary (R56):
(address, offset in units, units). -/
def pieces : Nat → Nat → Nat → Nat → List (Nat × Nat × Nat)
  | 0, _, _, _ => []
  | fuel + 1, addr, off, units =>
    if units = 0 then []
    else
      let n := min units (64 - addr / 64 % 64)
      (addr, off, n) :: pieces fuel (addr + 64 * n) (off + n) (units - n)

/-- Read a span of units, one MEM_RD for each piece; the purpose names the unit offset. -/
def Fabric.hdpRead (f : Fabric) (addr units : Nat) (why : Nat → Purpose) : Fabric :=
  (pieces (units / 64 + 2) addr 0 units).foldl
    (fun g (a, o, n) => g.hdpSend { kind := .memRd, addr := a, units := n, purpose := why o }) f

/-- Write a span of units (8 words each), one MEM_WR for each piece. -/
def Fabric.hdpWrite (f : Fabric) (addr : Nat) (data : List Word) (why : Nat → Purpose)
    (conf : Bool := false) (notice : Bool := false) : Fabric :=
  (pieces (data.length / 512 + 2) addr 0 (ceilDiv data.length 8)).foldl
    (fun g (a, o, n) => g.hdpSend
      { kind := .memWr, addr := a, units := n, data := takePad (8 * n) (data.drop (8 * o)),
        conf := conf, notice := notice, purpose := why o }) f

/-- How many transactions a span of units takes. -/
def pieceCount (addr units : Nat) : Nat := (pieces (units / 64 + 2) addr 0 units).length

/-! ### Notices -/

/-- Words of a notice entry, Table 2.19. -/
def Notice.words (n : Notice) (phase : Bool) (lostBefore : Nat) : List Word :=
  [ pack [(31, 31, b2n phase), (23, 19, n.part), (18, 16, n.unit), (15, 8, n.unitIdx), (7, 0, n.code),
          (47, 32, n.tag)],
    w64 n.tick, pack [(31, 0, n.nseq), (63, 32, lostBefore)] ] ++ takePad 5 n.pay

/-- Unread entries of a ring (R84). -/
def Ring.unread (r : Ring) : Nat := (r.head + 2 ^ r.log2 - r.tail) % 2 ^ r.log2

/-- A ring has room while it holds fewer than 2^LOG2_ENTRIES − 1 unread entries (R84). -/
def Ring.room (r : Ring) : Bool := r.unread < 2 ^ r.log2 - 1

/-- Write one notice at HEAD and advance; PHASE inverts when INDEX wraps (R83). -/
def Fabric.writeNotice (f : Fabric) (i : Nat) (n : Notice) : Fabric :=
  let r := f.ring i
  let ws := n.words r.phase ((n.nseq + 2 ^ 32 - r.expect) % 2 ^ 32)
  let head := (r.head + 1) % 2 ^ r.log2
  let r' := { r with head := head, phase := if head = 0 then !r.phase else r.phase,
                     expect := (n.nseq + 1) % 2 ^ 32 }
  (f.setRing i r').hdpWrite (r.base + 64 * r.head) ws (fun _ => .notice i) false true

/-- Drop a notice: it counts in LOST, saturating (R84, R85). -/
def Fabric.dropNotice (f : Fabric) (i : Nat) : Fabric :=
  f.setRing i { f.ring i with lost := sat32 ((f.ring i).lost + 1) }

/-- Notice codes that the AON error log keeps: FAULT, HANG, PARTITION_FAILED, LINK_CHANGE and
ROLL_CALL_VERDICT (R425). -/
def logged (code : Nat) : Bool := [1, 3, 4, 5, 7].contains code

/-- Append an entry to the error log, the oldest overwritten first (R425). -/
def Fabric.logAppend (f : Fabric) (ws : List Word) : Fabric :=
  { f with aon := { f.aon with log := f.aon.log.set f.aon.logNext ws,
                               logNext := (f.aon.logNext + 1) % 65536,
                               logCount := min (f.aon.logCount + 1) 65536 } }

/-- The ALERTS bit of a notice that falls due (Table 16.11). -/
def noticeAlert (ring code : Nat) : Option Nat :=
  match code with
  | 6 => some 2
  | 5 => some 3
  | 7 => some 4
  | 3 => if ring = 32 then some 5 else none
  | 4 => if ring = 32 then some 5 else none
  | 0xA => some 6
  | 9 => some 7
  | _ => none

/-- CODE_MASK delivers a code: FAULT always, code c while bit c − 2 is set (Table 2.12). -/
def Ring.delivers (r : Ring) (code : Nat) : Bool :=
  code == 1 || r.mask / 2 ^ (code - 2) % 2 == 1

/-- The trace unit sees a notice fall due: armed conditions of kind 2 on its code are met (R523). -/
def Trace.sawNotice (t : Trace) (code : Nat) : Trace :=
  { t with arms := updWhere t.arms (fun a => a.kind == 2 && fld a.value 7 0 == code) fun a => { a with met := true } }

/-- The trace unit sees a command accepted: armed conditions of kind 3 on its opcode are met, and where a core is traced,
firmware writes a MARK of the command ID, which meets conditions of kind 4 on it (R519, R523). -/
def Trace.sawOpcode (t : Trace) (op : Nat) (id : Word) : Trace :=
  let met (a : TraceArm) : Bool := (a.kind == 3 && fld a.value 15 0 == op) || (a.kind == 4 && a.value == id)
  { t with arms := updWhere t.arms met fun a => { a with met := true },
           marks := if t.cores.any fun e => 1 ≤ e.2.state && e.2.state ≤ 4 then t.marks ++ [id] else t.marks }

/-- A notice falls due on ring i: it takes an NSEQ, is logged and raises its alert, and is then
written, held for room, or dropped (R83–R85, R425, R551). -/
def Fabric.notify (f : Fabric) (i : Nat) (n : Notice) : Fabric :=
  let r := f.ring i
  let n := { n with tick := f.tick, nseq := r.nseq }
  let f := if logged n.code then
      f.logAppend (n.words r.phase ((n.nseq + 2 ^ 32 - r.expect) % 2 ^ 32)) else f
  let f := match noticeAlert i n.code with
    | some b => f.alert b
    | none => f
  let f := f.setRing i { r with nseq := (r.nseq + 1) % 2 ^ 32, recent := (n :: r.recent).take 1024 }
  let f := { f with trc := f.trc.sawNotice n.code }
  let f := if n.code = 2 then f.count n.part fun c => { c with pfault := c.pfault + 1 } else f
  if !r.enable || !r.delivers n.code then f.dropNotice i
  else if r.held.isEmpty && r.room then f.writeNotice i n
  else if r.held.length < 64 then f.setRing i { f.ring i with held := r.held ++ [n] }
  else f.dropNotice i

/-- A FAULT notice of Table 2.21. -/
def faultNotice (part unit idx tag cls : Nat) (addr detail cmdId : Word) : Notice :=
  { part := part, unit := unit, unitIdx := idx, code := 1, tag := tag,
    pay := [w64 cls, addr, detail, cmdId, 0] }

/-! ### Mailboxes -/

/-- The command ID: the word at offset 0x18 (Table 2.13). -/
def Env.cmdId (e : Env) : Word := pack [(63, 56, e.mbx), (55, 32, e.accept), (31, 0, e.seqEcho)]

/-- The eight words of an envelope. -/
def Env.words (e : Env) : List Word :=
  [ pack [(63, 32, e.seq), (16, 16, b2n e.doneWb), (15, 0, e.opcode)],
    pack [(47, 32, e.respLen), (31, 16, e.payLen), (15, 0, e.tag)],
    pack [(47, 0, e.doneAddr)],
    e.cmdId, w64 e.issueTick, w64 e.doneTick, e.result0,
    pack [(63, 63, b2n e.own), (7, 0, e.status)] ]

/-- The envelope that eight words spell. -/
def Env.ofWords (ws : List Word) : Env :=
  { seq := fld (wd ws 0) 63 32, doneWb := bit (wd ws 0) 16, opcode := fld (wd ws 0) 15 0,
    respLen := fld (wd ws 1) 47 32, payLen := fld (wd ws 1) 31 16, tag := fld (wd ws 1) 15 0,
    doneAddr := fld (wd ws 2) 47 0, mbx := fld (wd ws 3) 63 56, accept := fld (wd ws 3) 55 32,
    seqEcho := fld (wd ws 3) 31 0, issueTick := wn ws 4, doneTick := wn ws 5, result0 := wd ws 6,
    own := bit (wd ws 7) 63, status := fld (wd ws 7) 7 0 }

/-- STATUS codes of Table 2.15. -/
def stLost : Nat := 0
def stOk : Nat := 1
def stBusy : Nat := 2
def stFaulted : Nat := 3
def stTimeout : Nat := 4
def stSuperseded : Nat := 5
def stDraining : Nat := 6

/-- Completion, steps 5 and 6 of Table 2.14: the response, DONE_TICK and STATUS are written, OWN is
cleared, the record of R74 is kept unless STATUS is STATE_LOST, DONE_WB copies the envelope to DONE_ADDR
with its low six bits taken as zero (log entry 147), and the rack manager hears of its own commands (Table 16.11). -/
def Fabric.complete (f : Fabric) (m status : Nat) (r0 : Word) (resp : List Word) (len : Nat) : Fabric :=
  let b := f.mbx m
  let env := { b.env with respLen := len, doneTick := f.tick, result0 := r0, own := false, status := status }
  let ws := takePad (ceilDiv len 8) resp
  let b' := { b with env := env, pay := ws ++ b.pay.drop ws.length, accepted := false, last := (env.seq, status),
                     record := if status = stLost then b.record else some { env := env, resp := ws } }
  let f := f.setMbx m b'
  let f := if env.doneWb then f.hdpWrite (down env.doneAddr 64) env.words (fun _ => .doneWb) else f
  if m = 33 then f.alert 1 else f

/-- What a command does at acceptance: it completes with STATUS, RESULT0 and a response of `len`
bytes, or its completion waits on later events (R556). -/
inductive Reply where
  | done (status : Nat) (r0 : Word := 0) (resp : List Word := []) (len : Nat := 0)
  | wait

/-- A command's own effect at acceptance. -/
abbrev Body := Cmd → Fabric → Fabric × Reply

/-- FAULTED with no effect. -/
def faulted (f : Fabric) : Fabric × Reply := (f, .done stFaulted)

/-- The silent answer to a violation: OK, zero data, RESP_LEN as for a real completion (R87). -/
def denied (len : Nat) (f : Fabric) : Fabric × Reply := (f.violate, .done stOk 0 (zeros (ceilDiv len 8)) len)

/-- OK with RESULT0 only. -/
def okay (f : Fabric) (r0 : Nat := 0) : Fabric × Reply := (f, .done stOk (w64 r0))

/-- Steps 2 to 5 of Table 2.14 for a command whose OWN is set and READY is 1: acceptance writes MBX,
ACCEPT, SEQ_ECHO and ISSUE_TICK; a SEQ equal to the recorded one replays the record (R74); otherwise
the command's body runs. -/
def Fabric.accept (f : Fabric) (c : Cmd) (op : Nat) (body : Body) : Fabric :=
  let b := f.mbx c.mbx
  let env := { b.env with mbx := c.mbx, accept := (f.accepts + 1) % 2 ^ 24, seqEcho := b.env.seq,
                          issueTick := f.tick }
  let f := { (f.setMbx c.mbx { b with env := env, accepted := true }) with
    accepts := f.accepts + 1, trc := f.trc.sawOpcode op env.cmdId }
  let replay := match b.record with
    | some r => if r.env.seq = b.env.seq then some r else none
    | none => none
  match replay with
  | some r => f.complete c.mbx r.env.status r.env.result0 r.resp r.env.respLen
  | none =>
    match body c f with
    | (g, .done st r0 resp len) => g.complete c.mbx st r0 resp len
    | (g, .wait) => g

/-- Mailboxes of the device (R68, R70); 36 stands for the orders that the Proctor issues internally. -/
def Fabric.mbxExists (f : Fabric) (m : Nat) : Bool := (m < f.partCount && !(f.part m).disabled) || m == 32 || m == 33 || m == 36

/-- A source may write a mailbox (Table 2.6, R67, R78). -/
def Fabric.mbxAccess (f : Fabric) (src m : Nat) : Bool :=
  if m < 32 then src == m || (src == 32 && !f.confPart m)
  else if m == 32 then src == 32
  else src == m

/-- Issue a command: the payload and the envelope with OWN = 1 are written in one order at the
mailbox. A source without access is a violation and is ignored (R66); a mailbox that is not one of
the device is reserved (R68); while OWN is 1 the write is ignored (R72); while READY is 0 the command
waits (R71). -/
def Fabric.issue (f : Fabric) (c : Cmd) (op : Nat) (body : Body) : Fabric :=
  if !f.mbxExists c.mbx then f
  else if !f.mbxAccess c.src c.mbx then f.violate
  else
    let b := f.mbx c.mbx
    if b.env.own then f
    else
      let env : Env := { seq := c.seq % 2 ^ 32, doneWb := c.doneWb, opcode := op, payLen := c.len,
                         tag := c.tag, doneAddr := c.doneAddr, own := true }
      let f := f.setMbx c.mbx { b with env := env, pay := c.pay ++ b.pay.drop c.pay.length, src := c.src,
                                       accepted := false }
      if f.ready && !f.ladder.restarting then f.accept c op body
      else { f with waiting := f.waiting ++ [c.mbx] }

/-- The command that a mailbox holds, as its issuer gave it. -/
def Fabric.cmdOf (f : Fabric) (m : Nat) : Cmd :=
  let b := f.mbx m
  { src := b.src, mbx := m, seq := b.env.seq, tag := b.env.tag, len := b.env.payLen, pay := b.pay,
    doneWb := b.env.doneWb, doneAddr := b.env.doneAddr }

/-! ### Arbitrated orders -/

/-- Rank of a source (Table 2.23). -/
def rankOf (src : Nat) : Nat :=
  if src == 36 then 1 else if src == 34 || src == 35 then 2 else if src == 33 then 3
  else if src == 32 then 4 else 5

/-- Hold an arbitrated command for its message time (R89): the command waits. -/
def holdOrder (c : Cmd) (op : Nat) (sets : List (Obj × Nat)) (f : Fabric) : Fabric × Reply :=
  let o : Order := { id := f.nextOrder, mbx := c.mbx, rank := rankOf c.src, tick := f.tick, src := c.src,
                     opcode := op, tag := c.tag, pay := c.pay, len := c.len, sets := sets }
  ({ f with orders := f.orders ++ [o], nextOrder := f.nextOrder + 1 }, .wait)

/-- Complete the command of a mailbox only while it is in progress. -/
def Fabric.finish (f : Fabric) (m status : Nat) (r0 : Nat := 0) (resp : List Word := []) (len : Nat := 0) : Fabric :=
  if (f.mbx m).env.own && (f.mbx m).accepted then f.complete m status (w64 r0) resp len else f

/-- Draw a free value: the counter in the state selects a fresh one (log entry 3). -/
def Fabric.draw (f : Fabric) : Fabric × Word := ({ f with free := f.free + 1 }, Config.freeValue f.free)

/-! ### Random bits (R450) -/

/-- A request of a DRBG that has a seed and has served fewer than 2²⁰ requests: its answer and the instance after it. -/
def Drbg.next (d : Drbg) (personal : List Word) : Drbg × List Word := ({ d with reqs := d.reqs + 1 }, Config.ctrDrbg d.seed personal d.reqs)

/-- A DRBG must be seeded before its next request: it has no seed, or has served 2²⁰ requests. -/
def Drbg.due : Option Drbg → Bool
  | some d => 2 ^ 20 ≤ d.reqs
  | none => true

/-- A request of the Proctor's DRBG (R450): instantiated and reseeded from the noise source, with the digest of the identity key
as personalisation string. -/
def Fabric.randomBits (f : Fabric) : Fabric × List Word :=
  let (f, d) : Fabric × Drbg := match f.prc.drbg with
    | some d => if Drbg.due f.prc.drbg then (let (f, v) := f.draw; (f, { seed := [v] })) else (f, d)
    | none => let (f, v) := f.draw; (f, { seed := [v] })
  let (d, ws) := d.next (Config.fuseWords 2)
  ({ f with prc := { f.prc with drbg := some d } }, ws)

/-- The Proctor seeds the nonce generator of a partition (R450). -/
def Fabric.seedNonces (f : Fabric) (p : Nat) : Fabric :=
  let (f, ws) := f.randomBits
  f.updPart p fun x => { x with nonces := some { seed := ws } }

/-- A nonce of a partition's generator (R473), seeded anew every 2²⁰ requests: 12 B in two words. -/
def Fabric.nonce (f : Fabric) (p : Nat) : Fabric × List Word :=
  let f := if Drbg.due (f.part p).nonces then f.seedNonces p else f
  match (f.part p).nonces with
  | some d =>
    let (d, ws) := d.next []
    (f.updPart p fun x => { x with nonces := some d }, [wd ws 0, w64 (fld (wd ws 1) 31 0)])
  | none => (f, [0, 0])

end Sys2Proof.Machine
end

