-- ==== Sys2Proof/Machine/Messages.lean ====
section
/-!
DEFINITION. Message headers, MASK and data as payload words, and the flits that carry them
(R265–R269, Tables 8.2 and 8.4).
-/
namespace Sys2Proof

/-- Virtual channel of a flit (Table 8.3). -/
def Flit.vc (x : Flit) : Nat := if x.esc then 3 else if x.cls ≤ 1 then x.cls else 2

/-- Credit class of a flit (R306): VC0, VC1, VC2, VC3 with AUX 0, VC3 with AUX 1. -/
def Flit.creditClass (x : Flit) : Nat := if x.esc then (if x.aux then 4 else 3) else if x.cls ≤ 1 then x.cls else 2

/-- KIND code of a message (Table 8.4). -/
def kindCode : MsgKind → Nat
  | .write => 0x01 | .read => 0x02 | .atomic => 0x03 | .fill => 0x04 | .grantReq => 0x05
  | .wack => 0x11 | .rdata => 0x12 | .aold => 0x13 | .credit => 0x14
  | .raw => 0x21 | .partialSum => 0x22 | .result => 0x23 | .counts => 0x24 | .row => 0x25
  | .abort => 0x26 | .nack => 0x27

/-- The message kind of a code. -/
def kindOf : Nat → Option MsgKind
  | 0x01 => some .write | 0x02 => some .read | 0x03 => some .atomic | 0x04 => some .fill
  | 0x05 => some .grantReq | 0x11 => some .wack | 0x12 => some .rdata | 0x13 => some .aold
  | 0x14 => some .credit | 0x21 => some .raw | 0x22 => some .partialSum | 0x23 => some .result
  | 0x24 => some .counts | 0x25 => some .row | 0x26 => some .abort | 0x27 => some .nack
  | _ => none

/-- Messages that open a request of R167. -/
def MsgKind.request : MsgKind → Bool
  | .write => true | .read => true | .atomic => true | .fill => true | _ => false

/-- Compare-and-swap ATOPs (Table 2.4). -/
def isCas (atop : Nat) : Bool := atop == 0x12 || atop == 0x13

/-- Data words of a CLS 0 or CLS 1 message. The layout of ATOMIC and AOLD data is the model's
(log entry 12): one 64 B unit of operands or old values, and a second one of compare values for CAS. -/
def dataWords (k : MsgKind) (units atop : Nat) : Nat :=
  match k with
  | .write => 8 * units
  | .rdata => 8 * units
  | .fill => 1
  | .atomic => if isCas atop then 16 else 8
  | .aold => 8
  | _ => 0

/-- CHUNK field of CLS 2 and CLS 3 headers (Table 8.4). -/
def Msg.chunkField (m : Msg) : Nat :=
  if m.cls = 3 then (m.tree % 4) * 2 ^ 18 + b2n m.minus * 2 ^ 17 + (m.hops % 32) * 2 ^ 12 else m.chunk % 2 ^ 20

/-- Payload words before the data: header, and MASK for CLS 3. -/
def Msg.dataWordCount (m : Msg) : Nat :=
  if m.cls < 2 then dataWords m.kind m.units m.atop else m.data.length

/-- Flits of a message of so many payload words: 30 words of 8 B each. -/
def flitsFor (words : Nat) : Nat := max 1 (ceilDiv words 30)

/-- Flits of a message. -/
def Msg.nflits (m : Msg) : Nat := flitsFor (2 + (if m.cls = 3 then 2 else 0) + m.dataWordCount)

/-- The 16 B header of Table 8.4: low word, high word. -/
def Msg.header (m : Msg) : List Word :=
  if m.cls = 0 then
    [ pack [(55, 48, if m.kind == .grantReq then m.blocks else 0), (47, 0, m.addr)],
      pack [(63, 56, kindCode m.kind), (55, 50, m.units - 1), (49, 42, m.atop), (41, 30, m.reqId),
            (29, 29, b2n m.conf)] ]
  else if m.cls = 1 then
    [ 0, pack [(63, 56, kindCode m.kind), (55, 50, m.units - 1), (49, 42, m.grant), (41, 30, m.reqId),
               (29, 29, b2n m.echo), (28, 17, m.cred), (16, 16, b2n m.poison)] ]
  else
    let chunk := m.chunkField
    [ pack [(63, 56, chunk % 256), (55, 32, m.offset), (31, 0, m.agree)],
      pack [(63, 56, kindCode m.kind), (55, 32, m.coll), (31, 17, m.member), (16, 12, m.nflits - 1),
            (11, 0, chunk / 256)] ]

/-- All payload words of a message. -/
def Msg.words (m : Msg) : List Word :=
  m.header ++ (if m.cls = 3 then [w64 m.mask, w64 (m.mask / 2 ^ 64)] else []) ++
    (if m.cls < 2 then takePad m.dataWordCount m.data else m.data)

/-- Cut payload words into flits of 30 words; FIDX counts from `i`. -/
def chop : Nat → Flit → Nat → List Word → List Flit
  | 0, _, _, _ => []
  | fuel + 1, t, i, ws =>
    let here := ws.take 30
    { t with seq := t.seq + i, bytes := 8 * here.length, data := takePad 30 here } ::
      (if ws.length ≤ 30 then [] else chop fuel t (i + 1) (ws.drop 30))

/-- The flits of a message; SEQ of CLS 0 and 1 is given when they leave (R266). -/
def Msg.flits (m : Msg) (msgNo : Nat) : List Flit :=
  let t : Flit := { dst := m.dst, src := m.src, tag := m.tag, cls := m.cls, hp := m.hp && m.cls == 0,
                    seq := if m.cls < 2 then 0 else 32 * msgNo }
  let fs := chop (m.nflits + 1) t 0 m.words
  if m.cls < 2 then fs.map fun x => { x with seq := 0 } else fs

/-- Read a message from the flits that carried it, in order. -/
def parseMsg (fs : List Flit) : Option Msg :=
  match fs with
  | [] => none
  | f :: _ =>
    let ws := fs.flatMap (·.data)
    let lo := wd ws 0
    let hi := wd ws 1
    match kindOf (fld hi 63 56) with
    | none => none
    | some k =>
      let base : Msg := { kind := k, dst := f.dst, src := f.src, tag := f.tag, cls := f.cls, hp := f.hp }
      if f.cls = 0 then
        let units := fld hi 55 50 + 1
        let atop := fld hi 49 42
        some { base with units := units, atop := atop, reqId := fld hi 41 30, conf := bit hi 29,
                         blocks := fld lo 55 48, addr := fld lo 47 0,
                         data := takePad (dataWords k units atop) (ws.drop 2) }
      else if f.cls = 1 then
        let units := fld hi 55 50 + 1
        some { base with units := units, grant := fld hi 49 42, reqId := fld hi 41 30, echo := bit hi 29,
                         cred := fld hi 28 17, poison := bit hi 16,
                         data := takePad (dataWords k units 0) (ws.drop 2) }
      else
        let chunk := fld hi 11 0 * 256 + fld lo 63 56
        let masked := f.cls == 3 || f.masked
        some { base with coll := fld hi 55 32, member := fld hi 31 17,
                         chunk := if f.cls = 3 then 0 else chunk,
                         tree := if f.cls = 3 then chunk / 2 ^ 18 else 0,
                         minus := f.cls == 3 && chunk / 2 ^ 17 % 2 == 1,
                         hops := if f.cls = 3 then chunk / 2 ^ 12 % 32 else 0,
                         offset := fld lo 55 32, agree := fld lo 31 0,
                         mask := if masked then wn ws 2 + wn ws 3 * 2 ^ 64 else 0,
                         data := ws.drop (if masked then 4 else 2) }

/-- Flits that a CLS 0 or CLS 1 message takes, from its first flit. -/
def needOf (f : Flit) : Nat :=
  let hi := wd f.data 1
  match kindOf (fld hi 63 56) with
  | some k => flitsFor (2 + dataWords k (fld hi 55 50 + 1) (if f.cls = 0 then fld hi 49 42 else 0))
  | none => 1

/-- Flits of a CLS 2 or CLS 3 message, from its first flit (NFLM1 + 1). -/
def nflOf (f : Flit) : Nat := fld (wd f.data 1) 16 12 + 1

end Sys2Proof
end

