-- ==== Sys2Proof/Machine/Router.lean ====
section
/-!
DEFINITION. The router core (chapter 08): node addresses, the choice of a port (spraying R270–R275,
dimension order R276, escape R277–R278, circuits R295–R297, multicast R292–R294), marking (R315),
the source's window and outbox (R266, R281, R282, R320), and the destination's reorder and assembly of
messages (R280, R283, R284, R316).
-/
namespace Sys2Proof.Machine

/-! ### Node addresses -/

/-- Coordinate of a node on axis 0 (X), 1 (Y) or 2 (Z), Table 8.1. -/
def coord (a n : Nat) : Nat := if a = 0 then n / 1024 % 32 else if a = 1 then n / 32 % 32 else n % 32

/-- A node address from coordinates. -/
def mkNode (x y z : Nat) : Nat := x * 1024 + y * 32 + z

/-- Axis length. -/
def Router.len (r : Router) (a : Nat) : Nat := if a = 0 then r.lx else if a = 1 then r.ly else r.lz

/-- Nodes of the machine, N of R281. -/
def Router.size (r : Router) : Nat := r.lx * r.ly * r.lz

/-- A node address lies inside the machine (R262). -/
def Router.inside (r : Router) (n : Nat) : Bool := coord 0 n < r.lx && coord 1 n < r.ly && coord 2 n < r.lz

/-- Rack index (R263). -/
def rackOf (n : Nat) : Nat := coord 0 n / 4 + 8 * (coord 1 n / 4) + 64 * (coord 2 n / 8)

/-- Rack position (chapter 06, Table 6.1). -/
def rackPos (n : Nat) : Nat := coord 0 n % 4 + 4 * (coord 1 n % 4) + 16 * (coord 2 n % 8)

/-- A rack index that some node inside the machine has. -/
def Router.rackInside (r : Router) (i : Nat) : Bool := 4 * (i % 8) < r.lx && 4 * (i / 8 % 8) < r.ly && 8 * (i / 64) < r.lz

/-- Rack Table entry (UP, MODE is UPLINK); at reset TORUS inside the machine, UPLINK outside (R289). The own
rack's entry always has MODE TORUS (R288). -/
def Router.rackEntry (r : Router) (i : Nat) : Nat × Bool :=
  let e := r.rack.get i (3, !r.rackInside i)
  (e.1, e.2 && i != rackOf r.node)

/-- Fields of a seating entry (Table 8.16). -/
def seatValid (w : Word) : Bool := bit w 63
def seatSelf (w : Word) : Bool := bit w 62
def seatReal (w : Word) : Nat := fld w 29 15
def seatOf (w : Word) : Nat := fld w 14 0

/-- The SELF entry's ALIAS, if one is valid. -/
def Router.selfSeat (r : Router) : Option Nat :=
  match r.seats.vals.find? (fun w => seatValid w && seatSelf w) with
  | some w => some (seatOf w)
  | none => none

/-- The seated node (R264). -/
def Router.seated (r : Router) : Nat := r.selfSeat.getD r.node

/-- The strapped node that answers to a node: REAL of a valid non-SELF entry (R290). -/
def Router.real (r : Router) (n : Nat) : Nat :=
  match r.seats.vals.find? (fun w => seatValid w && !seatSelf w && seatOf w == n) with
  | some w => seatReal w
  | none => n

/-- The neighbour through a torus port: FP0 X+, FP1 X−, FP2 Y+, FP3 Y−, FP4 Z+, FP5 Z−. A spare, outside the
machine, takes the plain coordinate (R537). -/
def Router.neighbour (r : Router) (k : Nat) : Nat :=
  let a := k / 2
  let l := if r.inside r.node then max 1 (r.len a) else 32
  let step (c : Nat) := if k % 2 = 0 then (c + 1) % l else (c + l - 1) % l
  let c (b : Nat) := if b = a then step (coord b r.node) else coord b r.node
  mkNode (c 0) (c 1) (c 2)

/-! ### Ports and queues -/

/-- A port as a device reset leaves it; FEC_REQ of the uplinks is 1 (R353). -/
def Port.fresh (k : Nat) : Port := { fecReq := k ≥ 6 }

def Fabric.port (f : Fabric) (k : Nat) : Port := f.ports.get k (Port.fresh k)
def Fabric.updPort (f : Fabric) (k : Nat) (g : Port → Port) : Fabric :=
  { f with ports := f.ports.set k (g (f.port k)) }

/-- PRT_STATUS.UP (Table 10.5). -/
def LinkState.up : LinkState → Bool
  | .active => true | .nap => true | .wake => true | .retrain => true | _ => false

/-- Usable for routing (Table 10.5). -/
def LinkState.usable : LinkState → Bool
  | .active => true | .nap => true | .wake => true | _ => false

/-- A port drains for a ROUTE_UPDATE (Table 8.6) or for its own state (R373). -/
def Fabric.portDraining (f : Fabric) (k : Nat) : Bool :=
  (f.port k).drainFor.isSome || f.rtr.drains.any fun d => d.ports.contains k

/-- A port is usable when its link is up, it is enabled in PORT_EN and it is not draining (R271). -/
def Fabric.usable (f : Fabric) (k : Nat) : Bool :=
  (f.port k).state.usable && f.rtr.portEn / 2 ^ k % 2 == 1 && !f.portDraining k

/-- Queue depth of a port and VC (R315). -/
def Router.depth (r : Router) (k vc : Nat) : Nat :=
  (r.queue.filter fun q => q.out == some k && q.flit.vc == vc).length

/-- Productive torus ports (R270). -/
def Router.productive (r : Router) (dst : Nat) : List Nat :=
  (List.range 3).flatMap fun a =>
    let l := max 1 (r.len a)
    let c := coord a r.node % l
    let d := coord a dst % l
    let p := (d + l - c) % l
    let q := (c + l - d) % l
    (if 0 < p && p ≤ q then [2 * a] else []) ++ (if 0 < q && q ≤ p then [2 * a + 1] else [])

/-- The uplinks that a rack's entry names. -/
def Router.uplinks (r : Router) (dst : Nat) : List Nat :=
  (bitsOf (r.rackEntry (rackOf dst)).1 2).map (6 + ·)

/-- The destination lies in another rack whose Rack Table entry has MODE UPLINK (R270, R287). -/
def Router.rackUplink (r : Router) (dst : Nat) : Bool := rackOf dst != rackOf r.node && (r.rackEntry (rackOf dst)).2

/-- Productive ports (R270): the torus ports, or the uplinks that the Rack Table entry names. -/
def Router.productivePorts (r : Router) (dst : Nat) : List Nat :=
  if r.rackUplink dst then r.uplinks dst else r.productive dst

/-- Traffic to this destination leaves on the uplinks (R270, R275, R289). -/
def Router.byUplink (r : Router) (dst : Nat) (upOnly : Bool) : Bool :=
  upOnly || (rackOf dst != rackOf r.node && r.selfSeat.isSome) || r.rackUplink dst

/-- The port of least depth among candidates; on a tie the first from the input port's rotating
pointer on, which then moves past it (R271). -/
def Fabric.leastPort (f : Fabric) (vc inPort : Nat) (ks : List Nat) : Option (Nat × Bool) :=
  match minBy (fun k => f.rtr.depth k vc) ks with
  | none => none
  | some k =>
    let ties := ks.filter fun j => f.rtr.depth j vc == f.rtr.depth k vc
    let ptr := f.rtr.pointer.get inPort 0
    match minBy (fun j => (j + 8 - ptr) % 8) ties with
    | none => none
    | some j => some (j, 1 < ties.length)

/-- The circuit entry in whose window a flit travels (R295). -/
def Fabric.circuitOf (f : Fabric) (x : Flit) : Option (Nat × Nat) :=
  if x.esc || x.cls = 3 then none
  else
    match f.rtr.timetable.find? fun e =>
        let w := wd e.2 2
        bit w 3 && fld w 63 48 == x.tag && fld w 46 32 == x.dst &&
          wn e.2 0 ≤ f.bell && f.bell < wn e.2 1 with
    | some e => some (e.1, fld (wd e.2 2) 2 0)
    | none => none

/-- What the router core decides for a unicast flit. -/
inductive Choice where
  | out (port : Nat) (flit : Flit) (circuit : Option Nat) (nm tie : Bool)
  | wait
  | drop
  deriving DecidableEq, Repr

/-- VC3: AUX is 0 on entry and on a turn to a new axis, 1 on crossing the dateline (R278). -/
def Router.dateline (r : Router) (x : Flit) (inPort k : Nat) (entering : Bool) : Flit :=
  if k ≥ 6 then (if entering then { x with aux := false } else x)
  else
    let a := k / 2
    let c := coord a r.node
    let turned := entering || inPort ≥ 6 || inPort / 2 != a
    let crosses := if k % 2 = 0 then c + 1 == r.len a else c == 0
    { x with aux := if crosses then true else if turned then false else x.aux }

/-- Where no productive port is usable: an up uplink unless the flit arrived on one (R273; those that the entry names
first, then any, R288), else wait for a draining port (R300) or discard (R274). -/
def Fabric.fallback (f : Fabric) (q : QFlit) (prod : List Nat) (entering : Bool) : Choice :=
  let x := q.flit
  if q.inPort = 6 || q.inPort = 7 then
    if prod.any f.portDraining then .wait else .drop
  else
    let named := (f.rtr.uplinks x.dst).filter f.usable
    let ups := if named.isEmpty then [6, 7].filter f.usable else named
    match f.leastPort x.vc q.inPort ups with
    | some (k, tie) => .out k (if x.esc then f.rtr.dateline x q.inPort k entering else x) none false tie
    | none => if (prod ++ [6, 7]).any f.portDraining then .wait else .drop

/-- The non-minimal hop of R272: the qualifying torus port of least depth outside the productive ports. -/
def Fabric.detour (f : Fabric) (x : Flit) (prod : List Nat) (chosen : Nat) : Option Nat :=
  let r := f.rtr
  let deep := r.depth chosen x.vc
  if !r.nmEn || x.aux || deep ≤ r.nmThresh then none
  else
    minBy (fun k => r.depth k x.vc) <|
      (List.range 6).filter fun k =>
        !prod.contains k && f.usable k && r.depth k x.vc + r.nmThresh ≤ deep &&
          rackOf (r.neighbour k) == rackOf r.node

/-- The choice for a flit with no usable circuit. -/
def Fabric.chooseFree (f : Fabric) (q : QFlit) (byUp entering : Bool) : Choice :=
  let x := q.flit
  let r := f.rtr
  if byUp then
    let ups := r.uplinks x.dst
    let sprays := !x.esc && !r.dor && r.rackUplink x.dst && r.selfSeat.isNone && !q.upOnly
    match f.leastPort x.vc q.inPort (ups.filter f.usable) with
    | none => f.fallback q [] entering
    | some (k, tie) =>
      match if sprays then f.detour x ups k else none with
      | some j => .out j { x with aux := true } none true tie
      | none => .out k (if x.esc then r.dateline x q.inPort k entering else x) none false tie
  else
    let prod := r.productive x.dst
    if x.esc || r.dor then
      match (prod.filter f.usable).head? with
      | some k => .out k (if x.esc then r.dateline x q.inPort k entering else x) none false false
      | none => f.fallback q prod entering
    else
      match f.leastPort x.vc q.inPort (prod.filter f.usable) with
      | none => f.fallback q prod entering
      | some (k, tie) =>
        match f.detour x prod k with
        | some j => .out j { x with aux := true } none true tie
        | none => .out k x none false tie

/-- The router core's choice for a unicast flit: its circuit, DOR for VC3 or DOR mode, else spraying. -/
def Fabric.choose (f : Fabric) (q : QFlit) (entering : Bool := false) : Choice :=
  let x := q.flit
  let byUp := f.rtr.byUplink x.dst q.upOnly && q.inPort != 6 && q.inPort != 7
  match f.circuitOf x with
  | some (e, k) =>
    if f.usable k then .out k x (some e) false false
    else f.chooseFree q byUp entering
  | none => f.chooseFree q byUp entering

/-- Depths after an assignment feed the high-water mark (Table 9.6). -/
def Fabric.noteDepth (f : Fabric) (k : Nat) : Fabric :=
  let d := (List.range 4).foldl (fun m v => max m (f.rtr.depth k v)) 0
  f.updPort k fun p => { p with hwm := max p.hwm d }

/-- An input slot frees: its credit goes to the flit's class when that class then holds fewer than 32
slots, else to the shared part (R308), and is owed to the peer (R341). -/
def Fabric.freeSlot (f : Fabric) (port cls : Nat) : Fabric :=
  if port ≥ 8 then f
  else
    f.updPort port fun p =>
      let left := p.inUse.get cls 0 - 1
      let dest := if left < 32 then cls else 5
      { p with inUse := p.inUse.set cls left, freed := p.freed.set dest ((p.freed.get dest 0 + 1) % 65536),
               owed := true, owedSince := if p.owed then p.owedSince else f.tick }

/-- A queued flit's group no longer holds its input slot when no branch of it remains queued. -/
def Fabric.leaveQueue (f : Fabric) (q : QFlit) (cls : Nat) : Fabric :=
  if q.inPort < 8 && !(f.rtr.queue.any fun x => x.group == q.group) then f.freeSlot q.inPort cls else f

/-- Credit class under which a flit arrived. CLS 3 flits and flits that set ESC here keep the class of
their input slot. -/
def QFlit.slotClass (q : QFlit) : Nat := if q.inPort < 8 then q.inCls else 0

/-- Put a flit into the router core: assign an output (marking it under R315), leave it waiting, or
discard it (R274). Its input slot is not touched. -/
def Fabric.assign (f : Fabric) (q : QFlit) (entering : Bool := false) : Fabric :=
  match f.choose q entering with
  | .drop => { f with rtr := { f.rtr with unreach := sat32 (f.rtr.unreach + 1) } }
  | .wait => { f with rtr := { f.rtr with queue := f.rtr.queue ++ [{ q with out := none }] } }
  | .out k x circ nm tie =>
    let mark := f.flow.markEn && x.cls ≤ 2 && circ.isNone && !x.mark &&
                f.flow.markThresh ≤ f.rtr.depth k x.vc
    let x := if mark then { x with mark := true } else x
    let r := f.rtr
    let r := { r with queue := r.queue ++ [{ q with flit := x, out := some k, circuit := circ }],
                      nmHops := if nm then sat32 (r.nmHops + 1) else r.nmHops,
                      pointer := if tie then r.pointer.set q.inPort ((k + 1) % 8) else r.pointer }
    let f := { f with rtr := r }
    let f := if mark then f.updPort k fun p => { p with marks := p.marks + 1 } else f
    f.noteDepth k

/-- Put a flit into the router core; a discarded flit gives its input slot back. -/
def Fabric.place (f : Fabric) (q : QFlit) (entering : Bool := false) : Fabric :=
  (f.assign q entering).leaveQueue q q.slotClass

/-- The flit at the head of an input queue: its order. -/
def Router.headOf (r : Router) (inPort vc : Nat) : Option Nat :=
  (minBy (fun (q : QFlit) => q.order) (r.queue.filter fun q => q.inPort == inPort && q.flit.vc == vc)).map fun q => q.order

/-- Where a flit has come to the head of an input queue since `was`, it starts its wait for R277. -/
def Fabric.bumpHeads (f : Fabric) (was : Router) : Fabric :=
  let heads := (List.range 9).flatMap fun i => (List.range 4).filterMap fun vc =>
    if f.rtr.headOf i vc = was.headOf i vc then none else f.rtr.headOf i vc
  { f with rtr := { f.rtr with queue := updWhere f.rtr.queue (fun q => heads.contains q.order) fun q => { q with since := f.tick } } }

/-- Flits that wait at their inputs choose again (R300, R314). -/
def Fabric.rechoose (f : Fabric) : Fabric :=
  let waiting := f.rtr.queue.filter fun q => q.out.isNone && q.flit.cls != 3
  let keep := f.rtr.queue.filter fun q => !(q.out.isNone && q.flit.cls != 3)
  let g : Fabric := { f with rtr := { f.rtr with queue := keep } }
  (waiting.foldl (fun g q => g.place q) g).bumpHeads f.rtr

/-! ### Source rate control (R318–R322) -/

/-- Line rate of a lane in Gb/s (Table 10.1). -/
def laneGbps (rate : Nat) : Nat := 448 / 2 ^ rate

/-- Bits set in a mask of up to 12 quads. -/
def popcount (n m : Nat) : Nat := (bitsOf m n).length

/-- Flit rate of a port in units of 1/544 GB/s: a quad carries 4 lanes at 256/272 in LL and 514/544 in KP
mode (R309, Table 9.1). -/
def Port.flitRate (p : Port) : Nat := popcount 12 p.active * laneGbps p.rate * (if p.fec then 257 else 256)

/-- Starting rate of an entry (R319): the flit rates of the productive ports of R270, in GB/s rounded down. -/
def Fabric.startRate (f : Fabric) (key : Nat) : Nat :=
  ((f.rtr.productivePorts key).foldl (fun a k => a + (f.port k).flitRate) 0) / 544

/-- One cut of a rate (R321). -/
def Flow.cutRate (w : Flow) (r : Nat) : Nat := max w.rateMin (r - r / 2 ^ w.cutShift)

/-- An echo on an entry (R321): a cut once CUT_TICKS have passed, and a restart of the increase timer. -/
def Flow.echoOn (w : Flow) (tick : Nat) (e : RateEntry) : RateEntry :=
  if e.lastCut + w.cutTicks ≤ tick then { e with rate := w.cutRate e.rate, lastCut := tick, timer := tick }
  else { e with timer := tick }

/-- An echo arrives from a node (R318, R319, R321). A destination under the overflow entry stays there. -/
def Fabric.echo (f : Fabric) (node : Nat) : Fabric :=
  let key := f.rtr.real node
  let w := { f.flow with echoes := sat32 (f.flow.echoes + 1) }
  if !w.ccEn then { f with flow := w }
  else
    match w.rates.find key, w.overflow.filter fun e => e.dests.contains key with
    | some e, _ => { f with flow := { w with rates := w.rates.set key (w.echoOn f.tick e) } }
    | none, some e => { f with flow := { w with overflow := some (w.echoOn f.tick e) } }
    | none, none =>
      let start := f.startRate key
      let (f, v) := f.draw
      let allow := v.toNat % 40961
      let new : RateEntry := { rate := w.cutRate start, start := start, lastCut := f.tick, timer := f.tick, allow := allow }
      if w.rates.length < 1023 then { f with flow := { w with rates := w.rates.set key new } }
      else
        match w.overflow with
        | none => { f with flow := { w with overflow := some { new with dests := [key], allows := [(key, allow)] } } }
        | some e =>
          let e := w.echoOn f.tick e
          { f with flow := { w with overflow := some { e with dests := e.dests ++ [key], allows := e.allows.set key allow } } }

/-! ### Destination side: reorder and assembly -/

def Fabric.dstState (f : Fabric) (n : Nat) : DstState := f.rtr.dsts.get n {}
def Fabric.setDst (f : Fabric) (n : Nat) (d : DstState) : Fabric :=
  { f with rtr := { f.rtr with dsts := f.rtr.dsts.set n d } }
def Fabric.srcState (f : Fabric) (n : Nat) : SrcState := f.rtr.srcs.get n {}
def Fabric.setSrc (f : Fabric) (n : Nat) (s : SrcState) : Fabric :=
  { f with rtr := { f.rtr with srcs := f.rtr.srcs.set n s } }

/-- Gather credits for a source (R283). -/
def DstState.gather (d : DstState) (n tick : Nat) : DstState :=
  if n = 0 then d
  else { d with credits := d.credits + n, creditSince := if d.credits = 0 then tick else d.creditSince }

/-- A released message goes to the inbox, or to the hall-pass hold when it carries HP (R285). -/
def Fabric.arrive (f : Fabric) (m : Msg) : Fabric :=
  let a : Arrived := { order := f.rtr.order, msg := m }
  let r := { f.rtr with order := f.rtr.order + 1 }
  if m.hp then { f with rtr := { r with hpHeld := r.hpHeld ++ [a] } }
  else { f with rtr := { r with inbox := r.inbox ++ [a] } }

/-- A held flit gives its reorder slot back. -/
def Fabric.freeReorder (f : Fabric) (port n : Nat) : Fabric :=
  f.updPort port fun p => { p with reordHeld := p.reordHeld - n }

/-- Assembly of CLS 0 (or CLS 1) messages from the flits released in SEQ order; a lost flit is given as
none and breaks the message it falls in (R286, log entry 13). -/
def DstState.feed (d : DstState) (cls : Nat) (x : Option Flit) : DstState × Option Msg :=
  let asm := if cls = 0 then d.asm0 else d.asm1
  let need := if cls = 0 then d.need0 else d.need1
  let broken := if cls = 0 then d.broken0 else d.broken1
  let put (a : List Flit) (n : Nat) (b : Bool) : DstState :=
    if cls = 0 then { d with asm0 := a, need0 := n, broken0 := b }
    else { d with asm1 := a, need1 := n, broken1 := b }
  match x with
  | none => if need = 0 then (d, none) else if need = 1 then (put [] 0 false, none) else (put asm (need - 1) true, none)
  | some x =>
    let need := if need = 0 then needOf x else need
    let asm := asm ++ [x]
    if need ≤ 1 then (put [] 0 false, if broken then none else parseMsg asm)
    else (put asm (need - 1) broken, none)

/-- A released flit that is marked owes its source an ECHO where it is of CLS 0 or CLS 2 (R316). -/
def DstState.noteMark (d : DstState) (x : Flit) : DstState :=
  if x.mark && (x.cls == 0 || x.cls == 2) then { d with echo := true } else d

/-- Release held CLS 0 or CLS 1 flits of a source while the next SEQ is there (R283). -/
def Fabric.releaseSeq : Nat → Fabric → Nat → Nat → Fabric
  | 0, f, _, _ => f
  | fuel + 1, f, src, cls =>
    let d := f.dstState src
    let held := if cls = 0 then d.held0 else d.held1
    let next := if cls = 0 then d.next0 else d.next1
    match held.find? fun h => h.flit.seq == next with
    | none => f
    | some h =>
      let rest := held.filter fun y => y.flit.seq != next
      let d := if cls = 0 then { d with held0 := rest, next0 := (next + 1) % 4096 }
               else { d with held1 := rest, next1 := (next + 1) % 4096 }
      let d := (d.gather 1 f.tick).noteMark h.flit
      let (d, m) := d.feed cls (some h.flit)
      let f := (f.setDst src d).freeReorder h.port 1
      let f := match m with
        | some m => f.arrive m
        | none => f
      Fabric.releaseSeq fuel f src cls

/-- Flits of a CLS 2 or CLS 3 message released so far: the prefix in FIDX order. -/
def prefixLen : Nat → Nat → List Held → Nat
  | 0, i, _ => i
  | fuel + 1, i, hs => if hs.any (fun h => h.flit.seq % 32 == i) then prefixLen fuel (i + 1) hs else i

/-- The flits of a message in FIDX order. -/
def inFidx (hs : List Held) : List Flit :=
  (List.range 32).filterMap fun i => (hs.find? fun h => h.flit.seq % 32 == i).map (·.flit)

/-- A flit for this device enters the reorder pool (R280) and what is then in order is released
(R283); a CLS 0 or 1 flit outside the window is discarded (R284). A marked CLS 1 flit is an echo from its source (R317). -/
def Fabric.deliver (f : Fabric) (x : Flit) (port : Nat) : Fabric :=
  let f := if x.mark && x.cls == 1 then f.echo x.src else f
  let d := { f.dstState x.src with lastArrival := f.tick }
  let h : Held := { flit := x, port := port, tick := f.tick }
  if x.cls < 2 then
    let next := if x.cls = 0 then d.next0 else d.next1
    if (x.seq + 4096 - next) % 4096 < 2048 then
      let d := if x.cls = 0 then { d with held0 := d.held0 ++ [h] } else { d with held1 := d.held1 ++ [h] }
      let f := (f.setDst x.src d).updPort port fun p => { p with reordHeld := p.reordHeld + 1 }
      Fabric.releaseSeq 2049 f x.src x.cls
    else { f with rtr := { f.rtr with lateDrops := sat32 (f.rtr.lateDrops + 1) } }
  else
    let key := x.seq / 32
    let hs := d.msgs.get key []
    let hs' := hs ++ [h]
    let was := prefixLen 32 0 hs
    let now := prefixLen 32 0 hs'
    let freed := now - was
    let out := hs'.filter fun y => was ≤ y.flit.seq % 32 && y.flit.seq % 32 < now
    let d := out.foldl (fun d y => d.noteMark y.flit) (d.gather freed f.tick)
    let complete := match inFidx hs' with
      | [] => false
      | y :: _ => y.seq % 32 == 0 && now ≥ nflOf y
    let d := { d with msgs := if complete then d.msgs.del key else d.msgs.set key hs' }
    let f := (f.setDst x.src d).updPort port fun p => { p with reordHeld := p.reordHeld + 1 }
    let f := out.foldl (fun g y => g.freeReorder y.port 1) f
    if complete then
      match parseMsg (inFidx hs') with
      | some m => f.arrive m
      | none => f
    else f

/-! ### Multicast -/

/-- The multicast header of a first flit: tree, minus direction, hops, mask. -/
def mcHeader (x : Flit) : Nat × Bool × Nat × Nat :=
  let lo := wd x.data 0
  let hi := wd x.data 1
  let chunk := fld hi 11 0 * 256 + fld lo 63 56
  (chunk / 2 ^ 18, chunk / 2 ^ 17 % 2 == 1, chunk / 2 ^ 12 % 32, wn x.data 2 + wn x.data 3 * 2 ^ 64)

/-- Rewrite TREE, DIR and HOPS in a first flit's header. -/
def setChunk (x : Flit) (chunk : Nat) : Flit :=
  let lo := wd x.data 0
  let hi := wd x.data 1
  { x with data := pack [(63, 56, chunk % 256), (55, 0, fld lo 55 0)] ::
                   pack [(63, 12, fld hi 63 12), (11, 0, chunk / 256)] :: x.data.drop 2 }

/-- Rack coordinates of a rack position. -/
def posCoord (a p : Nat) : Nat := if a = 0 then p % 4 else if a = 1 then p / 4 % 4 else p / 16 % 8

/-- Members of a rack mask that lie beyond a port of this node on a RACK tree: they share this node's
coordinates on the earlier axes and lie further along the port's direction (R292). -/
def Router.rackBeyond (r : Router) (mask k : Nat) : List Nat :=
  let a := k / 2
  let me := rackPos r.node
  (bitsOf mask 128).filter fun p =>
    (List.range a).all (fun b => posCoord b p == posCoord b me) &&
      (if k % 2 = 0 then posCoord a me < posCoord a p else posCoord a p < posCoord a me)

/-- The node of a rack position in this device's rack. -/
def Router.rackNode (r : Router) (p : Nat) : Nat :=
  mkNode (coord 0 r.node / 4 * 4 + posCoord 0 p) (coord 1 r.node / 4 * 4 + posCoord 1 p)
    (coord 2 r.node / 8 * 8 + posCoord 2 p)

/-- Members of an axis branch beyond a port, at ring distance 1 … hops (R292). -/
def Router.axisBeyond (r : Router) (mask k hops : Nat) : List Nat :=
  let a := k / 2
  let l := max 1 (r.len a)
  let at_ (i : Nat) := if k % 2 = 0 then (coord a r.node + i) % l else (coord a r.node + l * 32 - i) % l
  ((rangeFrom 1 hops).filter fun i => mask / 2 ^ (at_ i) % 2 == 1).map fun i =>
    mkNode (if a = 0 then at_ i else coord 0 r.node) (if a = 1 then at_ i else coord 1 r.node)
      (if a = 2 then at_ i else coord 2 r.node)

/-- The branch decision for a multicast message at its first flit: output ports that are usable, members
that take split copies beyond ports that are not (R294), the local copy; HOPS to send on; and how many branches split. -/
def Fabric.branch (f : Fabric) (x : Flit) (inPort : Nat) : Branch × Nat × Nat :=
  let r := f.rtr
  let (tree, minus, hops0, mask) := mcHeader x
  let origin := inPort = 8
  let hops := if origin then hops0 else hops0 - 1
  let ports : List Nat :=
    if tree = 0 then
      let own := if origin then [] else [if inPort % 2 = 0 then inPort + 1 else inPort - 1]
      let later := if origin then List.range 6 else rangeFrom (2 * (inPort / 2 + 1)) (4 - 2 * (inPort / 2))
      (own ++ later).filter fun k => !(r.rackBeyond mask k).isEmpty
    else if hops = 0 then [] else [2 * (tree - 1) + b2n minus]
  let good := ports.filter f.usable
  let bad := ports.filter fun k => !f.usable k
  let splits := bad.flatMap fun k =>
    if tree = 0 then (r.rackBeyond mask k).map r.rackNode else r.axisBeyond mask k hops
  let bitNo := if tree = 0 then rackPos r.node else coord (tree - 1) r.node
  ({ port := inPort, src := x.src, msg := x.seq / 32, nfl := nflOf x, outs := good, splits := splits,
     here := !origin && mask / 2 ^ bitNo % 2 == 1 && r.seated != x.dst },
   if tree = 0 then 0 else hops, bad.length)

/-- Send one flit of a multicast message along a branch decision (R292–R294). -/
def Fabric.mcFlit (f : Fabric) (x : Flit) (inPort group inCls : Nat) (b : Branch) (first : Bool) (hops : Nat) : Fabric :=
  let chunk := let (t, m, _, _) := mcHeader x; t * 2 ^ 18 + b2n m * 2 ^ 17 + hops * 2 ^ 12
  let fwd := if first then setChunk x chunk else x
  let lost := b.outs.filter fun k => !(f.port k).state.up
  let f := lost.foldl (fun g k => g.updPort k fun p => { p with drops := p.drops + 1 }) f
  let f := (b.outs.filter fun k => (f.port k).state.up).foldl (fun g k =>
    let y := g.rtr.dateline fwd inPort k (inPort = 8)
    let q : QFlit := { flit := y, inPort := inPort, out := some k, order := g.rtr.order, group := group,
                       inCls := inCls, since := g.tick }
    ({ g with rtr := { g.rtr with queue := g.rtr.queue ++ [q], order := g.rtr.order + 1 } } : Fabric).noteDepth k) f
  let f := b.splits.foldl (fun g n =>
    let y : Flit := { (if first then setChunk x 0 else x) with cls := 2, aux := false, masked := true, dst := g.rtr.real n }
    let q : QFlit := { flit := y, inPort := inPort, order := g.rtr.order, group := group, inCls := inCls,
                       since := g.tick }
    ({ g with rtr := { g.rtr with order := g.rtr.order + 1 } } : Fabric).assign q) f
  if b.here then f.deliver x inPort else f

/-- A multicast flit at an input port, or at its origin (port 8), goes on where it can: the first flit decides the branches
and takes a branch-state entry (at most 64 per input port, R293), the last one frees it. None: it waits at its input. -/
def Fabric.mcTry (f : Fabric) (x : Flit) (inPort group inCls : Nat) : Option Fabric :=
  let key (b : Branch) := b.port == inPort && b.src == x.src && b.msg == x.seq / 32
  let others := f.rtr.branches.filter fun b => !key b
  if x.seq % 32 = 0 then
    if inPort < 8 && 64 ≤ (others.filter fun b => b.port == inPort).length then none
    else
      let (b, hops, split) := f.branch x inPort
      let r := { f.rtr with mcSplits := sat32 (f.rtr.mcSplits + split), branches := others ++ (if b.nfl ≤ 1 then [] else [b]) }
      some (({ f with rtr := r } : Fabric).mcFlit x inPort group inCls b true hops)
  else
    (f.rtr.branches.find? key).map fun b =>
      let f := f.mcFlit x inPort group inCls b false 0
      if x.seq % 32 + 1 ≥ b.nfl then { f with rtr := { f.rtr with branches := others } } else f

/-- The input slot of a multicast flit frees when every branch output has taken its copy (R309). -/
def Fabric.mcDone (f : Fabric) (inPort group inCls : Nat) : Fabric :=
  if f.rtr.queue.any fun q => q.group == group then f else f.freeSlot inPort inCls

/-- Multicast flits that wait at an input for branch state try again, in order, while one of them goes on (R293). -/
def Fabric.mcRetry : Nat → Fabric → Nat → Fabric
  | 0, f, _ => f
  | fuel + 1, f, inPort =>
    let held := f.rtr.queue.filter fun q => q.inPort == inPort && q.flit.cls == 3 && q.out.isNone
    let without (q : QFlit) : Fabric := { f with rtr := { f.rtr with queue := f.rtr.queue.filter fun y => y.order != q.order } }
    match held.findSome? fun q => (Fabric.mcTry (without q) q.flit inPort q.group q.inCls).map fun g => g.mcDone inPort q.group q.inCls with
    | some g => Fabric.mcRetry fuel g inPort
    | none => f

/-- A multicast flit arrives at an input port or leaves its origin; what it makes room for follows (R292, R293). -/
def Fabric.multicast (f : Fabric) (x : Flit) (inPort group inCls : Nat) : Fabric :=
  match f.mcTry x inPort group inCls with
  | none =>
    let wait : QFlit := { flit := x, inPort := inPort, order := f.rtr.order, group := group, inCls := inCls, since := f.tick }
    { f with rtr := { f.rtr with queue := f.rtr.queue ++ [wait], order := f.rtr.order + 1 } }
  | some g => Fabric.mcRetry (32 * 64) (g.mcDone inPort group inCls) inPort

/-! ### Source side: window, rate and outbox -/

/-- Flits sent to a destination and not credited back. -/
def SrcState.used (s : SrcState) : Nat := s.owed.foldl (fun a o => a + o.2) 0

/-- The window toward a destination (R281, R282). -/
def Router.window (r : Router) (s : SrcState) : Nat := r.base + 64 * s.grant

/-- Add a sent flit to what a destination owes, oldest first, one entry a message. -/
def SrcState.owe (s : SrcState) (msg : Option Nat) : SrcState :=
  match s.owed.getLast? with
  | some (m, n) =>
    if m == msg then { s with owed := s.owed.dropLast ++ [(m, n + 1)] } else { s with owed := s.owed ++ [(msg, 1)] }
  | none => { s with owed := [(msg, 1)] }

/-- The rate entry that limits a destination: its own, or the overflow entry (R319). -/
def Flow.allowance (w : Flow) (key : Nat) : Option Nat :=
  match w.rates.find key with
  | some e => some e.allow
  | none =>
    match w.overflow with
    | some e => if e.dests.contains key then some (e.allows.get key 0) else none
    | none => none

/-- Spend the allowance of one 256 B flit (in tenths of a byte). -/
def Flow.spend (w : Flow) (key : Nat) : Flow :=
  match w.rates.find key with
  | some e => { w with rates := w.rates.set key { e with allow := e.allow - 2560 } }
  | none =>
    match w.overflow with
    | some e =>
      if e.dests.contains key then { w with overflow := some { e with allows := e.allows.set key (e.allows.get key 0 - 2560) } }
      else w
    | none => w

/-- Rate allowance for a flit: only CLS 0 and 2 outside circuits need it (R320). -/
def Fabric.rateFree (f : Fabric) (x : Flit) : Bool :=
  let key := f.rtr.real x.dst
  !f.flow.ccEn || !(x.cls == 0 || x.cls == 2) || (f.circuitOf { x with dst := key }).isSome ||
    match f.flow.allowance key with
    | some a => 2560 ≤ a
    | none => true

/-- A flit of this message may leave now: window credit at every receiver (CREDIT and GRANT_REQ go
without, log entry 11) and rate allowance (R320). -/
def Fabric.mayLeave (f : Fabric) (o : OutMsg) (x : Flit) : Bool :=
  let free := o.kind == .credit || o.kind == .grantReq
  (free || o.dsts.all fun d => (f.srcState d).used < f.rtr.window (f.srcState d)) && f.rateFree x

/-- The bound of a remote request at this moment (R168). -/
def Fabric.boundOf (f : Fabric) (p timeout : Nat) : Nat :=
  let t := if timeout = 0 then (f.part p).timeoutDef else timeout
  min t (min (f.win.eng - 15625) (f.rtr.gapTicks - 15625))

/-- The router core takes the first flit of a request: its timer starts under the limit that stands now (R167, R168; log
entry 155). -/
def Fabric.noteHanded (f : Fabric) (o : OutMsg) : Fabric :=
  if !o.kind.request then f
  else
    match f.rtr.reqs.find o.reqId with
    | none => f
    | some q =>
      if q.handed then f
      else
        let q := { q with handed := true, start := f.tick, outAt := (f.ctx q.tag).outNow f.tick, bound := f.boundOf q.part q.timeout }
        { f with rtr := { f.rtr with reqs := f.rtr.reqs.set o.reqId q } }

/-- Hand one flit to the router core: SEQ (R266), window use, rate use, seating plan (R290), and its
place in a queue; a DST outside the machine behind a TORUS entry is discarded (R274). -/
def Fabric.handOver (f : Fabric) (o : OutMsg) (x : Flit) : Fabric :=
  let f := f.noteHanded o
  let key := f.rtr.real x.dst
  let s := f.srcState x.dst
  let seq := if x.cls = 0 then s.seq0 else if x.cls = 1 then s.seq1 else x.seq
  let f := if x.cls < 2 then
      f.setSrc x.dst (if x.cls = 0 then { s with seq0 := (s.seq0 + 1) % 4096 } else { s with seq1 := (s.seq1 + 1) % 4096 })
    else f
  let f := o.dsts.foldl (fun g d =>
    g.setSrc d { (g.srcState d).owe o.msgNo with lastSend := g.tick }) f
  let f := if (x.cls == 0 || x.cls == 2) && (f.circuitOf { x with dst := key }).isNone then
      { f with flow := f.flow.spend key } else f
  let y : Flit := { x with dst := if x.cls = 3 then x.dst else key, seq := seq, src := f.rtr.seated }
  let ord := f.rtr.order
  let f := { f with rtr := { f.rtr with order := ord + 1 } }
  if x.cls = 3 then f.multicast y 8 ord 0
  else if !f.rtr.inside y.dst && !(f.rtr.rackEntry (rackOf y.dst)).2 then
    { f with rtr := { f.rtr with unreach := sat32 (f.rtr.unreach + 1) } }
  else if y.dst = f.rtr.node then f.deliver y 8
  else f.place { flit := y, inPort := 8, order := ord, group := ord, since := f.tick, upOnly := o.upOnly }

/-- Hand over the flits of one outbox message while each may leave; answer what is left. -/
def Fabric.drainOut : Nat → Fabric → OutMsg → Fabric × Option OutMsg
  | 0, f, o => (f, some o)
  | fuel + 1, f, o =>
    match o.flits with
    | [] => (f, none)
    | x :: xs =>
      if f.mayLeave o x then
        let f := f.handOver o x
        let f := match o.msgNo, xs with
          | some n, [] =>
            { f with rtr := { f.rtr with openMsgs := updWhere f.rtr.openMsgs (fun p => p.msg == n) fun p => { p with last := f.tick } } }
          | _, _ => f
        Fabric.drainOut fuel f { o with flits := xs, begun := true }
      else (f, some o)

/-- A CLS 2 or 3 message takes the next MSG number when that number is settled toward every receiver
(R266, R267); a CLS 0 or 1 message takes a number of its own, under which R559 settles it. -/
def Fabric.numberMsg (f : Fabric) (o : OutMsg) : Option (Fabric × OutMsg) :=
  match o.flits with
  | [] => some (f, o)
  | x :: _ =>
    if o.msgNo.isSome then some (f, o)
    else if x.cls < 2 then
      let n := 128 + f.rtr.nextOpen
      let r := { f.rtr with nextOpen := f.rtr.nextOpen + 1, openMsgs := f.rtr.openMsgs ++ [{ msg := n, receivers := o.dsts, last := f.tick }] }
      some ({ f with rtr := r }, { o with msgNo := some n })
    else
      let n := f.rtr.nextMsg
      if f.rtr.openMsgs.any fun p => p.msg == n then none
      else
        let r := { f.rtr with nextMsg := (n + 1) % 128, openMsgs := f.rtr.openMsgs ++ [{ msg := n, receivers := o.dsts, last := f.tick }] }
        some ({ f with rtr := r }, { o with msgNo := some n, flits := o.flits.map fun y => { y with seq := 32 * n + y.seq } })

/-- A CLS 0 message toward a node has sent some of its flits and not all: no other CLS 0 flit goes between them. -/
def Router.midMessage (r : Router) (d : Nat) : Bool :=
  r.outbox.any fun o => o.begun && match o.flits with | x :: _ => x.cls == 0 && x.dst == d | [] => false

/-- Ask a destination for grant blocks when its window is full and no request is open (R282). The GRANT_REQ waits for its
rate allowance (R320) and for the end of a CLS 0 message that is partly sent. -/
def Fabric.askGrant (f : Fabric) (d : Nat) (flits : Nat) : Fabric :=
  let s := f.srcState d
  if s.asked || s.used < f.rtr.window s || f.rtr.base = 0 || f.rtr.midMessage d then f
  else
    let m : Msg := { kind := .grantReq, dst := d, src := f.rtr.seated, cls := 0, blocks := max 1 (min 32 (ceilDiv flits 64)) }
    let o : OutMsg := { flits := m.flits 0, dsts := [d], kind := .grantReq }
    if o.flits.all (f.mayLeave o) then
      match (f.setSrc d { s with asked := true }).numberMsg o with
      | some (f, o) => (Fabric.drainOut 1 f o).1
      | none => f
    else f

/-- Let the outbox run: each message in order, a blocked CLS 0 or 1 message holding back the later ones
of its destination and class; then destinations whose window is full are asked for grants. -/
def Fabric.pump (f : Fabric) : Fabric :=
  let go := f.rtr.outbox.foldl (fun (st : Fabric × List OutMsg × List (Nat × Nat)) o =>
    let (g, keep, blocked) := st
    let key := match o.flits with
      | x :: _ => (x.dst, x.cls)
      | [] => (0, 9)
    if key.2 < 2 && blocked.contains key then (g, keep ++ [o], blocked)
    else
      match g.numberMsg o with
      | none => (g, keep ++ [o], blocked)
      | some (g, o) =>
        match Fabric.drainOut 64 g o with
        | (g, none) => (g, keep, blocked)
        | (g, some o) => (g, keep ++ [o], key :: blocked))
    ({ f with rtr := { f.rtr with outbox := [] } }, [], [])
  go.2.1.foldl (fun g o => o.dsts.foldl (fun g d => g.askGrant d o.flits.length) g)
    { go.1 with rtr := { go.1.rtr with outbox := go.2.1 } }

/-- Give a message to the router core. `dsts` lists its receivers (one for CLS 0–2). -/
def Fabric.sendTo (f : Fabric) (m : Msg) (dsts : List Nat) (upOnly : Bool := false) : Fabric :=
  let o : OutMsg := { flits := m.flits 0, dsts := dsts, kind := m.kind, reqId := m.reqId, upOnly := upOnly }
  ({ f with rtr := { f.rtr with outbox := f.rtr.outbox ++ [o] } } : Fabric).pump

/-- Send a unicast message from this device's seated node. -/
def Fabric.sendMsg (f : Fabric) (m : Msg) (upOnly : Bool := false) : Fabric :=
  f.sendTo { m with src := f.rtr.seated } [m.dst] upOnly

/-- Send a CLS 1 message: the gathered credits and the owed ECHO ride on it (R283, R316). -/
def Fabric.respond (f : Fabric) (m : Msg) : Fabric :=
  let d := f.dstState m.dst
  let n := min d.credits 4095
  let f := f.setDst m.dst { d with credits := d.credits - n, echo := false }
  f.sendMsg { m with cls := 1, cred := n, echo := d.echo }

end Sys2Proof.Machine
end

