-- ==== Sys2Proof/Machine/Translate.lean ====
section
/-!
DEFINITION. Translation (chapter 03): segments and scope (R98–R100), page-table entries (R102–R106),
the source-side checks in their order (R107), the TLB and walk cache (R108–R110) and the start of
walks (R111).
-/
namespace Sys2Proof.Machine

/-! ### Segments (Table 3.3) -/

def Seg.valid (s : Seg) : Bool := bit s.w3 7
def Seg.scope (s : Seg) : Nat := fld s.w3 6 5
def Seg.land (s : Seg) : Bool := bit s.w3 4
def Seg.grantC (s : Seg) : Bool := bit s.w3 3
def Seg.grantA (s : Seg) : Bool := bit s.w3 2
def Seg.grantW (s : Seg) : Bool := bit s.w3 1
def Seg.grantR (s : Seg) : Bool := bit s.w3 0
/-- First byte of the virtual window. -/
def Seg.base (s : Seg) : Nat := fld s.w0 56 21 * 2 ^ 21
/-- Length in bytes. -/
def Seg.bytes (s : Seg) : Nat := fld s.w1 31 0 * 2 ^ 21
/-- First byte of the landing window. -/
def Seg.landBase (s : Seg) : Nat := fld s.w2 47 21 * 2 ^ 21

/-- A virtual address lies in a segment. -/
def Seg.holds (s : Seg) (va : Nat) : Bool := s.valid && s.base ≤ va && va < s.base + s.bytes

/-- A landing segment's open window holds the whole access (Table 3.10, check 2). -/
def Seg.landHolds (s : Seg) (addr bytes : Nat) : Bool :=
  s.valid && s.land && s.landBase ≤ addr && addr + bytes ≤ s.landBase + s.bytes

/-- Kinds of access of Table 3.6: read, write (FILL included), atomic, a collective buffer that is only
read, a collective buffer that is written. -/
inductive Access where
  | read | write | atomic | collRead | collWrite
  deriving DecidableEq, Repr

/-- ACCESS code of Table 3.7. -/
def Access.code : Access → Nat
  | .read => 0 | .write => 1 | .atomic => 2 | .collRead => 3 | .collWrite => 3

/-- Check 2 of Table 3.6: the segment grants the access. -/
def Seg.grants (s : Seg) : Access → Bool
  | .read => s.grantR | .write => s.grantW | .atomic => s.grantA | .collRead => s.grantC | .collWrite => s.grantC

/-- The valid segment of a context that holds an address, with its slot. -/
def Ctx.segOf (c : Ctx) (va : Nat) : Option (Nat × Seg) := c.segs.find? fun e => e.2.holds va

/-- SCOPE admits a node, judged from this device's seated node (R100, R264). -/
def Router.inScope (r : Router) (scope node : Nat) : Bool :=
  if scope = 0 then node == r.seated
  else if scope = 1 then rackOf node == rackOf r.seated
  else scope == 2

/-! ### Page-table entries (Table 3.5) -/

def ptePresent (w : Word) : Bool := bit w 0
def pteLeaf (w : Word) : Bool := bit w 4
def pteWrite (w : Word) : Bool := bit w 2
def pteAtomic (w : Word) : Bool := bit w 3
def pteSealed (w : Word) : Bool := bit w 5

/-- A present entry is malformed at its level (R104). -/
def pteMalformed (w : Word) (level : Nat) : Bool :=
  bit w 63 || fld w 8 6 != 0 || bit w 1 ||
  (level == 1 && !pteLeaf w) || (level ≥ 4 && pteLeaf w) ||
  (!pteLeaf w && fld w 62 48 != 0) ||
  (level == 2 && pteLeaf w && fld w 20 12 != 0) ||
  (level == 3 && pteLeaf w && fld w 29 12 != 0)

/-- Bits below the index of a level: 12 at level 1, 21 at 2, 30 at 3 (Table 3.4). -/
def levelShift (level : Nat) : Nat := 12 + 9 * (level - 1)

/-- Index of a virtual address in the table of a level. -/
def levelIndex (va level : Nat) : Nat := va / 2 ^ levelShift level % 512

/-- Physical address through a leaf entry. -/
def leafPa (w : Word) (level va : Nat) : Nat :=
  fld w 62 12 * 4096 / 2 ^ levelShift level * 2 ^ levelShift level + va % 2 ^ levelShift level

/-- Node field PA[62:48] (R261). -/
def paNode (pa : Nat) : Nat := pa / 2 ^ 48
/-- Host-die-local address PA[47:0]. -/
def paLocal (pa : Nat) : Nat := pa % 2 ^ 48

/-- PAGE_FAULT reasons (Table 3.7). -/
def rNotPresent : Nat := 1
def rWriteProtect : Nat := 2
def rAtomicProtect : Nat := 3
def rFormat : Nat := 4

/-! ### TLB and walk cache -/

/-- The TLB entry that maps an address of a context. -/
def Part.tlbFind (x : Part) (tag va : Nat) : Option TlbEntry :=
  x.tlb.find? fun e => e.tag == tag && e.vpn == va / 2 ^ levelShift e.level

/-- Drop the oldest entry that is neither pinned nor held by a collective; when there is none, nothing is dropped. -/
def evict : List TlbEntry → List TlbEntry
  | [] => []
  | e :: es => if e.pinned || !e.colls.isEmpty then e :: evict es else es

/-- Install a leaf; the TLB holds 8,192 entries (R108), oldest first (log entry 9). -/
def Part.tlbInstall (x : Part) (e : TlbEntry) : Part :=
  match x.tlb.find? fun y => y.tag == e.tag && y.level == e.level && y.vpn == e.vpn with
  | some _ =>
    let same (y : TlbEntry) := y.tag == e.tag && y.level == e.level && y.vpn == e.vpn
    let merge (y : TlbEntry) : TlbEntry :=
      { e with pinned := y.pinned || e.pinned, colls := y.colls, eng := if e.eng.isNone then none else y.eng }
    { x with tlb := updWhere x.tlb same merge }
  | none =>
    let kept := if x.tlb.length ≥ 8192 then evict x.tlb else x.tlb
    if kept.length ≥ 8192 then x else { x with tlb := kept ++ [e] }

/-- Pinned entries, pre-translated collective buffers included (R127). -/
def Part.pinned (x : Part) : Nat := (x.tlb.filter fun e => e.pinned || !e.colls.isEmpty).length

/-- Install a non-leaf entry; the walk cache holds 512 entries (R109). -/
def Part.cacheInstall (x : Part) (e : WalkEntry) : Part :=
  let rest := x.walkCache.filter fun y => !(y.tag == e.tag && y.level == e.level && y.prefix_ == e.prefix_)
  { x with walkCache := (if rest.length ≥ 512 then rest.drop 1 else rest) ++ [e] }

/-- The lowest level at which a walk can start, and its table (R109). -/
def Part.walkStart (x : Part) (tag va root : Nat) : Nat × Nat :=
  let hit (l : Nat) := x.walkCache.find? fun e => e.tag == tag && e.level == l && e.prefix_ == va / 2 ^ levelShift (l + 1)
  match hit 1, hit 2, hit 3, hit 4 with
  | some e, _, _, _ => (1, e.table)
  | none, some e, _, _ => (2, e.table)
  | none, none, some e, _ => (3, e.table)
  | none, none, none, some e => (4, e.table)
  | none, none, none, none => (5, root)

/-! ### The source-side checks of Table 3.6 -/

/-- What the checks answer for one access. -/
inductive Trans where
  /-- Check 1, 2 or 6 fails. -/
  | violation
  /-- Check 3, 4 or 5 fails: reason and level. -/
  | fault (reason level : Nat)
  /-- The XU holds no translation yet. -/
  | miss
  /-- All checks pass: physical address, SEALED, segment slot. -/
  | ok (pa : Nat) (isSealed : Bool) (seg : Nat)
  deriving DecidableEq, Repr

/-- Check one access of a context (R107): segment, rights, leaf, leaf rights, scope, in this order. The
TLB holds only present, well-formed leaves, so checks 3 and 4 fall to the walk on a miss. -/
def Fabric.check (f : Fabric) (tag va : Nat) (a : Access) : Trans :=
  let c := f.ctx tag
  match c.segOf va with
  | none => .violation
  | some (i, s) =>
    if !s.grants a then .violation
    else
      match (f.part (tagPart tag)).tlbFind tag va with
      | none => .miss
      | some e =>
        if (a == .write || a == .collWrite) && !pteWrite e.pte then .fault rWriteProtect e.level
        else if a == .atomic && !pteAtomic e.pte then .fault rAtomicProtect e.level
        else
          let pa := leafPa e.pte e.level va
          if f.rtr.inScope s.scope (paNode pa) then .ok pa (pteSealed e.pte) i else .violation

/-! ### Walks -/

/-- A walk is a demand miss's (R111). -/
def WalkFor.isDemand : WalkFor → Bool
  | .demand _ _ => true
  | _ => false

/-- Walks in progress that no demand miss wanted (R111). -/
def Part.otherWalks (x : Part) : Nat := (x.walks.filter fun w => !w.for_.isDemand).length

/-- A demand miss waits for a walker (R111). -/
def Part.demandWaits (x : Part) : Bool := x.runs.any fun r => r.want.isSome

/-- Start a walk when a walker is free (R111): 4 in all; every other walk than a demand miss's takes one of 3 and none while a
demand miss waits, so one walker is always free for a demand miss. The walk reads the 64 B line that holds the entry
(R106). -/
def Fabric.startWalk (f : Fabric) (tag va : Nat) (why : WalkFor) : Fabric :=
  let p := tagPart tag
  let x := f.part p
  let isPf := match why with | .prefetch _ _ => true | _ => false
  let dem := why.isDemand
  if x.walks.length ≥ 4 || (!dem && (x.otherWalks ≥ 3 || x.demandWaits)) then f
  else if x.walks.any fun w => (isPf || w.for_ == why) && w.va / 4096 == va / 4096 && w.tag == tag && !w.aborted then f
  else
    let (l, t) := x.walkStart tag va (f.ctx tag).root
    let w : Walk := { id := x.nextWalk, tag := tag, va := va, level := l, table := t, for_ := why }
    let cnt := if dem then { x.cnt with tlbMiss := x.cnt.tlbMiss + 1, walkDem := x.cnt.walkDem + 1 }
      else { x.cnt with walkPf := x.cnt.walkPf + 1 }
    let f := f.setPart p { x with walks := x.walks ++ [w], nextWalk := x.nextWalk + 1, cnt := cnt }
    f.hdpRead ((t + 8 * levelIndex va l) / 64 * 64) 1 fun _ => .walk p w.id

/-- What one line of a walk yields. -/
inductive WalkStep where
  /-- A leaf is found at the level. -/
  | leaf
  /-- The walk goes on below. -/
  | down (table : Nat)
  /-- The walk ends in a page fault. -/
  | fault (reason : Nat)
  deriving DecidableEq, Repr

/-- Read the entry of a walk from its line (Table 3.6, orders 3 and 4). -/
def walkEntry (w : Walk) (line : List Word) : WalkStep :=
  let e := wd line (levelIndex w.va w.level % 8)
  if !ptePresent e then .fault rNotPresent
  else if pteMalformed e w.level then .fault rFormat
  else if pteLeaf e then .leaf
  else .down (fld e 47 12 * 4096)

/-- Install what a leaf line yields: the leaf, and at level 1 every present, well-formed entry of the
line (R110). -/
def Part.installLine (x : Part) (w : Walk) (line : List Word) (pin : Bool) (eng : Option Nat) : Part :=
  let i := levelIndex w.va w.level
  let mine : TlbEntry := { tag := w.tag, level := w.level, vpn := w.va / 2 ^ levelShift w.level, pte := wd line (i % 8), pinned := pin, eng := eng }
  let x := x.tlbInstall mine
  if w.level != 1 then x
  else
    (List.range 8).foldl (fun y k =>
      let e := wd line k
      if k = i % 8 || !ptePresent e || pteMalformed e 1 then y
      else y.tlbInstall { tag := w.tag, level := 1, vpn := w.va / 4096 / 8 * 8 + k, pte := e, eng := eng }) x

/-- Remove a walk. -/
def Fabric.endWalk (f : Fabric) (p id : Nat) : Fabric :=
  f.updPart p fun x => { x with walks := x.walks.filter fun w => w.id != id }

/-- Take a walk one level down: the walk cache learns the table and the next line is read. -/
def Fabric.walkDown (f : Fabric) (p : Nat) (w : Walk) (table : Nat) : Fabric :=
  let l := w.level - 1
  let f := f.updPart p fun x =>
    { (x.cacheInstall { tag := w.tag, level := l, prefix_ := w.va / 2 ^ levelShift (l + 1), table := table }) with
        walks := updWhere x.walks (fun y => y.id == w.id) fun y => { y with level := l, table := table } }
  f.hdpRead ((table + 8 * levelIndex w.va l) / 64 * 64) 1 fun _ => .walk p w.id

end Sys2Proof.Machine
end

