-- ==== Sys2Proof/Machine/Operands.lean ====
section
/-!
DEFINITION. Every operand form of a transfer descriptor (Tables 4.3–4.7 and 7.8): its fields, the
format check of R145 and R260, its geometry, and the elements of ATOMIC operands.
-/
namespace Sys2Proof.Machine

/-! ### Descriptor fields -/

def dKind (ws : List Word) : Nat := fld (wd ws 0) 63 60
def dHp (ws : List Word) : Bool := bit (wd ws 0) 59
def dQuiet (ws : List Word) : Bool := bit (wd ws 0) 58
def dShape (ws : List Word) : Nat := fld (wd ws 0) 57 56
def dAtop (ws : List Word) : Nat := fld (wd ws 0) 55 48
def dImm (ws : List Word) : Bool := bit (wd ws 0) 47
def dRet (ws : List Word) : Bool := bit (wd ws 0) 46
def dTimeout (ws : List Word) : Nat := fld (wd ws 0) 31 0
def dUser (ws : List Word) : Word := wd ws 7

/-- A virtual address word is well formed: bits [63:57] zero and 64 B alignment (R144). -/
def vaOk (w : Word) : Bool := fld w 63 57 == 0 && fld w 5 0 == 0

/-- Element width of an ATOP in bytes (Table 4.7). -/
def atopWidth (a : Nat) : Nat := if a = 0x14 then 4 else if a = 0x15 then 2 else if a % 2 = 0 then 4 else 8

/-- Bytes that a request touches. -/
def reqBytes (m : Msg) : Nat := if m.kind == .atomic then m.units * atopWidth m.atop else 64 * m.units

/-- Row, N1, N2 of a strided COPY. -/
def cRow (ws : List Word) : Nat := fld (wd ws 3) 26 0
def cN1 (ws : List Word) : Nat := fld (wd ws 3) 47 32 + 1
def cN2 (ws : List Word) : Nat := fld (wd ws 3) 63 48 + 1
/-- Entries of a list-shaped COPY. -/
def cEnt (ws : List Word) : Nat := fld (wd ws 3) 55 32 + 1
def stride (w : Word) (dst : Bool) : Int := signed 32 (if dst then fld w 63 32 else fld w 31 0)

/-- Every byte of a strided side lies in 0 to 2⁵⁷ − 1 (R148). -/
def strideOk (ws : List Word) (dst : Bool) : Bool :=
  let base : Int := ((wd ws (if dst then 2 else 1)).toNat : Int)
  let a := stride (wd ws 4) dst * ((cN1 ws : Int) - 1)
  let b := stride (wd ws 5) dst * ((cN2 ws : Int) - 1)
  let lo := min a 0 + min b 0
  let hi := max a 0 + max b 0
  decide (0 ≤ base + 64 * lo) && decide (base + 64 * hi + 64 * (cRow ws : Int) ≤ 2 ^ 57)

/-- R145: the descriptor is malformed. Bits [63:27] of word 0x18 stand in no row of Tables 4.4 and 4.6, while Tables 4.5 and 4.7 name
their zero bits: that they are a zero field of LOAD, STORE and FILL too is the model's choice (log entry 168). -/
def descBad (ws : List Word) : Bool :=
  let k := dKind ws
  let w0bad := fld (wd ws 0) 45 32 != 0 || (k != 3 && k != 6 && dShape ws != 0) ||
    (k != 5 && (dAtop ws != 0 || dImm ws || dRet ws))
  let z (i : Nat) := wd ws i != 0
  w0bad ||
  match k with
  | 0 => false
  | 1 | 2 => !vaOk (wd ws 1) || !vaOk (wd ws 2) || fld (wd ws 3) 63 27 != 0 || fld (wd ws 3) 26 0 == 0 ||
      fld (wd ws 3) 26 0 > 67108864 || z 4 || z 5 || z 6
  | 3 =>
    !vaOk (wd ws 1) || !vaOk (wd ws 2) || fld (wd ws 3) 31 27 != 0 || cRow ws == 0 || z 6 ||
    (if dShape ws = 0 then
      cRow ws * cN1 ws * cN2 ws > 67108864 || !strideOk ws false || !strideOk ws true
    else fld (wd ws 3) 63 56 != 0 || z 4 || z 5 || cRow ws * cEnt ws > 67108864)
  | 4 => !vaOk (wd ws 2) || fld (wd ws 3) 63 27 != 0 || fld (wd ws 3) 26 0 == 0 ||
      fld (wd ws 3) 26 0 > 67108864 || z 4 || z 5 || z 6
  | 5 =>
    dAtop ws > 0x15 || fld (wd ws 1) 63 57 != 0 || (wd ws 1).toNat % atopWidth (dAtop ws) != 0 ||
    (!dImm ws && !vaOk (wd ws 2)) || (if dRet ws then !vaOk (wd ws 3) else z 3) ||
    (if isCas (dAtop ws) then !dImm ws && !vaOk (wd ws 4) else z 4) ||
    fld (wd ws 5) 63 29 != 0 || fld (wd ws 5) 28 0 == 0 || fld (wd ws 5) 28 0 > 268435456 || z 6
  | 6 => dShape ws > 1
  | _ => true

/-! ### PAGE_MOVE fields (Table 7.8) -/

def pmScatter (ws : List Word) : Bool := bit (wd ws 3) 63
def pmUnits (ws : List Word) : Nat := fld (wd ws 3) 47 32 + 1
def pmPages (ws : List Word) : Nat := fld (wd ws 3) 23 0
def pmPool (ws : List Word) : Nat := fld (wd ws 4) 30 0

/-- R260: the PAGE_MOVE payload is malformed. -/
def pageMoveBad (ws : List Word) : Bool :=
  let bytes := 64 * pmUnits ws
  let dense := (wd ws 1).toNat
  let pool := (wd ws 0).toNat
  !vaOk (wd ws 0) || !vaOk (wd ws 1) || !vaOk (wd ws 2) || fld (wd ws 3) 62 48 != 0 ||
  fld (wd ws 3) 31 24 != 0 || pmPages ws == 0 || fld (wd ws 4) 63 31 != 0 || pmPool ws == 0 ||
  fld (wd ws 5) 63 32 != 0 || pmPages ws * bytes > 2 ^ 32 ||
  (dense < pool + pmPool ws * bytes && pool < dense + pmPages ws * bytes)

/-! ### Geometry -/

/-- Positions of a run: 64 B units, or elements for ATOMIC. -/
def Run.total (r : Run) : Nat :=
  if r.pageMove then pmUnits r.words * pmPages r.words
  else match dKind r.words with
    | 1 | 2 | 4 => fld (wd r.words 3) 26 0
    | 3 => if dShape r.words = 0 then cRow r.words * cN1 r.words * cN2 r.words else cRow r.words * cEnt r.words
    | 5 => fld (wd r.words 5) 28 0
    | _ => 0

/-- What an engine does at a position of its descriptor. -/
inductive NextTile where
  /-- Nothing is left to issue. -/
  | finished
  /-- A line of the source or destination list is needed first. -/
  | needList (dst : Bool) (line : Nat)
  /-- A span with no move (SKIP, R258). -/
  | skip (size : Nat)
  /-- A bad list entry (R149, R260). -/
  | bad
  /-- A tile: size, source and destination virtual addresses. -/
  | tile (size srcVa dstVa : Nat)
  deriving DecidableEq, Repr

/-- Units from an address to the end of its 4 KiB span. -/
def unitsLeft (va : Nat) : Nat := 64 - va / 64 % 64

/-- A page-list entry is malformed (R149). -/
def listEntryBad (w : Word) : Bool := !vaOk w

/-- A strided address as a natural number (R148 keeps it in range). -/
def stridedVa (ws : List Word) (dst : Bool) (i j k : Nat) : Nat :=
  ((((wd ws (if dst then 2 else 1)).toNat : Int) +
    64 * ((i : Int) * stride (wd ws 4) dst + (j : Int) * stride (wd ws 5) dst) + 64 * (k : Int))).toNat

/-- The next tile of a run: within one row, chunk or page, one 4 KiB span of the source and one of the
destination (R112, R132); one 64 B unit of operands and of the target for ATOMIC. -/
def Run.next (r : Run) : NextTile :=
  let ws := r.words
  let pos := r.nextPos
  if pos ≥ r.total then .finished
  else if r.pageMove then
    let e := pos / pmUnits ws
    match r.srcList.find e with
    | none => .needList false (e / 16)
    | some w =>
      if bit w 31 then .skip (pmUnits ws)
      else if fld w 30 0 ≥ pmPool ws then .bad
      else
        let k := pos % pmUnits ws
        let pool := (wd ws 0).toNat + 64 * (pmUnits ws * fld w 30 0 + k)
        let dense := (wd ws 1).toNat + 64 * pos
        let (s, d) := if pmScatter ws then (dense, pool) else (pool, dense)
        .tile (min (pmUnits ws - k) (min (unitsLeft s) (unitsLeft d))) s d
  else
    match dKind ws with
    | 1 | 2 =>
      let s := (wd ws 1).toNat + 64 * pos
      let d := (wd ws 2).toNat + 64 * pos
      .tile (min (r.total - pos) (min (unitsLeft s) (unitsLeft d))) s d
    | 4 =>
      let d := (wd ws 2).toNat + 64 * pos
      .tile (min (r.total - pos) (unitsLeft d)) 0 d
    | 3 =>
      let row := cRow ws
      if dShape ws = 0 then
        let k := pos % row
        let i := pos / row % cN1 ws
        let j := pos / row / cN1 ws
        let s := stridedVa ws false i j k
        let d := stridedVa ws true i j k
        .tile (min (row - k) (min (unitsLeft s) (unitsLeft d))) s d
      else
        let e := pos / row
        let k := pos % row
        let srcL := dShape ws != 2
        let dstL := dShape ws != 1
        match (if srcL then r.srcList.find e else some 0), (if dstL then r.dstList.find e else some 0) with
        | none, _ => .needList false (e / 8)
        | _, none => .needList true (e / 8)
        | some a, some b =>
          if (srcL && listEntryBad a) || (dstL && listEntryBad b) then .bad
          else
            let s := if srcL then a.toNat + 64 * k else (wd ws 1).toNat + 64 * pos
            let d := if dstL then b.toNat + 64 * k else (wd ws 2).toNat + 64 * pos
            .tile (min (row - k) (min (unitsLeft s) (unitsLeft d))) s d
    | 5 =>
      let w := atopWidth (dAtop ws)
      let per := 64 / w
      let d := (wd ws 1).toNat + w * pos
      .tile (min (min (r.total - pos) (per - pos % per)) (min 16 ((64 - d % 64) / w))) 0 d
    | _ => .finished

/-! ### Elements of ATOMIC data -/

/-- Element i of width w bytes in little-endian words. -/
def elemAt (ws : List Word) (w i : Nat) : Nat := (wd ws (i * w / 8)).toNat / 2 ^ (8 * (i * w % 8)) % 2 ^ (8 * w)

/-- Words that hold the given elements of width w from element i of the unit on. -/
def packElems (w i : Nat) (es : List Nat) : List Word :=
  (List.range 8).map fun k =>
    w64 ((List.range es.length).foldl (fun a j =>
      if (i + j) * w / 8 = k then a + es.getD j 0 % 2 ^ (8 * w) * 2 ^ (8 * ((i + j) * w % 8)) else a) 0)

end Sys2Proof.Machine
end

