-- ==== Sys2Proof/Machine/Engine.lean ====
section
/-!
DEFINITION. The transfer engines (chapter 04): starting descriptors (R132–R135), issuing tiles
(R107, R146–R153, R160, R166–R168), their answers (R136, R170, R560), page faults (R113–R118),
completion records and lists (R137–R141, R154–R157), counter entries (R171–R173), and sealed tiles
(R471–R478).
-/
namespace Sys2Proof.Machine

/-! ### Readers and updates -/

def Part.run (x : Part) (id : Nat) : Option Run := x.runs.find? fun r => r.id == id
def Fabric.run (f : Fabric) (p id : Nat) : Option Run := (f.part p).run id
def Fabric.updRun (f : Fabric) (p id : Nat) (g : Run → Run) : Fabric :=
  f.updPart p fun x => { x with runs := updWhere x.runs (fun r => r.id == id) g }
def Fabric.updTile (f : Fabric) (p id t : Nat) (g : Tile → Tile) : Fabric :=
  f.updRun p id fun r => { r with tiles := updWhere r.tiles (fun y => y.id == t) g }
def Part.list (x : Part) (id : Nat) : Option WList := x.lists.find? fun l => l.id == id
def Fabric.list (f : Fabric) (p id : Nat) : Option WList := (f.part p).list id
def Fabric.updList (f : Fabric) (p id : Nat) (g : WList → WList) : Fabric :=
  f.updPart p fun x => { x with lists := updWhere x.lists (fun l => l.id == id) g }
def Fabric.updEntry (f : Fabric) (p i : Nat) (g : CounterEntry → CounterEntry) : Fabric :=
  f.updPart p fun x => { x with entries := x.entries.set i (g (x.entries.get i {})) }

/-- Counter entry of a run: its list's, or entry 16 for a mailbox-issued descriptor. -/
def Fabric.entryOf (f : Fabric) (p : Nat) (s : RunSrc) : Nat :=
  match s with
  | .list l _ => match f.list p l with | some y => y.entry | none => 16
  | .mailbox _ => 16

/-- Change the counter entry of a run's command, while the entry still counts for that command (R171, R173). -/
def Fabric.updCounts (f : Fabric) (p : Nat) (r : Run) (g : CounterEntry → CounterEntry) : Fabric :=
  let i := f.entryOf p r.src
  if ((f.part p).entries.get i {}).cmdId = r.cmdId then f.updEntry p i g else f

/-- A counter entry's command has finished: its counts are final, and the entry is free (R171, R172). -/
def Fabric.freeCounts (f : Fabric) (p i cmdId : Nat) : Fabric :=
  let last := (f.part p).entries.vals.foldl (fun m e => max m e.freedAt) 0
  if ((f.part p).entries.get i {}).cmdId = cmdId then
    f.updEntry p i fun e => { e with final := true, busy := false, freedAt := last + 1 }
  else f

/-- Command ID that stands behind a run. -/
def Fabric.cmdIdOf (f : Fabric) (p : Nat) (s : RunSrc) : Nat :=
  match s with
  | .list l _ => match f.list p l with | some y => y.cmdId | none => 0
  | .mailbox m => (f.mbx m).env.cmdId.toNat

/-- LIST_ID of a run: its list's, or the command ID for a mailbox-issued operation. -/
def Fabric.listIdOf (f : Fabric) (p : Nat) (s : RunSrc) : Word :=
  match s with
  | .list l _ => match f.list p l with | some y => y.listId | none => 0
  | .mailbox m => (f.mbx m).env.cmdId

/-- A mailbox-issued descriptor ends before it starts (R139, R141): its command completes with a STATUS and RESP_LEN 0. -/
def Fabric.endIssued (f : Fabric) (p : Nat) (i : Issued) (status : Nat) : Fabric :=
  (f.freeCounts p 16 (f.mbx i.mbx).env.cmdId.toNat).finish i.mbx status

def RunSrc.slot : RunSrc → Nat
  | .list _ s => s
  | .mailbox _ => 0



/-- The engine that runs a descriptor. -/
def RunPhase.eng : RunPhase → Option Nat
  | .running e => some e
  | _ => none

/-- The run on an engine. -/
def Part.onEngine (x : Part) (e : Nat) : Option Run := x.runs.find? fun r => r.phase.eng == some e

/-- A context leaves SWITCHED_OUT when none of its descriptors and collectives remains parked; its held descriptors
then restart (R96, R115, R119). -/
def Fabric.unpark (f : Fabric) (tag : Nat) : Fabric :=
  let p := tagPart tag
  let c := f.ctx tag
  let parked := ((f.part p).runs.any fun r => r.tag == tag && (match r.phase with | .parked _ => true | _ => false)) ||
    (f.part p).colls.any fun k => k.tag == tag && k.parked.isSome
  if c.state == .switchedOut && !parked then
    (f.updCtx tag fun c => { c with state := .live, outTicks := c.outNow f.tick }).updPart p fun x =>
      { x with runs := updWhere x.runs (fun r => r.tag == tag && r.phase == .held) fun r => { r with phase := .ready } }
  else f

/-! ### Counter snapshots (Table 4.11) -/

/-- BYTES and STALL_TICKS read coarsened for a confidential partition (chapter 04, Confidential mode). -/
def CounterEntry.words (e : CounterEntry) (i tick : Nat) (conf : Bool) : List Word :=
  [ w64 e.cmdId, w64 tick, pack [(63, 32, e.timeouts), (31, 0, e.descDone)],
    w64 (if conf then down e.bytes (2 ^ 20) else e.bytes), w64 e.flits,
    w64 (if conf then down e.stall 15625 else e.stall), pack [(63, 32, e.parks), (31, 0, e.late)],
    pack [(8, 8, b2n e.final), (4, 0, i)] ]

/-- Write a snapshot of one entry, all fields from one instant (R172). -/
def Fabric.snapEntry (f : Fabric) (p i : Nat) : Fabric :=
  let x := f.part p
  f.hdpWrite x.snapAddr ((x.entries.get i {}).words i f.tick (f.confPart p)) fun _ => .ccSnap

/-! ### Lists -/

/-- Fetch slots of a list in reads of 16, none more than 64 ahead of the lowest unfinished one (R81). -/
def Fabric.pumpFetch : Nat → Fabric → Nat → Nat → Fabric
  | 0, f, _, _ => f
  | fuel + 1, f, p, id =>
    match f.list p id with
    | none => f
    | some l =>
      let n := min 16 (l.count - l.fetchNext)
      if n = 0 || l.lowest + 64 < l.fetchNext + n - 1 then f
      else
        let s := l.fetchNext
        let f := f.updList p id fun l => { l with fetchNext := s + n }
        let f := f.hdpRead (l.descBase + 64 * s) n fun o => .listFetch p id (s + o)
        Fabric.pumpFetch fuel f p id

/-- When every slot has ended and every record is acknowledged, the list-end record is written (R157). -/
def Fabric.checkListEnd (f : Fabric) (p id : Nat) : Fabric :=
  match f.list p id with
  | none => f
  | some l =>
    if l.lowest ≥ l.count && l.pendingRecs = 0 && !l.endSent then
      let f := f.updList p id fun l => { l with endSent := true }
      let e := { (f.part p).entries.get l.entry {} with final := true }
      f.hdpWrite (l.cplBase + 64 * l.count) (e.words l.entry f.tick (f.confPart p)) fun _ => .listEnd p id
    else f

/-- The lowest unfinished slot after some have ended. -/
def lowestFrom : Nat → Nat → List Nat → Nat
  | 0, n, _ => n
  | fuel + 1, n, ended => if ended.contains n then lowestFrom fuel (n + 1) ended else n

/-- Words of a completion record (Table 4.8). -/
def recordWords (listId : Word) (tag slot detail kind status done start finish : Nat) (user : Word)
    (parks flits : Nat) : List Word :=
  [ listId, pack [(63, 48, tag), (47, 32, slot), (23, 16, detail), (15, 12, kind), (7, 0, status)],
    w64 done, w64 start, w64 finish, user, pack [(63, 32, parks), (31, 0, flits)], 1 ]

/-- A slot of a list has ended: its record is written unless QUIET suppresses it (R154, R155), DESC_DONE
counts it, and the list moves on. -/
def Fabric.endSlot (f : Fabric) (p id slot : Nat) (record : Option (List Word)) : Fabric :=
  match f.list p id with
  | none => f
  | some l =>
    let ended := slot :: l.ended
    let low := lowestFrom (ended.length + 1) l.lowest ended
    let f := f.updList p id fun l =>
      { l with ended := ended.filter (· ≥ low), lowest := low,
               pendingRecs := l.pendingRecs + if record.isSome then 1 else 0 }
    let f := f.updEntry p l.entry fun e => { e with descDone := e.descDone + 1 }
    match record with
    | some ws => f.hdpWrite (l.cplBase + 64 * slot) ws fun _ => .record p id slot
    | none => f

/-- STATUS and DETAIL of a swept slot (Table 4.9). -/
def Sweep.code : Sweep → Nat × Nat
  | .cancelled => (5, 6)
  | .skipped => (3, 5)
  | .reset => (0, 7)

/-- Unstarted slots of a swept list end as they are fetched, in order (R141, R155, R156, R421). -/
def Fabric.sweepSlots : Nat → Fabric → Nat → Nat → Fabric
  | 0, f, _, _ => f
  | fuel + 1, f, p, id =>
    match f.list p id with
    | none => f
    | some l =>
      match l.sweep with
      | none => f
      | some sw =>
        if l.nextStart ≥ l.count then f
        else
          match l.fetched.find l.nextStart with
          | none => f
          | some ws =>
            let s := l.nextStart
            let (st, dt) := sw.code
            let rec_ := recordWords l.listId l.tag s dt (dKind ws) st 0 f.tick f.tick (dUser ws) 0 0
            let f := f.updList p id fun l =>
              { l with nextStart := s + 1, fetched := l.fetched.del s,
                       swept := l.swept + if sw == .cancelled then 1 else 0 }
            Fabric.sweepSlots fuel (f.endSlot p id s (some rec_)) p id

/-- Move a list on after a change: sweep, fetch, list end. A swept list ends at most one window of slots
before it fetches again. -/
def Fabric.stepList (f : Fabric) (p id : Nat) : Fabric :=
  let f := Fabric.sweepSlots 80 f p id
  let f := Fabric.pumpFetch 8 f p id
  f.checkListEnd p id

/-! ### Completion of descriptors -/

/-- The record of a run (Table 4.8). -/
def Fabric.runRecord (f : Fabric) (p : Nat) (r : Run) (status detail : Nat) : List Word :=
  let width := if !r.pageMove && dKind r.words = 5 then 1 else 64
  let done := if status = stOk && !r.pageMove then r.total * width else r.done * width
  recordWords (f.listIdOf p r.src) r.tag r.src.slot detail (if r.pageMove then 0 else dKind r.words) status done
    r.startTick f.tick (if r.pageMove then 0 else dUser r.words) r.parks r.flits

/-- DONE_COUNT of a run's record. -/
def doneCount (rec_ : List Word) : Word := wd rec_ 2

/-- A FENCE completes when every earlier descriptor in its scope has completed (R158). -/
def Fabric.fenceMet (f : Fabric) (p : Nat) (r : Run) : Bool :=
  let x := f.part p
  if dShape r.words = 1 then !(x.runs.any fun o => o.tag == r.tag && o.id < r.id)
  else match r.src with
    | .list l s => match f.list p l with | some y => y.lowest ≥ s | none => true
    | .mailbox _ => true

/-- A run has nothing left to do: no tile in flight, and either an outcome is fixed or every position has
been issued. -/
def Fabric.runOver (f : Fabric) (p : Nat) (r : Run) : Bool :=
  r.tiles.isEmpty &&
    (r.fin.isSome ||
      (match r.phase with | .running _ => true | _ => false) &&
        (if !r.pageMove && dKind r.words = 6 then f.fenceMet p r else r.nextPos ≥ r.total))

/-- HALT_ON_FAULT: the unstarted slots of the list end with SKIPPED (R156). -/
def Fabric.haltList (f : Fabric) (p : Nat) (s : RunSrc) : Fabric :=
  match s with
  | .list l _ =>
    match f.list p l with
    | some y => if y.halt && y.sweep.isNone then f.updList p l fun y => { y with sweep := some .skipped } else f
    | none => f
  | .mailbox _ => f

/-- A run completes (R136): it leaves its engine, its counters and record are written, and what waited on
it moves on. -/
def Fabric.completeRun (f : Fabric) (p : Nat) (r : Run) (status detail : Nat) : Fabric :=
  let rec_ := f.runRecord p r status detail
  let f := f.updPart p fun x => { x with runs := x.runs.filter fun o => o.id != r.id }
  let f := if status = stTimeout then f.updCounts p r fun e => { e with timeouts := e.timeouts + 1 } else f
  let f := if status = stFaulted then f.haltList p r.src else f
  let f := match r.src with
    | .list l s =>
      let quiet := dQuiet r.words && status = stOk
      (f.endSlot p l s (if quiet then none else some rec_)).stepList p l
    | .mailbox m =>
      let f := (f.updCounts p r fun e => { e with descDone := e.descDone + 1 }).freeCounts p 16 r.cmdId
      f.finish m status (doneCount rec_).toNat (if r.pageMove then [w64 detail] else rec_) (if r.pageMove then 8 else 64)
  f.unpark r.tag

/-- Complete every run that is over; a FENCE may follow from another's completion. -/
def Fabric.settle : Nat → Fabric → Nat → Fabric
  | 0, f, _ => f
  | fuel + 1, f, p =>
    match (f.part p).runs.find? (f.runOver p) with
    | none => f
    | some r =>
      let (st, dt) := r.fin.getD (stOk, 0)
      Fabric.settle fuel (f.completeRun p r st dt) p

/-- Settle with room for every run of a partition. -/
def Fabric.settleAll (f : Fabric) (p : Nat) : Fabric := Fabric.settle ((f.part p).runs.length + 1) f p

/-- Fix the outcome of a run; the first one stands. -/
def Fabric.fix (f : Fabric) (p id status detail : Nat) : Fabric :=
  f.updRun p id fun r => { r with fin := some (r.fin.getD (status, detail)) }

/-- A malformed descriptor or list entry: FAULTED FORMAT with a FAULT notice LIST_FORMAT (R145). -/
def Fabric.formatFault (f : Fabric) (p : Nat) (r : Run) : Fabric :=
  let listId : Word := match r.src with | .list _ _ => f.listIdOf p r.src | .mailbox _ => 0
  let n := faultNotice p 1 r.lastEng r.tag 4 (w64 r.src.slot) listId (w64 (f.cmdIdOf p r.src))
  (f.notify p n).fix p r.id stFaulted 1

/-- Poisoned data: FAULTED POISON with a FAULT notice HDP_POISON that names the line (R63, R560). -/
def Fabric.poisonFault (f : Fabric) (p : Nat) (r : Run) (addr : Nat) : Fabric :=
  let n := faultNotice p 1 r.lastEng r.tag 2 (w64 addr) 0 (w64 (f.cmdIdOf p r.src))
  (f.notify p n).fix p r.id stFaulted 2

/-- KEY_EVENT (Table 13.18). -/
def keyEvent (p tag reason slot gen session va : Nat) (listId : Word) (descSlot : Nat) : Notice :=
  { part := p, code := 8, tag := tag,
    pay := [pack [(7, 0, reason), (15, 8, slot), (23, 16, gen), (63, 32, session)], w64 va, listId, w64 descSlot, 0] }

/-- A sealed tile fails: FAULTED SEAL with a KEY_EVENT of its cause (R477). -/
def Fabric.sealFault (f : Fabric) (p : Nat) (r : Run) (reason slot gen va : Nat) : Fabric :=
  let n := keyEvent p r.tag reason slot gen 0 va (f.listIdOf p r.src) r.src.slot
  (f.notify p { n with unit := 1, unitIdx := r.lastEng }).fix p r.id stFaulted 8

/-! ### Page faults -/

/-- A page fault of a run's access (R113, R114, R118): the descriptor parks and its context is switched
out with its other running descriptors held, or it fails. -/
def Fabric.pageFault (f : Fabric) (p : Nat) (r : Run) (reason level access va : Nat) : Fabric :=
  let c := f.ctx r.tag
  let seq := (c.faultSeq + 1) % 65536
  let fail := c.faultFail || c.state == .draining
  let done := if !r.pageMove && dKind r.words = 5 then r.done else 64 * r.done
  let page := (access != 0, va / 4096)
  let n : Notice :=
    { part := p, unit := 1, unitIdx := r.lastEng, code := 2, tag := r.tag,
      pay := [ pack [(7, 0, reason), (15, 8, level), (23, 16, access), (24, 24, b2n fail),
                     (25, 25, b2n (r.marks.contains page)), (47, 32, seq)],
               w64 va, f.listIdOf p r.src, w64 r.src.slot, w64 done ] }
  let f := (f.updCtx r.tag fun c => { c with faultSeq := seq }).notify p n
  let f := f.updRun p r.id fun r => { r with marks := r.marks.filter (· != page), want := none }
  if fail then f.fix p r.id stFaulted 3
  else
    let f := f.updCounts p r fun e => { e with parks := e.parks + 1 }
    let f := f.updRun p r.id fun r => { r with phase := .parked seq, parks := r.parks + 1 }
    let f := f.updCtx r.tag fun c =>
      if c.state == .live then { c with state := .switchedOut, outSince := f.tick } else c
    let sibling (o : Run) : Bool := o.tag == r.tag && o.id != r.id && o.phase.eng.isSome
    f.updPart p fun x => { x with runs := updWhere x.runs sibling fun o => { o with phase := .held, want := none } }

/-! ### Accesses of a tile -/

/-- A REQID that no open request holds (Table 8.4), counting up from the next one. -/
def pickOpen : Nat → Nat → Map Request → Nat
  | 0, t, _ => t % 4096
  | k + 1, t, m => if (m.find (t % 4096)).isSome then pickOpen k (t + 1) m else t % 4096

/-- A REQID that no open request holds and that none closed without its answer, so that a late arrival finds no newer
request (R170); when there is none, one that no open request holds (log entry 156). -/
def pickReq : Nat → Nat → Router → Nat
  | 0, t, r => pickOpen 4096 t r.reqs
  | k + 1, t, r =>
    if (r.reqs.find (t % 4096)).isSome || (r.closed.find (t % 4096)).isSome then pickReq k (t + 1) r else t % 4096

/-- Descriptor TIMEOUT of a run. -/
def Run.timeout (r : Run) : Nat := if r.pageMove then fld (wd r.words 5) 31 0 else dTimeout r.words

/-- Send a remote request for a tile; its timer starts when the router core takes it (R167). -/
def Fabric.request (f : Fabric) (p : Nat) (r : Run) (tile : Nat) (m : Msg) : Fabric :=
  let q := pickReq 4096 f.rtr.reqId f.rtr
  let rq : Request := { part := p, run := r.id, tile := tile, tag := r.tag, timeout := r.timeout }
  let f := { f with rtr := { f.rtr with reqId := (q + 1) % 4096, reqs := f.rtr.reqs.set q rq,
                                        closed := f.rtr.closed.del q } }
  let m := { m with tag := r.tag, cls := 0, hp := !r.pageMove && dHp r.words, reqId := q }
  let f := f.updRun p r.id fun r => { r with flits := r.flits + m.nflits }
  let f := f.updCounts p r fun e => { e with flits := e.flits + m.nflits }
  f.sendMsg m

/-- Read units for a tile, here or at another node. -/
def Fabric.tileRead (f : Fabric) (p : Nat) (r : Run) (tile pa units : Nat) (conf : Bool := false) : Fabric :=
  if paNode pa = f.rtr.seated then
    let f := f.updTile p r.id tile fun t => { t with pend := pieceCount (paLocal pa) units }
    f.hdpRead (paLocal pa) units fun o => .tileRd p r.id tile (8 * o)
  else
    let f := f.updTile p r.id tile fun t => { t with pend := 1 }
    f.request p r tile { kind := .read, dst := paNode pa, src := 0, cls := 0, units := units, addr := paLocal pa, conf := conf }

/-- Write units for a tile, here or at another node. -/
def Fabric.tileWrite (f : Fabric) (p : Nat) (r : Run) (tile pa : Nat) (data : List Word) (hdpConf flitConf : Bool) : Fabric :=
  let units := ceilDiv data.length 8
  if paNode pa = f.rtr.seated then
    let f := f.updTile p r.id tile fun t => { t with pend := pieceCount (paLocal pa) units }
    f.hdpWrite (paLocal pa) data (fun _ => .tileWr p r.id tile) hdpConf
  else
    let f := f.updTile p r.id tile fun t => { t with pend := 1 }
    f.request p r tile { kind := .write, dst := paNode pa, src := 0, cls := 0, units := units, addr := paLocal pa, data := data, conf := flitConf }

/-- Operands of an ATOMIC tile: element values and compare values (R152). -/
def Run.operands (r : Run) (t : Tile) : List Nat × List Nat :=
  let w := atopWidth (dAtop r.words)
  let i := t.pos % (64 / w)
  let ops := rangeFrom i t.size
  if dImm r.words then
    (ops.map fun _ => wn r.words 2 % 2 ^ (8 * w), ops.map fun _ => wn r.words 4 % 2 ^ (8 * w))
  else (ops.map fun k => elemAt (t.data.words 0 8) w k, ops.map fun k => elemAt (t.cmp.words 0 8) w k)

/-- Execute the elements of an ATOMIC tile: one HDP ATOMIC each here (R161), one message elsewhere. -/
def Fabric.tileAtomics (f : Fabric) (p : Nat) (r : Run) (t : Tile) : Fabric :=
  let w := atopWidth (dAtop r.words)
  let (ops, cmps) := r.operands t
  if paNode t.dstPa = f.rtr.seated then
    let f := f.updTile p r.id t.id fun t => { t with phase := .atomics, pend := t.size }
    (List.range t.size).foldl (fun g i =>
      g.hdpSend { kind := .atomic, addr := paLocal t.dstPa + w * i, atop := dAtop r.words,
                  data := [w64 (ops.getD i 0), w64 (cmps.getD i 0), 0, 0, 0, 0, 0, 0],
                  purpose := .tileAt p r.id t.id i }) f
  else
    let f := f.updTile p r.id t.id fun t => { t with phase := .atomics, pend := 1 }
    f.request p r t.id
      { kind := .atomic, dst := paNode t.dstPa, src := 0, cls := 0, units := t.size, atop := dAtop r.words,
        addr := paLocal t.dstPa,
        data := packElems w 0 ops ++ if isCas (dAtop r.words) then packElems w 0 cmps else [] }

/-! ### Progress of a tile -/

/-- A tile is done: its units count as taken effect (R116). -/
def Fabric.tileDone (f : Fabric) (p : Nat) (r : Run) (t : Tile) : Fabric :=
  let bytes := if !r.pageMove && dKind r.words = 5 then atopWidth (dAtop r.words) * t.size else 64 * t.size
  let f := f.updRun p r.id fun r =>
    { r with tiles := r.tiles.filter (fun y => y.id != t.id), done := r.done + t.size, lastProgress := f.tick }
  f.updCounts p r fun e => { e with bytes := e.bytes + bytes }

/-- A tile ends without effect of its own (its run's outcome is fixed, or it was a list line). -/
def Fabric.tileDrop (f : Fabric) (p : Nat) (r : Run) (t : Tile) : Fabric :=
  f.updRun p r.id fun r => { r with tiles := r.tiles.filter fun y => y.id != t.id }

/-- Additional data of a page's GCM (R472). -/
def sealAad (index gen : Nat) (weight : Bool) : List Word := [w64 index, pack [(7, 0, gen), (15, 8, b2n weight)]]

/-- A tag entry (Table 13.9). -/
def tagEntry (tag nonce : List Word) (gen : Nat) : List Word :=
  [ wd tag 0, wd tag 1, wd nonce 0, pack [(31, 0, fld (wd nonce 1) 31 0), (39, 32, gen), (40, 40, 1)], 0, 0, 0, 0 ]

def tagGenOf (e : List Word) : Nat := fld (wd e 3) 39 32
def tagValidOf (e : List Word) : Bool := bit (wd e 3) 40
def tagNonce (e : List Word) : List Word := [wd e 2, w64 (fld (wd e 3) 31 0)]

/-- A sealed source that moves unchanged: sealed destination of the same key slot and page index, GEN
current (Table 13.10, first row). -/
def Fabric.sealDirect (f : Fabric) (p : Nat) (t : Tile) : Bool :=
  match t.srcSeal, t.dstSeal with
  | some s, some d =>
    s.slot == d.slot && s.index == d.index && tagValidOf t.tag && tagGenOf t.tag == ((f.part p).keys.get s.slot {}).gen
  | _, _ => false

/-- The key of the generation that a source page's tag entry names, if the slot still holds it. -/
def KeySlot.keyOf (k : KeySlot) (gen : Nat) : Option (List Word) :=
  if !k.loaded then none
  else if k.gen = gen then some k.key
  else match k.retiring with
    | some (g, key) => if g = gen then some key else none
    | none => none

/-- Seal a page under a destination (R473): the new data and tag entry, or none at the limit of 2³¹ and where the slot is EMPTY and
so has no current generation (log entry 55). -/
def Fabric.sealPage (f : Fabric) (p : Nat) (r : Run) (t : Tile) (d : Sealing) (plain : List Word) : Fabric × Option (List Word × List Word) :=
  let k := (f.part p).keys.get d.slot {}
  if d.key.isEmpty then
    let (f, v) := f.draw
    (f.sealFault p r (fld v 7 0) d.slot d.gen t.dstVa, none)
  else if k.sealedPages ≥ 2 ^ 31 && k.gen = d.gen then (f.sealFault p r 6 d.slot d.gen t.dstVa, none)
  else
    let (f, nonce) := f.nonce p
    let (ct, tag) := Config.gcmSeal d.key nonce (sealAad d.index d.gen d.weight) plain
    let f := if k.gen = d.gen then
        f.updPart p fun x => { x with keys := x.keys.set d.slot { k with sealedPages := k.sealedPages + 1 } }
      else f
    let f := if k.gen = d.gen && k.sealedPages + 1 = 2 ^ 31 then
        f.notify p (keyEvent p r.tag 6 d.slot d.gen 0 t.dstVa (f.listIdOf p r.src) r.src.slot)
      else f
    (f, some (takePad 512 ct, tagEntry tag nonce d.gen))

/-- The data of a tile is complete: convert it under Table 13.10 and write it (R476), or fail the tile. -/
def Fabric.tileConvert (f : Fabric) (p : Nat) (r : Run) (t : Tile) : Fabric :=
  let data := if t.zeros then zeros (8 * t.size) else t.data.words 0 (8 * t.size)
  let write (f : Fabric) (ws tag : List Word) (hdpConf flitConf : Bool) : Fabric :=
    (f.updTile p r.id t.id fun t => { t with phase := .write, tag := tag }).tileWrite p r t.id t.dstPa ws hdpConf flitConf
  if f.sealDirect p t then write f data t.tag false true
  else
    let opened : Fabric × Option (List Word) :=
      match t.srcSeal with
      | none => (f, some data)
      | some s =>
        if !tagValidOf t.tag then (f.sealFault p r 3 s.slot (tagGenOf t.tag) t.srcVa, none)
        else if s.key.isEmpty then (f.sealFault p r 4 s.slot (tagGenOf t.tag) t.srcVa, none)
        else
          match Config.gcmOpen s.key (tagNonce t.tag) (sealAad s.index s.gen s.weight) data [wd t.tag 0, wd t.tag 1] with
          | some plain => (f, some (takePad 512 plain))
          | none => (f.sealFault p r 3 s.slot s.gen t.srcVa, none)
    match opened with
    | (f, none) => f.tileDrop p r t
    | (f, some plain) =>
      match t.dstSeal with
      | none => write f plain [] t.srcSeal.isSome false
      | some d =>
        if d.weight then
          let (f, v) := f.draw
          (f.sealFault p r (fld v 7 0) d.slot d.gen t.dstVa).tileDrop p r t
        else
          match f.sealPage p r t d plain with
          | (f, none) => f.tileDrop p r t
          | (f, some (ct, tag)) => write f ct tag false true

/-- The 64 B unit of a tile's operands and old values. -/
def Run.unitOf (r : Run) (t : Tile) : Nat := t.pos / (64 / atopWidth (dAtop r.words))

/-- Write the 64 B unit of a tile's old values at RET_VA (R153): the old values of the unit's elements executed so far, and
zero for the others and past the last element (log entry 157). -/
def Fabric.retWrite (f : Fabric) (p : Nat) (r : Run) (t : Tile) (pa : Nat) : Fabric :=
  let w := atopWidth (dAtop r.words)
  let per := 64 / w
  let u := r.unitOf t
  let need := rangeFrom (u * per) (min per (r.total - u * per))
  match f.run p r.id with
  | none => f
  | some r' =>
    let es := need.map fun i => (r'.retUnits.get i 0).toNat
    let f := if need.all fun i => (r'.retUnits.find i).isSome then
        f.updRun p r.id fun r => { r with retUnits := r.retUnits.filter fun e => !need.contains e.1 }
      else f
    (f.updTile p r.id t.id fun t => { t with phase := .ret }).tileWrite p r t.id pa (packElems w 0 es) false false

/-- Old values of an ATOMIC tile come (R153): the tile writes its 64 B unit, after an earlier write of the same unit. -/
def Fabric.tileReturn (f : Fabric) (p : Nat) (r : Run) (t : Tile) (olds : List Nat) : Fabric :=
  let f := f.updRun p r.id fun r => { r with retUnits := r.retUnits.setList t.pos (olds.map w64) }
  match t.retPa with
  | none => f.tileDone p r t
  | some pa =>
    let busy := r.tiles.any fun o => o.id != t.id && o.phase == .ret && r.unitOf o == r.unitOf t
    if busy then f.updTile p r.id t.id fun t => { t with phase := .retWait, pend := 0 } else f.retWrite p r t pa

/-- The write of a unit of old values is acknowledged: its tile is done, and a tile that waits for the unit writes it. -/
def Fabric.retDone (f : Fabric) (p : Nat) (r : Run) (t : Tile) : Fabric :=
  let f := f.tileDone p r t
  match r.tiles.find? fun o => o.phase == .retWait && r.unitOf o == r.unitOf t with
  | some o => match o.retPa with | some pa => f.retWrite p r o pa | none => f
  | none => f

/-- Entries of a list line become known to the run. -/
def Run.learn (r : Run) (dst : Bool) (line : Nat) (ws : List Word) : Run :=
  if r.pageMove then
    { r with srcList := r.srcList.setList (16 * line) (ws.flatMap fun w => [w64 (fld w 31 0), w64 (fld w 63 32)]) }
  else if dst then { r with dstList := r.dstList.setList (8 * line) ws }
  else { r with srcList := r.srcList.setList (8 * line) ws }

/-- Every answer of a tile's phase has come: go to its next phase. -/
def Fabric.tileNext (f : Fabric) (p : Nat) (r : Run) (t : Tile) : Fabric :=
  match t.phase with
  | .list dst line => (f.updRun p r.id fun r => r.learn dst line (t.data.words 0 8)).tileDrop p r t
  | .tagRead =>
    let tag := t.data.words 0 8
    let s := t.srcSeal.map fun s =>
      let k := (f.part p).keys.get s.slot {}
      { s with gen := tagGenOf tag, key := (k.keyOf (tagGenOf tag)).getD [] }
    let f := f.updTile p r.id t.id fun t => { t with phase := .read, tag := tag, data := [], srcSeal := s }
    f.tileRead p r t.id t.srcPa t.size true
  | .read =>
    if !r.pageMove && dKind r.words = 5 then
      if isCas (dAtop r.words) then
        match t.cmpPa with
        | some pa => (f.updTile p r.id t.id fun t => { t with phase := .compare }).tileRead p r t.id pa 1
        | none => f.tileAtomics p r t
      else f.tileAtomics p r t
    else f.tileConvert p r t
  | .compare => f.tileAtomics p r t
  | .write =>
    match t.dstSeal with
    | some d =>
      match d.tagPa with
      | some pa => (f.updTile p r.id t.id fun t => { t with phase := .tagWrite }).tileWrite p r t.id pa t.tag false true
      | none => f.violate.tileDone p r t
    | none => f.tileDone p r t
  | .tagWrite => f.tileDone p r t
  | .atomics =>
    if dRet r.words then f.tileReturn p r t ((List.range t.size).map fun i => (t.old.get i 0).toNat)
    else f.tileDone p r t
  | .ret => f.retDone p r t
  | .retWait => f

/-- Data for the phase of a tile. -/
def Tile.put (t : Tile) (off : Nat) (ws : List Word) : Tile :=
  match t.phase with
  | .compare => { t with cmp := t.cmp.setList off ws }
  | _ => { t with data := t.data.setList off ws }

/-! ### The hall pass (R160) -/

/-- A node is this device's own. -/
def Fabric.own (f : Fabric) (pa : Nat) : Bool := paNode pa == f.rtr.seated

/-- An access goes to this device's own host die; none: there is no access. -/
def Fabric.ownTo (f : Fabric) : Option Nat → Bool
  | some pa => f.own pa
  | none => false

/-- A tile's phase waits for a local answer (R160). -/
def Fabric.tileLocal (f : Fabric) (t : Tile) : Bool :=
  match t.phase with
  | .read => f.own t.srcPa
  | .compare => f.ownTo t.cmpPa
  | .write => f.own t.dstPa
  | .atomics => f.own t.dstPa
  | .tagRead => f.ownTo (t.srcSeal.bind (·.tagPa))
  | .tagWrite => f.ownTo (t.dstSeal.bind (·.tagPa))
  | .ret => f.ownTo t.retPa
  | .retWait => false
  | .list _ _ => f.own t.srcPa

/-- The access that a tile makes after its present phase is local. -/
def Fabric.nextOwn (f : Fabric) (r : Run) (t : Tile) : Bool :=
  match t.phase with
  | .tagRead => f.own t.srcPa
  | .read =>
    if !r.pageMove && dKind r.words = 5 then (if isCas (dAtop r.words) then f.ownTo (some (t.cmpPa.getD t.dstPa)) else f.own t.dstPa)
    else f.own t.dstPa
  | .compare => f.own t.dstPa
  | .write => f.ownTo (t.dstSeal.bind (·.tagPa))
  | .atomics => f.ownTo t.retPa
  | _ => false

/-- A tile has no remote request left to hand to the router core. -/
def Fabric.tileHanded (f : Fabric) (t : Tile) : Bool :=
  let remoteTag := match t.dstSeal.bind (·.tagPa) with | some pa => !f.own pa | none => false
  match t.phase with
  | .list _ _ => true
  | .tagRead => f.own t.srcPa && f.own t.dstPa && !remoteTag
  | .read => f.own t.dstPa && !remoteTag
  | .compare => f.own t.dstPa
  | .write => !remoteTag
  | .atomics => match t.retPa with | some a => f.own a | none => true
  | .retWait => match t.retPa with | some a => f.own a | none => true
  | _ => true

/-- R160: an HP descriptor issues nothing until every earlier descriptor of its list has handed all of its
request flits to the router core. -/
def Fabric.hpHanded (f : Fabric) (p : Nat) (r : Run) : Bool :=
  match r.src with
  | .mailbox _ => true
  | .list l s =>
    (f.part p).runs.all fun o =>
      match o.src with
      | .list l' s' =>
        !(l' == l && s' < s) ||
          (o.fin.isSome || o.nextPos ≥ o.total) && o.tiles.all f.tileHanded &&
            !(f.rtr.reqs.any fun e => e.2.part == p && e.2.run == o.id && f.rtr.outbox.any fun m => m.reqId == e.1)
      | .mailbox _ => true

/-- Local accesses of the context's other descriptors that an HP descriptor waits for (R160). -/
def Fabric.localWaits (f : Fabric) (p : Nat) (r : Run) : List (Nat × Nat × TilePhase) :=
  ((f.part p).runs.filter fun o => o.tag == r.tag && o.id != r.id).flatMap fun o =>
    (o.tiles.filter f.tileLocal).map fun t => (o.id, t.id, t.phase)

/-- Some of those local accesses is still unanswered. -/
def Fabric.stillLocal (f : Fabric) (p : Nat) (ws : List (Nat × Nat × TilePhase)) : Bool :=
  ws.any fun (id, tile, ph) =>
    match f.run p id with
    | some o => o.tiles.any fun t => t.id == tile && t.phase == ph
    | none => false

/-- A run carries the hall pass. -/
def Run.hp (r : Run) : Bool := !r.pageMove && dHp r.words

/-- The first access of a tile of a run, at `pa`: a local one of an HP descriptor waits until every local access that other
descriptors of its context issued before its first access has been answered; a remote one does not wait (R160). -/
def Fabric.hpGate (f : Fabric) (p : Nat) (r : Run) (pa : Nat) (k : Fabric → Fabric) : Fabric :=
  if !r.hp then k f
  else
    let ws := r.hpWait.getD (f.localWaits p r)
    if f.own pa && f.stillLocal p ws then f.updRun p r.id fun r => { r with hpHold := true }
    else k (f.updRun p r.id fun r => { r with hpWait := some ws, hpHold := false })

/-- An HP descriptor waits only on other descriptors (R412, R413). -/
def Fabric.hpWaits (f : Fabric) (p : Nat) (r : Run) : Bool :=
  r.hp && (r.tiles.all fun t => t.blocked) &&
    (!f.hpHanded p r || (r.hpHold || !r.tiles.isEmpty) && f.stillLocal p (r.hpWait.getD (f.localWaits p r)))

/-- A tile's phase is over: it goes to its next phase, unless that access is local and waits under R160. -/
def Fabric.tileStep (f : Fabric) (p : Nat) (r : Run) (t : Tile) : Fabric :=
  if r.hp && f.nextOwn r t && f.stillLocal p (r.hpWait.getD []) then f.updTile p r.id t.id fun t => { t with blocked := true }
  else f.tileNext p r t

/-- Tiles of HP descriptors whose local accesses need wait no more go on (R160). -/
def Fabric.hpWake (f : Fabric) (p : Nat) : Fabric :=
  let ready := (f.part p).runs.flatMap fun r =>
    if r.tiles.any (·.blocked) && !f.stillLocal p (r.hpWait.getD []) then (r.tiles.filter (·.blocked)).map fun t => (r.id, t.id) else []
  ready.foldl (fun g e =>
    match g.run p e.1 with
    | none => g
    | some r =>
      match r.tiles.find? fun t => t.id == e.2 with
      | none => g
      | some t => (g.updTile p r.id t.id fun t => { t with blocked := false }).tileNext p r t) f

/-- What follows an answer in a partition: hall passes go on, and runs that are over complete. -/
def Fabric.moveOn (f : Fabric) (p : Nat) : Fabric := (f.hpWake p).settleAll p

/-- One answer of a tile has come; when its phase waits for no more, the tile moves on. An answer whose descriptor is gone
does nothing. -/
def Fabric.tileAnswer (f : Fabric) (p id tile : Nat) (g : Tile → Tile) : Fabric :=
  let h := (f.updRun p id fun r => { r with lastProgress := f.tick }).updTile p id tile fun t => { g t with pend := t.pend - 1 }
  match h.run p id with
  | none => f
  | some r =>
    let f := h
    match r.tiles.find? fun t => t.id == tile with
    | none => f
    | some t => if t.pend = 0 then (f.tileStep p r t).moveOn p else f

/-- Poisoned data for a tile: it is used in nothing (R63, R560). -/
def Fabric.tilePoison (f : Fabric) (p id tile addr : Nat) : Fabric :=
  match f.run p id with
  | none => f
  | some r =>
    match r.tiles.find? fun t => t.id == tile with
    | none => f
    | some t => ((f.poisonFault p r addr).tileDrop p r t).moveOn p

/-! ### Issuing tiles -/

/-- Sealing of one side of a tile, from the segment's binding and the translation of its tag entry. -/
inductive SealSide where
  | plain
  | sealed_ (s : Sealing) (va : Nat)
  | unbound
  | fault (reason level va : Nat)
  | miss (va : Nat)
  | zeroTag (s : Sealing)
  deriving DecidableEq, Repr

/-- Resolve one side of a tile that touches a sealed page (R471, R472, R475). -/
def Fabric.sealSide (f : Fabric) (tag va seg : Nat) (isSealed write : Bool) : SealSide :=
  if !isSealed then .plain
  else
    let c := f.ctx tag
    match c.seals.find seg, c.segs.find seg with
    | some b, some s =>
      let i := (va - s.base) / 4096
      let k := (f.part (tagPart tag)).keys.get b.keySlot {}
      let base : Sealing := { slot := b.keySlot, weight := k.weight, index := i, tagPa := none, gen := k.gen, key := if k.loaded then k.key else [] }
      match f.check tag (b.tagBase + 64 * i) (if write then .write else .read) with
      | .ok pa _ sg => .sealed_ { base with tagPa := some pa, tagUse := (sg, b.tagBase + 64 * i, 64) } va
      | .miss => .miss (b.tagBase + 64 * i)
      | .fault rs l => .fault rs l (b.tagBase + 64 * i)
      | .violation => .zeroTag base
    | _, _ => .unbound

/-- Put a tile into a run at its present position. -/
def Fabric.addTile (f : Fabric) (p : Nat) (r : Run) (t : Tile) : Fabric :=
  let f := f.count p fun c => { c with tlbHit := c.tlbHit + (max 1 t.uses.length - r.missed) }
  f.updRun p r.id fun r =>
    { r with tiles := r.tiles ++ [{ t with id := r.nextTile }], nextTile := r.nextTile + 1, missed := 0,
             nextPos := r.nextPos + (match t.phase with | .list _ _ => 0 | _ => t.size), lastProgress := f.tick }

/-- A span that issues no access counts as carried out (R166). -/
def Fabric.countSpan (f : Fabric) (p : Nat) (r : Run) (size : Nat) (counted : Bool) : Fabric :=
  let bytes := if !r.pageMove && dKind r.words = 5 then atopWidth (dAtop r.words) * size else 64 * size
  let f := f.updRun p r.id fun r => { r with nextPos := r.nextPos + size, done := if counted then r.done + size else r.done, lastProgress := f.tick }
  if counted then f.updCounts p r fun e => { e with bytes := e.bytes + bytes } else f

/-- Wait for a translation: the run's demand takes a walker, or waits for one (R111). -/
def Fabric.demand (f : Fabric) (r : Run) (va : Nat) (a : Access) : Fabric :=
  let p := tagPart r.tag
  let g := f.startWalk r.tag va (.demand r.id a.code)
  if (g.part p).nextWalk != (f.part p).nextWalk then g.updRun p r.id fun r => { r with missed := r.missed + 1, want := none }
  else if (f.part p).walks.any fun w => w.for_ == .demand r.id a.code && w.va / 4096 == va / 4096 && !w.aborted then g
  else g.updRun p r.id fun r => { r with want := some (va, a.code) }

/-- Walkers that come free go to the demand misses that wait, before any prefetch (R111). -/
def Fabric.pumpDemand (f : Fabric) (p : Nat) : Fabric :=
  (f.part p).runs.foldl (fun g r =>
    match r.want with
    | none => g
    | some (va, a) =>
      let h := g.startWalk r.tag va (.demand r.id a)
      if (h.part p).nextWalk != (g.part p).nextWalk then h.updRun p r.id fun r => { r with missed := r.missed + 1, want := none }
      else g) f

/-- A page-list or index-table line is read from its virtual address (R149, R150, R258). -/
def Fabric.issueList (f : Fabric) (p : Nat) (r : Run) (dst : Bool) (line : Nat) : Fabric :=
  if r.tiles.any fun t => t.phase == .list dst line then f
  else
    let base := if r.pageMove then wn r.words 2 else if dst then wn r.words 2 else wn r.words 1
    let va := base + 64 * line
    match f.check r.tag va .read with
    | .violation => (f.violate).updRun p r.id fun r => r.learn dst line (zeros 8)
    | .miss => f.demand r va .read
    | .fault rs l => f.pageFault p r rs l 0 va
    | .ok pa _ seg =>
      if r.pageMove && !f.own pa then f.fix p r.id stFaulted 4
      else
        let t : Tile := { id := 0, pos := r.nextPos, size := 0, phase := .list dst line, srcVa := va, srcPa := pa, uses := [(seg, va, 64)] }
        f.hpGate p r pa fun f => (f.addTile p r t).tileRead p r r.nextTile pa 1

/-- Issue a FILL tile (R145, Table 4.6). -/
def Fabric.issueFill (f : Fabric) (p : Nat) (r : Run) (size va : Nat) : Fabric :=
  match f.check r.tag va .write with
  | .violation => f.violate.countSpan p r size true
  | .miss => f.demand r va .write
  | .fault rs l => f.pageFault p r rs l 1 va
  | .ok pa sl seg =>
    if sl then f.violate.countSpan p r size true
    else
      let t : Tile := { id := 0, pos := r.nextPos, size := size, phase := .write, dstVa := va, dstPa := pa, uses := [(seg, va, 64 * size)] }
      f.hpGate p r pa fun f =>
      let f := f.addTile p r t
      let pat := wd r.words 1
      if f.own pa then f.tileWrite p r r.nextTile pa (List.replicate (8 * size) pat) false false
      else
        let f := f.updTile p r.id r.nextTile fun t => { t with pend := 1 }
        f.request p r r.nextTile { kind := .fill, dst := paNode pa, src := 0, cls := 0, units := size, addr := paLocal pa, data := [pat] }

/-- The RET side of an ATOMIC tile: no old values, where they go with the segment, a violation, or a wait. -/
inductive RetSide where
  | none_
  | at_ (pa seg : Nat)
  | refused
  | wait (f : Fabric)

/-- A RET access that is a violation counts (R166). -/
def RetSide.count (s : RetSide) (f : Fabric) : Fabric :=
  match s with
  | .refused => f.violate
  | _ => f

/-- Issue an ATOMIC tile (R152, R153, R161). -/
def Fabric.issueAtomic (f : Fabric) (p : Nat) (r : Run) (size va : Nat) : Fabric :=
  let ws := r.words
  let w := atopWidth (dAtop ws)
  let per := 64 / w
  let u := r.nextPos / per
  let cas := isCas (dAtop ws)
  let retVa := wn ws 3 + 64 * u
  let ret : RetSide :=
    if !dRet ws then .none_
    else match f.check r.tag retVa .write with
      | .ok pa sl seg => if sl then .refused else .at_ pa seg
      | .violation => .refused
      | .miss => .wait (f.demand r retVa .write)
      | .fault rs l => .wait (f.pageFault p r rs l 1 retVa)
  let (retPa, retUse) : Option Nat × List (Nat × Nat × Nat) := match ret with
    | .at_ pa seg => (some pa, [(seg, retVa, 64)])
    | _ => (none, [])
  let t0 : Tile := { id := 0, pos := r.nextPos, size := size, phase := .read, dstVa := va, retPa := retPa, uses := retUse }
  match f.check r.tag va .atomic, ret with
  | .miss, _ => f.demand r va .atomic
  | .fault rs l, _ => f.pageFault p r rs l 2 va
  | _, .wait g => g
  | .violation, ret =>
    let f := (ret.count f.violate).addTile p r { t0 with phase := .atomics }
    f.tileReturn p r { t0 with id := r.nextTile, phase := .atomics } (List.replicate size 0)
  | .ok pa sl seg, ret =>
    if sl then
      let f := (ret.count f.violate).addTile p r { t0 with phase := .atomics }
      f.tileReturn p r { t0 with id := r.nextTile, phase := .atomics } (List.replicate size 0)
    else
      let t := { t0 with dstPa := pa, uses := (seg, va, w * size) :: t0.uses }
      if dImm ws then
        f.hpGate p r pa fun f => ((ret.count f).addTile p r t).tileAtomics p r { t with id := r.nextTile }
      else
        let srcVa := wn ws 2 + 64 * u
        let cmpVa := wn ws 4 + 64 * u
        match f.check r.tag srcVa .read, (if cas then f.check r.tag cmpVa .read else .ok 0 false 8) with
        | .miss, _ => f.demand r srcVa .read
        | .fault rs l, _ => f.pageFault p r rs l 0 srcVa
        | _, .miss => f.demand r cmpVa .read
        | _, .fault rs l => f.pageFault p r rs l 0 cmpVa
        | a, c =>
          let (cmpPa, cmpUse, cmpBad) : Option Nat × List (Nat × Nat × Nat) × Bool := match c with
            | .ok pa sl seg => if sl then (none, [], true) else if cas then (some pa, [(seg, cmpVa, 64)], false) else (none, [], false)
            | _ => (none, [], true)
          let t := { t with srcVa := srcVa, cmpPa := cmpPa, uses := cmpUse ++ t.uses }
          let viol (f : Fabric) : Fabric := ret.count (if cmpBad then f.violate else f)
          match a with
          | .ok spa false seg =>
            f.hpGate p r spa fun f =>
              ((viol f).addTile p r { t with srcPa := spa, uses := (seg, srcVa, 64) :: t.uses }).tileRead p r r.nextTile spa 1
          | _ =>
            f.hpGate p r (cmpPa.getD pa) fun f => ((viol f.violate).addTile p r t).tileNext p r { t with id := r.nextTile }

/-- Issue a LOAD, STORE, COPY or PAGE_MOVE tile (R146, R147, R166, R475, R476). -/
def Fabric.issueMove (f : Fabric) (p : Nat) (r : Run) (size srcVa dstVa : Nat) : Fabric :=
  let load := !r.pageMove && dKind r.words == 1
  let store := !r.pageMove && dKind r.words == 2
  match f.check r.tag dstVa .write with
  | .violation => f.violate.countSpan p r size true
  | .miss => f.demand r dstVa .write
  | .fault rs l => f.pageFault p r rs l 1 dstVa
  | .ok dpa dsl dseg =>
    if load && !f.own dpa then f.fix p r.id stFaulted 4
    else
      match f.check r.tag srcVa .read with
      | .miss => f.demand r srcVa .read
      | .fault rs l => f.pageFault p r rs l 0 srcVa
      | srcT =>
        let (spa, ssl, sseg, zero) := match srcT with
          | .ok pa sl sg => (pa, sl, sg, false)
          | _ => (0, false, 8, true)
        if store && !zero && !f.own spa then f.fix p r.id stFaulted 4
        else if (ssl || dsl) && !(size = 64 && srcVa % 4096 = 0 && dstVa % 4096 = 0) then
          f.sealFault p r 0x0D 0xFF 0 (if ssl then srcVa else dstVa)
        else
          let seen (f : Fabric) : Fabric := if zero then f.violate else f
          match f.sealSide r.tag srcVa sseg ssl false, f.sealSide r.tag dstVa dseg dsl true with
          | .unbound, _ => f.sealFault p r 0x0B 0xFF 0 srcVa
          | _, .unbound => f.sealFault p r 0x0B 0xFF 0 dstVa
          | .miss va, _ => f.demand r va .read
          | _, .miss va => f.demand r va .write
          | .fault rs l va, _ => f.pageFault p r rs l 0 va
          | _, .fault rs l va => f.pageFault p r rs l 1 va
          | ss, ds =>
            let sOf : SealSide → Option Sealing
              | .sealed_ s _ => some s
              | .zeroTag s => some s
              | _ => none
            let tagUses (s : Option Sealing) : List (Nat × Nat × Nat) :=
              match s with | some s => (if s.tagPa.isSome then [s.tagUse] else []) | none => []
            let t : Tile :=
              { id := 0, pos := r.nextPos, size := size, phase := .read, srcVa := srcVa, dstVa := dstVa, srcPa := spa,
                dstPa := dpa, zeros := zero, srcSeal := sOf ss, dstSeal := sOf ds,
                uses := (if zero then [] else [(sseg, srcVa, 64 * size)]) ++ [(dseg, dstVa, 64 * size)] ++
                  tagUses (sOf ss) ++ tagUses (sOf ds) }
            let plainRead : Fabric :=
              if zero then f.hpGate p r dpa fun f => ((seen f).addTile p r t).tileNext p r { t with id := r.nextTile }
              else f.hpGate p r spa fun f => (f.addTile p r t).tileRead p r r.nextTile spa size
            let tagRead (s : Sealing) : Fabric :=
              let t := { t with phase := .tagRead }
              match s.tagPa with
              | some pa => f.hpGate p r pa fun f => (f.addTile p r t).tileRead p r r.nextTile pa 1 true
              | none => f.hpGate p r spa fun f => (f.violate.addTile p r t).tileNext p r { t with id := r.nextTile }
            match t.srcSeal, t.dstSeal with
            | some s, none => if !f.own dpa then f.sealFault p r 0x0C s.slot s.gen srcVa else tagRead s
            | some s, some d =>
              if d.weight && !(s.slot == d.slot && s.index == d.index) then
                let (f, v) := f.draw
                f.sealFault p r (fld v 7 0) d.slot d.gen dstVa
              else tagRead s
            | none, some d =>
              if d.weight then
                let (f, v) := f.draw
                f.sealFault p r (fld v 7 0) d.slot d.gen dstVa
              else plainRead
            | none, none => plainRead

/-- An engine issues its next tile (R132), or waits: for a walk, for its list line, for the hall-pass
conditions of R160, or because its outcome is fixed. -/
def Fabric.issueTile (f : Fabric) (p e : Nat) : Fabric :=
  match (f.part p).onEngine e with
  | none => f
  | some r =>
    if r.fin.isSome || (f.part p).stalled.contains e then f
    else
      if r.hp && !f.hpHanded p r then f
      else
        let f := match r.next with
          | .finished => f
          | .needList dst line => f.issueList p r dst line
          | .skip n => f.countSpan p r n false
          | .bad => f.formatFault p r
          | .tile size s d =>
            if !r.pageMove && dKind r.words = 4 then f.issueFill p r size d
            else if !r.pageMove && dKind r.words = 5 then f.issueAtomic p r size d
            else f.issueMove p r size s d
        f.moveOn p

/-! ### Starting descriptors -/

/-- The next startable descriptor of a context (R133): a mailbox-issued one first, else the next slot of
its first list with unstarted slots, unless a FENCE of that list is running (R158). -/
def Fabric.startable (f : Fabric) (tag : Nat) : Option (RunSrc × List Word × Bool) :=
  let p := tagPart tag
  let x := f.part p
  match x.issued.find? fun i => i.tag == tag with
  | some i => some (.mailbox i.mbx, i.words, i.pageMove)
  | none =>
    match x.lists.find? fun l => l.tag == tag && !l.finished && l.nextStart < l.count with
    | none => none
    | some l =>
      if l.sweep.isSome then none
      else if x.runs.any fun r => (match r.src with | .list i _ => i == l.id | _ => false) && dKind r.words == 6 then none
      else (l.fetched.find l.nextStart).map fun ws => (.list l.id l.nextStart, ws, false)

/-- A resumed descriptor of a context that waits for an engine (R116). -/
def Fabric.readyRun (f : Fabric) (tag : Nat) : Option Run :=
  (f.part (tagPart tag)).runs.find? fun r => r.tag == tag && r.phase == .ready

/-- LIVE contexts of a partition with work to start, with their slots. -/
def Fabric.candidates (f : Fabric) (p : Nat) : List (Nat × Ctx) :=
  (f.part p).ctxs.filter fun (s, c) =>
    c.state == .live && ((f.readyRun (mkTag p s c.gen)).isSome || (f.startable (mkTag p s c.gen)).isSome)

/-- Start a descriptor on an engine: format check first (R145), a poisoned slot fails (R63), NOP and empty
work complete at once. -/
def Fabric.startRun (f : Fabric) (p e tag : Nat) (src : RunSrc) (ws : List Word) (pm : Bool) : Fabric :=
  let x := f.part p
  let r : Run := { id := x.nextRun, tag := tag, src := src, words := ws, phase := .running e, startTick := f.tick, lastProgress := f.tick,
                   pageMove := pm, lastEng := e, cmdId := f.cmdIdOf p src }
  let f := f.setPart p { x with runs := x.runs ++ [r], nextRun := x.nextRun + 1 }
  let f := match src with
    | .list l s => f.updList p l fun l => { l with nextStart := s + 1, started := true, fetched := l.fetched.del s }
    | .mailbox m => f.updPart p fun x => { x with issued := x.issued.filter fun i => i.mbx != m }
  let f := if ws.isEmpty then f.fix p r.id stFaulted 2
    else if (if pm then pageMoveBad ws else descBad ws) then f.formatFault p r
    else f
  f.settleAll p

/-- A free engine takes the next descriptor, chosen among the LIVE contexts by smooth weighted round robin
(R135): each candidate gains its WEIGHT, the highest runs and pays the sum. Of two candidates with equal counts the one in
the lower slot runs (DESIGN CHOICE, log entry 158). -/
def Fabric.startDescriptor (f : Fabric) (p e : Nat) : Fabric :=
  let x := f.part p
  if (x.onEngine e).isSome || x.draining || x.disabled || x.eResets.any (fun r => r.eng == e) || e ≥ 6 then f
  else
    let cs := f.candidates p
    let total := cs.foldl (fun a c => a + c.2.weight) 0
    let f := cs.foldl (fun g c => g.updPart p fun x => x.updCtx c.1 fun d => { d with rr := d.rr + d.weight }) f
    let best := cs.foldl (fun (b : Option (Nat × Int)) c =>
      let v := c.2.rr + c.2.weight
      match b with
      | some (_, w) => if w < v then some (c.1, v) else b
      | none => some (c.1, v)) none
    match best with
    | none => f
    | some (s, _) =>
      let tag := mkTag p s ((f.part p).ctx s).gen
      let f := f.updPart p fun x => x.updCtx s fun d => { d with rr := d.rr - total }
      match f.readyRun tag with
      | some r => f.updRun p r.id fun r => { r with phase := .running e, lastEng := e, lastProgress := f.tick }
      | none =>
        match f.startable tag with
        | some (src, ws, pm) => f.startRun p e tag src ws pm
        | none => f

/-! ### Timeouts -/

/-- A request of a run's context closes now (R426, step 5). -/
def Fabric.noteClose (f : Fabric) (p id : Nat) : Fabric :=
  match f.run p id with
  | some r => f.updCtx r.tag fun c => { c with lastClose := f.tick }
  | none => f

/-- Close the open requests of a run; later arrivals find them closed (R169, R170). A request that the router core does not
have yet is never sent. -/
def Fabric.closeRequests (f : Fabric) (p : Nat) (r : Run) : Fabric :=
  let own (q : Request) : Bool := q.part == p && q.run == r.id
  let mine := f.rtr.reqs.filter fun e => own e.2
  let f := if mine.isEmpty then f else f.noteClose p r.id
  let unsent (o : OutMsg) : Bool := o.kind.request && mine.any fun e => e.1 == o.reqId && !e.2.handed
  { f with rtr := { f.rtr with reqs := f.rtr.reqs.filter (fun e => !own e.2), outbox := f.rtr.outbox.filter (fun o => !unsent o),
                               closed := (mine.filter fun e => e.2.handed).foldl (fun m e => m.set e.1 (p, f.entryOf p r.src, r.cmdId)) f.rtr.closed } }

/-- End a run with an outcome and drop its tiles in flight: answers of its local accesses find no tile. -/
def Fabric.abandon (f : Fabric) (p : Nat) (r : Run) (status detail : Nat) : Fabric :=
  let f := f.closeRequests p r
  let f := f.updRun p r.id fun r => { r with tiles := [], fin := some (status, detail) }
  f.moveOn p

/-- Ref ticks that a request's timer has run since the router core got it (R117, R167). -/
def Fabric.elapsed (f : Fabric) (q : Request) (tag : Nat) : Nat :=
  (f.tick - q.start) - ((f.ctx tag).outNow f.tick - q.outAt)

/-- The bound of a remote request expires (R169). -/
def Fabric.requestTimeout (f : Fabric) (reqId : Nat) : Fabric :=
  match f.rtr.reqs.find reqId with
  | none => f
  | some q =>
    match f.run q.part q.run with
    | none => f
    | some r =>
      if q.handed && f.elapsed q r.tag ≥ q.bound && (f.ctx r.tag).state != .switchedOut then f.abandon q.part r stTimeout 0 else f

/-- An arrival for a closed request, or for none, is discarded and counted (R170, R427); its REQID is then free. -/
def Fabric.lateArrival (f : Fabric) (tag reqId : Nat) : Fabric :=
  match f.rtr.closed.find reqId with
  | none => f.updPart (tagPart tag) fun x => { x with lateDiscard := sat32 (x.lateDiscard + 1) }
  | some (p, entry, cmdId) =>
    let f := { f with rtr := { f.rtr with closed := f.rtr.closed.del reqId } }
    let f := f.updPart p fun x => { x with lateDiscard := sat32 (x.lateDiscard + 1) }
    if ((f.part p).entries.get entry {}).cmdId = cmdId then f.updEntry p entry fun e => { e with late := e.late + 1 } else f

/-- Close one open request and answer its tile. -/
def Fabric.closeRequest (f : Fabric) (reqId : Nat) : Fabric :=
  let f := match f.rtr.reqs.find reqId with
    | some q => f.noteClose q.part q.run
    | none => f
  { f with rtr := { f.rtr with reqs := f.rtr.reqs.del reqId } }

end Sys2Proof.Machine
end

