-- ==== Sys2Proof/Machine/Context.lean ====
section
/-!
DEFINITION. Contexts, segments, INVALIDATE, prefetch and advice (chapter 03): the commands of Table 3.11
except CTX_DESTROY and CTX_RESUME, the drains they wait for, and what a walk's line does.
-/
namespace Sys2Proof.Machine

/-! ### Tags and the gate of Table 3.11 -/

/-- Check 1 of Table 3.10: a live context of a partition that does not drain for a reset (Table 12.5). -/
def Fabric.targetLive (f : Fabric) (tag : Nat) : Bool := f.tagLive tag && !(f.part (tagPart tag)).draining

/-- The common checks of the 0x01xx and 0x02xx commands: a malformed payload is FAULTED; a source that does
not hold the partition gets the silent answer (R95, R67); of the two the form comes first (DESIGN CHOICE, log entry 154); a partition that the device does not have is
FAULTED; a draining partition answers DRAINING (R139, R557). -/
def ctxGate (bad : Bool) (respLen : Nat) (c : Cmd) (f : Fabric) (k : Fabric → Fabric × Reply) : Fabric × Reply :=
  let p := tagPart c.tag
  if bad then faulted f
  else if !(c.mbx == p || (c.mbx == 32 && !f.confPart p)) then denied respLen f
  else if p ≥ f.partCount || (f.part p).disabled then faulted f
  else if (f.part p).draining then (f, .done stDraining)
  else k f

/-- The gate for commands that need a live context. -/
def liveGate (bad : Bool) (respLen : Nat) (c : Cmd) (f : Fabric) (k : Fabric → Fabric × Reply) : Fabric × Reply :=
  ctxGate bad respLen c f fun f => if f.tagLive c.tag then k f else faulted f

/-! ### CTX_CREATE and CTX_QUERY -/

def ctxCreateBody : Body := fun c f =>
  let w0 := wd c.pay 0
  let w1 := wd c.pay 1
  let weight := fld w1 7 4
  let bad := c.len != 16 || !onlyBits w0 [(47, 12)] || !onlyBits w1 [(7, 4), (0, 0)] || weight < 1 || weight > 8
  ctxGate bad 0 c f fun f =>
    let x := f.ctx c.tag
    let root := w0.toNat
    let ff := bit w1 0
    let p := tagPart c.tag
    if f.tick < (f.part p).quietUntil then (f, .done stBusy)
    else if x.state == .free && tagGen c.tag != 0 && tagGen c.tag != x.retiredGen then
      okay (f.updCtx c.tag fun _ =>
        { state := .live, gen := tagGen c.tag, retiredGen := x.retiredGen, weight := weight, faultFail := ff, root := root }) c.tag
    else if f.tagLive c.tag && x.root == root && x.weight == weight && x.faultFail == ff then okay f c.tag
    else faulted f

/-- Words of the CTX_QUERY response (Table 3.12). -/
def Fabric.ctxWords (f : Fabric) (p s : Nat) : List Word :=
  let x := f.part p
  let c := x.ctx s
  let tag := mkTag p s c.gen
  let st := match c.state with | .free => 0 | .live => 1 | .switchedOut => 2 | .draining => 3
  let mine := x.runs.filter fun r => r.tag == tag && c.state != .free
  let parked := (mine.filter fun r => match r.phase with | .parked _ => true | _ => false).length
  let held := (mine.filter fun r => r.phase == .held).length
  let tlb := x.tlb.filter fun e => e.tag == tag && c.state != .free
  let seg (i : Nat) : List Word := let g := c.segs.get i {}; [g.w0, g.w1, g.w2, g.w3]
  [ pack [(63, 48, if c.state == .free then 0 else tag), (42, 38, c.retiredGen), (37, 36, st), (35, 32, c.weight),
          (31, 16, c.faultSeq), (15, 8, parked), (7, 0, held)],
    pack [(47, 12, c.root / 4096), (0, 0, b2n c.faultFail)],
    pack [(63, 32, (tlb.filter fun e => e.pinned || !e.colls.isEmpty).length), (31, 0, tlb.length)],
    pack [(4, 0, c.advice.length)] ] ++ (List.range 8).flatMap seg

def ctxQueryBody : Body := fun c f =>
  ctxGate (c.len != 0) 288 c f fun f =>
    (f, .done stOk 0 (f.ctxWords (tagPart c.tag) (tagSlot c.tag)) 288)

/-! ### SEG_SET -/

/-- A zero field of a segment descriptor is non-zero (R99). -/
def Seg.zeroBad (s : Seg) : Bool :=
  !onlyBits s.w0 [(56, 21)] || !onlyBits s.w1 [(31, 0)] || !onlyBits s.w2 [(47, 21)] || !onlyBits s.w3 [(7, 0)]

/-- Two windows overlap. -/
def overlaps (a n b m : Nat) : Bool := a < b + m && b < a + n

/-- The checks of R99 for a descriptor with VALID = 1 against the context's other segments. -/
def segBad (s : Seg) (others : List Seg) : Bool :=
  s.bytes == 0 || s.base + s.bytes > 2 ^ 57 || s.scope == 3 || (s.land && s.scope == 0) ||
  others.any fun o =>
    o.valid && (overlaps s.base s.bytes o.base o.bytes ||
      (s.land && o.land && overlaps s.landBase s.bytes o.landBase o.bytes))

/-- First byte and bytes of what a TLB entry maps. -/
def TlbEntry.span (e : TlbEntry) : Nat × Nat := (e.vpn * 2 ^ levelShift e.level, 2 ^ levelShift e.level)

/-- An access overlaps one of some spans. -/
def meetsAny (spans : List (Nat × Nat)) (va bytes : Nat) : Bool := spans.any fun s => overlaps s.1 s.2 va bytes

/-- Launched collectives of a context that hold a translation inside some spans (R119). -/
def Fabric.launchedColls (f : Fabric) (p tag : Nat) (spans : List (Nat × Nat)) : List Nat :=
  ((f.part p).colls.filter fun k => k.tag == tag && k.launched && k.xlat.any fun e => meetsAny spans e.span.1 e.span.2).map fun k => k.id

/-- Accesses in flight of the RED_LOCALs of a context that a predicate on segment slot, address and bytes selects. -/
def Fabric.redUses (f : Fabric) (p tag : Nat) (g : Nat → Nat → Nat → Bool) : List (Nat × Nat × Nat) :=
  ((f.part p).reds.filter fun o => o.tag == tag).flatMap fun o => (o.uses.filter fun u => g u.2.1 u.2.2.1 u.2.2.2).map fun u => (p, o.id, u.1)

/-- Peers' requests that a landing window has admitted and that are still in progress (R101). -/
def Fabric.landed (f : Fabric) (tag : Nat) (s : Seg) : List Nat :=
  (f.rtr.targets.filter fun o => o.msg.tag == tag && s.landHolds o.msg.addr (reqBytes o.msg)).map fun o => o.id

/-- Tiles in flight that a predicate on their run and themselves selects. -/
def Fabric.tilesWhere (f : Fabric) (p : Nat) (g : Run → Tile → Bool) : List (Nat × Nat × Nat) :=
  (f.part p).runs.flatMap fun r => (r.tiles.filter (g r)).map fun t => (p, r.id, t.id)

/-- How many uses a drain waits for. -/
def Drain.size (d : Drain) : Nat := d.uses.length + d.colls.length + d.reds.length + d.targets.length

/-- Hold a command until the given uses have drained, or complete it at once when there are none. -/
def Fabric.drainOr (f : Fabric) (d : Drain) : Fabric × Reply :=
  if d.size = 0 then okay f else ({ f with drains := f.drains ++ [{ d with count := d.size }] }, .wait)

/-- The uses in flight that an old segment admitted (R101): tiles, page-list reads, old-value and tag accesses among them,
RED_LOCAL accesses, launched collectives, and peers' requests through its landing window. -/
def Fabric.segUses (f : Fabric) (mbx tag i : Nat) (old : Seg) : Drain :=
  let p := tagPart tag
  { mbx := mbx, segSet := true,
    uses := f.tilesWhere p fun r t => r.tag == tag && t.uses.any fun u => u.1 == i,
    colls := (f.launchedColls p tag [(old.base, old.bytes)]).map fun k => (p, k),
    reds := f.redUses p tag fun s _ _ => s == i,
    targets := f.landed tag old }

def segSetBody : Body := fun c f =>
  let s : Seg := { w0 := wd c.pay 1, w1 := wd c.pay 2, w2 := wd c.pay 3, w3 := wd c.pay 4 }
  let i := fld (wd c.pay 0) 2 0
  liveGate (c.len != 40 || !onlyBits (wd c.pay 0) [(2, 0)] || s.zeroBad) 0 c f fun f =>
    let x := f.ctx c.tag
    let old := x.segs.get i {}
    let others := Map.vals (x.segs.filter fun e => e.1 != i)
    if s.valid && segBad s others then faulted f
    else
      let f := f.updCtx c.tag fun x =>
        { x with segs := x.segs.set i s, seals := if old.valid && s != old then x.seals.del i else x.seals }
      if old.valid && s != old then f.drainOr (f.segUses c.mbx c.tag i old) else okay f

/-- A drain is over when none of its uses is still in flight. -/
def Fabric.drained (f : Fabric) (d : Drain) : Bool :=
  (d.uses.all fun (p, r, t) =>
    match f.run p r with
    | some y => y.tiles.all fun z => z.id != t
    | none => true) &&
  (d.colls.all fun (p, k) => !((f.part p).colls.any fun y => y.id == k)) &&
  (d.reds.all fun (p, o, u) => !((f.part p).reds.any fun y => y.id == o && y.uses.any fun z => z.1 == u)) &&
  d.targets.all fun i => !(f.rtr.targets.any fun o => o.id == i)

/-- A SEG_SET or INVALIDATE completes once its uses have drained (R101, R122). -/
def Fabric.finishDrain (f : Fabric) (mbx : Nat) (segSet : Bool) : Fabric :=
  match f.drains.find? fun d => d.mbx == mbx && d.segSet == segSet with
  | none => f
  | some d =>
    if f.drained d then
      ({ f with drains := f.drains.filter fun e => e.mbx != mbx } : Fabric).finish mbx stOk (if segSet then 0 else d.count)
    else f

/-! ### INVALIDATE -/

/-- What a walk may still install: the eight pages of its line at level 1 (R110), else what its entry covers. -/
def Walk.span (w : Walk) : Nat × Nat :=
  let n := if w.level = 1 then 32768 else 2 ^ levelShift w.level
  (w.va / n * n, n)

/-- A range [lo, hi) with what the TLB entries of a context that overlap it map: uses there are uses of a removed translation
(R122). -/
def Part.goneSpans (x : Part) (tag lo hi : Nat) : List (Nat × Nat) :=
  (lo, hi - lo) :: ((x.tlb.filter fun e => e.tag == tag && overlaps e.span.1 e.span.2 lo (hi - lo)).map fun e => e.span)

/-- The uses in flight of the translations that an INVALIDATE of a context removes (R122). -/
def Fabric.goneUses (f : Fabric) (tag lo hi : Nat) : Drain :=
  let p := tagPart tag
  let spans := (f.part p).goneSpans tag lo hi
  { mbx := 0, segSet := false,
    uses := f.tilesWhere p fun r t => r.tag == tag && t.uses.any fun u => meetsAny spans u.2.1 u.2.2,
    colls := (f.launchedColls p tag spans).map fun k => (p, k),
    reds := f.redUses p tag fun _ va bytes => meetsAny spans va bytes }

/-- The uses of two drains together. -/
def Drain.join (d e : Drain) : Drain :=
  { d with uses := d.uses ++ e.uses, colls := d.colls ++ e.colls, reds := d.reds ++ e.reds }

/-- Remove a context's translations that overlap [lo, hi) and abort its walks that may still install one (R122). -/
def Part.invalidate (x : Part) (tag lo hi : Nat) : Part :=
  let hit (start size : Nat) : Bool := start < hi && lo < start + size
  let gone (e : TlbEntry) : Bool := e.tag == tag && hit e.span.1 e.span.2
  let goneW (e : WalkEntry) : Bool :=
    e.tag == tag && hit (e.prefix_ * 2 ^ levelShift (e.level + 1)) (2 ^ levelShift (e.level + 1))
  let abort (w : Walk) : Bool := w.tag == tag && hit w.span.1 w.span.2
  { x with tlb := x.tlb.filter (fun e => !gone e), walkCache := x.walkCache.filter (fun e => !goneW e),
           walks := updWhere x.walks abort fun w => { w with aborted := true } }

def invalidateBody : Body := fun c f =>
  let w0 := wd c.pay 0
  let pages := wn c.pay 1
  let bad := c.len != 24 || !onlyBits w0 [(56, 12)] || !onlyBits (wd c.pay 2) [(0, 0)]
  liveGate bad 0 c f fun f =>
    let lo := if pages = 0 then 0 else w0.toNat
    let hi := if pages = 0 then 2 ^ 57 else w0.toNat + 4096 * pages
    let root := (f.ctx c.tag).root
    let parts := if c.mbx = 32 then (List.range f.partCount).filter (fun p => !f.confPart p) else [tagPart c.tag]
    let tags : List Nat :=
      if bit (wd c.pay 2) 0 then
        parts.flatMap fun p => ((f.part p).ctxs.filter fun e => e.2.state != .free && e.2.root == root).map fun e => mkTag p e.1 e.2.gen
      else [c.tag]
    let d := tags.foldl (fun d t => d.join (f.goneUses t lo hi)) { mbx := c.mbx, segSet := false }
    (tags.foldl (fun g t => g.updPart (tagPart t) fun x => x.invalidate t lo hi) f).drainOr d

/-! ### Advice -/

/-- Cut a range out of an advice range. -/
def Advice.cut (a : Advice) (lo hi : Nat) : List Advice :=
  let e := a.page + a.pages
  if hi ≤ a.page || e ≤ lo then [a]
  else
    (if a.page < lo then [{ a with pages := lo - a.page }] else []) ++
    (if hi < e then [{ a with page := hi, pages := e - hi }] else [])

/-- The part of an advice range inside [lo, hi). -/
def Advice.inside (a : Advice) (lo hi : Nat) : List Advice :=
  let s := max a.page lo
  let e := min (a.page + a.pages) hi
  if s < e then [{ a with page := s, pages := e - s }] else []

/-- The advice ranges after an ADVISE (R126, Table 3.9). What remains of a range that a later one cuts counts as a range of
its own on each side, and neighbours with equal advice stay two ranges (DESIGN CHOICE, log entry 160). -/
def adviseRanges (rs : List Advice) (page pages adv : Nat) : List Advice :=
  let hi := page + pages
  let rest := rs.flatMap fun a => a.cut page hi
  match adv with
  | 1 => rest ++ [{ page := page, pages := pages, depth := 32, pin := false }]
  | 2 => rest ++ [{ page := page, pages := pages, depth := 0, pin := false }]
  | 3 => rest ++ [{ page := page, pages := pages, depth := 8, pin := true }]
  | 4 => rest ++ (rs.flatMap fun a => a.inside page hi).filterMap fun a => if a.depth = 8 then none else some { a with pin := false }
  | _ => rest

/-- Prefetch depth at a virtual address: 8 tiles unless advice says otherwise (R112). -/
def Ctx.depthAt (c : Ctx) (va : Nat) : Nat :=
  match c.advice.find? fun a => a.page ≤ va / 4096 && va / 4096 < a.page + a.pages with
  | some a => a.depth
  | none => 8

/-- A page that PIN advice covers (R122, collision with INVALIDATE). -/
def Ctx.pinsAt (c : Ctx) (va : Nat) : Bool :=
  c.advice.any fun a => a.pin && a.page ≤ va / 4096 && va / 4096 < a.page + a.pages

/-- TLB entries of a context that overlap pages [lo, hi). -/
def Part.entriesIn (x : Part) (tag lo hi : Nat) : List TlbEntry :=
  x.tlb.filter fun e => e.tag == tag && overlaps (e.vpn * 2 ^ levelShift e.level / 4096) (2 ^ levelShift e.level / 4096) lo (hi - lo)

/-- PIN advice covers a page of what a TLB entry maps. -/
def Ctx.pinsEntry (c : Ctx) (e : TlbEntry) : Bool :=
  c.advice.any fun a => a.pin && overlaps e.span.1 e.span.2 (4096 * a.page) (4096 * a.pages)

/-- Unpin the entries of which no advice pins a page any longer. -/
def Fabric.repin (f : Fabric) (tag : Nat) : Fabric :=
  let c := f.ctx tag
  f.updPart (tagPart tag) fun x =>
    { x with tlb := updWhere x.tlb (fun e => e.tag == tag) fun e => { e with pinned := e.pinned && c.pinsEntry e } }

/-- An ADVISE has taken effect: the ADVISE PINs of its context accepted before it and still in progress do not undo it (R97,
R126). -/
def Part.noteLater (x : Part) (tag : Nat) (before : RangeOp → Bool) (page pages adv : Nat) : Part :=
  { x with ranges := updWhere x.ranges (fun o => o.pin && o.tag == tag && before o) fun o => { o with later := o.later ++ [(page, pages, adv)] } }

/-- The advice ranges once an ADVISE PIN completes, in the order of acceptance (R97, R126): what later ADVISEs set stays; an
UNPIN among them leaves depth 8 without a pin. -/
def RangeOp.advised (o : RangeOp) (rs : List Advice) : List Advice :=
  let pin : Advice := { page := o.page, pages := o.pages, depth := 8, pin := true }
  let less (keep : Nat → Bool) : List Advice :=
    o.later.foldl (fun ps (pg, n, a) => if keep a then ps else ps.flatMap fun a => a.cut pg (pg + n)) [pin]
  let whole := less fun a => a == 4
  let rest := whole.foldl (fun rs q => rs.flatMap fun a => a.cut q.page (q.page + q.pages)) rs
  rest ++ less fun _ => false

/-! ### PREFETCH_RANGE and ADVISE PIN -/

/-- The page after the leaf, or after the region of a walk that stopped at a level. -/
def nextPageAfter (va level : Nat) : Nat := (va / 2 ^ levelShift level + 1) * 2 ^ levelShift level / 4096

/-- A range operation ends: PREFETCH_RANGE answers its bitmap (R125); ADVISE PIN pins what it installed, or answers FAULTED
after POISON (R63, R106), BUSY beyond 16 ranges (R126) or beyond 2,048 pinned entries (R127). -/
def Fabric.endRange (f : Fabric) (p : Nat) (o : RangeOp) : Fabric :=
  let before (y : RangeOp) : Bool := ((f.part p).ranges.takeWhile fun z => z.mbx != o.mbx).any fun z => z.mbx == y.mbx
  let g := f
  let f := f.updPart p fun x => { x with ranges := x.ranges.filter fun y => y.mbx != o.mbx }
  if o.pin then
    let adv := o.advised (f.ctx o.tag).advice
    let pinned : Ctx := { advice := o.advised [] }
    let mine := ((f.part p).entriesIn o.tag o.page (o.page + o.pages)).filter pinned.pinsEntry
    let new := (mine.filter fun e => !e.pinned && e.colls.isEmpty).length
    if o.poison || !g.tagLive o.tag then f.finish o.mbx stFaulted
    else if adv.length > 16 || (f.part p).pinned + new > 2048 then f.finish o.mbx stBusy
    else
      let f := f.updPart p fun x => x.noteLater o.tag before o.page o.pages 3
      let f := f.updPart p fun x => { x with tlb := updWhere x.tlb (fun e => mine.contains e) fun e => { e with pinned := true } }
      let f := (f.updCtx o.tag fun c => { c with advice := adv }).repin o.tag
      f.finish o.mbx stOk adv.length
  else
    let m := maskOf o.missing
    let words := (List.range (ceilDiv o.pages 64)).map fun i => w64 (m / 2 ^ (64 * i))
    f.finish o.mbx stOk o.missing.length words (ceilDiv o.pages 8)

/-- Walk on through the pages of a range until a walk is needed and started, or the range ends. -/
def Fabric.stepRange : Nat → Fabric → Nat → Nat → Fabric
  | 0, f, _, _ => f
  | fuel + 1, f, p, mbx =>
    match (f.part p).ranges.find? fun o => o.mbx == mbx with
    | none => f
    | some o =>
      if o.next ≥ o.pages then f.endRange p o
      else
        let va := 4096 * (o.page + o.next)
        let goTo (n : Nat) (miss : Bool) (f : Fabric) : Fabric :=
          let n := min o.pages (n - o.page)
          let lost := if miss && !o.pin then rangeFrom o.next (n - o.next) else []
          f.updPart p fun x => { x with ranges := updWhere x.ranges (fun y => y.mbx == mbx) fun y => { y with next := n, missing := y.missing ++ lost } }
        match (f.ctx o.tag).segOf va with
        | none =>
          let starts := ((f.ctx o.tag).segs.vals.filter fun s => s.valid && va < s.base).map fun s => s.base / 4096
          Fabric.stepRange fuel (goTo (starts.foldl min (o.page + o.pages)) true f) p mbx
        | some (_, s) =>
          match (f.part p).tlbFind o.tag va with
          | some e => Fabric.stepRange fuel (goTo (min (nextPageAfter va e.level) ((s.base + s.bytes) / 4096)) false f) p mbx
          | none => f.startWalk o.tag va (if o.pin then .pin mbx else .range mbx)

/-- Let the demand misses that wait (R111) and then every range operation of a partition move on. -/
def Fabric.pumpRanges (f : Fabric) (p : Nat) : Fabric :=
  (f.part p).ranges.foldl (fun g o =>
    if (g.part p).walks.any fun w => w.for_ == .range o.mbx || w.for_ == .pin o.mbx then g
    else Fabric.stepRange 40000 g p o.mbx) (f.pumpDemand p)

def prefetchRangeBody : Body := fun c f =>
  let w0 := wd c.pay 0
  let n := wn c.pay 1
  let bad := c.len != 16 || !onlyBits w0 [(56, 12)] || n = 0 || n > 32256
  liveGate bad (ceilDiv (min n 32256) 8) c f fun f =>
    let p := tagPart c.tag
    (f.updPart p fun x => { x with ranges := x.ranges ++ [{ mbx := c.mbx, tag := c.tag, page := w0.toNat / 4096, pages := n }] }, .wait)

def adviseBody : Body := fun c f =>
  let w0 := wd c.pay 0
  let n := wn c.pay 1
  let a := fld (wd c.pay 2) 7 0
  let bad := c.len != 24 || !onlyBits w0 [(56, 12)] || n = 0 || !onlyBits (wd c.pay 2) [(7, 0)] || a > 4
  liveGate bad 0 c f fun f =>
    let p := tagPart c.tag
    let adv := adviseRanges (f.ctx c.tag).advice (w0.toNat / 4096) n a
    if adv.length > 16 then (f, .done stBusy)
    else if a = 3 then
      (f.updPart p fun x =>
        { x with ranges := x.ranges ++ [{ mbx := c.mbx, tag := c.tag, page := w0.toNat / 4096, pages := min n (2 ^ 45), pin := true }] }, .wait)
    else
      let f := f.updPart p fun x => x.noteLater c.tag (fun _ => true) (w0.toNat / 4096) n a
      okay ((f.updCtx c.tag fun x => { x with advice := adv }).repin c.tag) adv.length

/-! ### The stream prefetcher -/

/-- The address of one of a run's streams at its position, from its next tile's addresses: the operands of an ATOMIC are its
source stream; a FILL and an IMM ATOMIC have none (R112). -/
def Run.streamVa (r : Run) (dst : Bool) (s d : Nat) : Option Nat :=
  if dst then some d
  else if r.pageMove then some s
  else if dKind r.words = 4 then none
  else if dKind r.words = 5 then
    (if dImm r.words then none else some (wn r.words 2 + 64 * (r.nextPos / (64 / atopWidth (dAtop r.words)))))
  else some s

/-- The access that a run makes on one of its streams. -/
def Run.streamAccess (r : Run) (dst : Bool) : Access :=
  if !dst then .read else if !r.pageMove && dKind r.words = 5 then .atomic else .write

/-- The first address of a stream, from a position on, that has no translation yet, within `left` tiles of 4 KiB (R112); a
page that the prefetcher has found not present is left to the demand access. -/
def Fabric.firstMiss : Nat → Nat → Option Nat → Fabric → Run → Bool → Option Nat
  | 0, _, _, _, _, _ => none
  | fuel + 1, left, last, f, r, dst =>
    match r.next with
    | .tile size s d =>
      match r.streamVa dst s d with
      | none => none
      | some va =>
        let new := last != some (va / 4096)
        if new && left = 0 then none
        else
          let go := Fabric.firstMiss fuel (if new then left - 1 else left) (some (va / 4096)) f { r with nextPos := r.nextPos + size } dst
          match f.check r.tag va (r.streamAccess dst) with
          | .miss => if r.marks.contains (dst, va / 4096) then go else some va
          | _ => go
    | .skip size => Fabric.firstMiss fuel left last f { r with nextPos := r.nextPos + size } dst
    | _ => none

/-- The first address of a stream that the prefetcher has to translate: within 8 tiles, or the depth that ADVISE set for the
stream's present address (R112, Table 3.9). -/
def Fabric.streamMiss (f : Fabric) (r : Run) (dst : Bool) : Option Nat :=
  match r.next with
  | .tile _ s d =>
    match r.streamVa dst s d with
    | some va => Fabric.firstMiss 8192 ((f.ctx r.tag).depthAt va) none f r dst
    | none => none
  | .skip _ => Fabric.firstMiss 8192 ((f.ctx r.tag).depthAt 0) none f r dst
  | _ => none

/-- The prefetcher keeps a stream of an engine translated its depth ahead (R112). -/
def Fabric.streamPrefetch (f : Fabric) (p e : Nat) (dst : Bool) : Fabric :=
  match (f.part p).onEngine e with
  | none => f
  | some r =>
    match f.streamMiss r dst with
    | some va => f.startWalk r.tag va (.prefetch e dst)
    | none => f

/-! ### Walk data -/

/-- How a collective's pre-translation walk ended. -/
inductive CollWalk where
  | installed
  | fault (reason level : Nat)
  | poison
  | again
  deriving DecidableEq, Repr

/-- A line of a walk arrives (R104, R106, R110, R113, R119, R125). -/
def Fabric.walkData (f : Fabric) (p id : Nat) (line : List Word) (poison : Bool) (addr : Nat)
    (coll : Fabric → Nat → Nat → CollWalk → Fabric) : Fabric :=
  match (f.part p).walks.find? fun w => w.id == id with
  | none => f
  | some w =>
    let stop := f.endWalk p id
    let pin := match w.for_ with | .demand _ _ => (f.ctx w.tag).pinsAt w.va && (f.part p).pinned < 2048 | _ => false
    let range (m : Nat) (g : RangeOp → RangeOp) (f : Fabric) : Fabric :=
      f.updPart p fun x => { x with ranges := updWhere x.ranges (fun y => y.mbx == m) g }
    let skip (level : Nat) (o : RangeOp) : RangeOp :=
      let n := min o.pages (nextPageAfter w.va level - o.page)
      { o with next := n, missing := o.missing ++ if o.pin then [] else rangeFrom o.next (n - o.next) }
    if w.aborted then
      match w.for_ with
      | .coll k _ => (coll stop p k .again).pumpRanges p
      | _ => stop.pumpRanges p
    else if poison then
      match w.for_ with
      | .demand r _ =>
        match f.run p r with
        | some y => ((stop.poisonFault p y addr).settleAll p).pumpRanges p
        | none => stop.pumpRanges p
      | .prefetch e _ =>
        let cmd := ((f.part p).onEngine e).elim 0 fun r => r.cmdId
        (stop.notify p (faultNotice p 3 0 w.tag 2 (w64 addr) 0 (w64 cmd))).pumpRanges p
      | .range m =>
        let lineEnd := (w.va / (8 * 2 ^ levelShift w.level) + 1) * (8 * 2 ^ levelShift w.level) / 4096
        let n := faultNotice p 3 0 w.tag 2 (w64 addr) 0 ((f.mbx m).env.cmdId)
        let past (o : RangeOp) : RangeOp :=
          let n := min o.pages (lineEnd - o.page)
          { o with next := n, missing := o.missing ++ rangeFrom o.next (n - o.next) }
        (range m past (stop.notify p n)).pumpRanges p
      | .pin m =>
        let n := faultNotice p 3 0 w.tag 2 (w64 addr) 0 ((f.mbx m).env.cmdId)
        (range m (fun o => { o with next := o.pages, poison := true }) (stop.notify p n)).pumpRanges p
      | .coll k _ => (coll stop p k .poison).pumpRanges p
    else
      match walkEntry w line with
      | .down t => f.walkDown p w t
      | .leaf =>
        let eng : Option Nat := match w.for_ with | .prefetch e _ => some e | _ => none
        let f := stop.updPart p fun x => x.installLine w line pin eng
        match w.for_ with
        | .coll k _ => (coll f p k .installed).pumpRanges p
        | _ => f.pumpRanges p
      | .fault rs =>
        match w.for_ with
        | .demand r a =>
          match f.run p r with
          | some y => ((stop.pageFault p y rs w.level a w.va).settleAll p).pumpRanges p
          | none => stop.pumpRanges p
        | .prefetch e dst =>
          let seen (r : Run) : Bool := r.phase.eng == some e && r.tag == w.tag && rs == rNotPresent
          let page := (dst, w.va / 4096)
          (stop.updPart p fun x => { x with runs := updWhere x.runs seen fun r => { r with marks := page :: r.marks.filter (· != page) } }).pumpRanges p
        | .range m => (range m (skip w.level) stop).pumpRanges p
        | .pin m => (range m (skip w.level) stop).pumpRanges p
        | .coll k _ => (coll stop p k (.fault rs w.level)).pumpRanges p

end Sys2Proof.Machine
end

