-- ==== Sys2Proof/Machine/Reduce.lean ====
section
/-!
DEFINITION. Reduction arithmetic (chapter 05): the reduction control word (R175, R176), the formats
(R177, R178), the long accumulator (R180, R181), rounding (R184–R187), integer and MX results (R188,
R189), TREE additions (R190), MIN, MAX and WSUM (R192, R193) and the EXC byte (R194). Every finite value
is an integer number of units of 2⁻¹⁰⁷⁴, so sums are exact.
-/
namespace Sys2Proof

/-! ### Formats (Table 5.2) -/

/-- A binary floating-point element: width, significand bits with the hidden one, exponent of the smallest
subnormal, magnitude encoding of the largest finite value, whether it has infinity, and its NaN. -/
structure Flt where
  width : Nat
  prec : Nat
  qmin : Int
  maxBits : Nat
  inf : Bool
  nan : Option Nat
  deriving DecidableEq, Repr

def fp64 : Flt := { width := 64, prec := 53, qmin := -1074, maxBits := 0x7FEFFFFFFFFFFFFF, inf := true, nan := some 0x7FF8000000000000 }
def fp32 : Flt := { width := 32, prec := 24, qmin := -149, maxBits := 0x7F7FFFFF, inf := true, nan := some 0x7FC00000 }
def bf16 : Flt := { width := 16, prec := 8, qmin := -133, maxBits := 0x7F7F, inf := true, nan := some 0x7FC0 }
def fp16 : Flt := { width := 16, prec := 11, qmin := -24, maxBits := 0x7BFF, inf := true, nan := some 0x7E00 }
def e4m3 : Flt := { width := 8, prec := 4, qmin := -9, maxBits := 0x7E, inf := false, nan := some 0x7F }
def e5m2 : Flt := { width := 8, prec := 3, qmin := -16, maxBits := 0x7B, inf := true, nan := some 0x7E }
def e2m1 : Flt := { width := 4, prec := 2, qmin := -1, maxBits := 0x7, inf := false, nan := none }
def e3m2 : Flt := { width := 6, prec := 3, qmin := -4, maxBits := 0x1F, inf := false, nan := none }
def e2m3 : Flt := { width := 6, prec := 4, qmin := -3, maxBits := 0x1F, inf := false, nan := none }

/-- A format: an integer of a width, a floating-point element, or an MX format with its EMAX. -/
inductive Fmt where
  | int (width : Nat)
  | flt (f : Flt)
  | mx (f : Flt) (emax : Int)
  deriving DecidableEq, Repr

/-- The format of a code of Table 5.2. -/
def fmtOf : Nat → Option Fmt
  | 0x00 => some (.int 8) | 0x01 => some (.int 16) | 0x02 => some (.int 32) | 0x03 => some (.int 64)
  | 0x08 => some (.flt fp64) | 0x09 => some (.flt fp32) | 0x0A => some (.flt bf16) | 0x0B => some (.flt fp16)
  | 0x0C => some (.flt e4m3) | 0x0D => some (.flt e5m2) | 0x0E => some (.flt e2m1)
  | 0x10 => some (.mx e4m3 8) | 0x11 => some (.mx e5m2 15) | 0x12 => some (.mx e3m2 4)
  | 0x13 => some (.mx e2m3 2) | 0x14 => some (.mx e2m1 2)
  | _ => none

def Fmt.isInt : Fmt → Bool | .int _ => true | _ => false
def Fmt.isMx : Fmt → Bool | .mx _ _ => true | _ => false
/-- Bits of one element in the data plane. -/
def Fmt.width : Fmt → Nat | .int n => n | .flt f => f.width | .mx f _ => f.width

/-- Elements of which every vector and every division holds a whole number (R178, R179, R219). -/
def Fmt.granule : Fmt → Nat | .mx _ _ => 32 | .flt f => if f.width = 4 then 2 else 1 | .int _ => 1

/-! ### The reduction control word (Table 5.1) -/

structure Rcw where
  out : Fmt
  inp : Fmt
  sat : Bool
  round : Nat
  tree : Bool
  op : Nat
  deriving DecidableEq, Repr

/-- Formats that MODE TREE accepts as operands (R176). -/
def treeFormat (c : Nat) : Bool := [0x08, 0x09, 0x0A, 0x0B, 0x00, 0x01, 0x02, 0x03].contains c

/-- R176: the RCW that a word spells, if it is valid. -/
def rcwOf (w : Word) : Option Rcw :=
  let oc := fld w 20 16
  let ic := fld w 12 8
  let tree := bit w 4
  let op := fld w 3 0
  match fmtOf oc, fmtOf ic with
  | some o, some i =>
    if !onlyBits w [(20, 16), (12, 8), (7, 0)] || fld w 6 5 == 3 || op > 3 || (bit w 7 && !o.isInt) then none
    else if !tree && (ic == 3 || ic == 8) then none
    else if tree && (!treeFormat ic || o.isMx || op == 3) then none
    else if !i.isInt && o.isInt then none
    else if bit w 7 && ic == 3 then none
    else some { out := o, inp := i, sat := bit w 7, round := fld w 6 5, tree := tree, op := op }
  | _, _ => none

/-! ### Accumulators (R180, R181) -/

/-- A long accumulator; FIX is kept in units of 2⁻¹⁰⁷⁴. A single contribution, a TREE node value and an
extreme of MIN or MAX take the same form (log entry 21). -/
structure Acc where
  fix : Int := 0
  negz : Bool := true
  nan : Bool := false
  pinf : Bool := false
  ninf : Bool := false
  deriving DecidableEq, Repr

/-- 2⁻¹⁴⁹ in units of 2⁻¹⁰⁷⁴. -/
def fixScale : Int := 2 ^ 925

/-- An integer contribution. -/
def Acc.ofInt (v : Int) : Acc := { fix := v * 2 ^ 1074, negz := false }

/-- A signed magnitude m × 2^e, e at least −1074. -/
def Acc.ofMag (neg : Bool) (m : Nat) (e : Int) : Acc :=
  let v : Int := (m : Int) * 2 ^ (e + 1074).toNat
  { fix := if neg then -v else v, negz := neg && m == 0 }

/-- Read a floating-point element (R177), its value scaled by 2^s. -/
def Flt.read (f : Flt) (b : Nat) (s : Int) : Acc :=
  let neg := b / 2 ^ (f.width - 1) % 2 == 1
  let mag := b % 2 ^ (f.width - 1)
  if f.inf && mag = f.maxBits + 1 then (if neg then { negz := false, ninf := true } else { negz := false, pinf := true })
  else if f.nan.isSome && mag > f.maxBits then { negz := false, nan := true }
  else
    let e := mag / 2 ^ (f.prec - 1)
    let m := if e = 0 then mag else mag % 2 ^ (f.prec - 1) + 2 ^ (f.prec - 1)
    Acc.ofMag neg m (f.qmin + ((max e 1 - 1 : Nat) : Int) + s)

/-- Bits [n·i + n − 1 : n·i] of little-endian words; n divides 64 or an element of 6 bits may straddle. -/
def bitsAt (ws : List Word) (n i : Nat) : Nat :=
  let p := n * i
  (wn ws (p / 64) / 2 ^ (p % 64) + wn ws (p / 64 + 1) * 2 ^ (64 - p % 64)) % 2 ^ n

/-- Bytes of a data plane of N elements. -/
def Fmt.dataBytes (f : Fmt) (n : Nat) : Nat := ceilDiv (n * f.width) 8

/-- First byte of the scale plane of an MX vector (R178). -/
def Fmt.scaleAt (f : Fmt) (n : Nat) : Nat := ceilDiv (f.dataBytes n) 64 * 64

/-- Span of a vector in 64 B units (R178, R200, R245). -/
def Fmt.span (f : Fmt) (n : Nat) : Nat :=
  if f.isMx then ceilDiv (f.scaleAt n + n / 32) 64 else ceilDiv (f.dataBytes n) 64

/-- Element i of a vector of n elements. -/
def Fmt.elem (f : Fmt) (ws : List Word) (n i : Nat) : Acc :=
  match f with
  | .int w => Acc.ofInt (signed w (bitsAt ws w i))
  | .flt g => g.read (bitsAt ws g.width i) 0
  | .mx g _ =>
    let s := bitsAt ws 8 (f.scaleAt n + i / 32)
    if s = 0xFF then { negz := false, nan := true } else g.read (bitsAt ws g.width i) ((s : Int) - 127)

/-- All elements of a vector. -/
def Fmt.elems (f : Fmt) (ws : List Word) (n : Nat) : List Acc := (List.range n).map (f.elem ws n)

/-- Elements lo … lo+len−1 of a vector of n elements. -/
def Fmt.slice (f : Fmt) (ws : List Word) (n lo len : Nat) : List Acc := (rangeFrom lo len).map (f.elem ws n)

/-- Exact merge (R181, R214). -/
def Acc.add (a b : Acc) : Acc :=
  { fix := a.fix + b.fix, negz := a.negz && b.negz, nan := a.nan || b.nan, pinf := a.pinf || b.pinf, ninf := a.ninf || b.ninf }

/-! ### EXC flags (Table 5.6) -/

def excNanIn : Nat := 1
def excInfIn : Nat := 2
def excOverflow : Nat := 4
def excUnderflow : Nat := 8
def excInexact : Nat := 16
def excSquashed : Nat := 32
def excIntRange : Nat := 64

/-- OR of two EXC bytes. -/
def orExc (a b : Nat) : Nat := a ||| b

/-- Flags that operands raise. -/
def Acc.inFlags (a : Acc) : Nat := (if a.nan then excNanIn else 0) ||| (if a.pinf || a.ninf then excInfIn else 0)

/-! ### Rounding (R184–R186) -/

/-- ⌊log₂ m⌋ for m > 0. -/
def log2 (m : Nat) : Nat := Nat.log2 m

/-- How a magnitude m × 2^e rounds to a grid with quantum 2^q: the multiple of the quantum selected and
whether it is exact. `round` is 0 RNE, 1 RTZ, 2 SR with the 32-bit draw u (R184). -/
def roundGrid (m : Nat) (e q : Int) (round u : Nat) : Nat × Bool :=
  if q ≤ e then (m * 2 ^ (e - q).toNat, true)
  else
    let s := (q - e).toNat
    let lo := m / 2 ^ s
    let rem := m % 2 ^ s
    let up :=
      if round = 0 then 2 ^ s < 2 * rem || (2 * rem == 2 ^ s && lo % 2 == 1)
      else if round = 1 then false
      else u < 2 ^ 32 * rem / 2 ^ s
    (if up then lo + 1 else lo, rem == 0)

/-- Round a non-zero magnitude m × 2^e to a format whose values are scaled by 2^s: magnitude encoding before
the overflow rule, and flags other than OVERFLOW's result. -/
def Flt.roundMag (f : Flt) (m : Nat) (e s : Int) (round u : Nat) : Nat × Nat :=
  let top : Int := (log2 m : Int) + e - s
  let q := max f.qmin (top - ((f.prec : Int) - 1))
  let (n, exact) := roundGrid m (e - s) q round u
  let b := if n = 0 then 0 else (q - f.qmin).toNat * 2 ^ (f.prec - 1) + n
  let fl := (if exact then 0 else excInexact) ||| (if n = 0 then excUnderflow else 0)
  (b, fl)

/-- Encode a non-zero value: round, then the overflow rule of R185. -/
def Flt.encode (f : Flt) (neg : Bool) (m : Nat) (e : Int) (round u : Nat) : Nat × Nat :=
  let (b, fl) := f.roundMag m e 0 round u
  let sign := if neg then 2 ^ (f.width - 1) else 0
  if b ≤ f.maxBits then (sign + b, fl)
  else
    let flags := fl ||| excOverflow ||| excInexact
    if round = 1 || !f.inf then (sign + f.maxBits, flags) else (sign + f.maxBits + 1, flags)

/-! ### Results (Table 5.4, R188, R189, R192) -/

/-- An accumulator holds NaN as its result: NaN, or both infinities of a sum (row 1). -/
def Acc.isNan (a : Acc) : Bool := a.nan || (a.pinf && a.ninf)

/-- Result in a plain floating-point format: encoding and flags. -/
def Flt.result (f : Flt) (a : Acc) (round u : Nat) : Nat × Nat :=
  let sign (neg : Bool) := if neg then 2 ^ (f.width - 1) else 0
  if a.isNan then
    match f.nan with
    | some n => (n, 0)
    | none => (0, excSquashed)
  else if a.pinf || a.ninf then
    if f.inf then (sign a.ninf + f.maxBits + 1, 0) else (sign a.ninf + f.maxBits, excOverflow)
  else if a.fix = 0 then (sign a.negz, 0)
  else f.encode (decide (a.fix < 0)) a.fix.natAbs (-1074) round u

/-- Result in an integer format (R188). Integer results come from integer operands, so FIX is an integer. -/
def intResult (w : Nat) (sat : Bool) (a : Acc) : Nat × Nat :=
  let v := a.fix / 2 ^ 1074
  let lo : Int := -(2 ^ (w - 1))
  let hi : Int := 2 ^ (w - 1) - 1
  let fl := if lo ≤ v && v ≤ hi then 0 else excIntRange
  let r := if sat then max lo (min hi v) else v
  ((r % 2 ^ w).toNat, fl)

/-- One MX block (R189): scale byte, element encodings, flags. -/
def mxBlock (f : Flt) (emax : Int) (as_ : List Acc) (round : Nat) (us : List Nat) : Nat × List Nat × Nat :=
  if as_.any fun a => a.isNan || a.pinf || a.ninf then (0xFF, as_.map fun _ => 0, excSquashed)
  else
    let top := as_.foldl (fun m a => max m a.fix.natAbs) 0
    if top = 0 then (0x7F, as_.map fun a => if a.negz then 2 ^ (f.width - 1) else 0, 0)
    else
      let d := max (-127) (min 127 ((log2 top : Int) - 1074 - emax))
      let rs := (as_.zip us).map fun (a, u) =>
        let sign := if a.negz || decide (a.fix < 0) then 2 ^ (f.width - 1) else 0
        if a.fix = 0 then (sign, 0)
        else if (f.read f.maxBits d).fix < a.fix.natAbs then (sign + f.maxBits, excOverflow ||| excInexact)
        else
          let (b, fl) := f.roundMag a.fix.natAbs (-1074) d round u
          (sign + min b f.maxBits, fl)
      ((d + 127).toNat, rs.map Prod.fst, rs.foldl (fun x r => x ||| r.2) 0)

/-- Pack fields of w bits into words, from element 0. -/
def packBits (w : Nat) (vs : List Nat) (words : Nat) : List Word :=
  let total := vs.foldr (fun v acc => acc * 2 ^ w + v % 2 ^ w) 0
  (List.range words).map fun i => w64 (total / 2 ^ (64 * i))

/-- Blocks of 32. -/
def blocks32 {α : Type} : Nat → List α → List (List α)
  | 0, _ => []
  | fuel + 1, l => if l.isEmpty then [] else l.take 32 :: blocks32 fuel (l.drop 32)

/-- A result vector in R178 layout, whole 64 B units, spare bytes zero (R555), and its flags. `us` holds the
SR draw of each element. -/
def Fmt.write (f : Fmt) (as_ : List Acc) (sat : Bool) (round : Nat) (us : List Nat) : List Word × Nat :=
  let n := as_.length
  let words := 8 * f.span n
  match f with
  | .int w =>
    let rs := as_.map (intResult w sat)
    (packBits w (rs.map Prod.fst) words, rs.foldl (fun x r => x ||| r.2) 0)
  | .flt g =>
    let rs := (as_.zip us).map fun (a, u) => g.result a round u
    (packBits g.width (rs.map Prod.fst) words, rs.foldl (fun x r => x ||| r.2) 0)
  | .mx g emax =>
    let bs := ((blocks32 (n / 32 + 1) as_).zip (blocks32 (n / 32 + 1) us)).map fun (a, u) => mxBlock g emax a round u
    let data := packBits g.width (bs.flatMap fun b => b.2.1) (8 * ceilDiv (f.dataBytes n) 64)
    let scales := packBits 8 (bs.map fun b => b.1) (words - data.length)
    (data ++ scales, bs.foldl (fun x b => x ||| b.2.2) 0)

/-! ### The SR word (R187) -/

def mix (z : Word) : Word :=
  let z := (z ^^^ (z >>> 31)) * 0xA4C193E75B2D0F69
  let z := (z ^^^ (z >>> 29)) * 0x6F0CD28B17E5A943
  z ^^^ (z >>> 32)

def srWord (seed opId e : Word) : Word :=
  let k := mix (seed ^^^ 0xC3A55E1729F08B6D)
  let c := mix (k ^^^ opId)
  mix (c ^^^ (e * 0x8E2B64D1F03A57C9))

/-- The draw u of element E: the low 32 bits of its SR word (R184). -/
def srDraw (seed opId : Word) (e : Nat) : Nat := fld (srWord seed opId (w64 e)) 31 0

/-! ### Combining two values (R181, R190, R192) -/

/-- One TREE addition in a floating-point format, rounded once under RNE (R190, R162). -/
def Flt.treeAdd (f : Flt) (a b : Acc) : Acc × Nat :=
  let s := a.add b
  if s.isNan then ({ negz := false, nan := true }, 0)
  else if s.pinf || s.ninf then ({ s with fix := 0, negz := false }, 0)
  else if s.fix = 0 then (s, 0)
  else
    let (b', fl) := f.encode (decide (s.fix < 0)) s.fix.natAbs (-1074) 0 0
    (f.read b' 0, fl)

/-- One TREE addition of integers: 64 bits, wrapping (R190). -/
def intTreeAdd (a b : Acc) : Acc :=
  let v : Int := a.fix / 2 ^ 1074 + b.fix / 2 ^ 1074
  Acc.ofInt (signed 64 (v % 2 ^ 64 : Int).toNat)

/-- Order of R192: −∞ < negative < −0 < +0 < positive < +∞. -/
def Acc.less (a b : Acc) : Bool :=
  if a.ninf then !b.ninf
  else if b.ninf then false
  else if b.pinf then !a.pinf
  else if a.pinf then false
  else decide (a.fix < b.fix) || (a.fix == b.fix && a.negz && !b.negz)

/-- The extreme of two values; a NaN makes the result NaN. -/
def Acc.extreme (maxi : Bool) (a b : Acc) : Acc :=
  if a.nan || b.nan then { negz := false, nan := true }
  else if maxi then (if a.less b then b else a) else (if b.less a then b else a)

/-- Combine two values under an RCW; flags of TREE additions. -/
def Rcw.combine (r : Rcw) (a b : Acc) : Acc × Nat :=
  if r.op = 1 then (a.extreme false b, 0)
  else if r.op = 2 then (a.extreme true b, 0)
  else if r.tree then
    match r.inp with
    | .flt g => g.treeAdd a b
    | _ => (intTreeAdd a b, 0)
  else (a.add b, 0)

/-- Combine two vectors element by element. -/
def Rcw.combineAll (r : Rcw) (as_ bs : List Acc) : List Acc × Nat :=
  let rs := (as_.zip bs).map fun (a, b) => r.combine a b
  (rs.map Prod.fst, rs.foldl (fun x y => x ||| y.2) 0)

/-- A WSUM product rounded once to FP32 under RNE (R193). -/
def wsumProduct (w x : Acc) : Acc :=
  let inf (a : Acc) : Bool := a.pinf || a.ninf
  let neg (a : Acc) : Bool := a.ninf || decide (a.fix < 0) || a.negz
  let zero (a : Acc) : Bool := !inf a && a.fix == 0
  let s := neg w != neg x
  if w.nan || x.nan || (inf w && zero x) || (zero w && inf x) then { negz := false, nan := true }
  else if inf w || inf x then (if s then { negz := false, ninf := true } else { negz := false, pinf := true })
  else if zero w || zero x then { negz := s }
  else fp32.read (fp32.encode s (w.fix.natAbs * x.fix.natAbs) (-2148) 0 0).1 0

/-- Write a result vector under an RCW: elements first … of the full result (R187). -/
def Rcw.result (r : Rcw) (as_ : List Acc) (seed opId : Word) (e0 : Nat) : List Word × Nat :=
  let us := (List.range as_.length).map fun i => if r.round = 2 then srDraw seed opId (e0 + i) else 0
  r.out.write as_ r.sat r.round us

/-! ### Partials on the wire (R214) -/

/-- A long accumulator as 40 bytes (Table 5.3), as a number. -/
def Acc.wire (a : Acc) : Nat :=
  let v : Int := (a.fix / fixScale) % 2 ^ 312
  v.toNat * 256 + b2n a.negz * 128 + b2n a.nan * 64 + b2n a.pinf * 32 + b2n a.ninf * 16

def Acc.ofWire (n : Nat) : Acc :=
  let v : Nat := n / 256 % 2 ^ 312
  let s : Int := if v < 2 ^ 311 then (v : Int) else (v : Int) - 2 ^ 312
  { fix := s * fixScale, negz := n / 128 % 2 == 1, nan := n / 64 % 2 == 1, pinf := n / 32 % 2 == 1, ninf := n / 16 % 2 == 1 }

/-- Five words of an accumulator. -/
def Acc.words (a : Acc) : List Word := (List.range 5).map fun i => w64 (a.wire / 2 ^ (64 * i))

/-- The accumulator that five words spell. -/
def Acc.ofWords (ws : List Word) : Acc := Acc.ofWire ((List.range 5).foldl (fun n i => n + wn ws i * 2 ^ (64 * i)) 0)

/-- Format in which MODE TREE partials travel (R190, R214). -/
def Rcw.accFmt (r : Rcw) : Fmt := if r.inp.isInt then .int 64 else r.inp

/-- Words of a partial of several members. -/
def Rcw.partialWords (r : Rcw) (as_ : List Acc) : List Word :=
  if r.tree then ((r.accFmt).write as_ false 0 (as_.map fun _ => 0)).1 else as_.flatMap Acc.words

/-- Elements of a partial of several members. -/
def Rcw.partialElems (r : Rcw) (ws : List Word) (n : Nat) : List Acc :=
  if r.tree then r.accFmt.elems ws n else (List.range n).map fun i => Acc.ofWords ((ws.drop (5 * i)).take 5)

/-- Bits of one element of a partial on the wire. -/
def Rcw.partialBits (r : Rcw) : Nat := if r.tree then r.accFmt.width else 320

/-- Granule of R219. -/
def Rcw.granule (r : Rcw) : Nat := max r.inp.granule r.out.granule

/-- Bits of one element of a message kind. -/
def Rcw.bitsOf (r : Rcw) : MsgKind → Nat
  | .raw => r.inp.width
  | .partialSum => r.partialBits
  | _ => r.out.width

/-! ### Vectors as bits -/

/-- Write fields of w bits from field i on into words. -/
def Map.putBits (m : Map Word) (w i : Nat) (vs : List Nat) : Map Word :=
  (vs.foldl (fun (st : Map Word × Nat) v =>
    let p := w * st.2
    let k := p / 64
    let s := p % 64
    let put (m : Map Word) (k : Nat) (mask val : Nat) : Map Word :=
      if mask % 2 ^ 64 = 0 then m else m.set k ((m.get k 0 &&& ~~~ (w64 mask)) ||| w64 val)
    let ones := 2 ^ w - 1
    let m := put st.1 k (ones * 2 ^ s) (v % 2 ^ w * 2 ^ s)
    let m := put m (k + 1) (ones * 2 ^ s / 2 ^ 64) (v % 2 ^ w * 2 ^ s / 2 ^ 64)
    (m, st.2 + 1)) (m, i)).1

/-- The element codes lo … lo+len−1 of a vector of n elements. -/
def Fmt.codes (f : Fmt) (ws : List Word) (lo len : Nat) : List Nat := (rangeFrom lo len).map (bitsAt ws f.width)

/-- The scale bytes of those elements (MX only). -/
def Fmt.scales (f : Fmt) (ws : List Word) (n lo len : Nat) : List Nat :=
  if f.isMx then (rangeFrom (lo / 32) (len / 32)).map fun b => bitsAt ws 8 (f.scaleAt n + b) else []

/-- Put codes and scales into a vector of n elements. -/
def Fmt.putVec (f : Fmt) (m : Map Word) (n lo : Nat) (codes scales : List Nat) : Map Word :=
  let m := m.putBits f.width lo codes
  if f.isMx then m.putBits 8 (f.scaleAt n + lo / 32) scales else m

/-- Elements lo … of a vector of n, cut out as a vector of its own. -/
def Fmt.cut (f : Fmt) (ws : List Word) (n lo len : Nat) : List Word :=
  (f.putVec [] len 0 (f.codes ws lo len) (f.scales ws n lo len)).words 0 (8 * f.span len)

/-- Bytes of a vector of n elements: its data plane, and for MX formats its scale plane. -/
def Fmt.bytes (f : Fmt) (n : Nat) : Nat := if f.isMx then f.scaleAt n + n / 32 else f.dataBytes n

/-- The bits of word i that lie in bits [lo, hi) of a list of words. -/
def bitsWithin (lo hi i : Nat) : Word :=
  let a := max lo (64 * i) - 64 * i
  let b := min hi (64 * i + 64) - 64 * i
  if a < b then w64 (2 ^ b - 2 ^ a) else 0

/-- A word of a vector of n elements with every bit that holds no element and no scale byte zero (R555). -/
def Fmt.keep (f : Fmt) (n i : Nat) (w : Word) : Word :=
  w &&& (bitsWithin 0 (f.width * n) i ||| if f.isMx then bitsWithin (8 * f.scaleAt n) (8 * (f.scaleAt n + n / 32)) i else 0)

/-- The 64 B units of the output that a block touches: (first, count). -/
def Fmt.unitSpans (o : Fmt) (n e len : Nat) : List (Nat × Nat) :=
  let span (lo hi : Nat) : Nat × Nat := (lo / 64, ceilDiv hi 64 - lo / 64)
  span (e * o.width / 8) (ceilDiv ((e + len) * o.width) 8) ::
    (if o.isMx then [span (o.scaleAt n + e / 32) (o.scaleAt n + ceilDiv (e + len) 32)] else [])

end Sys2Proof
end

