-- ==== Sys2Proof/Machine/Collective.lean ====
section
/-!
DEFINITION. Collectives (chapter 06): groups (R202–R205), descriptors and their checks (R206–R212), AUTO
and chunks (R216, R219), the step plans of Tables 6.5 and 6.6, the agreement code (R217),
pre-translation (R119), launch (R224), arrivals and failure (R225–R231), completion (R232) and the
journal (R233, R234).
-/
namespace Sys2Proof.Machine

/-! ### Reads and writes at virtual addresses -/

/-- The part of [va, va + 64 · units) in each 4 KiB page: (address, offset in units, units). -/
def vaPieces : Nat → Nat → Nat → Nat → List (Nat × Nat × Nat)
  | 0, _, _, _ => []
  | fuel + 1, va, off, units =>
    if units = 0 then []
    else
      let n := min units (unitsLeft va)
      (va, off, n) :: vaPieces fuel (va + 64 * n) (off + n) (units - n)

/-- Read units at a virtual address under translations that `look` gives; a violation reads as zeros (R166).
Answers how many transactions were sent. -/
def Fabric.vaRead (f : Fabric) (look : Nat → Trans) (va units : Nat) (why : Nat → Purpose) : Fabric × Nat :=
  (vaPieces (units / 64 + 2) va 0 units).foldl (fun st (v, o, n) =>
    match look v with
    | .ok pa _ _ => (st.1.hdpSend { kind := .memRd, addr := paLocal pa, units := n, purpose := why (8 * o) }, st.2 + 1)
    | .violation => (st.1.violate, st.2)
    | _ => st) (f, 0)

/-- Write words at a virtual address under translations that `look` gives; a violation is not issued (R166). -/
def Fabric.vaWrite (f : Fabric) (look : Nat → Trans) (va : Nat) (data : List Word) (why : Purpose) : Fabric × Nat :=
  let units := ceilDiv data.length 8
  (vaPieces (units / 64 + 2) va 0 units).foldl (fun st (v, o, n) =>
    match look v with
    | .ok pa _ _ =>
      (st.1.hdpSend { kind := .memWr, addr := paLocal pa, units := n, data := takePad (8 * n) (data.drop (8 * o)), purpose := why }, st.2 + 1)
    | .violation => (st.1.violate, st.2)
    | _ => st) (f, 0)

/-- Translation under what a collective launched with (R119): no later INVALIDATE or SEG_SET moves it. What it holds no
translation of is a violation (R212), and so is a sealed page (R475). -/
def Fabric.collLook (f : Fabric) (c : Coll) (a : Access) (va : Nat) : Trans :=
  let g := (f.updPart (tagPart c.tag) fun x => { x with tlb := c.xlat }).updCtx c.tag fun x => { x with segs := c.segs }
  match g.check c.tag va a with
  | .ok pa false seg => .ok pa false seg
  | _ => .violation

/-! ### Readers -/

def Part.coll (x : Part) (id : Nat) : Option Coll := x.colls.find? fun k => k.id == id
def Fabric.coll (f : Fabric) (p id : Nat) : Option Coll := (f.part p).coll id
def Fabric.updColl (f : Fabric) (p id : Nat) (g : Coll → Coll) : Fabric :=
  f.updPart p fun x => { x with colls := updWhere x.colls (fun k => k.id == id) g }

def Group.size (g : Group) : Nat := g.members.length

/-- Index of a node in a list of members. -/
def indexOf (n : Nat) : List Nat → Nat
  | [] => 0
  | m :: ms => if m = n then 0 else indexOf n ms + 1

def Group.node (g : Group) (i : Nat) : Nat := g.members.getD i 0

/-- RCW of a collective; posting checked it. -/
def Coll.rcw (c : Coll) : Rcw := (rcwOf (wd c.words 1)).getD { out := .int 8, inp := .int 8, sat := false, round := 0, tree := false, op := 0 }
def Coll.oper (c : Coll) : Nat := fld (wd c.words 4) 63 60
def Coll.rootIx (c : Coll) : Nat := fld (wd c.words 4) 30 16
def Coll.count (c : Coll) : Nat := fld (wd c.words 5) 32 0
def Coll.id24 (c : Coll) : Nat := fld (wd c.words 0) 23 0
def Coll.launchBell (c : Coll) : Nat := wn c.words 3
def Coll.timeout (c : Coll) : Nat := if c.disp then fld (wd c.words 5) 63 32 else fld (wd c.words 10) 31 0
def Coll.cplAddr (c : Coll) : Nat := if c.disp then wn c.words 14 else wn c.words 9
def Coll.jrnl (c : Coll) : Bool := !c.disp && bit (wd c.words 4) 55
def Coll.me (c : Coll) (f : Fabric) : Nat := indexOf f.rtr.seated c.group.members
def Coll.seed (c : Coll) : Word := wd c.words 2
def Coll.opId (c : Coll) : Word := wd c.words 0
def Coll.eOffset (c : Coll) : Nat := wn c.words 6

/-! ### Sizes and chunks (Table 6.3, R218, R219) -/

/-- The operation's buffers are cut into parts of COUNT ÷ n. -/
def byParts (oper : Nat) : Bool := oper == 1 || oper == 2 || oper == 4

/-- Input elements of member i. -/
def inElems (oper count n root i : Nat) : Nat :=
  if oper = 2 then count / n else if oper = 3 then (if i = root then count else 0) else count

/-- Output elements of a member. -/
def outElems (oper count n : Nat) : Nat := if oper = 1 then count / n else count

/-- Bytes of a working-set element (R219). -/
def setBytes (r : Rcw) (oper : Nat) : Nat :=
  if oper ≤ 1 then (if r.tree then (if r.inp.isInt then 8 else r.inp.width / 8) else 40) else 4

/-- What W(K) divides K by for an algorithm (R219). -/
def workDiv (algo n : Nat) : Nat := if algo = 2 then n else if algo = 4 then 2 else 1

/-- W(K) × s is at most 2,621,440 B; the division of R219 is exact. -/
def workFits (algo n s k : Nat) : Bool := k * s ≤ 2621440 * workDiv algo n

/-- K of R219; none where no chunk fits. -/
def chunkSize (r : Rcw) (oper algo n count : Nat) : Option Nat :=
  let s := setBytes r oper
  let wide := algo = 2 || algo = 4 || (algo = 3 && (oper = 1 || oper = 2))
  if algo = 1 then some count
  else if workFits algo n s count then some count
  else
    let u := if wide then 64 * n else 64
    let u := if workFits algo n s u then u else if wide then n * r.granule else r.granule
    -- the largest multiple of u whose working set fits
    if workFits algo n s u then some (2621440 * workDiv algo n / s / u * u) else none

/-- Bytes that a collective reserves (R218). -/
def reservation (oper algo n count : Nat) : Nat :=
  if algo = 1 then (if oper = 0 then 40 * count else if oper = 1 then 40 * (count / n) else 65536) else 5242880

/-- Chunk size of a posted collective. -/
def Coll.chunk (c : Coll) : Nat := (chunkSize c.rcw c.oper c.algo c.group.size c.count).getD 1

/-- Elements that chunk k takes: of each part, or of the vector. -/
def Coll.pieceLen (c : Coll) (k : Nat) : Nat :=
  if byParts c.oper then
    let kp := c.chunk / c.group.size
    min kp (c.count / c.group.size - k * kp)
  else min c.chunk (c.count - k * c.chunk)

/-- Where chunk k starts in each part, or in the vector. -/
def Coll.pieceAt (c : Coll) (k : Nat) : Nat :=
  if byParts c.oper then k * (c.chunk / c.group.size) else k * c.chunk

/-- Chunks of a collective. -/
def Coll.chunks (c : Coll) : Nat :=
  if byParts c.oper then ceilDiv (c.count / c.group.size) (max 1 (c.chunk / c.group.size)) else ceilDiv c.count (max 1 c.chunk)

/-! ### Plans (Tables 6.5 and 6.6) -/

/-- What one member does with one block of a chunk. Its value is its own contribution, if it has one,
combined with the values of `recvs` in order; it sends the value up, multicasts it, or rounds it as the
root; a result is rounded here or comes from `resFrom`, is written at `outAt` and goes on to `down`. -/
structure Blk where
  lo : Nat
  len : Nat
  own : Bool := true
  inAt : Nat := 0
  recvs : List Nat := []
  cast : Bool := false
  up : Option Nat := none
  root : Bool := false
  resFrom : Option Nat := none
  down : List Nat := []
  outAt : Option Nat := none
  eAt : Nat := 0
  asMember : Nat
  deriving DecidableEq, Repr

/-- The block of a half (R219): granules ⌊b·h÷n⌋ to ⌊(b+1)·h÷n⌋ − 1, as (start, length) in granules. -/
def halfBlock (h n b : Nat) : Nat × Nat := (b * h / n, (b + 1) * h / n - b * h / n)

/-- Heap parent and children of a position. -/
def heapParent (p : Nat) : Nat := (p - 1) / 2
def heapChildren (n p : Nat) : List Nat := [2 * p + 1, 2 * p + 2].filter (· < n)

/-- Position a is b or an ancestor of b. -/
def heapAbove : Nat → Nat → Nat → Bool
  | 0, a, b => a == b
  | fuel + 1, a, b => a == b || (b != 0 && heapAbove fuel a (heapParent b))

/-- The highest bit below `l` in which two indices differ. -/
def topDiff : Nat → Nat → Nat → Option Nat
  | 0, _, _ => none
  | l + 1, a, b => if a / 2 ^ l % 2 != b / 2 ^ l % 2 then some l else topDiff l a b

def flipBit (a p : Nat) : Nat := if a / 2 ^ p % 2 = 1 then a - 2 ^ p else a + 2 ^ p

/-- The range of granules that a HALVING member ends with, from a range of h granules (R219). -/
def halvingRange : Nat → Nat → Nat → Nat → Nat × Nat
  | 0, lo, h, _ => (lo, h)
  | l + 1, lo, h, i =>
    let lower := (h + 1) / 2
    if i / 2 ^ l % 2 = 0 then halvingRange l lo lower i else halvingRange l (lo + lower) (h - lower) i

/-- The reduce and gather roles of member i for a block that belongs to member b, on a ring in one
direction (RING), by exchanges (HALVING). `red` and `gat` say which phases the operation has. -/
def ringRole (n i b : Nat) (plus red gat : Bool) (k : Blk) : Blk :=
  let next := if plus then (i + 1) % n else (i + n - 1) % n
  let prev := if plus then (i + n - 1) % n else (i + 1) % n
  let d := if plus then (i + 2 * n - b - 1) % n else (b + 2 * n - i - 1) % n
  let g := if plus then (i + n - b) % n else (b + n - i) % n
  let k := if red then
      { k with own := true, recvs := if d = 0 then [] else [prev], up := if d = n - 1 then none else some next, root := d == n - 1 }
    else { k with own := g == 0, root := g == 0 }
  if gat then { k with down := if g = n - 1 then [] else [next], resFrom := if g = 0 then none else some prev }
  else k

def halvingRole (l i b : Nat) (red gat : Bool) (k : Blk) : Blk :=
  let bits := (List.range l).reverse
  let diff := topDiff l i b
  let k := if red then
      match diff with
      | none => { k with own := true, recvs := bits.map (flipBit i), root := true }
      | some p => { k with own := true, recvs := (bits.filter (p < ·)).map (flipBit i), up := some (flipBit i p) }
    else { k with own := diff.isNone, root := diff.isNone }
  if gat then
    match diff with
    | none => { k with down := (List.range l).map (flipBit i) }
    | some p => { k with resFrom := some (flipBit i p), down := ((List.range l).filter (p < ·)).map (flipBit i) }
  else k

/-- ⌊log₂ n⌋ for the powers of two that HALVING takes. -/
def lg (n : Nat) : Nat := Nat.log2 n

/-- Everyone but i. -/
def others (n i : Nat) : List Nat := (List.range n).filter (· != i)

/-- The blocks of chunk k at member i. -/
def Coll.plan (c : Coll) (i k : Nat) : List Blk :=
  let n := c.group.size
  let g := c.rcw.granule
  let len := c.pieceLen k
  let at_ := c.pieceAt k
  let part := c.count / n
  let base (lo l : Nat) : Blk := { lo := lo, len := l, asMember := i }
  if c.oper = 0 then
    -- ALL_REDUCE: blocks of the chunk; every member has the whole vector
    let full (lo l : Nat) : Blk := { base lo l with inAt := at_ + lo, outAt := some (at_ + lo), eAt := at_ + lo }
    if c.algo = 1 then
      [{ full 0 len with cast := true, outAt := none }, { full 0 len with recvs := others n i, root := true }]
    else if c.algo = 2 then
      let u := len / g
      let hp := (u + 1) / 2
      (List.range n).flatMap fun b =>
        let (s, l) := halfBlock hp n b
        let (s', l') := halfBlock (u - hp) n b
        [ringRole n i b true true true (full (s * g) (l * g)), ringRole n i b false true true (full ((hp + s') * g) (l' * g))]
    else if c.algo = 3 then
      let k : Blk := { full 0 len with recvs := heapChildren n i, down := heapChildren n i }
      [if i = 0 then { k with root := true } else { k with up := some (heapParent i), resFrom := some (heapParent i) }]
    else
      (List.range n).map fun b =>
        let (s, l) := halvingRange (lg n) 0 (len / g) b
        halvingRole (lg n) i b true true (full (s * g) (l * g))
  else if c.oper = 1 then
    -- REDUCE_SCATTER: piece b of the chunk goes to member b
    let piece (b lo l : Nat) : Blk :=
      { base (b * len + lo) l with inAt := b * part + at_ + lo, eAt := b * part + at_ + lo, outAt := if b = i then some (at_ + lo) else none }
    if c.algo = 1 then
      (List.range n).map fun b =>
        if b = i then { piece b 0 len with recvs := others n i, root := true } else { piece b 0 len with up := some b }
    else if c.algo = 2 then
      let u := len / g
      let hp := (u + 1) / 2
      (List.range n).flatMap fun b =>
        [ringRole n i b true true false (piece b 0 (hp * g)), ringRole n i b false true false (piece b (hp * g) ((u - hp) * g))]
    else if c.algo = 3 then
      (List.range n).map fun b =>
        let k : Blk := { piece b 0 len with recvs := heapChildren n i }
        if i = 0 then { k with root := true, down := if b = 0 then [] else [b] }
        else { k with up := some (heapParent i), resFrom := if b = i then some 0 else none }
    else (List.range n).map fun b => halvingRole (lg n) i b true false (piece b 0 len)
  else if c.oper = 2 then
    -- ALL_GATHER: piece b comes from member b
    let piece (b lo l : Nat) : Blk :=
      { base (b * len + lo) l with inAt := at_ + lo, eAt := b * part + at_ + lo, outAt := some (b * part + at_ + lo) }
    if c.algo = 1 then
      (List.range n).map fun b =>
        if b = i then { piece b 0 len with cast := true, root := true }
        else { piece b 0 len with own := false, recvs := [b], root := true }
    else if c.algo = 2 then
      let u := len / g
      let hp := (u + 1) / 2
      (List.range n).flatMap fun b =>
        [ringRole n i b true false true (piece b 0 (hp * g)), ringRole n i b false false true (piece b (hp * g) ((u - hp) * g))]
    else if c.algo = 3 then
      (List.range n).map fun b =>
        let path := heapAbove 16 i b
        let from_ := (heapChildren n i).filter fun q => heapAbove 16 q b
        let k : Blk := { piece b 0 len with own := path && i == b, recvs := if path && i != b then from_ else [], down := heapChildren n i }
        if i = 0 then { k with root := true }
        else { k with up := if path then some (heapParent i) else none, resFrom := some (heapParent i) }
    else (List.range n).map fun b => halvingRole (lg n) i b false true (piece b 0 len)
  else if c.oper = 3 then
    -- BROADCAST: positions count from ROOT
    let r := c.rootIx
    let pos := (i + n - r) % n
    let whole : Blk := { base 0 len with inAt := at_, eAt := at_, outAt := some at_, own := pos == 0 }
    let mem (q : Nat) := (r + q) % n
    if c.algo = 1 then
      [if pos = 0 then { whole with cast := true, root := true } else { whole with recvs := [r], root := true }]
    else if c.algo = 2 then
      [{ whole with root := pos == 0, resFrom := if pos = 0 then none else some (mem (pos - 1)), down := if pos + 1 < n then [mem (pos + 1)] else [] }]
    else
      [{ whole with root := pos == 0, resFrom := if pos = 0 then none else some (mem (heapParent pos)), down := (heapChildren n pos).map mem }]
  else
    -- ALL_TO_ALL: block d of member o goes to member d
    let block (o d : Nat) : Blk :=
      { base (d * len) len with inAt := d * part + at_, eAt := o * part + at_, outAt := if d = i then some (o * part + at_) else none, asMember := o }
    (List.range n).flatMap fun o =>
      (List.range n).filterMap fun d =>
        let mine := o == i
        let here := d == i
        if c.algo = 1 then
          if mine && here then some { block o d with root := true }
          else if mine then some { block o d with up := some d }
          else if here then some { block o d with own := false, recvs := [o], root := true }
          else none
        else
          let far := (d + n - o) % n
          let near := (i + n - o) % n
          if far < near then none
          else
            let k : Blk := { block o d with own := mine, recvs := if mine then [] else [o] }
            if here then some { k with root := true } else some { k with up := some ((i + 1) % n) }

/-! ### Messages of a block -/

/-- Elements that one message carries, at so many bits an element (log entry 22). -/
def fragElems (bits : Nat) : Nat := max 64 (59392 / (bits + 1) / 64 * 64)

/-- Fragments of a block: (offset in the block, elements). -/
def fragsOf (per len : Nat) : List (Nat × Nat) :=
  (List.range (ceilDiv len per)).map fun j => (j * per, min per (len - j * per))

/-- The fragment of a member for a chunk at an offset, among kinds. -/
def Coll.frag (c : Coll) (ks : List MsgKind) (chunk off member : Nat) : Option Frag :=
  c.frags.find? fun x => ks.contains x.kind && x.chunk == chunk && x.offset == off && x.member == member

/-- The fragments that a member sent for a block, all of them, with their element counts. -/
def Coll.covered (c : Coll) (ks : List MsgKind) (chunk : Nat) (b : Blk) (member : Nat) : Option (List (Frag × Nat)) :=
  if b.len = 0 then some []
  else
    match c.frag ks chunk b.lo member with
    | none => none
    | some x =>
      let parts := fragsOf (fragElems (c.rcw.bitsOf x.kind)) b.len
      let got := parts.filterMap fun (o, l) => (c.frag [x.kind] chunk (b.lo + o) member).map fun y => (y, l)
      if got.length = parts.length then some got else none

/-- Elements of a fragment. -/
def fragAccs (r : Rcw) (x : Frag) (n : Nat) : List Acc :=
  match x.kind with
  | .raw => r.inp.elems x.data n
  | .partialSum => r.partialElems x.data n
  | _ => r.out.elems x.data n

/-- Every input word has been read. -/
def Coll.haveInput (c : Coll) : Bool := c.launched && c.inPend == 0

/-- A block's contributions are all there. -/
def Coll.ready (c : Coll) (k : Nat) (b : Blk) : Bool :=
  c.haveInput && b.recvs.all fun m => (c.covered [.raw, .partialSum] k b m).isSome

/-- Input elements of this member. -/
def Coll.inCount (c : Coll) (i : Nat) : Nat := inElems c.oper c.count c.group.size c.rootIx i

/-- The combined value of a block and the flags that reading and adding raised. -/
def Coll.value (c : Coll) (i k : Nat) (b : Blk) : List Acc × Nat :=
  let r := c.rcw
  let n := c.inCount i
  let own : List (List Acc) :=
    if b.own then [r.inp.slice (c.inData.words 0 (8 * r.inp.span n)) n b.inAt b.len] else []
  let recv : List (List Acc × Bool) := b.recvs.map fun m =>
    let fs := (c.covered [.raw, .partialSum] k b m).getD []
    (fs.flatMap fun (x, l) => fragAccs r x l, fs.all fun (x, _) => x.kind == .raw)
  let inFl (l : List Acc) : Nat := l.foldl (fun a v => a ||| v.inFlags) 0
  -- an EXACT partial carries NAN, PINF and NINF of its operands (R194, Table 5.3); a TREE partial is a sum, not an operand
  let fl0 := (own.foldl (fun a l => a ||| inFl l) 0) ||| (recv.foldl (fun a l => if l.2 || !r.tree then a ||| inFl l.1 else a) 0)
  match own ++ recv.map Prod.fst with
  | [] => ([], fl0)
  | v :: vs => vs.foldl (fun st w => let (x, fl) := r.combineAll st.1 w; (x, st.2 ||| fl)) (v, fl0)

/-- A block's value is one member's contribution alone: it travels in IN_FMT (R214). -/
def Coll.single (c : Coll) (k : Nat) (b : Blk) : Bool :=
  if b.own then b.recvs.isEmpty
  else match b.recvs with
    | [m] => ((c.covered [.raw] k b m).isSome)
    | _ => false

/-- Data of the messages that carry a block's value up: kind, offset, words. -/
def Coll.upData (c : Coll) (i k : Nat) (b : Blk) (v : List Acc) : List (MsgKind × Nat × List Word) :=
  let r := c.rcw
  if c.single k b then
    if b.own then
      let n := c.inCount i
      let ws := c.inData.words 0 (8 * r.inp.span n)
      (fragsOf (fragElems r.inp.width) b.len).map fun (o, l) => (.raw, b.lo + o, r.inp.cut ws n (b.inAt + o) l)
    else
      match b.recvs with
      | m :: _ => ((c.covered [.raw] k b m).getD []).map fun (x, _) => (.raw, x.offset, x.data)
      | [] => []
  else (fragsOf (fragElems r.partialBits) b.len).map fun (o, l) => (.partialSum, b.lo + o, r.partialWords ((v.drop o).take l))

/-! ### Sending -/

/-- Send one collective message to a member and keep it for a resend (R226); the first message to a member
carries the agreement code (R217). -/
def Fabric.collSend (f : Fabric) (p id to_ : Nat) (m : Msg) : Fabric :=
  match f.coll p id with
  | none => f
  | some c =>
    let agree := if c.greeted.contains to_ || m.kind == .row then m.agree else c.agree
    let m := { m with dst := c.group.node to_, src := f.rtr.seated, tag := c.tag, cls := 2, coll := c.id24, agree := agree }
    let f := f.updColl p id fun c => { c with sent := c.sent ++ [m], greeted := to_ :: c.greeted }
    f.sendMsg m c.group.uplink

/-- The multicasts of an ONESHOT member (Table 6.5): masks, directions and receivers. -/
def Fabric.castBranches (f : Fabric) (g : Group) (i : Nat) : List (Nat × Bool × Nat × Nat × List Nat) :=
  let n := g.size
  if g.kind = 1 then
    let ms := others n i
    [(0, false, 0, maskOf (ms.map fun m => rackPos (g.node m)), ms)]
  else
    let a := g.axis
    let l := max 1 (f.rtr.len a)
    let c (m : Nat) := coord a (g.node m)
    let ahead (m : Nat) (minus : Bool) : Nat := if minus then (c i + l - c m) % l else (c m + l - c i) % l
    let plus := (others n i).filter fun m => if g.ring then decide (ahead m false ≤ n / 2) else decide (c i < c m)
    let minus := (others n i).filter fun m => !plus.contains m
    let one (ms : List Nat) (d : Bool) : List (Nat × Bool × Nat × Nat × List Nat) :=
      if ms.isEmpty then []
      else [(a + 1, d, ms.foldl (fun x m => max x (ahead m d)) 0, maskOf (ms.map c), ms)]
    one plus false ++ one minus true

/-- Multicast one message of a block to every other member (R292). -/
def Fabric.collCast (f : Fabric) (p id i : Nat) (m : Msg) : Fabric :=
  match f.coll p id with
  | none => f
  | some c =>
    (f.castBranches c.group i).foldl (fun g (tree, minus, hops, mask, ms) =>
      let agree := match g.coll p id with
        | some c => if ms.all c.greeted.contains then 0 else c.agree
        | none => 0
      let m := { m with dst := g.rtr.seated, src := g.rtr.seated, tag := c.tag, cls := 3, coll := c.id24, agree := agree,
                        tree := tree, minus := minus, hops := hops, mask := mask }
      let g := g.updColl p id fun c => { c with sent := c.sent ++ [m], greeted := ms ++ c.greeted }
      g.sendTo m (ms.map c.group.node)) f

/-! ### Ending (R229–R232) -/

/-- The sequencer lets go of a collective's translations (R119). -/
def Part.release (x : Part) (id : Nat) : Part :=
  { x with tlb := updWhere x.tlb (fun e => e.colls.contains id) fun e => { e with colls := e.colls.filter (· != id) } }

/-- The completion record (Table 6.9; for a dispatch or combine Table 7.6). -/
def Coll.record (c : Coll) (abi bell : Nat) (status detail : Nat) : List Word :=
  let algo := if c.disp then fld (wd c.words 4) 63 60 else c.algo
  let count := if c.disp then
      pack [(63, 44, min c.rowsOut 0xFFFFF), (43, 24, min c.rowsIn 0xFFFFF), (23, 12, min c.drops 0xFFF), (11, 0, min c.unmapped 0xFFF)]
    else pack [(63, 32, c.chunksDone), (31, 16, c.missing)]
  [ wd c.words 0,
    pack [(63, 48, c.tag), (47, 40, abi), (39, 36, algo), (32, 32, b2n c.jskip), (31, 24, detail), (23, 16, c.exc), (7, 0, status)],
    w64 c.launchTick, w64 bell, count,
    pack [(63, 32, c.early), (31, 16, min c.dups 0xFFFF), (15, 0, min c.discards 0xFFFF)], wd c.words 15, 1 ]

/-- The record is written and the collective is done; the sequencer keeps its status (R235). -/
def Fabric.closeColl (f : Fabric) (p : Nat) (c : Coll) (status detail : Nat) : Fabric :=
  let d : CollDone := { tag := c.tag, collId := wd c.words 0, disp := c.disp, cmdId := c.cmdId, chunks := c.chunksDone,
                        launchTick := c.launchTick, status := status,
                        origin := if c.disp && fld (wd c.words 4) 63 60 == 0 then wn c.words 10 else 0 }
  let f := f.updPart p fun x =>
    { (x.release c.id) with colls := x.colls.filter (fun k => k.id != c.id), collsDone := (d :: x.collsDone).take 64, csProgress := f.tick }
  let f := f.hdpWrite c.cplAddr (c.record f.abi f.bell status detail) fun _ => .collRec p c.id
  f.unpark c.tag

/-- Bytes of a collective's input (R233). -/
def Coll.inBytes (c : Coll) (f : Fabric) : Nat := if c.disp then 0 else c.rcw.inp.bytes (c.inCount (c.me f))

/-- DATA of a collective's journal entry: its input, padded with zeros to 64 B (Table 6.11). -/
def Coll.inWords (c : Coll) (f : Fabric) : List Word :=
  (c.inData.words 0 (8 * ceilDiv (c.inBytes f) 64)).zipIdx.map fun (w, i) => w &&& bitsWithin 0 (8 * c.inBytes f) i

/-- Offset that a ring has reached: the present one's, or an earlier one's. -/
def Journal.offsetOf (j : Journal) (base lg2 : Nat) : Nat :=
  if j.base = base && j.log2 = lg2 then j.offset
  else match j.olds.find? fun o => o.1 == base && o.2.1 == lg2 with
    | some o => o.2.2
    | none => 0

/-- A ring has reached an offset. -/
def Journal.moveTo (j : Journal) (base lg2 off : Nat) : Journal :=
  if j.base = base && j.log2 = lg2 then { j with offset := off }
  else { j with olds := (base, lg2, off) :: j.olds.filter fun o => !(o.1 == base && o.2.1 == lg2) }

/-- Take a journal entry's place in the ring under which the collective launched (R233–R235): pad to the ring's end where it
does not fit. -/
def Fabric.journalStart (f : Fabric) (p : Nat) (c : Coll) : Fabric :=
  let s := tagSlot c.tag
  let now := (f.part p).journals.get s {}
  let ring := c.jring.getD {}
  let j : Journal := { now with base := ring.base, log2 := ring.log2, offset := now.offsetOf ring.base ring.log2 }
  let bytes := c.inBytes f
  let data := c.inWords f
  let size := 2 ^ j.log2
  let need := 128 + 8 * data.length
  let skip : Fabric := f.updColl p c.id fun c => { c with jskip := true, jphase := .done }
  if c.jring.isNone || !c.haveInput || bytes > size / 2 then skip
  else
    let pad := j.offset + need > size
    let header (seq coll bytes : Word) : List Word :=
      [seq, coll, bytes, pack [(63, 48, c.tag), (39, 36, c.oper), (32, 0, c.count)], wd c.words 1, wd c.words 6, w64 c.launchTick, 0]
    let f := if pad && j.offset < size then
        f.hdpWrite (j.base + j.offset) (header (w64 j.jseq) 0 (w64 (size - j.offset - 64))) fun _ => .journal p c.id
      else f
    let n0 := if pad && j.offset < size then 1 else 0
    let off := if pad then 0 else j.offset
    let seq := j.jseq + n0
    let f := f.hdpWrite (j.base + off) (header (w64 seq) (wd c.words 0) (w64 bytes) ++ data) fun _ => .journal p c.id
    let n1 := pieceCount (j.base + off) (1 + data.length / 8)
    let j' := { now.moveTo ring.base ring.log2 (off + need) with jseq := seq + 1 }
    let f := f.updPart p fun x => { x with journals := x.journals.set s j' }
    f.updColl p c.id fun c => { c with jphase := .data, jPend := n0 + n1, jbase := j.base + off + 64 + 8 * data.length, jseq := seq }

/-- A collective whose outcome is fixed moves toward its record: output acknowledged, journal entry, its
trailer, then the record (R232–R234). -/
def Fabric.finishColl (f : Fabric) (p id : Nat) : Fabric :=
  match f.coll p id with
  | none => f
  | some c =>
    match c.fin with
    | none => f
    | some (st, dt) =>
      if c.outPend != 0 || c.jPend != 0 then f
      else
        match c.jphase with
        | .none_ =>
          if c.jrnl then
            let f := f.journalStart p c
            match f.coll p id with
            | some c' => if c'.jphase == .done then f.closeColl p c' st dt else f
            | none => f
          else f.closeColl p c st dt
        | .data =>
          let f := f.hdpWrite c.jbase [w64 c.jseq, 0, 0, 0, 0, 0, 0, 0] fun _ => .journal p id
          f.updColl p id fun c => { c with jphase := .trailer, jPend := 1 }
        | .trailer => f.closeColl p { c with jphase := .done } st dt
        | .done => f.closeColl p c st dt

/-- The chunks in progress (R219). -/
def Coll.window (c : Coll) : List Nat := (rangeFrom c.chunksDone 2).filter (· < c.chunks)

/-- Lowest member whose contribution is missing (Table 6.9). -/
def Coll.missingNow (c : Coll) (i : Nat) : Nat :=
  let need (k : Nat) (b : Blk) : List Nat :=
    (b.recvs.filter fun m => (c.covered [.raw, .partialSum] k b m).isNone) ++
      (match b.resFrom with | some m => if (c.covered [.result] k b m).isNone then [m] else [] | none => [])
  let all := if c.disp then [] else c.window.flatMap fun k => (c.plan i k).flatMap (need k)
  all.foldl min 0xFFFF

/-- Another member still needs flits from this one (R229): some it has not sent, or some it has to resend. -/
def Coll.needed (c : Coll) (i : Nat) : Bool :=
  let open_ (k : Nat) (jb : Blk × Nat) : Bool :=
    let b := jb.1
    b.len != 0 && (((b.cast || b.up.isSome) && !c.upDone.contains (k, jb.2)) || (!b.down.isEmpty && !c.fwdDone.contains (k, jb.2)))
  let sends (b : Blk) : Bool := b.cast || b.up.isSome || !b.down.isEmpty
  if !c.resends.isEmpty then true
  else if c.disp then c.stage < (if fld (wd c.words 4) 63 60 == 1 then 3 else 2)
  else c.window.any (fun k => (c.plan i k).zipIdx.any (open_ k)) || (c.chunksDone + 2 < c.chunks && (c.plan i 0).any sends)

/-- Send the abort of R229 to every other member. -/
def Fabric.abortColl (f : Fabric) (p id i : Nat) : Fabric :=
  match f.coll p id with
  | none => f
  | some c => (others c.group.size i).foldl (fun g m => g.collSend p id m { kind := .abort, dst := 0, src := 0, cls := 2, member := i }) f

/-- A collective ends with an outcome; the first one stands. -/
def Fabric.endColl (f : Fabric) (p id status detail : Nat) : Fabric :=
  match f.coll p id with
  | none => f
  | some c =>
    if c.fin.isSome then f
    else
      let i := c.me f
      let miss := if status = stOk then 0xFFFF else c.missingNow i
      let f := if status != stOk && c.needed i then f.abortColl p id i else f
      let f := f.updColl p id fun c => { c with fin := some (status, detail), missing := miss, resends := [], parked := none }
      f.finishColl p id

/-! ### Running the plan (R215) -/

/-- One block of a chunk: its value goes up or is rounded when its contributions are there. -/
def Fabric.stepUp (f : Fabric) (p id i k j : Nat) (b : Blk) : Fabric :=
  match f.coll p id with
  | none => f
  | some c =>
    if c.upDone.contains (k, j) || !(b.own || !b.recvs.isEmpty) || b.len = 0 || !c.ready k b then f
    else
      let (v, fl) := c.value i k b
      let f := f.updColl p id fun c => { c with upDone := (k, j) :: c.upDone, exc := c.exc ||| fl }
      let msg (x : MsgKind × Nat × List Word) : Msg :=
        { kind := x.1, dst := 0, src := 0, cls := 2, member := b.asMember, chunk := k, offset := x.2.1, data := x.2.2 }
      let n := c.inCount i
      let ownData := (fragsOf (fragElems c.rcw.inp.width) b.len).map fun (o, l) =>
        ((MsgKind.raw, b.lo + o, c.rcw.inp.cut (c.inData.words 0 (8 * c.rcw.inp.span n)) n (b.inAt + o) l) : MsgKind × Nat × List Word)
      let f := if b.cast then ownData.foldl (fun g x => g.collCast p id i (msg x)) f else f
      let f := match b.up with
        | some m => (c.upData i k b v).foldl (fun g x => g.collSend p id m (msg x)) f
        | none => f
      if b.root then
        let (ws, fl) := c.rcw.result v c.seed c.opId (c.eOffset + b.eAt)
        f.updColl p id fun c => { c with results := { chunk := k, block := j, data := ws } :: c.results, exc := c.exc ||| fl }
      else f

/-- The result of a block, rounded here or received. -/
def Coll.resultOf (c : Coll) (k j : Nat) (b : Blk) : Option (List Word) :=
  match c.results.find? fun r => r.chunk == k && r.block == j with
  | some r => some r.data
  | none =>
    match b.resFrom with
    | none => none
    | some m =>
      match c.covered [.result] k b m with
      | none => none
      | some fs =>
        let o := c.rcw.out
        let put := fs.foldl (fun (st : Map Word × Nat) (x, l) => (o.putVec st.1 b.len st.2 (o.codes x.data 0 l) (o.scales x.data l 0 l), st.2 + l)) ([], 0)
        some (put.1.words 0 (8 * o.span b.len))

/-- One block of a chunk: its result goes down the plan. -/
def Fabric.stepDown (f : Fabric) (p id i k j : Nat) (b : Blk) : Fabric :=
  match f.coll p id with
  | none => f
  | some c =>
    if c.fwdDone.contains (k, j) || b.len = 0 then f
    else
      match c.resultOf k j b with
      | none => f
      | some ws =>
        let o := c.rcw.out
        let f := f.updColl p id fun c => { c with fwdDone := (k, j) :: c.fwdDone }
        b.down.foldl (fun g m =>
          (fragsOf (fragElems o.width) b.len).foldl (fun g (off, l) =>
            g.collSend p id m { kind := .result, dst := 0, src := 0, cls := 2, member := i, chunk := k, offset := b.lo + off, data := o.cut ws b.len off l }) g) f

/-- Nothing of a block is left to do here. -/
def Coll.blockDone (c : Coll) (k j : Nat) (b : Blk) : Bool :=
  b.len == 0 ||
    ((!(b.own || !b.recvs.isEmpty) || c.upDone.contains (k, j)) && (!(b.root || b.resFrom.isSome) || c.fwdDone.contains (k, j)))

/-- The output once chunk k is complete: its elements over what the output held (R228). -/
def Coll.outWith (c : Coll) (k : Nat) (bs : List Blk) : Map Word :=
  let o := c.rcw.out
  let n := outElems c.oper c.count c.group.size
  bs.zipIdx.foldl (fun m (b, j) =>
    match b.outAt, c.resultOf k j b with
    | some e, some ws => if b.len = 0 then m else o.putVec m n e (o.codes ws 0 b.len) (o.scales ws b.len 0 b.len)
    | _, _ => m) c.out

/-- The 64 B units that some blocks' results touch: (first, count). -/
def Coll.outSpans (c : Coll) (bs : List Blk) : List (Nat × Nat) :=
  let n := outElems c.oper c.count c.group.size
  (bs.filterMap fun b => if b.len = 0 then none else b.outAt.map fun e => c.rcw.out.unitSpans n e b.len).flatten

/-- Units of the output that hold elements of more than one chunk: their old words are read at launch, so that writing one
chunk leaves the elements of the others as they were (R228; log entry 163). -/
def Coll.sharedUnits (c : Coll) (i : Nat) : List Nat :=
  if c.chunks ≤ 1 then []
  else
    let ends (k : Nat) : List Nat := ((c.outSpans (c.plan i k)).flatMap fun s => [s.1, s.1 + s.2 - 1]).eraseDups
    let touched := (List.range c.chunks).flatMap ends
    touched.eraseDups.filter fun u => 2 ≤ (touched.filter (· == u)).length

/-- Where the old words of the output stand in what a collective has read: past any input. -/
def Coll.oldAt : Nat := 2 ^ 40

/-- Words that a collective reads arrive: input, or old words of its output, of which only elements are kept (R555). -/
def Coll.take (c : Coll) (off : Nat) (ws : List Word) : Coll :=
  if off < Coll.oldAt then { c with inData := c.inData.setList off ws }
  else
    let n := outElems c.oper c.count c.group.size
    let at_ := off - Coll.oldAt
    { c with out := c.out.setList at_ (ws.zipIdx.map fun (w, i) => c.rcw.out.keep n (at_ + i) w) }

/-- Write the units of a completed chunk. -/
def Fabric.writeChunk (f : Fabric) (p : Nat) (c : Coll) (k : Nat) (bs : List Blk) : Fabric :=
  let spans := c.outSpans bs
  let c := { c with out := c.outWith k bs }
  let f := f.updColl p c.id fun x => { x with out := c.out }
  let (f, sent) := spans.foldl (fun (st : Fabric × Nat) (u, l) =>
    let (g, m) := st.1.vaWrite (st.1.collLook c .collWrite) (wn c.words 8 + 64 * u) (c.out.words (8 * u) (8 * l)) (.collOut p c.id u)
    (g, st.2 + m)) (f, 0)
  f.updColl p c.id fun c => { c with outPend := c.outPend + sent }

/-- Run the chunks in progress as far as their data allows. -/
def Fabric.runColl : Nat → Fabric → Nat → Nat → Fabric
  | 0, f, _, _ => f
  | fuel + 1, f, p, id =>
    match f.coll p id with
    | none => f
    | some c =>
      if c.fin.isSome || !c.launched || (f.part p).csStalled then f
      else if c.chunksDone ≥ c.chunks then f.endColl p id stOk 0
      else
        let i := c.me f
        let f := c.window.foldl (fun g k =>
          let bs := (c.plan i k).zipIdx
          let g := bs.foldl (fun g jb => g.stepUp p id i k jb.2 jb.1) g
          bs.foldl (fun g jb => g.stepDown p id i k jb.2 jb.1) g) f
        match f.coll p id with
        | none => f
        | some c =>
          let k := c.chunksDone
          let bs := c.plan i k
          if bs.zipIdx.all fun jb => c.blockDone k jb.2 jb.1 then
            let f := f.writeChunk p c k bs
            let f := f.updColl p id fun c =>
              { c with chunksDone := k + 1, lastProgress := f.tick, outAt := (f.ctx c.tag).outNow f.tick,
                       results := c.results.filter (fun r => r.chunk != k),
                       frags := updWhere c.frags (fun x => x.chunk == k) fun x => { x with data := [] } }
            Fabric.runColl fuel f p id
          else f

/-! ### Pre-translation (R119) -/

/-- The buffers of a collective: (first byte, bytes, written). -/
def Coll.buffers (c : Coll) (i : Nat) : List (Nat × Nat × Bool) :=
  let r := c.rcw
  [(wn c.words 7, 64 * r.inp.span (c.inCount i), false), (wn c.words 8, 64 * r.out.span (outElems c.oper c.count c.group.size), true)]

/-- What pre-translation found. -/
inductive Pre where
  | ready
  | need (va : Nat) (write : Bool)
  | fault (reason level va : Nat)
  | node
  | pins
  | wait
  deriving DecidableEq, Repr

/-- The address after the leaf that maps an address, or after its page. -/
def Fabric.afterLeaf (f : Fabric) (tag va : Nat) : Nat :=
  match (f.part (tagPart tag)).tlbFind tag va with
  | some e => (va / 2 ^ levelShift e.level + 1) * 2 ^ levelShift e.level
  | none => (va / 4096 + 1) * 4096

/-- The address after a span that fails check 1, 2 or 6 of Table 3.6. -/
def Fabric.afterViolation (f : Fabric) (tag va : Nat) (a : Access) : Nat :=
  let c := f.ctx tag
  match c.segOf va with
  | none => ((c.segs.vals.filter fun s => s.valid && va < s.base).map Seg.base).foldl min (2 ^ 57)
  | some (_, s) => if s.grants a then f.afterLeaf tag va else s.base + s.bytes

/-- Hold the translations of a list of buffers. -/
def Fabric.holdSpans : Nat → Fabric → Nat → Nat → Nat → List (Nat × Nat × Bool) → Fabric × Pre
  | 0, f, _, _, _, _ => (f, .wait)
  | _, f, _, _, _, [] => (f, .ready)
  | fuel + 1, f, p, id, tag, (va, bytes, write) :: rest =>
    if bytes = 0 then Fabric.holdSpans fuel f p id tag rest
    else
      let next (v : Nat) : List (Nat × Nat × Bool) := (v, va + bytes - v, write) :: rest
      match f.check tag va (if write then .collWrite else .collRead) with
      | .miss => (f, .need va write)
      | .fault rs l => (f, .fault rs l va)
      | .violation => Fabric.holdSpans fuel f p id tag (next (f.afterViolation tag va (if write then .collWrite else .collRead)))
      | .ok pa sl _ =>
        if sl then Fabric.holdSpans fuel f p id tag (next (f.afterLeaf tag va))
        else if !f.own pa then (f, .node)
        else
          let x := f.part p
          match x.tlbFind tag va with
          | none => (f, .wait)
          | some e =>
            if e.colls.contains id then Fabric.holdSpans fuel f p id tag (next (f.afterLeaf tag va))
            else if (x.tlb.filter fun y => y.colls.contains id).length ≥ 2048 then (f, .pins)
            else if !e.pinned && e.colls.isEmpty && x.pinned ≥ 2048 then (f, .wait)
            else
              let g := f.updPart p fun x => { x with tlb := updWhere x.tlb (fun y => y == e) fun y => { y with colls := id :: y.colls } }
              Fabric.holdSpans fuel g p id tag (next (f.afterLeaf tag va))

end Sys2Proof.Machine
end

