-- ==== Sys2Proof/Machine/TokenMoves.lean ====
section
/-!
DEFINITION. Token dispatch and combine (chapter 07): expert maps (R236–R239), route records (R240, R241),
admission and placement (R242, R243), the steps of a dispatch (R244–R246) and of a combine (R247–R251).
-/
namespace Sys2Proof.Machine

/-! ### Fields of Table 7.5 -/

def Coll.combine (c : Coll) : Bool := fld (wd c.words 4) 63 60 == 1
def Coll.ovf (c : Coll) : Bool := bit (wd c.words 4) 59
def Coll.topk (c : Coll) : Nat := fld (wd c.words 4) 34 32 + 1
def Coll.rowElems (c : Coll) : Nat := fld (wd c.words 4) 17 0
def Coll.ntok (c : Coll) : Nat := fld (wd c.words 5) 16 0
def Coll.routeVa (c : Coll) : Nat := wn c.words 7
def Coll.rowsInVa (c : Coll) : Nat := wn c.words 8
def Coll.rowsOutVa (c : Coll) : Nat := wn c.words 9
def Coll.originVa (c : Coll) : Nat := wn c.words 10
def Coll.fillVa (c : Coll) : Nat := wn c.words 11
def Coll.admitVa (c : Coll) : Nat := wn c.words 12
def Coll.selfVa (c : Coll) : Nat := wn c.words 13
/-- S(IN_FMT) and S(OUT_FMT) in 64 B units (R245). -/
def Coll.sIn (c : Coll) : Nat := c.rcw.inp.span c.rowElems
def Coll.sOut (c : Coll) : Nat := c.rcw.out.span c.rowElems

/-! ### The expert map (Table 7.1) -/

/-- An expert: owner member, LOCAL, CAP and ROW_BASE. -/
structure Expert where
  member : Nat
  local_ : Nat
  cap : Nat
  base : Nat
  deriving DecidableEq, Repr

def Part.emap (x : Part) (tag : Nat) : Option Emap := x.emaps.find? fun m => m.tag == tag

/-- Entries of a map. -/
def Emap.nexp (m : Emap) : Nat := m.entries.length / 2

/-- The valid entry of an expert in a group of n members (R239, R241). -/
def Emap.expert (m : Emap) (n e : Nat) : Option Expert :=
  let w := wd m.entries (2 * e)
  if e < m.nexp && bit w 63 && fld w 46 32 < n then
    some { member := fld w 46 32, local_ := fld w 55 48, cap := fld w 23 0, base := fld (wd m.entries (2 * e + 1)) 31 0 }
  else none

/-- The experts that a member owns, with their numbers. -/
def Emap.owned (m : Emap) (n i : Nat) : List (Nat × Expert) :=
  (List.range m.nexp).filterMap fun e => match m.expert n e with
    | some x => if x.member = i then some (e, x) else none
    | none => none

/-- Rows of a member's receive area. -/
def Emap.rows (m : Emap) (n i : Nat) : Nat := (m.owned n i).foldl (fun a x => max a (x.2.base + x.2.cap)) 0

/-- FILL counts of a member. -/
def Emap.locals (m : Emap) (n i : Nat) : Nat := (m.owned n i).foldl (fun a x => max a (x.2.local_ + 1)) 0

/-- R237: the map is malformed. -/
def emapBad (es : List Word) : Bool :=
  let n := es.length / 2
  let valid := (List.range n).filter fun e => bit (wd es (2 * e)) 63
  let f (e : Nat) : Nat × Nat × Nat × Nat :=
    (fld (wd es (2 * e)) 46 32, fld (wd es (2 * e)) 55 48, fld (wd es (2 * e)) 23 0, fld (wd es (2 * e + 1)) 31 0)
  (List.range n).any (fun e => !onlyBits (wd es (2 * e)) [(63, 63), (55, 48), (46, 32), (23, 0)] || !onlyBits (wd es (2 * e + 1)) [(31, 0)]) ||
  valid.any fun a => valid.any fun b =>
    let (m, l, c, s) := f a
    let (m', l', c', s') := f b
    a < b && m == m' && (l == l' || (c != 0 && c' != 0 && overlaps s c s' c'))

/-- The map of a posted dispatch or combine. -/
def Fabric.mapOf (f : Fabric) (c : Coll) : Emap := ((f.part (tagPart c.tag)).emap c.tag).getD { tag := c.tag, entries := [], crc := 0 }

/-! ### Buffers -/

/-- The buffers of a dispatch or combine at member i: (first byte, bytes, written). -/
def Coll.dispBuffers (c : Coll) (m : Emap) (i : Nat) : List (Nat × Nat × Bool) :=
  let n := c.group.size
  let rows := m.rows n i
  let up (b : Nat) : Nat := ceilDiv b 64 * 64
  let w := !c.combine
  [ (c.routeVa, 64 * c.ntok, false), (c.originVa, up (8 * rows), w), (c.fillVa, up (4 * m.locals n i), w), (c.admitVa, up c.ntok, w) ] ++
  (if c.combine then
    [(c.rowsInVa, 64 * c.sIn * rows, false), (c.rowsOutVa, 64 * c.sOut * c.ntok, true)] ++
      (if c.ovf then [(c.selfVa, 64 * c.sIn * c.ntok, false)] else [])
  else [(c.rowsInVa, 64 * c.sIn * c.ntok, false), (c.rowsOutVa, 64 * c.sOut * rows, true)])

/-! ### Route records (Table 7.2) -/

/-- What a choice of a token is. -/
inductive Pair where
  | empty
  | unmapped
  | mapped (expert : Nat) (x : Expert)
  deriving DecidableEq, Repr

/-- Route record of token t from the words read. -/
def Coll.routeWord (c : Coll) (t i : Nat) : Word := c.inData.get (8 * t + i) 0

/-- Choice j of token t (R240, R241). -/
def Coll.pair (c : Coll) (m : Emap) (t j : Nat) : Pair :=
  if fld (c.routeWord t 6) 7 0 / 2 ^ j % 2 = 1 then .empty
  else
    let e := (c.routeWord t (j / 4)).toNat / 2 ^ (16 * (j % 4)) % 65536
    match m.expert c.group.size e with
    | some x => .mapped e x
    | none => .unmapped

/-- FP32 weight of choice j. -/
def Coll.weight (c : Coll) (t j : Nat) : Nat := (c.routeWord t (2 + j / 2)).toNat / 2 ^ (32 * (j % 2)) % 2 ^ 32

/-- All (token, choice) pairs in order. -/
def Coll.pairs (c : Coll) : List (Nat × Nat) :=
  (List.range c.ntok).flatMap fun t => (List.range c.topk).map fun j => (t, j)

/-- This member's mapped pairs with their experts, in order. -/
def Coll.mapped (c : Coll) (m : Emap) : List (Nat × Nat × Nat × Expert) :=
  c.pairs.filterMap fun (t, j) => match c.pair m t j with
    | .mapped e x => some (t, j, e, x)
    | _ => none

/-- Unmapped pairs. -/
def Coll.unmappedNow (c : Coll) (m : Emap) : Nat := (c.pairs.filter fun (t, j) => c.pair m t j == .unmapped).length

/-- This member's count vector C[me][e] (R242). -/
def Coll.countVec (c : Coll) (m : Emap) : List Nat :=
  let ps := c.mapped m
  (List.range m.nexp).map fun e => (ps.filter fun p => p.2.2.1 == e).length

/-! ### Count vectors (R244) -/

/-- Counts in one COUNTS message. -/
def countsPer : Nat := 1904

/-- Messages of a count vector: (offset, words). -/
def countMsgs (v : List Nat) : List (Nat × List Word) :=
  (fragsOf countsPer v.length).map fun (o, l) => (o, ((Map.putBits [] 32 0 ((v.drop o).take l)).words 0 (ceilDiv l 2)))

/-- The count vector of a member, if all of it has come. -/
def Coll.countsOf (c : Coll) (nexp m : Nat) : Option (List Nat) :=
  let parts := fragsOf countsPer nexp
  let got := parts.filterMap fun (o, l) => (c.frag [.counts] 0 o m).map fun x => (rangeFrom 0 l).map (bitsAt x.data 32)
  if got.length = parts.length then some got.flatten else none

/-- Every member's count vector, in member order, when all are here. -/
def Coll.allCounts (c : Coll) (m : Emap) (i : Nat) : Option (List (List Nat)) :=
  let vs := (List.range c.group.size).map fun k => if k = i then some (c.countVec m) else c.countsOf m.nexp k
  if vs.all Option.isSome then some (vs.map (·.getD [])) else none

/-- Base B[m][e] (R242). -/
def baseOf (cs : List (List Nat)) (m e : Nat) : Nat := ((cs.take m).map fun v => v.getD e 0).foldl (· + ·) 0

/-- Pairs of member m for expert e that are admitted. -/
def admittedOf (cs : List (List Nat)) (m e cap : Nat) : Nat := min ((cs.getD m []).getD e 0) (cap - baseOf cs m e)

/-- This member's admitted pairs: (t, j, owner, slot of the receive area) (R242, R246). -/
def Coll.admitted (c : Coll) (mp : Emap) (cs : List (List Nat)) (i : Nat) : List (Nat × Nat × Nat × Nat) :=
  let ps := c.mapped mp
  ps.filterMap fun (t, j, e, x) =>
    let r := (ps.filter fun q => q.2.2.1 == e && (q.1 < t || (q.1 == t && q.2.1 < j))).length
    let s := baseOf cs i e + r
    if s < x.cap then some (t, j, x.member, x.base + s) else none

/-- Rows that this member receives, its own included. -/
def Coll.expected (c : Coll) (mp : Emap) (cs : List (List Nat)) (i : Nat) : Nat :=
  ((mp.owned c.group.size i).map fun (e, x) =>
    ((List.range c.group.size).map fun m => admittedOf cs m e x.cap).foldl (· + ·) 0).foldl (· + ·) 0

/-! ### Rows -/

/-- Data words of one ROW message: 7,664 B (R245). -/
def rowWords : Nat := 958

/-- The AGREE field of a ROW: choice and token (Table 8.4). -/
def rowKey (t j : Nat) : Nat := j * 2 ^ 29 + t

/-- The CHUNK field of a ROW: the number of its piece in bits [7:0], and above them what its slot has above the 24 bits of
OFFSET (log entry 23). -/
def rowChunk (slot q : Nat) : Nat := q + 256 * (slot / 2 ^ 24)

/-- The piece and the slot that a ROW names. -/
def rowPiece (m : Msg) : Nat × Nat := (m.chunk % 256, m.offset + 2 ^ 24 * (m.chunk / 256))

/-- Send a row to a member, or keep it here as received. -/
def Fabric.sendRow (f : Fabric) (p id i to_ slot t j : Nat) (data : List Word) : Fabric :=
  if to_ = i then
    f.updColl p id fun c =>
      { c with frags := c.frags ++ [{ kind := .row, chunk := 0, offset := slot, member := i, agree := rowKey t j, data := data }] }
  else
    (fragsOf rowWords data.length).zipIdx.foldl (fun g ((o, l), q) =>
      g.collSend p id to_ { kind := .row, dst := 0, src := 0, cls := 2, member := i, chunk := rowChunk slot q, offset := slot % 2 ^ 24,
                            agree := rowKey t j, data := (data.drop o).take l }) f

/-- The words of a row, when every piece of it has come. -/
def Coll.rowData (c : Coll) (x : Frag) (words : Nat) : Option (List Word) :=
  if x.data.length ≥ words then some (x.data.take words)
  else
    let parts := (fragsOf rowWords words).zipIdx
    let got := parts.filterMap fun ((_, l), q) =>
      (c.frags.find? fun y => y.kind == .row && y.chunk == q && y.offset == x.offset && y.member == x.member && y.agree == x.agree).map
        fun y => takePad l y.data
    if got.length = parts.length then some got.flatten else none

/-- Rows that have come whole and are not handled yet: their first fragments and words. -/
def Coll.wholeRows (c : Coll) (words : Nat) : List (Frag × List Word) :=
  (c.frags.filter fun x => x.kind == .row && x.chunk == 0 && !x.data.isEmpty).filterMap fun x => (c.rowData x words).map fun w => (x, w)

/-- A row has been handled: its data is let go, its mark stays (R225). -/
def Coll.rowTaken (c : Coll) (x : Frag) : Coll :=
  { c with frags := updWhere c.frags (fun y => y.kind == .row && y.offset == x.offset && y.member == x.member && y.agree == x.agree) fun y => { y with data := [] },
           rowsIn := c.rowsIn + 1 }

/-! ### Dispatch (R244–R246) -/

/-- Write words and count what is awaited. -/
def Fabric.collWrite (f : Fabric) (p : Nat) (c : Coll) (va : Nat) (data : List Word) : Fabric :=
  let (g, n) := f.vaWrite (f.collLook c .collWrite) va data (.collOut p c.id 0)
  g.updColl p c.id fun c => { c with outPend := c.outPend + n }

/-- Step 1: the count vector is multicast. -/
def Fabric.dispCounts (f : Fabric) (p : Nat) (c : Coll) (i : Nat) : Fabric :=
  let m := f.mapOf c
  let f := f.updColl p c.id fun c => { c with stage := 1, unmapped := c.unmappedNow m }
  (countMsgs (c.countVec m)).foldl (fun g (o, ws) =>
    g.collCast p c.id i { kind := .counts, dst := 0, src := 0, cls := 3, member := i, offset := o, data := ws }) f

/-- Steps 2 and 3: admission and the rows. -/
def Fabric.dispRows (f : Fabric) (p : Nat) (c : Coll) (i : Nat) (cs : List (List Nat)) : Fabric :=
  let m := f.mapOf c
  let adm := c.admitted m cs i
  let n := c.rowElems
  let base := 8 * c.ntok
  let row (t : Nat) : List Word := c.inData.words (base + 8 * c.sIn * t) (8 * c.sIn)
  let conv (t : Nat) : List Word × Nat :=
    let as_ := c.rcw.inp.elems (row t) n
    let (ws, fl) := c.rcw.result as_ c.seed c.opId (c.eOffset + t * n)
    (ws, fl ||| as_.foldl (fun a v => a ||| v.inFlags) 0)
  let used := (List.range c.ntok).filter fun t => adm.any fun a => a.1 == t
  let f := f.updColl p c.id fun c =>
    { c with stage := 2, rowsOut := adm.length, drops := (c.mapped m).length - adm.length,
             exc := used.foldl (fun a t => a ||| (conv t).2) c.exc }
  adm.foldl (fun g (t, j, owner, slot) => g.sendRow p c.id i owner slot t j (conv t).1) f

/-- Write the rows that have come whole (R246). -/
def Fabric.dispStore (f : Fabric) (p : Nat) (c : Coll) : Fabric :=
  (c.wholeRows (8 * c.sOut)).foldl (fun g (x, ws) =>
    (g.collWrite p c (c.rowsOutVa + 64 * c.sOut * x.offset) ws).updColl p c.id fun c => c.rowTaken x) f

/-- Every admitted row has taken effect: the admit bytes, FILL and the origin records (R246); none of them is written where
the dispatch ends otherwise (R255). -/
def Fabric.dispFinish (f : Fabric) (p : Nat) (c : Coll) (i : Nat) (cs : List (List Nat)) : Fabric :=
  let m := f.mapOf c
  let own := m.owned c.group.size i
  let fill := own.map fun (e, x) => (x.local_, ((List.range c.group.size).map fun k => admittedOf cs k e x.cap).foldl (· + ·) 0)
  let fillMap := fill.foldl (fun (a : Map Word) (l, v) => a.putBits 32 l [v]) []
  let origin (slot : Nat) : Word :=
    match c.frags.find? fun x => x.kind == .row && x.offset == slot with
    | some x => pack [(63, 63, 1), (50, 48, x.agree / 2 ^ 29), (46, 32, x.member), (15, 0, x.agree % 65536)]
    | none => 0
  let orig := own.foldl (fun (a : Map Word) (_, x) => a.setList x.base ((List.range x.cap).map fun s => origin (x.base + s))) []
  let f := f.updColl p c.id fun c => { c with stage := 3 }
  let adm := c.admitted m cs i
  let bytes := (List.range c.ntok).map fun t => maskOf ((adm.filter fun a => a.1 == t).map fun a => a.2.1)
  let f := f.collWrite p c c.admitVa ((Map.putBits [] 8 0 bytes).words 0 (8 * ceilDiv c.ntok 64))
  let f := own.foldl (fun g (_, x) =>
    if x.cap = 0 then g
    else
      let u := x.base / 8
      g.collWrite p c (c.originVa + 64 * u) (orig.words (8 * u) (8 * (ceilDiv (x.base + x.cap) 8 - u)))) f
  let f := if own.isEmpty then f else f.collWrite p c c.fillVa (fillMap.words 0 (8 * ceilDiv (4 * m.locals c.group.size i) 64))
  f.endColl p c.id stOk 0

/-- Move a dispatch on as far as its data allows. -/
def Fabric.runDispatch (f : Fabric) (p : Nat) (c : Coll) (i : Nat) : Fabric :=
  let m := f.mapOf c
  match c.stage with
  | 0 => if c.haveInput then f.dispCounts p c i else f
  | 1 => match c.allCounts m i with
    | some cs => f.dispRows p c i cs
    | none => f
  | 2 =>
    match c.allCounts m i with
    | none => f
    | some cs =>
      if !(c.wholeRows (8 * c.sOut)).isEmpty then f.dispStore p c
      else if c.rowsIn ≥ c.expected m cs i && c.outPend = 0 then f.dispFinish p c i cs
      else f
  | _ => f

/-! ### Combine (R247–R251) -/

/-- Words of `inData` at a combine: routes, admit bytes, origin records, SELF rows, expert rows, then FILL. -/
def Coll.admitAt (c : Coll) : Nat := 8 * c.ntok
def Coll.originAt (c : Coll) : Nat := c.admitAt + 8 * ceilDiv c.ntok 64
def Coll.selfAt (c : Coll) (rows : Nat) : Nat := c.originAt + 8 * ceilDiv rows 8
def Coll.expertAt (c : Coll) (rows : Nat) : Nat := c.selfAt rows + (if c.ovf then 8 * c.sIn * c.ntok else 0)

def Coll.fillAt (c : Coll) (rows : Nat) : Nat := c.expertAt rows + 8 * c.sIn * rows

/-- Admit bit of a pair. -/
def Coll.admitBit (c : Coll) (t j : Nat) : Bool :=
  (c.inData.get (c.admitAt + t / 8) 0).toNat / 2 ^ (8 * (t % 8) + j) % 2 == 1

/-- Valid slots of the experts that this member owns: (slot, source, token, choice). -/
def Coll.validSlots (c : Coll) (m : Emap) (i : Nat) : List (Nat × Nat × Nat × Nat) :=
  (m.owned c.group.size i).flatMap fun (_, x) => (rangeFrom x.base x.cap).filterMap fun s =>
    let w := c.inData.get (c.originAt + s) 0
    if bit w 63 && fld w 46 32 < c.group.size then some (s, fld w 46 32, fld w 15 0, fld w 50 48) else none

/-- Tokens of a chunk (R250). -/
def Coll.tokensPer (c : Coll) : Nat := max 1 (2621440 / (40 * max 1 c.rowElems))

/-- The dispatch that a combine reverses is known here and has not completed, or completed not OK: the one of
the context with the same ORIGIN_VA (log entry 24). -/
def Fabric.reversed (f : Fabric) (p : Nat) (c : Coll) : Option (Option Nat) :=
  let x := f.part p
  if x.colls.any fun k => k.tag == c.tag && k.disp && !k.combine && k.originVa == c.originVa then some none
  else (x.collsDone.find? fun k => k.tag == c.tag && k.disp && k.origin == c.originVa && k.origin != 0).map fun k => some k.status

/-- The reversed dispatch has completed: read what it wrote, the admit bytes, FILL and the origin records (R247). -/
def Fabric.combReadRecords (f : Fabric) (p : Nat) (c : Coll) (i rows : Nat) : Fabric :=
  let rd (st : Fabric × Nat) (va units word : Nat) : Fabric × Nat :=
    let (g, n) := st.1.vaRead (st.1.collLook c .collRead) va units fun o => .collIn p c.id (word + o)
    (g, st.2 + n)
  let st := rd (f, 0) c.admitVa (ceilDiv c.ntok 64) c.admitAt
  let st := rd st c.fillVa (ceilDiv (4 * (f.mapOf c).locals c.group.size i) 64) (c.fillAt rows)
  let st := rd st c.originVa (ceilDiv rows 8) c.originAt
  st.1.updColl p c.id fun c => { c with stage := 1, inPend := c.inPend + st.2 }

/-- Read the expert rows of the valid slots. -/
def Fabric.combReadRows (f : Fabric) (p : Nat) (c : Coll) (i rows : Nat) : Fabric :=
  let (f, n) := (c.validSlots (f.mapOf c) i).foldl (fun (st : Fabric × Nat) (s, _, _, _) =>
    let (g, k) := st.1.vaRead (st.1.collLook c .collRead) (c.rowsInVa + 64 * c.sIn * s) c.sIn
      fun o => .collIn p c.id (c.expertAt rows + 8 * c.sIn * s + o)
    (g, st.2 + k)) (f, 0)
  f.updColl p c.id fun c => { c with stage := 2, inPend := c.inPend + n }

/-- Send every valid slot's row to its source, earlier tokens first (R250). -/
def Fabric.combSend (f : Fabric) (p : Nat) (c : Coll) (i rows : Nat) : Fabric :=
  let m := f.mapOf c
  let slots := c.validSlots m i
  let top := slots.foldl (fun a s => max a (s.2.2.1 / c.tokensPer + 1)) 0
  let inOrder := (List.range top).flatMap fun k => slots.filter fun s => s.2.2.1 / c.tokensPer == k
  let spilled := (c.mapped m).filter fun (t, j, _, _) => !c.admitBit t j
  let f := f.updColl p c.id fun c => { c with stage := 3, rowsOut := slots.length, drops := spilled.length, unmapped := c.unmappedNow m }
  inOrder.foldl (fun g (s, src, t, j) =>
    g.sendRow p c.id i src s t j (c.inData.words (c.expertAt rows + 8 * c.sIn * s) (8 * c.sIn))) f

/-- Choices of a token that owners return. -/
def Coll.awaited (c : Coll) (t : Nat) : List Nat := (List.range c.topk).filter (c.admitBit t)

/-- The row of an awaited choice, when it has come. -/
def Coll.returned (c : Coll) (t j : Nat) : Option (List Word) :=
  match c.frags.find? fun x => x.kind == .row && x.chunk == 0 && x.agree == rowKey t j with
  | some x => c.rowData x (8 * c.sIn)
  | none => none

/-- Choices of a token that contribute the SELF row (Table 7.4). -/
def Coll.selfs (c : Coll) (m : Emap) (t : Nat) : List Nat :=
  if c.ovf then (List.range c.topk).filter fun j => !c.admitBit t j && c.pair m t j != .empty else []

/-- The combined row of a token and its flags, when every contribution is there (R247–R249). -/
def Coll.combineToken (c : Coll) (m : Emap) (rows t : Nat) : Option (List Word × Nat) :=
  let js := c.awaited t
  let got := js.filterMap fun j => (c.returned t j).map fun ws => (j, ws)
  if got.length != js.length then none
  else
    let selfRow := c.inData.words (c.selfAt rows + 8 * c.sIn * t) (8 * c.sIn)
    let all := got ++ (c.selfs m t).map fun j => (j, selfRow)
    let n := c.rowElems
    let prods := all.map fun (j, ws) =>
      let w := fp32.read (c.weight t j) 0
      (c.rcw.inp.elems ws n).map fun x => (wsumProduct w x, x.inFlags)
    let start : List (Acc × Nat) := List.replicate n (({ negz := !all.isEmpty } : Acc), 0)
    let sum := prods.foldl (fun st ps => (st.zip ps).map fun (a, b) => (a.1.add b.1, a.2 ||| b.2 ||| b.1.inFlags)) start
    let (ws, fl) := c.rcw.result (sum.map Prod.fst) c.seed c.opId (c.eOffset + t * n)
    some (ws, sum.foldl (fun a x => a ||| x.2) fl)

/-- Drop the rows that the source did not admit (R251). -/
def Coll.dropStray (c : Coll) : Coll :=
  let stray (x : Frag) : Bool :=
    x.kind == .row && !x.data.isEmpty && (x.agree % 65536 ≥ c.ntok || !c.admitBit (x.agree % 65536) (x.agree / 2 ^ 29))
  { c with dups := c.dups + (c.frags.filter fun x => stray x && x.chunk == 0).length,
           frags := updWhere c.frags stray fun x => { x with data := [] } }

/-- Combine the chunk in progress once the rows of all its tokens are there: its result rows are written together, so an
expired chunk leaves no element (R228, R250, R255). -/
def Fabric.combTokens (f : Fabric) (p : Nat) (c : Coll) (rows : Nat) : Fabric :=
  let m := f.mapOf c
  let per := c.tokensPer
  let ts := (rangeFrom (per * c.chunksDone) per).filter (· < c.ntok)
  let got := ts.filterMap fun t => (c.combineToken m rows t).map fun r => (t, r)
  if got.length != ts.length then f
  else
    let f := got.foldl (fun g (t, ws, fl) =>
      (g.collWrite p c (c.rowsOutVa + 64 * c.sOut * t) ws).updColl p c.id fun c =>
        { c with exc := c.exc ||| fl, rowsIn := c.rowsIn + (c.awaited t).length,
                 frags := updWhere c.frags (fun x => x.kind == .row && x.agree % 65536 == t) fun x => { x with data := [] } }) f
    f.updColl p c.id fun c =>
      { c with chunksDone := c.chunksDone + 1, lastProgress := f.tick, outAt := (f.ctx c.tag).outNow f.tick }

/-- A combine's first message to every other member carries its agreement code (R217, R238), in a COUNTS message without counts,
since AGREE of a ROW holds the pair (DESIGN CHOICE, log entry 164). -/
def Fabric.combGreet (f : Fabric) (p : Nat) (c : Coll) (i : Nat) : Fabric :=
  ((others c.group.size i).filter fun k => !c.greeted.contains k).foldl (fun g k =>
    g.collSend p c.id k { kind := .counts, dst := 0, src := 0, cls := 2, member := i }) f

/-- Move a combine on as far as its data allows. -/
def Fabric.runCombine : Nat → Fabric → Nat → Nat → Nat → Fabric
  | 0, f, _, _, _ => f
  | fuel + 1, f, p, id, i =>
    match f.coll p id with
    | none => f
    | some c =>
      let rows := (f.mapOf c).rows c.group.size i
      if c.fin.isSome || !c.haveInput then f
      else if c.stage = 0 then
        let f := f.combGreet p c i
        match f.reversed p c with
        | some none => f
        | some (some st) =>
          if st = stOk then Fabric.runCombine fuel (f.combReadRecords p c i rows) p id i
          else
            let (f, v) := f.draw
            f.endColl p id stFaulted (fld v 7 0)
        | none => Fabric.runCombine fuel (f.combReadRecords p c i rows) p id i
      else if c.stage = 1 then Fabric.runCombine fuel (f.combReadRows p c i rows) p id i
      else if c.stage = 2 then Fabric.runCombine fuel (f.combSend p c i rows) p id i
      else if c.chunksDone * c.tokensPer ≥ c.ntok then f.endColl p id stOk 0
      else
        let f := f.updColl p id Coll.dropStray
        match f.coll p id with
        | none => f
        | some c =>
          let f := f.combTokens p c rows
          match f.coll p id with
          | some c' => if c'.chunksDone = c.chunksDone then f else Fabric.runCombine fuel f p id i
          | none => f

/-- Move a launched collective, dispatch or combine on. -/
def Fabric.advanceColl (f : Fabric) (p id : Nat) : Fabric :=
  match f.coll p id with
  | none => f
  | some c =>
    if c.fin.isSome then f.finishColl p id
    else if !c.launched || (f.part p).csStalled then f
    else if !c.disp then Fabric.runColl (c.chunks + 1) f p id
    else
      let i := c.me f
      if c.combine then Fabric.runCombine (c.ntok + 8) f p id i
      else
        let step (f : Fabric) : Fabric := match f.coll p id with
          | some c => if c.fin.isSome then f else f.runDispatch p c i
          | none => f
        step (step (step (step f)))

/-- Combines that wait for a dispatch to complete go on (R247). -/
def Fabric.wakeCombines (f : Fabric) (p : Nat) : Fabric :=
  ((f.part p).colls.filter fun c => c.disp && c.combine && c.launched && c.stage == 0).foldl (fun g c => g.advanceColl p c.id) f

/-- Chunks of a combine in progress: a row of a later chunk is refused (R250). -/
def Coll.laterChunk (c : Coll) (m : Msg) : Bool :=
  c.disp && c.combine && m.kind == .row && m.agree % 65536 / c.tokensPer ≥ c.chunksDone + 2 && m.agree % 65536 < c.ntok

/-- A member waits on another: on its contributions, its counts or its rows, or on what it relays (R230). -/
def Coll.waitsOn (c : Coll) (m : Emap) (i k : Nat) : Bool :=
  if !c.disp then
    c.window.any fun q => (c.plan i q).any fun b =>
      b.len != 0 && ((b.recvs.contains k && (c.covered [.raw, .partialSum] q b k).isNone) ||
        (c.oper == 4 && c.algo == 2 && k == (i + c.group.size - 1) % c.group.size && b.recvs.any fun m => (c.covered [.raw, .partialSum] q b m).isNone) ||
        (b.resFrom == some k && (c.covered [.result] q b k).isNone && !c.fwdDone.any fun d => d.1 == q && (c.plan i q)[d.2]? == some b))
  else if !c.combine then
    (c.stage ≤ 1 && (c.countsOf m.nexp k).isNone) ||
      (c.stage == 2 && match c.allCounts m i with
        | some cs =>
          let due := ((m.owned c.group.size i).map fun (e, x) => admittedOf cs k e x.cap).foldl (· + ·) 0
          (c.frags.filter fun x => x.kind == .row && x.chunk == 0 && x.member == k).length < due
        | none => false)
  else
    (List.range c.ntok).any fun t => t ≥ c.chunksDone * c.tokensPer &&
      (c.awaited t).any fun j => (c.returned t j).isNone &&
        match c.pair m t j with
        | .mapped _ x => x.member == k
        | _ => false

/-- A launched member still waits for something from others (R227). -/
def Coll.waiting (c : Coll) (m : Emap) (i : Nat) : Bool := (others c.group.size i).any (c.waitsOn m i)

end Sys2Proof.Machine
end

