-- ==== Sys2Proof/Machine/CollOps.lean ====
section
/-!
DEFINITION. The commands and events of chapters 05 to 07: GROUP_SET, EMAP_SET, COLL_POST, DISPATCH_POST
and their status, cancel and journal commands, RED_LOCAL, launch, arrivals, NACK, abort and timeouts; and
CTX_RESUME, which also resumes parked collectives.
-/
namespace Sys2Proof.Machine

/-! ### Pre-translation and launch (R119, R218, R224) -/

/-- The buffers of a collective, dispatch or combine. -/
def Fabric.spansOf (f : Fabric) (c : Coll) : List (Nat × Nat × Bool) :=
  let i := c.me f
  if c.disp then c.dispBuffers (f.mapOf c) i else c.buffers i

/-- Pre-translate as far as the translations go. -/
def Fabric.preColl (f : Fabric) (p : Nat) (c : Coll) : Fabric × Pre :=
  Fabric.holdSpans 65536 f p c.id c.tag (f.spansOf c)

/-- A page fault of pre-translation parks the collective, or ends it (R118, R119, R227). -/
def Fabric.collFault (f : Fabric) (p : Nat) (c : Coll) (reason level va : Nat) : Fabric :=
  let x := f.ctx c.tag
  let seq := (x.faultSeq + 1) % 65536
  let fail := x.faultFail || x.state == .draining
  let n : Notice :=
    { part := p, unit := 4, code := 2, tag := c.tag,
      pay := [ pack [(7, 0, reason), (15, 8, level), (23, 16, 3), (24, 24, b2n fail), (47, 32, seq)], w64 va, w64 c.cmdId, 0, 0 ] }
  let f := (f.updCtx c.tag fun x => { x with faultSeq := seq }).notify p n
  if fail then f.endColl p c.id stFaulted 3
  else
    let f := f.updColl p c.id fun c => { c with parked := some seq }
    let f := f.updCtx c.tag fun x => if x.state == .live then { x with state := .switchedOut, outSince := f.tick } else x
    f.updPart p fun x => { x with runs := updWhere x.runs (fun o => o.tag == c.tag && o.phase.eng.isSome) fun o => { o with phase := .held } }

/-- Move the pre-translation of every collective of a partition on. -/
def Fabric.pumpColls (f : Fabric) (p : Nat) : Fabric :=
  (f.part p).colls.foldl (fun g c0 =>
    match g.coll p c0.id with
    | none => g
    | some c =>
      if c.launched || c.parked.isSome || c.fin.isSome then g
      else
        match g.preColl p c with
        | (g, .need va w) => g.startWalk c.tag va (.coll c.id w)
        | (g, .fault rs l va) => g.collFault p c rs l va
        | (g, .node) => g.endColl p c.id stFaulted 4
        | (g, .pins) => g.endColl p c.id stBusy 0x14
        | (g, _) => g) f

/-- A collective's walk has ended (R104, R119); an installed leaf is taken up by the next pump. -/
def Fabric.collWalk (f : Fabric) (p id va : Nat) (w : CollWalk) : Fabric :=
  match f.coll p id, w with
  | some c, .fault rs l => f.collFault p c rs l va
  | some c, .poison => f.endColl p c.id stFaulted 2
  | _, _ => f

/-- What the collectives of a partition have reserved (R218). -/
def Part.reserved (x : Part) : Nat := (x.colls.filter fun k => k.launched).foldl (fun a k => a + k.reserve) 0

/-- An earlier collective of the context is still to launch (R213). -/
def Part.launchesAfter (x : Part) (c : Coll) : Bool :=
  x.colls.any fun k => k.tag == c.tag && !k.launched && k.fin.isNone &&
    (k.launchBell < c.launchBell || (k.launchBell == c.launchBell && k.order < c.order))

/-- Start reading a launched collective's input (R244), and the output units that chunks share. -/
def Fabric.readInput (f : Fabric) (p : Nat) (c : Coll) : Fabric :=
  let i := c.me f
  let look := f.collLook c .collRead
  let rd (st : Fabric × Nat) (va units word : Nat) : Fabric × Nat :=
    let (g, n) := st.1.vaRead look va units fun o => .collIn p c.id (word + o)
    (g, st.2 + n)
  let st : Fabric × Nat := (f, 0)
  let st := if !c.disp then rd st (wn c.words 7) (c.rcw.inp.span (c.inCount i)) 0
    else if !c.combine then
      let st := rd st c.routeVa c.ntok 0
      rd st c.rowsInVa (c.sIn * c.ntok) (8 * c.ntok)
    else
      let rows := (f.mapOf c).rows c.group.size i
      let st := rd st c.routeVa c.ntok 0
      if c.ovf then rd st c.selfVa (c.sIn * c.ntok) (c.selfAt rows) else st
  let old (st : Fabric × Nat) (u : Nat) : Fabric × Nat :=
    let (g, n) := st.1.vaRead (st.1.collLook c .collWrite) (wn c.words 8 + 64 * u) 1 fun o => .collIn p c.id (Coll.oldAt + 8 * u + o)
    (g, st.2 + n)
  let st := if c.disp then st else (c.sharedUnits i).foldl old st
  st.1.updColl p c.id fun c => { c with inPend := c.inPend + st.2 }

/-- A posted collective launches (R224, R227, R233): its translations are fixed, its input is read and its
wait bound starts. -/
def Fabric.launch (f : Fabric) (p id : Nat) : Fabric :=
  match f.coll p id with
  | none => f
  | some c =>
    let x := f.part p
    let running := (x.colls.filter fun k => k.launched).length
    if c.launched || c.parked.isSome || c.fin.isSome || x.csStalled || x.launchesAfter c || running ≥ 4 ||
        x.reserved + c.reserve > 10485760 || f.bell < c.launchBell then f
    else
      match f.preColl p c with
      | (f, .ready) =>
        let x := f.part p
        let j := x.journals.get (tagSlot c.tag) {}
        let f := f.updColl p id fun c =>
          { c with launched := true, launchTick := f.bell, lastProgress := f.tick, outAt := (f.ctx c.tag).outNow f.tick,
                   jring := if j.enable then some j else none,
                   xlat := x.tlb.filter (fun e => e.colls.contains id), segs := (f.ctx c.tag).segs }
        match f.coll p id with
        | some c => (f.readInput p c).advanceColl p id
        | none => f
      | (f, _) => f

/-! ### Arrivals (R225–R229) -/

/-- Refuse a collective message (R226): the NACK repeats the fields that name it (log entry 25). -/
def Fabric.nack (f : Fabric) (m : Msg) : Fabric :=
  if m.kind == .nack then f
  else
    f.sendMsg { kind := .nack, dst := m.src, src := 0, tag := m.tag, cls := 2, coll := m.coll, member := m.member,
                chunk := m.chunk, offset := m.offset }

/-- A posted collective of a context, by the low 24 bits of its identifier. -/
def Part.collBy (x : Part) (tag id24 : Nat) : Option Coll := x.colls.find? fun c => c.tag == tag && c.id24 == id24

/-- A collective message arrives at a member (R225–R229, R250, R427). -/
def Fabric.collArrive (f : Fabric) (m : Msg) : Fabric :=
  let p := tagPart m.tag
  if !f.targetLive m.tag then f.updPart p fun x => { x with lateDiscard := sat32 (x.lateDiscard + 1) }
  else
    match (f.part p).collBy m.tag m.coll with
    | none => f.nack m
    | some c =>
      let (chunk, offset) := if m.kind == .row then rowPiece m else (m.chunk, m.offset)
      let same (x : Frag) : Bool :=
        x.kind == m.kind && x.chunk == chunk && x.offset == offset && x.member == m.member && (m.kind != .row || x.agree == m.agree)
      if c.frags.any same then f.updColl p c.id fun c => { c with dups := c.dups + 1 }
      else if m.kind == .abort then
        let full := c.launched && !c.waiting (f.mapOf c) (c.me f) && (c.disp || c.chunksDone + 2 ≥ c.chunks)
        match c.fin with
        | some (st, _) => if st = stOk then f else f.updColl p c.id fun c => { c with discards := c.discards + 1 }
        | none => if full then f else f.endColl p c.id stFaulted 0x11
      else if c.fin.isSome then f.updColl p c.id fun c => { c with discards := c.discards + 1 }
      else if m.kind != .row && (m.agree != 0 || !c.heard.contains m.src) && m.agree != c.agree then f.endColl p c.id stFaulted 0x10
      else if c.laterChunk m then f.nack m
      else
        let x : Frag := { kind := m.kind, chunk := chunk, offset := offset, member := m.member, agree := m.agree, data := m.data }
        let f := f.updColl p c.id fun c =>
          { c with frags := c.frags ++ [x], heard := if m.kind == .row then c.heard else m.src :: c.heard,
                   lastProgress := f.tick, outAt := (f.ctx c.tag).outNow f.tick }
        f.advanceColl p c.id

/-- A NACK schedules a resend to its sender alone, 1,024 ref ticks later (R226). -/
def Fabric.collNack (f : Fabric) (m : Msg) : Fabric :=
  let p := tagPart m.tag
  if !f.targetLive m.tag then f.updPart p fun x => { x with lateDiscard := sat32 (x.lateDiscard + 1) }
  else
    match (f.part p).collBy m.tag m.coll with
    | none => f
    | some c =>
      let hit (s : Msg) : Bool := (s.dst == m.src || s.cls == 3) && s.chunk == m.chunk && s.offset == m.offset && s.member == m.member
      match c.sent.find? hit with
      | none => f
      | some s =>
        let r : Resend := { due := f.tick + 1024, msg := { s with cls := 2, dst := m.src, mask := 0, tree := 0, minus := false, hops := 0, agree := if s.kind == .row then s.agree else c.agree } }
        if c.fin.isSome || c.resends.any (fun q => q.msg == r.msg) then f
        else f.updColl p c.id fun c => { c with resends := c.resends ++ [r] }

/-- Resend what is due (R226). -/
def Fabric.collResend (f : Fabric) (p id : Nat) : Fabric :=
  match f.coll p id with
  | none => f
  | some c =>
    let due := c.resends.filter fun r => r.due ≤ f.tick
    let f := f.updColl p id fun c =>
      { c with resends := c.resends.filter (fun r => !(r.due ≤ f.tick)), early := c.early + due.length }
    due.foldl (fun g r => g.sendMsg r.msg c.group.uplink) f

/-- Wait bound of a collective (R227). -/
def Fabric.collBound (f : Fabric) (c : Coll) : Nat :=
  min (if c.timeout = 0 then 1250000 else c.timeout) (f.win.par - 156250)

/-- The wait bound of a member expires (R228). -/
def Fabric.collTimeout (f : Fabric) (p id : Nat) : Fabric :=
  match f.coll p id with
  | none => f
  | some c =>
    let x := f.ctx c.tag
    if (f.part p).csStalled then f else
    let ran := (f.tick - c.lastProgress) - (x.outNow f.tick - c.outAt)
    if c.launched && c.fin.isNone && x.state != .switchedOut && ran ≥ f.collBound c && c.waiting (f.mapOf c) (c.me f) then
      f.endColl p id stTimeout 0
    else f

/-- A verdict declares a node dead: collectives that wait on it end (R230). -/
def Fabric.peerDead (f : Fabric) (node : Nat) : Fabric :=
  let hits := (List.range f.partCount).flatMap fun p =>
    ((f.part p).colls.filter fun c => c.fin.isNone && c.group.members.contains node &&
      c.waitsOn (f.mapOf c) (c.me f) (indexOf node c.group.members)).map fun c => (p, c.id)
  hits.foldl (fun g (p, id) => g.endColl p id stFaulted 0x12) f

/-! ### HDP answers -/

/-- Input data of a collective arrives (R63, R212). -/
def Fabric.collInput (f : Fabric) (p id off : Nat) (ws : List Word) (poison : Bool) (addr : Nat) : Fabric :=
  match f.coll p id with
  | none => f
  | some c =>
    if poison then
      let f := f.notify p (faultNotice p 4 0 c.tag 2 (w64 addr) 0 (w64 c.cmdId))
      (f.updColl p id fun c => { c with inPend := c.inPend - 1 }).endColl p id stFaulted 2
    else
      (f.updColl p id fun c => { c.take off ws with inPend := c.inPend - 1 }).advanceColl p id

/-- A write of a collective is acknowledged. -/
def Fabric.collWritten (f : Fabric) (p id : Nat) : Fabric :=
  (f.updColl p id fun c => { c with outPend := c.outPend - 1 }).advanceColl p id

/-- A journal write of a collective is acknowledged (R234). -/
def Fabric.journalWritten (f : Fabric) (p id : Nat) : Fabric :=
  (f.updColl p id fun c => { c with jPend := c.jPend - 1 }).advanceColl p id

/-! ### GROUP_SET and EMAP_SET -/

/-- Bytes of the layout: items 1 and 2 of R217. -/
def Group.layoutBytes (g : Group) : List Nat :=
  (g.members.flatMap fun n => [n % 256, n / 256 % 128]) ++
    [g.kind, if g.kind = 0 then g.axis else 0, b2n (g.kind == 0 && g.ring), b2n (g.kind == 2 && g.uplink)]

/-- Write a group slot (R204): fewer than 2 members, or without this chip, is FAULTED. -/
def Fabric.setGroup (f : Fabric) (p slot mbx : Nat) (g : Group) : Fabric :=
  if g.size < 2 || !g.members.contains f.rtr.seated then f.finish mbx stFaulted
  else
    let f := f.updPart p fun x => { x with groups := x.groups.set slot g }
    f.finish mbx stOk (crc32c g.layoutBytes)

/-- Read a table of host-die memory for a command. -/
def Fabric.readTable (f : Fabric) (p : Nat) (c : Cmd) (addr units : Nat) (why : Nat → Purpose) : Fabric :=
  let t : TableRead := { mbx := c.mbx, tag := c.tag, words := c.pay.take 5, pend := pieceCount addr units }
  (f.updPart p fun x => { x with tables := x.tables ++ [t] }).hdpRead addr units fun o => why (8 * o)

def groupSetBody : Body := fun c f =>
  let w0 := wd c.pay 0
  let kind := fld w0 9 8
  let axis := fld w0 13 12
  let nmem := fld (wd c.pay 1) 15 0
  let lo := wn c.pay 2
  let hi := wn c.pay 3
  let bad := c.len != 40 || !onlyBits w0 [(17, 16), (13, 12), (9, 8), (4, 0)] || !onlyBits (wd c.pay 1) [(15, 0)] ||
    !onlyBits (wd c.pay 4) [(47, 6)] || kind == 3 || axis == 3 || (kind != 2 && bit w0 17) || (kind != 1 && hi != 0) ||
    (kind == 0 && lo ≥ 2 ^ 32)
  liveGate bad 0 c f fun f =>
    let p := tagPart c.tag
    let slot := fld w0 4 0
    let me := f.rtr.seated
    if (f.part p).colls.any fun k => fld (wd k.words 4) 52 48 == slot then (f, .done stBusy)
    else if kind = 0 then
      let ms := ((bitsOf lo 32).filter (· < f.rtr.len axis)).map fun k =>
        mkNode (if axis = 0 then k else coord 0 me) (if axis = 1 then k else coord 1 me) (if axis = 2 then k else coord 2 me)
      if bit w0 16 && lo != 2 ^ f.rtr.len axis - 1 then faulted f
      else (f.setGroup p slot c.mbx { kind := 0, axis := axis, ring := bit w0 16, members := ms }, .wait)
    else if kind = 1 then
      let ms := (bitsOf (lo + hi * 2 ^ 64) 128).map fun q =>
        mkNode (coord 0 me / 4 * 4 + posCoord 0 q) (coord 1 me / 4 * 4 + posCoord 1 q) (coord 2 me / 8 * 8 + posCoord 2 q)
      (f.setGroup p slot c.mbx { kind := 1, members := ms }, .wait)
    else if nmem < 2 || nmem > 32768 then faulted f
    else (f.readTable p c (wn c.pay 4) (ceilDiv (2 * nmem) 64) (.groupRead c.mbx), .wait)

/-- A list has no repeated entry. -/
def noRepeat : List Nat → Bool
  | [] => true
  | x :: xs => !xs.contains x && noRepeat xs

/-- The member list of a GROUP_SET has been read (R203, R204). -/
def Fabric.groupRead (f : Fabric) (p : Nat) (t : TableRead) : Fabric :=
  let w0 := wd t.words 0
  let es := (rangeFrom 0 (fld (wd t.words 1) 15 0)).map (bitsAt (t.data.words 0 8193) 16)
  if t.poison || es.any (· ≥ 32768) || !noRepeat es then f.finish t.mbx stFaulted
  else f.setGroup p (fld w0 4 0) t.mbx { kind := 2, uplink := bit w0 17, members := es }

/-- A map of n entries cannot be installed for a context now: it has a dispatch or combine outstanding (R239), or the map store
would overflow (R236). -/
def Part.mapBusy (x : Part) (tag n : Nat) : Bool :=
  let used := (x.emaps.filter fun m => m.tag != tag).foldl (fun a m => a + m.nexp) 0
  x.colls.any (fun k => k.tag == tag && k.disp) || used + n > 65536

def emapSetBody : Body := fun c f =>
  let n := fld (wd c.pay 1) 16 0
  let bad := c.len != 16 || !onlyBits (wd c.pay 0) [(47, 6)] || !onlyBits (wd c.pay 1) [(16, 0)] || n == 0 || n > 65536
  liveGate bad 0 c f fun f =>
    let p := tagPart c.tag
    let x := f.part p
    if (f.ctx c.tag).state != .live then faulted f
    else if x.mapBusy c.tag n then (f, .done stBusy)
    else (f.readTable p c (wn c.pay 0) (ceilDiv (16 * n) 64) (.emapRead c.mbx), .wait)

/-- An expert map has been read (R236, R237); what other commands did meanwhile can still make it BUSY (R236, R239). -/
def Fabric.emapRead (f : Fabric) (p : Nat) (t : TableRead) : Fabric :=
  let es := t.data.words 0 (2 * fld (wd t.words 1) 16 0)
  if t.poison || emapBad es then f.finish t.mbx stFaulted
  else if (f.part p).mapBusy t.tag (fld (wd t.words 1) 16 0) then f.finish t.mbx stBusy
  else
    let m : Emap := { tag := t.tag, entries := es, crc := crc32c (es.flatMap wordBytes) }
    let f := f.updPart p fun x => { x with emaps := x.emaps.filter (fun y => y.tag != t.tag) ++ [m] }
    f.finish t.mbx stOk m.crc

/-- One answer of a table read. -/
def Fabric.tableData (f : Fabric) (mbx off : Nat) (ws : List Word) (poison emap : Bool) (addr : Nat) : Fabric :=
  match (List.range 32).find? fun p => (f.part p).tables.any fun t => t.mbx == mbx with
  | none => f
  | some p =>
    let f := f.updPart p fun x =>
      { x with tables := updWhere x.tables (fun t => t.mbx == mbx) fun t =>
          { t with data := t.data.setList off ws, pend := t.pend - 1, poison := t.poison || poison } }
    match (f.part p).tables.find? fun t => t.mbx == mbx with
    | none => f
    | some t =>
      let f := if poison then f.notify p (faultNotice p 4 0 t.tag 2 (w64 addr) 0 (f.mbx mbx).env.cmdId) else f
      if t.pend != 0 then f
      else
        let f := f.updPart p fun x => { x with tables := x.tables.filter fun y => y.mbx != mbx }
        if emap then f.emapRead p t else f.groupRead p t

/-! ### COLL_POST and DISPATCH_POST (R209–R211, R216, R217, R224, R253–R255) -/

/-- AUTO under ABI 3 (Table 6.7). -/
def autoAlgo (g : Group) (r : Rcw) (oper c : Nat) : Nat :=
  let n := g.size
  let pow2 := 2 ^ lg n == n
  if g.kind = 2 && g.uplink then 3
  else if g.kind ≤ 1 && c ≤ 65536 && r.inp.width ≤ 32 && !(oper ≤ 1 && r.tree) then 1
  else if oper = 3 then (if n > 8 then 3 else 2)
  else if oper = 4 then 2
  else if pow2 && c ≤ 1048576 then 4
  else 2

/-- Table 6.4: the algorithm is allowed for the operation and the group. -/
def algoAllowed (g : Group) (r : Rcw) (oper algo count : Nat) : Bool :=
  let n := g.size
  let c := if oper = 2 then count / n else count
  let torus := g.kind ≤ 1 || !g.uplink
  match algo with
  | 1 => g.kind ≤ 1 && !(oper ≤ 1 && r.tree) && 64 * r.inp.span c ≤ 262144 && c ≤ 131072
  | 2 => torus
  | 3 => oper != 4 && (chunkSize r oper 3 n count).isSome
  | 4 => oper ≤ 2 && torus && 2 ^ lg n == n && (chunkSize r oper 4 n count).isSome
  | _ => false

/-- Two spans overlap; empty ones do not. -/
def spansMeet (a b : Nat × Nat) : Bool := a.2 != 0 && b.2 != 0 && overlaps a.1 a.2 b.1 b.2

/-- Keep some fields (hi, lo) of a word. -/
def keepBits (w : Word) (fs : List (Nat × Nat)) : Word := pack (fs.map fun (h, l) => (h, l, fld w h l))

/-- The agreement code of a collective, dispatch or combine (R217). -/
def agreeCode (g : Group) (ws : List Word) (disp : Bool) (algo abi crc : Nat) : Nat :=
  let same := if disp then
      ws.take 4 ++ [keepBits (wd ws 4) [(63, 59), (34, 32), (17, 0)], 0, wd ws 6] ++ zeros 9
    else ws.take 4 ++ [keepBits (wd ws 4) [(63, 56), (30, 16)], keepBits (wd ws 5) [(32, 0)], wd ws 6] ++ zeros 9
  crc32c (g.layoutBytes ++ (takePad 16 same).flatMap wordBytes ++ [algo, abi % 256] ++
    (if disp then (List.range 4).map fun i => crc / 2 ^ (8 * i) % 256 else []))

/-- What the checks of a descriptor answer: the algorithm, its group and its reservation, or none. -/
def Fabric.collCheck (f : Fabric) (p : Nat) (ws : List Word) : Option (Nat × Group × Nat) :=
  let w4 := wd ws 4
  let oper := fld w4 63 60
  let algo := fld w4 59 56
  let count := fld (wd ws 5) 32 0
  let zeroBad := !onlyBits w4 [(63, 55), (52, 48), (30, 16)] || !onlyBits (wd ws 5) [(32, 0)] || !vaOk (wd ws 7) || !vaOk (wd ws 8) ||
    !onlyBits (wd ws 9) [(47, 6)] || !onlyBits (wd ws 10) [(31, 0)] || (rangeFrom 11 4).any fun i => wd ws i != 0
  match rcwOf (wd ws 1), (f.part p).groups.find (fld w4 52 48) with
  | some r, some g =>
    let n := g.size
    let c := if oper = 2 then count / n else count
    let algo' := if algo = 0 then autoAlgo g r oper c else algo
    let root := fld w4 30 16
    let i := indexOf f.rtr.seated g.members
    let inSpan := (wn ws 7, 64 * r.inp.span (inElems oper count n root i))
    let outSpan := (wn ws 8, 64 * r.out.span (outElems oper count n))
    let identical := (oper == 0 || oper == 3) && r.inp == r.out && inSpan == outSpan
    let partBad := byParts oper && (count % n != 0 || count / n % r.granule != 0)
    if zeroBad || r.op == 3 || (oper ≥ 2 && r.op != 0) || oper > 4 || algo > 4 || (oper == 3 && root ≥ n) || (oper != 3 && root != 0) ||
        count == 0 || count > 2 ^ 32 || partBad || count % r.granule != 0 || (spansMeet inSpan outSpan && !identical) ||
        !algoAllowed g r oper algo' count then none
    else some (algo', g, reservation oper algo' n count)
  | _, _ => none

/-- The same for a dispatch or combine descriptor (R253, R254). -/
def Fabric.dispCheck (f : Fabric) (p tag : Nat) (ws : List Word) : Option (Nat × Group × Nat) :=
  let w4 := wd ws 4
  let comb := fld w4 63 60 == 1
  let rowE := fld w4 17 0
  let ntok := fld (wd ws 5) 16 0
  let zeroBad := !onlyBits w4 [(63, 59), (52, 48), (34, 32), (17, 0)] || !onlyBits (wd ws 5) [(63, 32), (16, 0)] ||
    (rangeFrom 7 7).any (fun i => !vaOk (wd ws i)) || !onlyBits (wd ws 14) [(47, 6)] || fld w4 63 60 > 1 ||
    (!comb && bit w4 59) || (!(comb && bit w4 59) && wd ws 13 != 0)
  match rcwOf (wd ws 1), (f.part p).groups.find (fld w4 52 48), (f.part p).emap tag with
  | some r, some g, some m =>
    let n := g.size
    let i := indexOf f.rtr.seated g.members
    let c : Coll := { id := 0, cmdId := 0, tag := tag, disp := true, words := ws, algo := 1, group := g, agree := 0, order := 0 }
    let spans := (c.dispBuffers m i).map fun b => (b.1, b.2.1)
    let clash := spans.zipIdx.any fun (a, x) => spans.zipIdx.any fun (b, y) => x < y && spansMeet a b
    if zeroBad || g.kind == 2 || n * m.nexp > 1048576 || rowE == 0 || rowE > (if comb then 65536 else 131072) || ntok == 0 || ntok > 65536 ||
        64 * r.inp.span rowE > 65536 || rowE % r.granule != 0 || (comb && (r.op != 3 || r.tree)) || (!comb && r.op != 0) || clash then none
    else some (1, g, 5242880)
  | _, _, _ => none

/-- Take the descriptors of a post in order: those to post, or none where one of them fails. -/
def Fabric.takeDescs (f : Fabric) (p tag : Nat) (disp : Bool) : Nat → List Word → List Coll → Option (List Coll)
  | 0, _, acc => some acc
  | m + 1, ws, acc =>
    let d := takePad 16 ws
    let out := (f.part p).colls ++ acc
    let same := out.find? fun k => k.tag == tag && k.id24 == fld (wd d 0) 23 0
    match same with
    | some k => if k.words == d && k.disp == disp then Fabric.takeDescs f p tag disp m (ws.drop 16) acc else none
    | none =>
      match (if disp then f.dispCheck p tag d else f.collCheck p d) with
      | none => none
      | some (algo, g, res) =>
        let crc := match (f.part p).emap tag with | some e => e.crc | none => 0
        let id := (f.part p).nextColl + acc.length
        let c : Coll :=
          { id := id, cmdId := 0, tag := tag, disp := disp, words := d, algo := algo, group := g, order := id, reserve := res,
            agree := agreeCode g d disp algo f.abi crc }
        Fabric.takeDescs f p tag disp m (ws.drop 16) (acc ++ [c])

/-- Post descriptors (R209–R211, R224). -/
def postBody (disp : Bool) : Body := fun c f =>
  let m := c.len / 128
  liveGate (c.len % 128 != 0 || m == 0 || m > 31) 0 c f fun f =>
    let p := tagPart c.tag
    match f.takeDescs p c.tag disp m c.pay [] with
    | none => faulted f
    | some cs =>
      if (f.part p).colls.length + cs.length > 16 || (f.bells.state == 0 && cs.any fun k => k.launchBell != 0) then (f, .done stBusy)
      else
        let id := (f.mbx c.mbx).env.cmdId.toNat
        let f := f.updPart p fun x =>
          { x with colls := x.colls ++ cs.map (fun k => { k with cmdId := id, late := k.launchBell != 0 && k.launchBell ≤ f.bell }),
                   nextColl := x.nextColl + cs.length }
        okay (f.pumpColls p) m

/-! ### Status, cancel, journal, Bell (Tables 6.12, 6.13, 7.7) -/

/-- Cancel an unlaunched collective (R231). -/
def cancelBody (disp : Bool) : Body := fun c f =>
  ctxGate (c.len != 8) 0 c f fun f =>
    let p := tagPart c.tag
    match (f.part p).colls.find? fun k => k.tag == c.tag && k.disp == disp && wd k.words 0 == wd c.pay 0 with
    | none => okay f 0
    | some k =>
      if k.launched || k.fin.isSome then okay f 0
      else okay ((f.endColl p k.id stSuperseded 6).unpark c.tag) 1

/-- COLL_STATUS and DISPATCH_STATUS (Table 6.12). -/
def statusBody (disp : Bool) : Body := fun c f =>
  ctxGate (c.len != 8) 24 c f fun f =>
    let p := tagPart c.tag
    let x := f.part p
    let ans (cmd chunks st tick : Nat) : Fabric × Reply := (f, .done stOk 0 [w64 cmd, pack [(63, 32, chunks), (7, 0, st)], w64 tick] 24)
    match x.colls.find? fun k => k.tag == c.tag && k.disp == disp && wd k.words 0 == wd c.pay 0 with
    | some k =>
      let st := if k.launched then 3 else if (f.preColl p k).2 == .ready then 2 else 1
      ans k.cmdId k.chunksDone st k.launchTick
    | none =>
      match x.collsDone.find? fun k => k.tag == c.tag && k.disp == disp && k.collId == wd c.pay 0 with
      | some k => ans k.cmdId k.chunks 4 k.launchTick
      | none => ans 0 0 0 0

/-- Words of BELL_READ (Table 6.13). -/
def Fabric.bellWords (f : Fabric) : List Word :=
  let b := f.bells
  [ w64 f.bell, pack [(63, 62, b.state), (61, 47, b.root), (39, 32, b.depth), (31, 0, (b.offset % 2 ^ 32).toNat)], w64 b.parent, 0 ]

def bellReadBody : Body := fun c f =>
  if c.len != 0 || c.tag != 0 then faulted f else (f, .done stOk 0 f.bellWords 32)

def journalSetBody : Body := fun c f =>
  let w1 := wd c.pay 1
  let lg2 := fld w1 4 0
  let bad := c.len != 16 || !onlyBits (wd c.pay 0) [(47, 6)] || !onlyBits w1 [(8, 8), (4, 0)] || (lg2 < 16 && bit w1 8)
  liveGate bad 0 c f fun f =>
    let p := tagPart c.tag
    let s := tagSlot c.tag
    let j := (f.part p).journals.get s {}
    let base := wn c.pay 0
    let same := j.base == base && j.log2 == lg2
    let other (o : Nat × Nat × Nat) : Bool := !(o.1 == base && o.2.1 == lg2) && !(o.1 == j.base && o.2.1 == j.log2)
    let olds := if same then j.olds else (j.base, j.log2, j.offset) :: j.olds.filter other
    let j' := { j with enable := bit w1 8, base := base, log2 := lg2, offset := if same then j.offset else 0, olds := olds }
    okay (f.updPart p fun x => { x with journals := x.journals.set s j' }) j'.jseq

def journalStatusBody : Body := fun c f =>
  ctxGate (c.len != 0) 24 c f fun f =>
    let j := (f.part (tagPart c.tag)).journals.get (tagSlot c.tag) {}
    (f, .done stOk 0 [pack [(63, 63, b2n j.enable), (47, 6, j.base / 64), (4, 0, j.log2)], w64 j.jseq, w64 j.offset] 24)

/-! ### RED_LOCAL (R199–R201) -/

def redCount (ws : List Word) : Nat := fld (wd ws 3) 28 0
def redSources (ws : List Word) : Nat := fld (wd ws 3) 35 32 + 1

/-- The tree of RED_LOCAL: neighbours pair at each level, an odd last one passes up (R200). -/
def redTree (r : Rcw) : Nat → List (List Acc) → List Acc × Nat
  | 0, vs => (vs.headD [], 0)
  | fuel + 1, vs =>
    let rec pairUp : List (List Acc) → List (List Acc) × Nat
      | a :: b :: rest =>
        let (v, fl) := r.combineAll a b
        let (vs, fl') := pairUp rest
        (v :: vs, fl ||| fl')
      | l => (l, 0)
    match vs with
    | [] => ([], 0)
    | [v] => (v, 0)
    | _ =>
      let (vs', fl) := pairUp vs
      let (v, fl') := redTree r fuel vs'
      (v, fl ||| fl')

def Fabric.updRed (f : Fabric) (p id : Nat) (g : RedOp → RedOp) : Fabric :=
  f.updPart p fun x => { x with reds := updWhere x.reds (fun o => o.id == id) g }

/-- A RED_LOCAL ends. -/
def Fabric.endRed (f : Fabric) (p : Nat) (o : RedOp) (status exc : Nat) : Fabric :=
  (f.updPart p fun x => { x with reds := x.reds.filter fun y => y.id != o.id }).finish o.mbx status exc

/-- A page fault ends a RED_LOCAL and is reported with FAILED = 1 (R201). -/
def Fabric.redFault (f : Fabric) (p : Nat) (o : RedOp) (reason level access va : Nat) : Fabric :=
  let seq := ((f.ctx o.tag).faultSeq + 1) % 65536
  let n : Notice :=
    { part := p, unit := 2, code := 2, tag := o.tag,
      pay := [ pack [(7, 0, reason), (15, 8, level), (23, 16, access), (24, 24, 1), (47, 32, seq)], w64 va, (f.mbx o.mbx).env.cmdId, 0, 0 ] }
  ((f.updCtx o.tag fun x => { x with faultSeq := seq }).notify p n).endRed p o stFaulted 0

/-- The result of a RED_LOCAL whose sources have been read (R200). -/
def RedOp.compute (o : RedOp) (r : Rcw) : List Word × Nat :=
  let n := redCount o.words
  let vs := (List.range (redSources o.words)).map fun i => r.inp.elems ((o.data.get i []).words 0 (8 * r.inp.span n)) n
  let fl := vs.foldl (fun a v => v.foldl (fun b x => b ||| x.inFlags) a) 0
  let (v, fl2) := redTree r 6 vs
  let (ws, fl3) := r.result v (wd o.words 1) (wd o.words 2) 0
  (ws, fl ||| fl2 ||| fl3)

/-- Number of an access of a RED_LOCAL: its source vector, or 16 for the result, and its first word. -/
def redKey (vec off : Nat) : Nat := 17 * off + vec

/-- One more access of a RED_LOCAL is in flight. -/
def RedOp.use (o : RedOp) (key seg va bytes : Nat) : RedOp := { o with pend := o.pend + 1, uses := o.uses ++ [(key, seg, va, bytes)] }

/-- An access of a RED_LOCAL is answered. -/
def RedOp.answered (o : RedOp) (key : Nat) : RedOp := { o with pend := o.pend - 1, uses := o.uses.filter fun u => u.1 != key }

/-- Move a RED_LOCAL on: read its sources span by span, combine, write the result, complete. An access to a sealed page is a
violation (R475): it reads zeros and writes nothing (R166, R201). -/
def Fabric.pumpRed : Nat → Fabric → Nat → Nat → Fabric
  | 0, f, _, _ => f
  | fuel + 1, f, p, id =>
    match (f.part p).reds.find? fun o => o.id == id with
    | none => f
    | some o =>
      match rcwOf (wd o.words 0) with
      | none => f
      | some r =>
        let n := redCount o.words
        if !o.writing then
          let span := r.inp.span n
          if o.vec ≥ redSources o.words then
            if o.pend != 0 then f
            else
              let (ws, fl) := o.compute r
              Fabric.pumpRed fuel (f.updRed p id fun o => { o with writing := true, pos := 0, out := ws, exc := fl }) p id
          else if o.pos ≥ span then Fabric.pumpRed fuel (f.updRed p id fun o => { o with vec := o.vec + 1, pos := 0 }) p id
          else
            let va := wn o.words (6 + o.vec) + 64 * o.pos
            let k := min (unitsLeft va) (span - o.pos)
            let go (f : Fabric) : Fabric := f.updRed p id fun o => { o with pos := o.pos + k }
            match f.check o.tag va .read with
            | .miss => f.startWalk o.tag va (.coll id false)
            | .fault rs l => f.redFault p o rs l 0 va
            | .violation => Fabric.pumpRed fuel (go f.violate) p id
            | .ok pa sl seg =>
              if sl then Fabric.pumpRed fuel (go f.violate) p id
              else if !f.own pa then f.endRed p o stFaulted 0
              else
                let f := f.hdpSend { kind := .memRd, addr := paLocal pa, units := k, purpose := .redIn p id o.vec (8 * o.pos) }
                Fabric.pumpRed fuel ((go f).updRed p id fun o' => o'.use (redKey o.vec (8 * o.pos)) seg va (64 * k)) p id
        else
          let span := r.out.span n
          if o.pos ≥ span then (if o.pend = 0 then f.endRed p o stOk o.exc else f)
          else
            let va := wn o.words 4 + 64 * o.pos
            let k := min (unitsLeft va) (span - o.pos)
            let go (f : Fabric) : Fabric := f.updRed p id fun o => { o with pos := o.pos + k }
            match f.check o.tag va .write with
            | .miss => f.startWalk o.tag va (.coll id true)
            | .fault rs l => f.redFault p o rs l 1 va
            | .violation => Fabric.pumpRed fuel (go f.violate) p id
            | .ok pa sl seg =>
              if sl then Fabric.pumpRed fuel (go f.violate) p id
              else if !f.own pa then f.endRed p o stFaulted 0
              else
                let f := f.hdpSend { kind := .memWr, addr := paLocal pa, units := k, data := takePad (8 * k) (o.out.drop (8 * o.pos)), purpose := .redOut p id (8 * o.pos) }
                Fabric.pumpRed fuel ((go f).updRed p id fun o' => o'.use (redKey 16 (8 * o.pos)) seg va (64 * k)) p id

/-- Move every RED_LOCAL of a partition on. -/
def Fabric.pumpReds (f : Fabric) (p : Nat) : Fabric :=
  (f.part p).reds.foldl (fun g o => Fabric.pumpRed 1000000 g p o.id) f

def redLocalBody : Body := fun c f =>
  let ws := takePad 22 c.pay
  let n := redCount ws
  let k := redSources ws
  let bad := c.len != 176 || !onlyBits (wd ws 3) [(35, 32), (28, 0)] || n == 0 || n > 268435456 || !vaOk (wd ws 4) || wd ws 5 != 0 ||
    (List.range 16).any fun i => if i < k then !vaOk (wd ws (6 + i)) else wd ws (6 + i) != 0
  liveGate bad 0 c f fun f =>
    match rcwOf (wd ws 0) with
    | none => faulted f
    | some r =>
      let dst := (wn ws 4, 64 * r.out.span n)
      let clash := (List.range k).any fun i => spansMeet dst (wn ws (6 + i), 64 * r.inp.span n)
      if r.op == 3 || n % r.granule != 0 || clash || (f.ctx c.tag).state != .live then faulted f
      else
        let p := tagPart c.tag
        let id := (f.part p).nextColl
        let f := f.updPart p fun x =>
          { x with reds := x.reds ++ [{ id := id, mbx := c.mbx, tag := c.tag, words := ws }], nextColl := id + 1 }
        (f.pumpReds p, .wait)

/-- Source data of a RED_LOCAL arrives. -/
def Fabric.redInput (f : Fabric) (p id vec off : Nat) (ws : List Word) (poison : Bool) (addr : Nat) : Fabric :=
  match (f.part p).reds.find? fun o => o.id == id with
  | none => f
  | some o =>
    if poison then (f.notify p (faultNotice p 2 0 o.tag 2 (w64 addr) 0 (f.mbx o.mbx).env.cmdId)).endRed p o stFaulted 0
    else
      (f.updRed p id fun o => { o.answered (redKey vec off) with data := o.data.set vec ((o.data.get vec []).setList off ws) }).pumpReds p

/-- A result write of a RED_LOCAL is acknowledged. -/
def Fabric.redWritten (f : Fabric) (p id off : Nat) : Fabric :=
  (f.updRed p id fun o => o.answered (redKey 16 off)).pumpReds p

/-- A RED_LOCAL's walk has ended. -/
def Fabric.redWalk (f : Fabric) (p id va : Nat) (w : CollWalk) : Fabric :=
  match (f.part p).reds.find? fun o => o.id == id with
  | none => f
  | some o =>
    match w with
    | .fault rs l => f.redFault p o rs l (if o.writing then 1 else 0) va
    | .poison => f.endRed p o stFaulted 0
    | _ => f

/-! ### CTX_RESUME (R115) -/

/-- Fault number f is n or lower. -/
def faultAtMost (n s : Nat) : Bool := (n + 65536 - s) % 65536 < 32768

/-- CTX_RESUME: a descriptor that RETRY resumes while others of its context stay parked waits as held until the context is
LIVE again (DESIGN CHOICE, log entry 159). -/
def ctxResumeBody : Body := fun c f =>
  let w := wd c.pay 0
  liveGate (c.len != 8 || !onlyBits w [(0, 0), (31, 16)]) 0 c f fun f =>
    let p := tagPart c.tag
    let n := fld w 31 16
    if (f.ctx c.tag).state == .live then okay f
    else
      let hit (r : Run) : Bool := r.tag == c.tag && (match r.phase with | .parked s => faultAtMost n s | _ => false)
      let hitC (k : Coll) : Bool := k.tag == c.tag && (match k.parked with | some s => faultAtMost n s | none => false)
      let runs := ((f.part p).runs.filter hit).length
      let colls := (f.part p).colls.filter hitC
      let resume (r : Run) : Run := if bit w 0 then { r with phase := .held, fin := some (r.fin.getD (stFaulted, 3)) } else { r with phase := .held }
      let f := f.updPart p fun x =>
        { x with runs := updWhere x.runs hit resume, colls := updWhere x.colls hitC fun k => { k with parked := none } }
      let f := if bit w 0 then colls.foldl (fun g k => g.endColl p k.id stFaulted 3) f else f
      okay (((f.unpark c.tag).settleAll p).pumpColls p) (runs + colls.length)

end Sys2Proof.Machine
end

