-- ==== Sys2Proof/Machine/Flow.lean ====
section
/-!
DEFINITION. Congestion control and port telemetry (chapter 09): echoes and the rate table (R316–R322),
FLOW_SET (R323, R328), the PRT_ registers with their coarsening (R324–R327) and TELEM_SNAP (R329).
-/
namespace Sys2Proof.Machine

/-! ### Rise of a rate, allowance -/

/-- One rise of an entry's rate: the entry after it, or none where it reaches its starting rate (R322). -/
def Flow.riseOn (w : Flow) (e : RateEntry) : Option RateEntry :=
  let r := e.rate + w.addStep
  if r ≥ e.start then none else some { e with rate := r, timer := e.timer + w.incTicks }

/-- The increase timer of an entry runs out (R322); the key 32768 names the overflow entry. -/
def Fabric.rateIncrease (f : Fabric) (key : Nat) : Fabric :=
  let w := f.flow
  if key = 32768 then
    match w.overflow with
    | some e => if e.timer + w.incTicks ≤ f.tick then ({ f with flow := { w with overflow := w.riseOn e } } : Fabric).pump else f
    | none => f
  else
    match w.rates.find key with
    | some e =>
      if e.timer + w.incTicks ≤ f.tick then
        let rates := match w.riseOn e with
          | some e => w.rates.set key e
          | none => w.rates.del key
        ({ f with flow := { w with rates := rates } } : Fabric).pump
      else f
    | none => f

/-- Allowance after one ref tick: R × 6.4 ns, at most 16 flits (R320), in tenths of a byte. -/
def refill (rate allow : Nat) : Nat := min 40960 (allow + 64 * rate)

/-- One ref tick of every limiter. -/
def Flow.refillAll (w : Flow) : Flow :=
  { w with rates := w.rates.mapVals (fun _ e => { e with allow := refill e.rate e.allow }),
           overflow := w.overflow.map fun e => { e with allows := e.allows.mapVals fun _ a => refill e.rate a } }

/-- A CLS 0 or CLS 2 flit waits for its rate allowance (PRT_CC_HELD). -/
def Fabric.rateHeld (f : Fabric) : Bool :=
  f.rtr.outbox.any fun o =>
    match o.flits with
    | [] => false
    | x :: _ => !f.rateFree x

/-- The ref tick that ends was one in which a flit waited for its rate allowance. -/
def Fabric.chargeHeld (f : Fabric) : Fabric :=
  if f.rateHeld then { f with flow := { f.flow with heldTicks := f.flow.heldTicks + 1 } } else f

/-- What one ref tick does to the rate control: allowance, and flits that may now leave. -/
def Fabric.tickFlow (f : Fabric) : Fabric := ({ f with flow := f.flow.refillAll } : Fabric).pump

/-! ### PRT_CC_CTL and FLOW_SET -/

/-- Fields of PRT_CC_CTL (Table 9.8), in ascending order of the field number used for its state objects. -/
def ccFields : List (Nat × Nat) := [(63, 63), (62, 62), (59, 48), (47, 40), (39, 32), (29, 28), (27, 14), (13, 0)]

/-- PRT_CC_CTL. -/
def Flow.ctl (w : Flow) : Word :=
  pack [(63, 63, b2n w.ccEn), (62, 62, b2n w.markEn), (59, 48, w.markThresh), (47, 40, w.incTicks), (39, 32, w.cutTicks),
        (29, 28, w.cutShift), (27, 14, w.rateMin), (13, 0, w.addStep)]

/-- Set PRT_CC_CTL (R323): entries keep their rates, raised to the new RATE_MIN; CC_EN = 0 frees them. -/
def Flow.setCtl (w : Flow) (v : Word) : Flow :=
  let w := { w with ccEn := bit v 63, markEn := bit v 62, markThresh := fld v 59 48, incTicks := fld v 47 40,
                    cutTicks := fld v 39 32, cutShift := fld v 29 28, rateMin := fld v 27 14, addStep := fld v 13 0 }
  let lift (e : RateEntry) : RateEntry := { e with rate := max w.rateMin e.rate }
  if w.ccEn then { w with rates := w.rates.mapVals (fun _ e => lift e), overflow := w.overflow.map lift }
  else { w with rates := [], overflow := none }

/-- A PRT_CC_CTL value with a reserved bit or a field out of range (Table 9.10). -/
def ccBad (v : Word) : Bool :=
  !onlyBits v ccFields || fld v 59 48 == 0 || fld v 47 40 == 0 || fld v 39 32 == 0 || fld v 29 28 == 0 ||
    fld v 27 14 == 0 || fld v 13 0 == 0

/-- State-object block of PRT_CC_CTL. -/
def blkCc : Nat := 9

/-- A source of a list; tenants are 0 to 31. -/
def fromOf (c : Cmd) (srcs : List Nat) : Bool := srcs.contains c.mbx

def flowSetBody : Body := fun c f =>
  let v := wd c.pay 0
  if !fromOf c [32, 33, 36] then denied 0 f
  else if c.len != 8 || ccBad v then faulted f
  else holdOrder c 0x0580 (ccFields.zipIdx.map fun (hl, i) => ({ block := blkCc, index := 0, field := i }, fld v hl.1 hl.2)) f

/-- FLOW_SET takes effect: its values apply from the next ref tick (R323). -/
def Fabric.flowSet (f : Fabric) (o : Order) : Fabric :=
  ({ f with flow := { f.flow with newCtl := some (wd o.pay 0) } } : Fabric).finish o.mbx stOk

/-- The ref tick after FLOW_SET begins (R323). -/
def Fabric.tickCtl (f : Fabric) : Fabric :=
  match f.flow.newCtl with
  | some v => { f with flow := { f.flow.setCtl v with newCtl := none } }
  | none => f

/-! ### Port registers -/

/-- Coarsening of Table 9.9 in confidential mode. -/
def coarse (conf : Bool) (m n : Nat) : Nat := if conf && m != 0 then down n m else n

/-- PRT_STATUS (Table 9.4). -/
def Fabric.prtStatus (f : Fabric) (k : Nat) : Word :=
  let p := f.port k
  pack [(44, 32, p.inSlots), (27, 24, p.count), (17, 16, if f.conf then 0 else p.stallNow), (3, 3, b2n (f.portDraining k)),
        (2, 2, b2n f.conf), (1, 1, b2n p.fec), (0, 0, b2n p.state.up)]

/-- Input slots in use. -/
def Port.inUsed (p : Port) : Nat := p.inUse.vals.foldl (· + ·) 0

/-- The 13 registers of Table 9.3, in offset order, as a reader receives them (R326, R327). -/
def Fabric.prtRegs (f : Fabric) (k : Nat) : List Word :=
  let p := f.port k
  let n (m v : Nat) := coarse f.conf m v
  let depth (vc : Nat) := n 512 (min 4095 (f.rtr.depth k vc))
  [ f.prtStatus k, w64 (n 4096 p.txFlits), w64 (n (2 ^ 20) p.txBytes), w64 (n 4096 p.rxFlits), w64 (n (2 ^ 20) p.rxBytes),
    pack [(59, 48, n 512 (min 4095 p.hwm)), (47, 36, depth 3), (35, 24, depth 2), (23, 12, depth 1), (11, 0, depth 0)],
    w64 (n 15625 p.stallLink), w64 (n 15625 p.stallRetx), w64 (n 15625 p.stallCredit),
    pack [(63, 40, min (2 ^ 24 - 1) p.retryEvents), (39, 0, n 4096 (min (2 ^ 40 - 1) p.resent))],
    w64 (n 4096 p.marks),
    pack [(58, 46, n (ceilDiv p.inSlots 8) p.inUsed), (45, 33, n 512 p.retxHwm), (32, 20, n 512 p.retx.length),
          (17, 0, n 20480 p.reordHeld)],
    w64 (n 4096 p.drops) ]

/-- PRT_CC_STAT. -/
def Fabric.ccStat (f : Fabric) : Word :=
  let w := f.flow
  pack [(63, 32, coarse f.conf 4096 w.echoes), (31, 16, match w.overflow with | some e => e.dests.length | none => 0),
        (9, 0, w.rates.length)]

/-- PRT_CC_HELD. -/
def Fabric.ccHeld (f : Fabric) : Word := w64 (coarse f.conf 15625 f.flow.heldTicks)

/-- The response of a TELEM_SNAP (Table 9.11) over the ports `ks`, at this instant. -/
def Fabric.snapWords (f : Fabric) (mask : Nat) : List Word :=
  [w64 f.tick, pack [(8, 8, b2n f.conf), (7, 0, mask)], f.ccStat, f.ccHeld] ++ (bitsOf mask 8).flatMap f.prtRegs

/-- CLR_HWM: the high-water marks of the ports start again from their depths (R329). -/
def Fabric.clearHwm (f : Fabric) (mask : Nat) : Fabric :=
  (bitsOf mask 8).foldl (fun g k => g.updPort k fun p =>
    { p with hwm := (List.range 4).foldl (fun m v => max m (f.rtr.depth k v)) 0, retxHwm := p.retx.length }) f

/-- The start of a ref tick: the TELEM_SNAPs that wait for it are taken (R329). -/
def Fabric.tickSnaps (f : Fabric) : Fabric :=
  f.flow.snaps.foldl (fun g s =>
    let ws := f.snapWords s.2.1
    (if s.2.2 then g.clearHwm s.2.1 else g).finish s.1 stOk f.tick ws (8 * ws.length)) { f with flow := { f.flow with snaps := [] } }

/-- TELEM_SNAP (Tables 9.10 and 9.11): its snapshot is taken at the start of the next ref tick, SNAP_TICK. -/
def telemSnapBody : Body := fun c f =>
  let w := wd c.pay 0
  let ks := bitsOf (fld w 7 0) 8
  let len := 32 + 104 * ks.length
  if !fromOf c [32, 33] then denied len f
  else if c.len != 8 || !onlyBits w [(8, 0)] || ks.isEmpty then faulted f
  else
    ({ f with flow := { f.flow with snaps := f.flow.snaps ++ [(c.mbx, fld w 7 0, bit w 8)] } }, .wait)

end Sys2Proof.Machine
end

