-- ==== Sys2Proof/Machine/Lane.lean ====
section
/-!
DEFINITION. What a lane carries (chapter 10): PAM4 symbols with Gray mapping and precoding (R332, R333), codewords of the two
Reed-Solomon codes (R335–R337), the 256 B slots with their CRC-64 (R334, R338, R339), link control flits and training
sequences as bytes (Tables 10.3 and 10.7), and the pseudo-random patterns of R355 and R369. A string of bits is a number
whose bit i is the i-th bit on the lane.
-/
namespace Sys2Proof

/-! ### PAM4 (R332, R333) -/

/-- Level of a pair of bits, the first one the more significant: 00, 01, 11, 10 are levels 0 to 3. -/
def grayLevel (first second : Nat) : Nat := if first = 0 then second else 3 - second

/-- The pair of bits of a level, its first bit as bit 0. -/
def levelPair (g : Nat) : Nat := match g with | 0 => 0 | 1 => 2 | 2 => 3 | _ => 1

/-- The Gray levels of 2n bits. -/
def levelsOf : Nat → Nat → List Nat
  | 0, _ => []
  | n + 1, b => grayLevel (b % 2) (b / 2 % 2) :: levelsOf n (b / 4)

/-- The bits of Gray levels. -/
def bitsOfLevels (gs : List Nat) : Nat := gs.foldr (fun g b => levelPair g + 4 * b) 0

/-- Precoding from the previous symbol sent: P(j) = (G(j) − P(j − 1)) mod 4. -/
def precode : Nat → List Nat → List Nat
  | _, [] => []
  | p, g :: gs => (g + 4 - p) % 4 :: precode ((g + 4 - p) % 4) gs

/-- Recovery: G(j) = (P(j) + P(j − 1)) mod 4. -/
def unprecode : Nat → List Nat → List Nat
  | _, [] => []
  | p, q :: qs => (q + p) % 4 :: unprecode q qs

/-! ### GF(2¹⁰) with x¹⁰ + x³ + 1 (R336) -/

/-- Product with α. -/
def gfDouble (a : Nat) : Nat := if a < 512 then 2 * a else (2 * a) ^^^ 0x409

/-- Product of two elements, over the low n bits of the second. -/
def gfMulN : Nat → Nat → Nat → Nat
  | 0, _, _ => 0
  | n + 1, a, b => (if b % 2 = 1 then a else 0) ^^^ gfMulN n (gfDouble a) (b / 2)

def gfMul (a b : Nat) : Nat := gfMulN 10 a b

/-- Power by squaring, over the low n bits of the exponent. -/
def gfPowN : Nat → Nat → Nat → Nat
  | 0, _, _ => 1
  | n + 1, a, e => gfMul (if e % 2 = 1 then a else 1) (gfPowN n (gfMul a a) (e / 2))

def gfPow (a e : Nat) : Nat := gfPowN 10 a e

/-- Inverse: a¹⁰²². -/
def gfInv (a : Nat) : Nat := gfPow a 1022

/-- αⁱ. -/
def alpha (i : Nat) : Nat := gfPow 2 (i % 1023)

/-- Sum of two polynomials given by their coefficients. -/
def polyAdd : List Nat → List Nat → List Nat
  | [], q => q
  | p, [] => p
  | a :: p, b :: q => (a ^^^ b) :: polyAdd p q

/-- Value of a polynomial, lowest coefficient first. -/
def polyEval (p : List Nat) (y : Nat) : Nat := p.foldr (fun c a => c ^^^ gfMul y a) 0

/-! ### The Reed-Solomon codes (R335, R336, Table 10.2) -/

/-- Symbol errors that a code corrects: KP 15, LL 8. -/
def fecT (kp : Bool) : Nat := if kp then 15 else 8

/-- Message symbols of a codeword. -/
def fecMsg (kp : Bool) : Nat := if kp then 514 else 256

/-- Symbols of a codeword. -/
def fecLen (kp : Bool) : Nat := fecMsg kp + 2 * fecT kp

/-- The generator polynomial, highest coefficient first. -/
def rsGen (t : Nat) : List Nat :=
  (List.range (2 * t)).foldl (fun p i => polyAdd (p ++ [0]) (0 :: p.map (gfMul (alpha i)))) [1]

/-- One message symbol enters the remainder of the systematic encoder. -/
def rsStep (g rem : List Nat) (s : Nat) : List Nat :=
  polyAdd (rem.drop 1 ++ [0]) ((g.drop 1).map (gfMul (s ^^^ rem.headD 0)))

/-- The parity symbols of a message. -/
def rsParity (kp : Bool) (ms : List Nat) : List Nat :=
  ms.foldl (rsStep (rsGen (fecT kp))) (List.replicate (2 * fecT kp) 0)

/-- The syndromes of a codeword as received. -/
def syndromes (t : Nat) (ws : List Nat) : List Nat :=
  (List.range (2 * t)).map fun j => ws.foldl (fun a s => s ^^^ gfMul (alpha j) a) 0

/-- Berlekamp–Massey: the error locator so far, the one before its last change of length, its length, the distance to that
change, and the discrepancy then. -/
structure Locator where
  c : List Nat := [1]
  b : List Nat := [1]
  len : Nat := 0
  m : Nat := 1
  d : Nat := 1

/-- One syndrome enters the error locator. -/
def Locator.step (s : List Nat) (x : Locator) (n : Nat) : Locator :=
  let d := (List.range (x.len + 1)).foldl (fun a i => a ^^^ gfMul (x.c.getD i 0) (if i ≤ n then s.getD (n - i) 0 else 0)) 0
  let c := polyAdd x.c (List.replicate x.m 0 ++ x.b.map (gfMul (gfMul d (gfInv x.d))))
  if d = 0 then { x with m := x.m + 1 }
  else if 2 * x.len ≤ n then { c := c, b := x.c, len := n + 1 - x.len, m := 1, d := d }
  else { x with c := c, m := x.m + 1 }

/-- Product of two polynomials, lowest first, cut to n coefficients. -/
def polyMulCut (n : Nat) (p q : List Nat) : List Nat :=
  (List.range n).map fun k => (List.range (k + 1)).foldl (fun a i => a ^^^ gfMul (p.getD i 0) (q.getD (k - i) 0)) 0

/-- Decode a codeword: its symbols corrected and how many were wrong; none where more than t are (R337). -/
def rsDecode (kp : Bool) (ws : List Nat) : Option (List Nat × Nat) :=
  let t := fecT kp
  let n := ws.length
  let s := syndromes t ws
  if s.all (· == 0) then some (ws, 0)
  else
    let x := (List.range (2 * t)).foldl (Locator.step s) {}
    let omega := polyMulCut (2 * t) s x.c
    let deriv := (List.range x.c.length).map fun i => if i % 2 = 0 then x.c.getD (i + 1) 0 else 0
    let fixed := ws.zipIdx.map fun (w, i) =>
      let inv := alpha (1023 - (n - 1 - i) % 1023)
      if polyEval x.c inv = 0 then
        (w ^^^ gfMul (alpha (n - 1 - i)) (gfMul (polyEval omega inv) (gfInv (polyEval deriv inv))), 1)
      else (w, 0)
    let count := fixed.foldl (fun a e => a + e.2) 0
    let out := fixed.map Prod.fst
    if x.len ≤ t && count == x.len && (syndromes t out).all (· == 0) then some (out, count) else none

/-- The first n 10-bit symbols of a bit string, symbol bit 0 first (R335). -/
def symbolsOf : Nat → Nat → List Nat
  | 0, _ => []
  | n + 1, b => b % 1024 :: symbolsOf n (b / 1024)

/-- The bits of 10-bit symbols. -/
def bitsOfSymbols (ss : List Nat) : Nat := ss.foldr (fun s b => s % 1024 + 1024 * b) 0

/-! ### Slots and their CRC-64 (R334, R338, R339) -/

/-- The words of a slot as bits: bytes 0 to 255, each from bit 0 (R334). -/
def wordsNat (ws : List Word) : Nat := ws.foldr (fun w b => w.toNat + 2 ^ 64 * b) 0

/-- k steps of the reflected CRC-64 of ECMA-182. -/
def crc64Step (c : Nat) : Nat → Nat
  | 0 => c
  | k + 1 => crc64Step (if c % 2 = 1 then (c / 2) ^^^ 0xC96C5795D7870F42 else c / 2) k

/-- CRC-64 of bytes: polynomial 0x42F0_E1EB_A9EA_3693, reflected, all ones in and out (R338). -/
def crc64 (bytes : List Nat) : Nat :=
  (bytes.foldl (fun c b => crc64Step (c ^^^ (b % 256)) 8) 0xFFFFFFFFFFFFFFFF) ^^^ 0xFFFFFFFFFFFFFFFF

/-- The CRC word of a data slot under an LSEQ. -/
def dataCrc (lseq : Nat) (ws : List Word) : Word := w64 (crc64 (0 :: lseq % 256 :: lseq / 256 % 256 :: ws.flatMap wordBytes))

/-- The CRC word of a link control flit. -/
def lcfCrc (ws : List Word) : Word := w64 (crc64 (1 :: 0 :: 0 :: ws.flatMap wordBytes))

/-- The flit header of Table 8.2. -/
def Flit.headerWord (x : Flit) : Word :=
  pack [(63, 49, x.dst), (48, 34, x.src), (33, 18, x.tag), (17, 16, x.cls), (15, 15, b2n x.esc), (14, 14, b2n x.aux), (13, 13, b2n x.hp),
        (12, 12, b2n x.mark), (11, 0, x.seq)]

/-- Bytes 0–247 of a data slot: header and payload. -/
def Flit.slotWords (x : Flit) : List Word := x.headerWord :: takePad 30 x.data

/-- A data slot as it is sent under an LSEQ. -/
def Flit.slot (x : Flit) (lseq : Nat) : List Word := x.slotWords ++ [dataCrc lseq x.slotWords]

/-! ### Link control flits and training sequences as words -/

/-- Bytes 0–247 of a link control flit (Table 10.3). -/
def Lcf.words (m : Lcf) : List Word :=
  let c (i : Nat) := m.cr.getD i 0
  let txeq := match m.txeq with
    | some (l, tap, step) => pack [(15, 12, (step % 16).toNat), (11, 8, tap), (7, 0, l)]
    | none => 0
  [ pack [(17, 16, 3), (15, 15, 1)],
    pack [(21, 21, b2n m.txeq.isSome), (20, 20, b2n m.hb.isSome), (19, 17, m.req), (16, 16, b2n m.nak), (15, 0, m.ack)],
    pack [(63, 48, c 3), (47, 32, c 2), (31, 16, c 1), (15, 0, c 0)], pack [(31, 16, c 5), (15, 0, c 4)], txeq, 0, 0, 0, 0 ] ++
    takePad 8 (m.hb.getD []) ++ zeros 14

/-- A link control flit as it is sent. -/
def Lcf.slot (m : Lcf) : List Word := m.words ++ [lcfCrc m.words]

/-- MARKER of a training sequence. -/
def tsMarker : Nat := 0x7E813CC35AA50FF0

/-- Bytes 0x00–0x37 of a training sequence (Table 10.7). -/
def Ts.body (t : Ts) : List Word :=
  [ w64 t.marker,
    pack [(45, 40, t.quad), (39, 32, t.lane), (23, 21, t.kind), (19, 19, b2n t.preReq), (18, 18, b2n t.fecReq), (17, 16, t.rate),
          (15, 8, t.phase), (7, 0, t.version)],
    pack [(50, 48, t.port), (46, 32, t.node), (28, 16, t.inSlots), (11, 0, t.rxGood)],
    pack [(63, 48, t.echoAge), (47, 32, t.echoTick), (31, 16, t.tick), (14, 10, t.lz - 1), (9, 5, t.ly - 1), (4, 0, t.lx - 1)],
    0, 0, 0 ]

/-- The CRC that a training sequence carries when nothing damaged it. -/
def Ts.goodCrc (t : Ts) : Nat := crc32c (t.body.flatMap wordBytes)

/-- A good training sequence: MARKER, VERSION 1 and CRC. -/
def Ts.good (t : Ts) : Bool := t.marker == tsMarker && t.version == 1 && t.crc == t.goodCrc

/-- A training sequence, 64 B. -/
def Ts.words (t : Ts) : List Word := t.body ++ [w64 t.crc]

/-! ### Patterns (R355, R369; log entry 167) -/

/-- n bits of a shift register whose next bit is the sum of the named bits; bit 0 is the newest. -/
def prbsBits (taps : List Nat) (width : Nat) : Nat → Nat → List Nat
  | 0, _ => []
  | n + 1, s =>
    let b := (taps.foldl (fun a i => a + s / 2 ^ i % 2) 0) % 2
    b :: prbsBits taps width n ((2 * s + b) % 2 ^ width)

/-- n Gray levels of PRBS13Q from a seed. -/
def prbs13q (n seed : Nat) : List Nat :=
  levelsOf n ((prbsBits [0, 1, 11, 12] 13 (2 * n) seed).foldr (fun b a => b + 2 * a) 0)

/-- n Gray levels of PRBS31Q from a seed. -/
def prbs31q (n seed : Nat) : List Nat :=
  levelsOf n ((prbsBits [27, 30] 31 (2 * n) seed).foldr (fun b a => b + 2 * a) 0)

namespace Machine

/-! ### The stream of a lane -/

/-- A lane sends one slot (R334, R335): its bits join the message of the current codeword; a message that is full is followed
by its parity. The symbols are precoded where the peer asks for it (R333). -/
def Lane.send (x : Lane) (kp pre : Bool) (slot : Nat) : Lane :=
  let m := 10 * fecMsg kp
  let all := x.txAcc + slot * 2 ^ x.txLen
  let full := m ≤ x.txLen + 2048
  let parity := if full then bitsOfSymbols (rsParity kp (symbolsOf (fecMsg kp) (all % 2 ^ m))) else 0
  let cut := m - x.txLen
  let out := if full then slot % 2 ^ cut + parity * 2 ^ cut + slot / 2 ^ cut * 2 ^ (cut + 20 * fecT kp) else slot
  let levels := levelsOf (if full then 1024 + 10 * fecT kp else 1024) out
  let sent := if pre then precode x.txPrev levels else levels
  { x with txAcc := if full then all / 2 ^ m else all, txLen := if full then x.txLen + 2048 - m else x.txLen + 2048,
           wire := sent, txPrev := sent.getLastD x.txPrev }

/-- The slots of a lane that a codeword overlaps, numbered from the entry to ACTIVE (R335, R337). -/
def slotsUnder (kp : Bool) (cw : Nat) : List Nat :=
  let m := 10 * fecMsg kp
  rangeFrom (m * cw / 2048) ((m * (cw + 1) - 1) / 2048 + 1 - m * cw / 2048)

/-- Codewords that the first n slots of a lane need. -/
def codewordsFor (kp : Bool) (n : Nat) : Nat := ceilDiv (2048 * n) (10 * fecMsg kp)

/-- Symbol errors that the decoder finds in a codeword as its levels were received, after the level `before`; none where there
are more than it corrects (R332, R333, R336, R337). -/
def codewordErrors (kp pre : Bool) (before : Nat) (levels : List Nat) : Option Nat :=
  let n := 5 * fecLen kp
  let ls := (levels ++ List.replicate n 0).take n
  let gs := if pre then unprecode before ls else ls
  (rsDecode kp (symbolsOf (fecLen kp) (bitsOfLevels gs))).map Prod.snd

end Machine
end Sys2Proof
end

