-- ==== Sys2Proof/Machine/Link.lean ====
section
/-!
DEFINITION. Lanes, quads and links (chapter 10) and the port side of chapter 09: link states and bring-up
(R354–R361), sleep (R362–R364), slots, retry and link credits (R306–R314, R339–R348), eye scans (R365–R368),
lane tests (R369), PORT_CTL, LANE_SCAN and LANE_TEST (R373–R375), and the LN_ registers (R371).
-/
namespace Sys2Proof.Machine

/-! ### Ports, quads and lanes -/

def Fabric.lane (f : Fabric) (i : Nat) : Lane := f.lanes.get i {}
def Fabric.updLane (f : Fabric) (i : Nat) (g : Lane → Lane) : Fabric := { f with lanes := f.lanes.set i (g (f.lane i)) }

/-- Lanes of the i-th quad of a port (R350). -/
def Port.quadLanes (p : Port) (i : Nat) : List Nat := rangeFrom (4 * ((p.first + i) % 48)) 4

/-- Lanes that a port holds, in quad order. -/
def Port.allLanes (p : Port) : List Nat := (List.range p.count).flatMap p.quadLanes

/-- Active lanes of a port, in order (R334). -/
def Port.activeLanes (p : Port) : List Nat := (bitsOf p.active 12).flatMap p.quadLanes

/-- The port that holds a lane. -/
def Fabric.portOf (f : Fabric) (lane : Nat) : Option Nat := (List.range 8).find? fun k => (f.port k).allLanes.contains lane

def LinkState.code : LinkState → Nat
  | .off => 0 | .quiet => 1 | .lock => 2 | .align => 3 | .config => 4 | .active => 5 | .nap => 6 | .wake => 7
  | .retrain => 8 | .test => 9

/-- A LINK_CHANGE notice (Table 10.20). -/
def Fabric.linkNotice (f : Fabric) (k : Nat) (old new : LinkState) (reason lane ticks : Nat) : Fabric :=
  let p := f.port k
  f.notify 32
    { unit := 6, unitIdx := k, code := 5,
      pay := [ pack [(7, 0, k), (15, 8, old.code), (23, 16, new.code), (31, 24, reason), (43, 32, p.active), (49, 48, p.rate),
                     (50, 50, b2n p.fec), (63, 56, lane)],
               pack [(14, 0, p.peer), (16, 15, p.peerKind)], w64 ticks, w64 p.retrains, 0 ] }

/-- A port goes to a state, with no notice. -/
def Fabric.toState (f : Fabric) (k : Nat) (s : LinkState) : Fabric :=
  f.updPort k fun p => { p with state := s, entered := f.tick }

/-- Something becomes owed to the peer (R341). -/
def Port.owe (p : Port) (tick : Nat) : Port := { p with owed := true, owedSince := if p.owed then p.owedSince else tick }

/-! ### Slots (R334, R340–R342) -/

/-- The direction of a port that naps uses its first active lane only (R362, R363). -/
def Port.slotLane (p : Port) (napping : Bool) (slot : Nat) : Nat :=
  let ls := p.activeLanes
  if napping then ls.getD 0 0 else ls.getD (slot % max 1 ls.length) 0

/-- The transmitter sends a slot (R334): its bits go to the lane of slot j. Fixed-rate mode starts or ends at a slot j with
j mod 5 = 0 (R342). -/
def Fabric.putSlot (f : Fabric) (k : Nat) (ws : List Word) : Fabric :=
  let p := f.port k
  let s := p.slot + 1
  (f.updLane (p.slotLane (p.state == .nap || p.state == .wake) p.slot) fun x => x.send p.fec p.txPre (wordsNat ws)).updPort k fun p =>
    { p with slot := s, fixedNow := if s % 5 = 0 then f.fixedRate else p.fixedNow }

/-- The outbound slot series starts again from slot 0, and codeword 0 of each lane with it (R334, R335). -/
def Fabric.restartTx (f : Fabric) (k : Nat) : Fabric :=
  let f := (f.port k).allLanes.foldl (fun g l => g.updLane l fun x => { x with txAcc := 0, txLen := 0, txPrev := 0 }) f
  f.updPort k fun p => { p with slot := 0, fixedNow := f.fixedRate }

/-- The inbound slot series starts again from slot 0. -/
def Fabric.restartRx (f : Fabric) (k : Nat) : Fabric :=
  let f := (f.port k).allLanes.foldl (fun g l => g.updLane l fun x => { x with cw := 0, rxSlots := 0, badSlots := [] }) f
  f.updPort k fun p => { p with rxSlot := 0 }

/-- The link control flit that a port sends now (R340, R345): what it expects next, its NAK and request, its cumulative
credits, one FFE request, and a heartbeat where it carries one. -/
def Port.lcf (p : Port) (hb : Option (List Word)) : Lcf :=
  { ack := p.expLseq, nak := p.owedNak, req := p.owedReq, cr := (List.range 6).map fun i => p.freed.get i 0, hb := hb,
    txeq := p.txeq.head? }

/-- What remains owed after a link control flit. -/
def Port.paid (p : Port) (hb : Bool) : Port :=
  let rest := p.txeq.drop 1
  { p with owedNak := false, owedReq := 0, txeq := rest, owedHb := p.owedHb && !hb, owed := !rest.isEmpty || (p.owedHb && !hb) }

/-- A port sends a link control flit; an injected LCF_DROP keeps it off the lane (Table 10.10). -/
def Fabric.putLcf (f : Fabric) (k : Nat) (hb : Option (List Word)) : Fabric :=
  let p := f.port k
  if p.lcfDrop then f.updPort k fun p => { p.paid hb.isSome with lcfDrop := false }
  else (f.putSlot k (p.lcf hb).slot).updPort k fun p => { p.paid hb.isSome with lcfTx := p.lcfTx + 1 }

/-! ### Scans -/

/-- The four bytes of an eye in a scan record (Table 10.19). -/
def Eye.word (e : Eye) : Nat :=
  (e.pc % 256).toNat * 2 ^ 24 + (e.vc % 256).toNat * 2 ^ 16 + e.ew % 256 * 2 ^ 8 + e.eh % 256

/-- A scan record of a lane (Table 10.19). -/
def scanRecord (lane flags : Nat) (es : List Eye) : List Word :=
  let e (i : Nat) := match es[i]? with | some x => Sys2Proof.Machine.Eye.word x | none => 0
  [pack [(7, 0, lane), (15, 8, flags), (63, 32, e 0)], pack [(31, 0, e 1), (63, 32, e 2)]]

/-- A LANE_SCAN whose lanes all have their record completes. -/
def Fabric.endScanOp (f : Fabric) (mbx : Nat) : Fabric :=
  match f.scanOps.find? fun o => o.mbx == mbx with
  | none => f
  | some o =>
    if o.lanes.all fun l => (o.recs.find l).isSome then
      let ws := o.lanes.flatMap fun l => o.recs.get l []
      ({ f with scanOps := f.scanOps.filter fun y => y.mbx != mbx } : Fabric).finish mbx stOk 0 ws (8 * ws.length)
    else f

/-- A lane's record for the LANE_SCAN that scans it. -/
def Fabric.scanRec (f : Fabric) (mbx lane : Nat) (ws : List Word) : Fabric :=
  let put (o : ScanOp) : ScanOp := { o with recs := o.recs.set lane (if o.map then takePad 386 ws else ws) }
  ({ f with scanOps := updWhere f.scanOps (fun o => o.mbx == mbx) put } : Fabric).endScanOp mbx

/-- End the scans of some lanes of a port (R366, collision rule): the record carries ABORTED, and the background
scan starts again later. -/
def Fabric.abortScans (f : Fabric) (lanes : List Nat) : Fabric :=
  lanes.foldl (fun g l =>
    match (g.lane l).scan with
    | none => g
    | some s =>
      let g := g.updLane l fun x => { x with scan := none, nextScan := 0 }
      match s.mbx with
      | some m => g.scanRec m l (scanRecord l 2 [])
      | none => g) f

/-- CLASS of an eye (Table 10.9). -/
def Eye.cls (e : Eye) : Nat :=
  if e.eh ≥ 16 && e.ew ≥ 12 then 0 else if e.eh ≥ 12 && e.ew ≥ 9 then 1 else if e.eh ≥ 8 && e.ew ≥ 6 then 2 else 3

/-- The worst eye: highest CLASS, then least height, least width, lowest eye. -/
def worstEye (es : List Eye) : Nat :=
  let key (i : Nat) : Nat :=
    match es[i]? with
    | some e => (3 - Sys2Proof.Machine.Eye.cls e) * 2 ^ 16 + e.eh % 256 * 2 ^ 8 + e.ew % 256
    | none => 2 ^ 20
  (minBy key (List.range 3)).getD 0

/-- Numerator and denominator of the least-squares slope of EH over ticks, in µV per hour: one hour is
562,500,000,000 ref ticks. -/
def slopeFrac (h : List (Nat × Nat)) : Int × Int :=
  let n : Int := h.length
  let sx := h.foldl (fun a p => a + (p.1 : Int)) 0
  let sy := h.foldl (fun a p => a + (p.2 : Int)) 0
  let sxy := h.foldl (fun a p => a + (p.1 : Int) * (p.2 : Int)) 0
  let sxx := h.foldl (fun a p => a + (p.1 : Int) * (p.1 : Int)) 0
  ((n * sxy - sx * sy) * 1000 * 562500000000, n * sxx - sx * sx)

/-- One of the two integers next to a quotient: its rounding is not stated, so a free value selects it. -/
def Fabric.nearby (f : Fabric) (num den : Int) : Fabric × Int :=
  if den = 0 then (f, 0)
  else if num % den = 0 then (f, num / den)
  else
    let (f, v) := f.draw
    (f, num / den + (if v.toNat % 2 = 1 then 1 else 0))

/-- What a scan does to the transmit FFE of the peer (Table 10.9): a step that did not raise EH is taken back, and a lane of
class WATCH or LOW requests one more. Which tap and direction is not stated (log entry 166). -/
def Fabric.tuneLane (f : Fabric) (lane eh cls : Nat) : Fabric :=
  match f.portOf lane with
  | none => f
  | some k =>
    let i := (f.port k).allLanes.idxOf lane
    let ask (f : Fabric) (tap : Nat) (step : Int) : Fabric := f.updPort k fun p => { p.owe f.tick with txeq := p.txeq ++ [(i, tap, step)] }
    let f := match (f.lane lane).tried with
      | some (tap, step, was) => if was < eh then f else ask f tap (-step)
      | none => f
    if cls = 1 || cls = 2 then
      let (f, v) := f.draw
      let tap := v.toNat / 2 % 5
      let step : Int := if v.toNat % 2 = 1 then 1 else -1
      (ask f tap step).updLane lane fun x => { x with tried := some (tap, step, eh) }
    else f.updLane lane fun x => { x with tried := none }

/-- The margins that a scan leaves (R366, R367); only background scans feed the history. -/
def Fabric.setMargin (f : Fabric) (lane : Nat) (es : List Eye) (background : Bool) : Fabric :=
  let i := worstEye es
  match es[i]? with
  | none => f
  | some e =>
    let x := f.lane lane
    let hist := if background then (x.hist ++ [(f.tick, es.map (·.eh))]).drop (x.hist.length + 1 - 16) else x.hist
    let (num, den) := slopeFrac (hist.map fun h => (h.1, h.2.getD i 0))
    let (f, s) := f.nearby num den
    let s := max (-32768) (min 32767 s)
    let (f, pr) := if s < 0 then f.nearby (1000 * ((e.eh - 8 : Nat) : Int)) (-s) else (f, 65535)
    let cls := Sys2Proof.Machine.Eye.cls e
    let f := f.updLane lane fun x =>
      { x with eh := e.eh, ew := e.ew, cls := cls, eye := i, slope := s, predict := min 65535 pr.toNat, hist := hist,
               highBias := cls = 1 || cls = 2 || (cls = 3 && x.highBias) }
    let f := f.tuneLane lane e.eh cls
    let entered := x.cls != cls
    match f.portOf lane with
    | none => f
    | some k =>
      let st := (f.port k).state
      let t := f.tick - (f.port k).entered
      if entered && cls = 2 then f.linkNotice k st st 0x0B lane t
      else if entered && cls = 3 then f.linkNotice k st st 0x0C lane t
      else f

/-- A lane may be scanned: every active lane in ACTIVE, lane 0 in NAP and WAKE (R365). -/
def Fabric.scannable (f : Fabric) (lane : Nat) : Bool :=
  match f.portOf lane with
  | none => false
  | some k =>
    let p := f.port k
    let napping := p.state == .nap || p.state == .wake || p.rxNap
    p.state.usable && (if napping then p.activeLanes.head? == some lane else p.activeLanes.contains lane)

/-- A lane's scan finishes (R366, R367). -/
def Fabric.scanComplete (f : Fabric) (lane : Nat) (m : ScanRes) : Fabric :=
  match (f.lane lane).scan with
  | none => f
  | some s =>
    let f := f.updLane lane fun x => { x with scan := none, scanTick := f.tick }
    let f := if s.map then f else f.setMargin lane m.eyes s.mbx.isNone
    match s.mbx with
    | some mb => f.scanRec mb lane (scanRecord lane 0 m.eyes ++ (if s.map then takePad 384 m.maps else []))
    | none => f

/-- SCAN_PERIOD of R367. -/
def scanPeriod : Nat := 9375000000

/-- The background scan starts on every active lane that is due (R367, Table 10.9). -/
def Fabric.backgroundScan (f : Fabric) : Fabric :=
  (List.range 192).foldl (fun g l =>
    let x := g.lane l
    if g.scannable l && x.scan.isNone && x.nextScan ≤ g.tick then
      let gap := if x.cls = 1 || x.cls = 2 then scanPeriod / 8 else scanPeriod
      g.updLane l fun x => { x with scan := some { mbx := none, map := false, dwell := 20 }, nextScan := g.tick + gap }
    else g) f

def laneScanBody : Body := fun c f =>
  let w0 := wd c.pay 0
  let w1 := wd c.pay 1
  let map := bit w0 0
  let lane := fld w0 23 16
  let dwell := fld w0 12 8
  let bad := c.len != 16 || !onlyBits w0 [(0, 0), (12, 8), (23, 16)] || !onlyBits w1 [(7, 0)] || dwell < 16 || dwell > 30 ||
    (map && (w1 != 0 || lane > 191)) || (!map && lane != 0)
  let lanes := if map then [lane] else ((bitsOf (fld w1 7 0) 8).flatMap fun k => (f.port k).activeLanes).filter f.scannable
  if !fromOf c [32, 33] then denied (if map then 3088 else 16 * lanes.length) f
  else if bad then faulted f
  else if lanes.any fun l => match (f.lane l).scan with | some s => s.mbx.isSome | none => false then (f, .done stBusy)
  else if map && !f.scannable lane then (f, .done stOk 0 (scanRecord lane 1 [] ++ zeros 384) 3088)
  else if lanes.isEmpty then okay f
  else
    let f := { f with scanOps := f.scanOps ++ [{ mbx := c.mbx, map := map, lanes := lanes }] }
    (lanes.foldl (fun g l => g.updLane l fun x =>
      { x with scan := some { mbx := some c.mbx, map := map, dwell := dwell }, nextScan := if x.scan.isSome then 0 else x.nextScan }) f, .wait)

/-! ### Leaving UP, retraining -/

/-- Discard what a port holds and what is assigned to it (R314): each flit counts in PRT_DROPS, and each input slot
that no other branch holds frees once. -/
def Fabric.discardPort (f : Fabric) (k : Nat) : Fabric :=
  let was := f.rtr
  let mine := f.rtr.queue.filter fun q => q.out == some k
  let f := { f with rtr := { f.rtr with queue := f.rtr.queue.filter fun q => q.out != some k } }
  let groups := mine.foldl (fun (l : List QFlit) q => if l.any fun y => y.group == q.group then l else l ++ [q]) []
  let f := groups.foldl (fun g q => g.leaveQueue q q.slotClass) f
  (f.updPort k fun p => { p with drops := p.drops + mine.length + p.retx.length, retx := [] }).bumpHeads was

/-- Clear what belongs to one link-up of a port. -/
def Port.linkDown (p : Port) : Port :=
  { p with active := 0, rxNap := false, txWake := false, rxWake := none, nakWait := false, awaitLcf := false, owed := false,
           owedNak := false, owedReq := 0, owedHb := false, replaying := false, replayAt := 0, txeq := [], noProgress := 0, credits := [], freed := [],
           lastCr := [], sendReady := false, miscable := false, rxGood := 0 }

/-- A port goes to a state that is not UP. Leaving UP discards its queues (R314) and is reported (R376). -/
def Fabric.leaveUp (f : Fabric) (k : Nat) (new : LinkState) (reason : Nat) : Fabric :=
  let p := f.port k
  let f := f.abortScans p.allLanes
  let f := if p.state.up then (f.discardPort k).linkNotice k p.state new reason 0 (f.tick - p.entered) else f
  ((f.updPort k Port.linkDown).toState k new).rechoose

/-- A FAIL lane clears its quad's RX_GOOD bit where the port keeps another quad (Table 10.9). -/
def Fabric.withoutFailed (f : Fabric) (k mask : Nat) : Nat :=
  let p := f.port k
  let failed := (bitsOf mask 12).filter fun i => (p.quadLanes i).any fun l => (f.lane l).cls == 3
  let left := (bitsOf mask 12).filter fun i => !failed.contains i
  if left.isEmpty then mask else maskOf left

/-- A port in ACTIVE, NAP or WAKE enters RETRAIN (R348, Table 10.8, step 1). -/
def Fabric.enterRetrain (f : Fabric) (k reason : Nat) : Fabric :=
  let p := f.port k
  if !p.state.usable then f
  else
    let f := f.abortScans p.allLanes
    let carries := p.activeLanes.any fun l => (f.lane l).locked
    let f := if carries then (f.updPort k fun p => { p with owedReq := 3 }).putLcf k none else f
    let good := f.withoutFailed k p.active
    let f := f.updPort k fun p =>
      { p with retrains := min 65535 (p.retrains + 1), reason := reason, sendReady := false,
               rxNap := false, txWake := false, rxWake := none, nakWait := false, owedNak := false,
               owedReq := 0, noProgress := 0, replaying := false, replayAt := 0, rxGood := good }
    let f := p.allLanes.foldl (fun g l => g.updLane l fun x => { x with locked := false }) f
    let f := f.linkNotice k p.state .retrain reason 0 (f.tick - p.entered)
    (f.toState k .retrain).rechoose

/-- LANE_WAIT and RETRAIN_TICKS (R360). -/
def Fabric.retrainTicks (f : Fabric) : Nat := min 281250 (f.rtr.gapTicks - 31250)
def Fabric.laneWait (f : Fabric) : Nat := min 187500 (f.retrainTicks / 2)

/-- At LANE_WAIT, quads with unlocked lanes leave RX_GOOD (R360). -/
def Fabric.laneWaitExpire (f : Fabric) (k : Nat) : Fabric :=
  let p := f.port k
  if p.state == .retrain && p.entered + f.laneWait ≤ f.tick then
    let good := (bitsOf p.rxGood 12).filter fun i => (p.quadLanes i).all fun l => (f.lane l).locked
    f.updPort k fun p => { p with rxGood := maskOf good }
  else f

/-- RETRAIN_TICKS run out (R360): the port leaves UP and comes up cold. -/
def Fabric.retrainLimit (f : Fabric) (k : Nat) : Fabric :=
  let p := f.port k
  if p.state == .retrain && p.entered + f.retrainTicks ≤ f.tick then f.leaveUp k .quiet 0x06 else f

/-! ### Bring-up -/

/-- After 1,563 ref ticks of QUIET the port enters LOCK and sends training frames at the lower of RATE 0 and
MAX_RATE (R355, R356). -/
def Fabric.quietEnd (f : Fabric) (k : Nat) : Fabric :=
  let p := f.port k
  if p.state == .quiet && p.entered + 1563 ≤ f.tick then
    (f.updPort k fun p => { p with rate := p.maxRate, rxRate := some 0, trySince := f.tick, fellAt := f.tick, miscable := false,
                                   sendReady := false }).toState k .lock
  else f

/-- After 3 ms at one rate the receiver tries the next (Table 10.6, step 2). -/
def Fabric.rateTryTimeout (f : Fabric) (k : Nat) : Fabric :=
  let p := f.port k
  if p.state == .lock && p.trySince + 468750 ≤ f.tick then
    f.updPort k fun p => { p with rxRate := some ((p.rxRate.getD 0 + 1) % 3), trySince := f.tick }
  else f

/-- After FALL_TICKS of energy without ALIGN the transmitter steps one rate lower (R356). `energy` is for how many
ref ticks the receiver has detected energy. -/
def Fabric.rateFallback (f : Fabric) (k energy : Nat) : Fabric :=
  let p := f.port k
  if p.state == .lock && energy ≥ 1562500 && p.fellAt + 1562500 ≤ f.tick then
    f.updPort k fun p => { p with rate := min 2 (p.rate + 1), fellAt := f.tick }
  else f

/-- R358: the peer that a training sequence shows is not the one the port accepts. -/
def Fabric.peerBad (f : Fabric) (k : Nat) (t : Ts) : Bool :=
  if k < 6 then
    !(t.kind == 0 && t.lx == f.rtr.lx && t.ly == f.rtr.ly && t.lz == f.rtr.lz && t.node == f.rtr.neighbour k &&
      t.port == (if k % 2 = 0 then k + 1 else k - 1))
  else t.kind != 2

/-- Quads of a mask that another mask holds too. -/
def bothMask (a b : Nat) : Nat := maskOf ((bitsOf a 12).filter fun i => b / 2 ^ i % 2 == 1)

/-- The credits of a link-up (R307): 32 for each class and the rest for the shared part. -/
def freshCredits (inSlots : Nat) : Map Nat := [(0, 32), (1, 32), (2, 32), (3, 32), (4, 32), (5, inSlots - 160)]

/-- What CONFIG sets from a training sequence (R307, R347, R357, R359). -/
def Port.agree (p : Port) (t : Ts) (tick act : Nat) : Port :=
  let rtt := (tick + 131072 - t.echoTick % 65536 - t.echoAge % 65536) % 65536
  { p with active := act, txPre := t.preReq, rxPre := p.preReq, rtt := rtt, replayTicks := 2 * rtt + 16, peerKind := t.kind,
           peer := if t.kind = 2 then 0 else t.node, credits := freshCredits t.inSlots, freed := [], lastCr := [], sendReady := true }

/-- The FAIL lanes of quads that have left the port leave high-bias mode (R393). -/
def Fabric.dropBias (f : Fabric) (k : Nat) : Fabric :=
  let on := (f.port k).activeLanes
  ((f.port k).allLanes.filter fun l => !on.contains l && (f.lane l).cls == 3).foldl (fun g l =>
    g.updLane l fun x => { x with highBias := false }) f

/-- A link comes up from CONFIG: LSEQ and slots start at 0 (Table 10.6, step 5). -/
def Fabric.enterActive (f : Fabric) (k : Nat) : Fabric :=
  let old := (f.port k).state
  let since := (f.port k).entered
  let f := f.updPort k fun p =>
    { p with nextLseq := 0, expLseq := 0, retx := [], noProgress := 0, ackTick := f.tick, idleSince := f.tick,
             progress := f.tick, nakWait := false, replaying := false, replayAt := 0, awaitLcf := false, owed := false, owedReq := 0 }
  let f := ((f.restartTx k).restartRx k).dropBias k
  let p := f.port k
  let f := f.linkNotice k old .active (if p.rate > p.maxRate then 0x0D else 0x01) 0 (f.tick - since)
  (f.toState k .active).rechoose

/-- A retrain ends (Table 10.8, step 5): the sender waits for the ACK of the first LCF. -/
def Fabric.endRetrain (f : Fabric) (k oldActive : Nat) : Fabric :=
  let p := f.port k
  let reason := if p.active = oldActive then p.reason else 0x0A
  let f := f.linkNotice k .retrain .active reason 0 (f.tick - p.entered)
  let f := f.updPort k fun p => { p with awaitLcf := true, ackTick := f.tick, idleSince := f.tick, progress := f.tick }
  ((((f.restartTx k).restartRx k).dropBias k).toState k .active).rechoose

/-- Lanes of the given quads are locked. -/
def Fabric.lockQuads (f : Fabric) (k good : Nat) : Fabric :=
  ((bitsOf good 12).flatMap (f.port k).quadLanes).foldl (fun g l => g.updLane l fun x => { x with locked := true }) f

/-- A good training sequence arrives (R357, R358, R359, R363). `good` holds the quads whose every lane this port receives. -/
def Fabric.trainingStep (f : Fabric) (k : Nat) (t : Ts) (good : Nat) : Fabric :=
  let p := f.port k
  let good := maskOf ((bitsOf good 12).filter (· < p.count))
  match p.state with
  | .lock =>
    let f := f.lockQuads k good
    (f.updPort k fun p => { p with rate := max p.rate (min 2 t.rate), rxRate := some t.rate }).toState k .align
  | .align =>
    let f := f.lockQuads k good
    (f.updPort k fun p => { p with rxGood := f.withoutFailed k good, sendReady := false }).toState k .config
  | .config =>
    if f.peerBad k t then
      if p.miscable then f
      else
        (f.updPort k fun p => { p with miscable := true, peerKind := t.kind, peer := if t.kind = 2 then 0 else t.node }).linkNotice
          k .config .config 0x09 0 (f.tick - p.entered)
    else
      let act := bothMask p.rxGood t.rxGood
      if t.rate != p.rate || act = 0 then (f.updPort k fun p => { p with sendReady := false, trySince := f.tick }).toState k .lock
      else if t.phase < 4 then f
      else
        let f := f.updPort k fun p => { p.agree t f.tick act with fec := p.fecReq || t.fecReq }
        if t.phase = 5 then f.enterActive k else f
  | .retrain =>
    let f := f.lockQuads k good
    let ready := (bitsOf p.rxGood 12).all fun i => (p.quadLanes i).all fun l => (f.lane l).locked
    if t.phase < 4 || !ready then f
    else
      let act := bothMask (bothMask p.active p.rxGood) t.rxGood
      if act = 0 then f.leaveUp k .lock p.reason
      else
        let f := f.updPort k fun p => p.agree t f.tick act
        if t.phase = 5 then f.endRetrain k p.active else f
  | _ =>
    if p.state.usable && p.rxWake.isSome then
      (f.updPort k fun p => { p.owe f.tick with rxNap := false, rxWake := none, owedReq := 2 }).restartRx k
    else f

/-- A training sequence arrives: one whose MARKER, VERSION or CRC is wrong is none; TICK of a good one is echoed (Table 10.7). -/
def Fabric.trainingRx (f : Fabric) (k : Nat) (t : Ts) (good : Nat) : Fabric :=
  if t.good then (f.updPort k fun p => { p with tsTick := t.tick, tsAt := f.tick }).trainingStep k t good else f

/-- PHASE that a port shows in its training sequences (Table 10.7); none where it sends no training frames. -/
def Fabric.phase (f : Fabric) (k : Nat) : Option Nat :=
  let p := f.port k
  match p.state with
  | .lock => some 2
  | .align => some 3
  | .config => some (if p.sendReady then 5 else 4)
  | .retrain =>
    let ready := (bitsOf p.rxGood 12).all fun i => (p.quadLanes i).all fun l => (f.lane l).locked
    some (if p.sendReady then 5 else if ready then 4 else 2)
  | _ => none

/-- The training sequence that the i-th lane of a port sends now (Table 10.7). -/
def Fabric.ownTs (f : Fabric) (k i phase : Nat) : Ts :=
  let p := f.port k
  let r := f.rtr
  let t : Ts :=
    { quad := (p.first + i / 4) % 48, lane := i, kind := if k < 6 then 0 else 1, preReq := p.preReq, fecReq := p.fecReq,
      rate := p.rate, phase := phase, port := k, node := r.node, inSlots := p.inSlots, rxGood := p.rxGood,
      echoAge := (f.tick - p.tsAt) % 65536, echoTick := p.tsTick, tick := f.tick % 65536, lx := r.lx, ly := r.ly, lz := r.lz }
  { t with crc := t.goodCrc }

/-- The training frame of R355 that the i-th lane of a port sends now: 8,192 symbols of PRBS13Q and the training sequence in
256 symbols, never precoded (R333). A lane that is not training sends none. -/
def Fabric.trainingFrame (f : Fabric) (k i : Nat) : List Nat :=
  match f.phase k with
  | none => []
  | some ph => prbs13q 8192 (Config.prbsSeed i) ++ levelsOf 256 (wordsNat (f.ownTs k i ph).words)

/-! ### Retry -/

/-- A slot that fails (R345): the receiver enters NAK-wait and owes a NAK. -/
def Fabric.slotFailed (f : Fabric) (k : Nat) : Fabric :=
  let p := f.port k
  if !p.state.usable || p.nakWait then f
  else f.updPort k fun p => { p.owe f.tick with nakWait := true, nakTick := f.tick, owedNak := true }

/-- NAK-wait repeats its NAK every REPLAY_TICKS (R345). -/
def Fabric.nakRepeat (f : Fabric) (k : Nat) : Fabric :=
  let p := f.port k
  if p.state.usable && p.nakWait && p.nakTick + p.replayTicks ≤ f.tick then
    f.updPort k fun p => { p.owe f.tick with nakTick := f.tick, owedNak := true }
  else f

/-- A resend of everything unacknowledged starts, oldest first (R346); 8 in a row without ACK progress retrain the link
(R348). -/
def Fabric.startResend (f : Fabric) (k : Nat) : Fabric :=
  let p := f.port k
  if p.retx.isEmpty then f
  else
    let f := f.updPort k fun p =>
      { p with retryEvents := p.retryEvents + 1, noProgress := p.noProgress + 1, ackTick := f.tick, replaying := true, replayAt := 0 }
    if p.noProgress + 1 ≥ 8 then f.enterRetrain k 0x02 else f

/-- A running resend sends its next flit, under its own LSEQ and without a further credit (R307, R346). -/
def Fabric.resendFlit (f : Fabric) (k : Nat) : Fabric :=
  let p := f.port k
  match p.retx[p.replayAt]? with
  | none => f.updPort k fun p => { p with replaying := false }
  | some r =>
    (f.putSlot k (r.flit.slot r.lseq)).updPort k fun p =>
      { p with resent := p.resent + 1, replayAt := p.replayAt + 1, replaying := p.replayAt + 1 < p.retx.length, sentNow := true }

/-- No ACK progress for REPLAY_TICKS with flits unacknowledged (R346). -/
def Fabric.replayTimeout (f : Fabric) (k : Nat) : Fabric :=
  let p := f.port k
  if p.state.usable && !p.retx.isEmpty && p.ackTick + p.replayTicks ≤ f.tick then f.startResend k else f

/-- The next codeword of an active lane is decoded (R337): its symbol errors, none where they are more than t. Corrected
symbols count; an uncorrectable codeword counts, marks the slots that it overlaps as failed, and the 32nd within 1,563 ref
ticks retrains the link (R348). -/
def Fabric.codeword (f : Fabric) (k lane : Nat) (errors : Option Nat) : Fabric :=
  let p := f.port k
  let x := f.lane lane
  match errors with
  | some n =>
    (f.updLane lane fun x => { x with cw := x.cw + 1, symErrors := 0 }).updPort k fun p =>
      { p with fecCw := p.fecCw + 1, fecCorr := p.fecCorr + n }
  | none =>
    let recent := (x.unc ++ [f.tick]).filter fun t => f.tick < t + 1563
    let f := f.updLane lane fun x =>
      { x with cw := x.cw + 1, symErrors := 0, unc := if recent.length ≥ 32 then [] else recent,
               badSlots := x.badSlots ++ (slotsUnder p.fec x.cw).filter fun s => x.rxSlots ≤ s && !x.badSlots.contains s }
    let f := f.updPort k fun p => { p with fecCw := p.fecCw + 1, fecUnc := p.fecUnc + 1 }
    if recent.length ≥ 32 then f.enterRetrain k 0x03 else f

/-- Injected symbol errors join those of a lane's next codeword (Table 10.10). -/
def Lane.withInjected (x : Lane) (kp : Bool) (errors : Option Nat) : Option Nat :=
  errors.bind fun n => if n + x.symErrors ≤ fecT kp then some (n + x.symErrors) else none

/-- FEC_UNCORRECTABLE: a codeword of a lane as its levels were received (R337). -/
def Fabric.codewordRx (f : Fabric) (lane before : Nat) (levels : List Nat) : Fabric :=
  match f.portOf lane with
  | none => f
  | some k =>
    let p := f.port k
    if !p.state.usable || !p.activeLanes.contains lane then f
    else f.codeword k lane ((f.lane lane).withInjected p.fec (codewordErrors p.fec p.rxPre before levels))

/-- The codewords that a lane's next slot needs and that no command brought pass without errors of their own. -/
def Fabric.decodeFor : Nat → Fabric → Nat → Nat → Fabric
  | 0, f, _, _ => f
  | n + 1, f, k, lane =>
    let p := f.port k
    let x := f.lane lane
    if !p.state.usable || codewordsFor p.fec (x.rxSlots + 1) ≤ x.cw then f
    else Fabric.decodeFor n (f.codeword k lane (x.withInjected p.fec (some 0))) k lane

/-- The next slot arrives on a port (R334, R337): a slot that the decoder has marked fails, any other goes to `body`. -/
def Fabric.slotIn (f : Fabric) (k : Nat) (body : Fabric → Fabric) : Fabric :=
  let p := f.port k
  if !p.state.usable then f
  else
    let l := p.slotLane p.rxNap p.rxSlot
    let f := Fabric.decodeFor 2 f k l
    let x := f.lane l
    let f := (f.updLane l fun x => { x with rxSlots := x.rxSlots + 1, badSlots := x.badSlots.filter (x.rxSlots < ·) }).updPort k fun p =>
      { p with rxSlot := p.rxSlot + 1 }
    if x.badSlots.contains x.rxSlots then f.slotFailed k else body f

/-- An active lane loses lock (R348). -/
def Fabric.laneLockLoss (f : Fabric) (lane : Nat) : Fabric :=
  let f := f.updLane lane fun x => { x with locked := false }
  match f.portOf lane with
  | none => f
  | some k => if (f.port k).activeLanes.contains lane then f.enterRetrain k 0x04 else f

/-- An injected lane loss ends: the transmitter sends again (R370). -/
def Fabric.laneLossEnd (f : Fabric) (lane : Nat) : Fabric :=
  match (f.lane lane).lossUntil with
  | some t => if t ≤ f.tick then f.updLane lane fun x => { x with lossUntil := none } else f
  | none => f

/-! ### Slots -/

/-- A wrap of a wrapping counter is reported (R325, R514, Table 15.4). -/
def Fabric.counterWrap (f : Fabric) (reg unit idx : Nat) : Fabric :=
  let n := sat32 (f.wraps.get reg 0 + 1)
  ({ f with wraps := f.wraps.set reg n } : Fabric).notify 32
    { unit := unit, unitIdx := idx, code := 0x0B, pay := [pack [(25, 0, reg), (63, 32, n)], 0, 0, 0, 0] }

/-- The timetable entry that reserves a quad of a port now (R295): its index and BORROW. -/
def Fabric.reservedBy (f : Fabric) (k quad : Nat) : Option (Nat × Bool) :=
  (f.rtr.timetable.find? fun e =>
    let w := wd e.2 2
    bit w 3 && fld w 2 0 == k && fld w 31 20 / 2 ^ quad % 2 == 1 && wn e.2 0 ≤ f.bell && f.bell < wn e.2 1).map
    fun e => (e.1, bit (wd e.2 2) 4)

/-- The next slot's quad, as its place in the port's quad order (R334, R363). -/
def Port.slotQuad (p : Port) : Nat :=
  let qs := bitsOf p.active 12
  if p.state == .active then qs.getD (p.slot % (4 * max 1 qs.length) / 4) 0 else qs.getD 0 0

/-- A flit has credit downstream (R307). -/
def Port.hasCredit (p : Port) (x : Flit) : Bool := p.credits.get x.creditClass 0 > 0 || p.credits.get 5 0 > 0

/-- Spend a credit: the class counter first (R307). -/
def Port.spend (p : Port) (x : Flit) : Port :=
  let c := if p.credits.get x.creditClass 0 > 0 then x.creditClass else 5
  { p with credits := p.credits.set c (p.credits.get c 0 - 1) }

/-- The circuit that still holds a queued flit on its port: its entry reserves an active quad. -/
def Fabric.onCircuit (f : Fabric) (k : Nat) (q : QFlit) : Bool :=
  match q.circuit with
  | none => false
  | some e => (bitsOf (f.port k).active 12).any fun i => f.reservedBy k i == some (e, true) || f.reservedBy k i == some (e, false)

/-- Flits that follow the rule of R311: VC3 first in order of arrival, then VC0 to VC2 from the rotating pointer. -/
def pickFree (ptr : Nat) (qs : List QFlit) : Option QFlit :=
  let oldest (vc : Nat) := minBy (fun (q : QFlit) => q.order) (qs.filter fun q => q.flit.vc == vc)
  match oldest 3, oldest (ptr % 3), oldest ((ptr + 1) % 3), oldest ((ptr + 2) % 3) with
  | some q, _, _, _ => some q
  | none, some q, _, _ => some q
  | none, none, some q, _ => some q
  | none, none, none, o => o

/-- The flit that an output port takes in its next slot (R295, R311). -/
def Fabric.pickFlit (f : Fabric) (k : Nat) : Option QFlit :=
  let p := f.port k
  let mine := f.rtr.queue.filter fun q => q.out == some k
  let can := mine.filter fun q => p.hasCredit q.flit
  let free := can.filter fun q => !f.onCircuit k q
  match f.reservedBy k p.slotQuad with
  | none => pickFree p.vcPointer free
  | some (e, borrow) =>
    match minBy (fun (q : QFlit) => q.order) (can.filter fun q => q.circuit == some e) with
    | some q => some q
    | none => if borrow && !(mine.any fun q => q.circuit == some e) then pickFree p.vcPointer free else none

/-- A flit waits for a port. -/
def Fabric.waitsFor (f : Fabric) (k : Nat) : Bool := f.rtr.queue.any fun q => q.out == some k

/-- A port that is up still has flits to carry: queued ones, or those to come of a multicast message that took it (R294). -/
def Fabric.carries (f : Fabric) (k : Nat) : Bool :=
  f.waitsFor k || ((f.port k).state.up && f.rtr.branches.any fun b => b.outs.contains k)

/-- In fixed-rate mode, every fifth slot holds a link control flit (R342). -/
def Port.lcfSlot (p : Port) : Bool := p.fixedNow && p.slot % 5 == 4

/-- An owed item has waited 4 ref ticks: the next slot holds a link control flit (R341). -/
def Port.lcfDue (p : Port) (tick : Nat) : Bool := !p.fixedNow && p.owed && p.owedSince + 4 ≤ tick

/-- A data flit is ready on a port: the next of a running resend, or one that the port may send (R311, R312, R346). -/
def Fabric.flitReady (f : Fabric) (k : Nat) : Bool :=
  let p := f.port k
  !p.awaitLcf && (p.replaying || (p.retx.length < 4096 && (f.pickFlit k).isSome))

/-- An output port sends one flit (R307, R311, R312, R325, R339): the next of a running resend (R346), or a queued one; a
JOINING device sends only link control flits (R438). -/
def Fabric.flitTx (f : Fabric) (k : Nat) : Fabric :=
  let p := f.port k
  if !p.state.usable || p.awaitLcf || p.lcfSlot || p.lcfDue f.tick || f.roll.state != 1 then f
  else if p.replaying then f.resendFlit k
  else if p.retx.length ≥ 4096 then f
  else
    match f.pickFlit k with
    | none => f
    | some q =>
      let x := q.flit
      let was := f.rtr
      let f := { f with rtr := { f.rtr with queue := f.rtr.queue.filter fun y => y.order != q.order } }
      let wrap := p.txBytes + x.bytes ≥ 2 ^ 64
      let f := (f.putSlot k (x.slot p.nextLseq)).updPort k fun p =>
        { p.spend x with
            retx := p.retx ++ [{ lseq := p.nextLseq, flit := x }], nextLseq := (p.nextLseq + 1) % 65536,
            retxHwm := max p.retxHwm (p.retx.length + 1), txFlits := p.txFlits + 1, txBytes := (p.txBytes + x.bytes) % 2 ^ 64,
            vcPointer := if x.vc < 3 && !f.onCircuit k q then (p.vcPointer + 1) % 3 else p.vcPointer, idleSince := f.tick,
            ackTick := if p.retx.isEmpty then f.tick else p.ackTick, progress := f.tick, sentNow := true }
      let f := if wrap then f.counterWrap (0x200010 + 0x10000 * k) 6 k else f
      (f.leaveQueue q q.slotClass).bumpHeads was

/-- The next slot may hold a link control flit (R341, R342): no data flit is ready, or something is owed; in fixed-rate mode
in place of a data flit only in every fifth slot. -/
def Fabric.mayLcf (f : Fabric) (k : Nat) : Bool :=
  let p := f.port k
  p.state.usable && (!f.flitReady k || (if p.fixedNow then p.lcfSlot else p.owed))

/-- A slot passes its CRC under the expected LSEQ (R309, R325, R339): the flit takes an input slot and goes to the
router core. -/
def Fabric.acceptFlit (f : Fabric) (k : Nat) (x : Flit) : Fabric :=
  let p := f.port k
  let c := x.creditClass
  let wrap := p.rxBytes + x.bytes ≥ 2 ^ 64
  let f := f.updPort k fun p =>
    { p.owe f.tick with
        nakWait := false, owedNak := false, expLseq := (p.expLseq + 1) % 65536, rxFlits := p.rxFlits + 1,
        rxBytes := (p.rxBytes + x.bytes) % 2 ^ 64, inUse := p.inUse.set c (p.inUse.get c 0 + 1) }
  let f := if wrap then f.counterWrap (0x200020 + 0x10000 * k) 6 k else f
  let ord := f.rtr.order
  if x.cls = 3 then f.multicast x k ord c
  else if x.dst = f.rtr.node then (f.deliver x k).freeSlot k c
  else
    ({ f with rtr := { f.rtr with order := ord + 1 } } : Fabric).place
      { flit := x, inPort := k, order := ord, group := ord, since := f.tick, inCls := c }

/-- A data slot arrives (R339): accepted only where its CRC passes under the expected LSEQ; an injected CRC error flips one of
its bytes (Table 10.10). -/
def Fabric.dataFlitRx (f : Fabric) (k : Nat) (x : Flit) (crc : Word) : Fabric :=
  f.slotIn k fun f =>
    if (f.port k).crcInject then (f.updPort k fun p => { p with crcInject := false }).slotFailed k
    else if crc == dataCrc (f.port k).expLseq x.slotWords then f.acceptFlit k x
    else f.slotFailed k

/-- Free the retransmit slots below an ACK (R344): how many. -/
def Port.acked (p : Port) (ack : Nat) : Nat :=
  match p.retx with
  | [] => 0
  | r :: _ =>
    let n := (ack + 65536 - r.lseq) % 65536
    if n ≤ p.retx.length then n else 0

/-- The link part of a good LCF (R343, R344, R346, R348, R362, R363): acknowledgements, credits, requests. -/
def Fabric.lcfRx (f : Fabric) (k : Nat) (m : Lcf) : Fabric :=
  let p := f.port k
  if !p.state.usable then f
  else
    let n := p.acked m.ack
    let left := p.retx.drop n
    let credits := (List.range 6).foldl (fun cs i =>
      cs.set i (cs.get i 0 + (m.cr.getD i 0 + 65536 - p.lastCr.get i 0) % 65536)) p.credits
    let f := f.updPort k fun p =>
      { p with retx := left, credits := credits, lastCr := Map.setList [] 0 (takeNat 6 m.cr), awaitLcf := false,
               noProgress := if n > 0 then 0 else p.noProgress, ackTick := if n > 0 then f.tick else p.ackTick,
               replayAt := p.replayAt - n, replaying := p.replaying && p.replayAt - n < left.length, progress := if n > 0 then f.tick else p.progress,
               idleSince := if n > 0 then f.tick else p.idleSince }
    let f := if p.awaitLcf then (f.startResend k).updPort k fun q => { q with noProgress := 0 } else if m.nak then f.startResend k else f
    let f := match m.txeq with
      | some (l, tap, step) =>
        match p.allLanes[l]? with
        | some lane => f.updLane lane fun x => { x with taps := x.taps.set tap (x.taps.get tap 0 + step) }
        | none => f
      | none => f
    match m.req with
    | 1 => (f.abortScans (p.allLanes.drop 1)).updPort k fun p => { p with rxNap := true }
    | 2 =>
      let f := f.updPort k fun p => { p with rxWake := if p.rxNap && p.rxWake.isNone then some f.tick else p.rxWake }
      if p.state == .wake then ((f.restartTx k).updPort k fun p => { p with progress := f.tick }).toState k .active else f
    | 3 => f.enterRetrain k 0x05
    | _ => f
where
  /-- The first n entries, zero where absent. -/
  takeNat (n : Nat) (l : List Nat) : List Nat := (List.range n).map fun i => l.getD i 0

/-! ### Sleep -/

/-- A transmitter that has been idle for NAP_TICKS naps (R362): its LCF with REQ NAP leaves first. -/
def Fabric.napEntry (f : Fabric) (k : Nat) : Fabric :=
  let p := f.port k
  if p.state == .active && p.napEn && p.retx.isEmpty && !f.waitsFor k && p.idleSince + p.napTicks ≤ f.tick then
    (((f.abortScans (p.allLanes.drop 1)).updPort k fun p => { p.owe f.tick with owedReq := 1 }).putLcf k none).toState k .nap
  else f

/-- A data flit becomes ready in NAP: the transmitter wakes (R363). -/
def Fabric.txWake (f : Fabric) (k : Nat) : Fabric :=
  let p := f.port k
  if p.state == .nap && f.waitsFor k then
    (f.updPort k fun p => { p.owe f.tick with owedReq := 2, wakeSince := f.tick }).toState k .wake
  else f

/-- A lane has not re-locked within 15,625 ref ticks of the WAKE request (R364). -/
def Fabric.wakeTimeout (f : Fabric) (k : Nat) : Fabric :=
  let p := f.port k
  let late := match p.rxWake with | some t => t + 15625 ≤ f.tick | none => false
  if late || (p.state == .wake && p.wakeSince + 15625 ≤ f.tick) then f.enterRetrain k 0x04 else f

/-! ### Stall ticks (R324) -/

/-- Charge the ref tick that ends to LINK, RETX or CREDIT, where the port sent no flit in it and one waited. -/
def Fabric.chargePort (f : Fabric) (k : Nat) : Fabric :=
  let p := f.port k
  let mine := f.rtr.queue.filter fun q => q.out == some k
  if mine.isEmpty || p.sentNow then f.updPort k fun p => { p with stallNow := 0, sentNow := false }
  else if !p.state.up || p.state == .retrain || p.state == .wake || p.replaying then
    f.updPort k fun p => { p with stallLink := p.stallLink + 1, stallNow := 1 }
  else if p.retx.length ≥ 4096 then f.updPort k fun p => { p with stallRetx := p.stallRetx + 1, stallNow := 2 }
  else if !(mine.any fun q => p.hasCredit q.flit) then
    f.updPort k fun p => { p with stallCredit := p.stallCredit + 1, stallNow := 3 }
  else f.updPort k fun p => { p with stallNow := 0 }

/-! ### Escape (R277) -/

/-- A flit has waited ESC_WAIT at the head of its input queue: it goes on in VC3 under DOR. -/
def Fabric.escapeTimeout (f : Fabric) (order : Nat) : Fabric :=
  match f.rtr.queue.find? fun q => q.order == order with
  | none => f
  | some q =>
    let isHead := !(f.rtr.queue.any fun y => y.inPort == q.inPort && y.flit.vc == q.flit.vc && y.order < q.order)
    if q.flit.esc || q.flit.cls = 3 || !isHead || f.tick < q.since + f.rtr.escWait then f
    else
      let was := f.rtr
      let r := { f.rtr with queue := f.rtr.queue.filter (fun y => y.order != order), escapes := sat32 (f.rtr.escapes + 1) }
      let f := ({ f with rtr := r } : Fabric).place
        { q with flit := { q.flit with esc := true, aux := false }, out := none, circuit := none, since := f.tick } true
      f.bumpHeads was

/-! ### Lane tests -/

/-- A lane test of a port ends. -/
def Fabric.endTest (f : Fabric) (k : Nat) : Fabric :=
  let f := (f.port k).allLanes.foldl (fun g l => g.updLane l fun x => { x with prbsRun := false }) f
  f.updPort k fun p => { p with test := none }

def laneTestBody : Body := fun c f =>
  let w0 := wd c.pay 0
  let w1 := wd c.pay 1
  let w2 := wd c.pay 2
  let k := fld w0 2 0
  let p := f.port k
  let bad := c.len != 24 || !onlyBits w0 [(7, 0)] || !onlyBits w1 [(47, 0)] || !onlyBits w2 [(39, 0)] || fld w0 4 3 == 3 ||
    w1.toNat ≥ 2 ^ (4 * p.count) || !(p.state == .off || p.state == .test)
  if !fromOf c [32] then denied 0 f
  else if bad then faulted f
  else if bit w0 7 then
    if p.state == .test then okay ((f.endTest k).toState k .off) else okay f
  else
    let t : PortTest :=
      { rate := fld w0 4 3, prbs31 := bit w0 5, loop := bit w0 6, mask := w1.toNat,
        injPeriod := if f.conf then 0 else fld w2 31 0, injCount := if f.conf then 0 else fld w2 39 32 }
    let on := (bitsOf w1.toNat 48).filterMap fun i => p.allLanes[i]?
    let f := f.endTest k
    let f := on.foldl (fun g l => g.updLane l fun x => { x with prbsRun := true, prbsLock := false, prbsErrors := 0, prbsBits := 0 }) f
    okay ((f.updPort k fun p => { p with test := some t, rate := t.rate }).toState k .test) on.length

/-- A lane's checker locks and counts errors and bits (R369). -/
def Fabric.prbsLocked (f : Fabric) (lane errors bits : Nat) : Fabric :=
  if (f.lane lane).prbsRun then
    f.updLane lane fun x => { x with prbsLock := true, prbsErrors := min (2 ^ 48 - 1) (x.prbsErrors + errors), prbsBits := x.prbsBits + bits }
  else f

/-! ### PORT_CTL -/

/-- LN_CONTROL (Table 10.14). -/
def Port.control (p : Port) : Word :=
  pack [(63, 63, b2n p.enable), (62, 62, b2n p.fecReq), (61, 61, b2n p.preReq), (60, 60, b2n p.napEn), (59, 58, p.maxRate),
        (15, 0, p.napTicks)]

/-- Fields of LN_CONTROL: the link object's ENABLE first. -/
def lnFields : List (Nat × Nat) := [(63, 63), (62, 62), (61, 61), (60, 60), (59, 58), (15, 0)]

/-- State-object block of the ports. -/
def blkPort : Nat := 10

/-- The objects that a PORT_CTL sets (R373). -/
def Fabric.portCtlSets (f : Fabric) (mask action : Nat) (v : Word) : List (Obj × Nat) :=
  (bitsOf mask 8).flatMap fun k =>
    if action = 0 then
      lnFields.zipIdx.filterMap fun (hl, i) =>
        if fld v hl.1 hl.2 = fld (f.port k).control hl.1 hl.2 then none else some ({ block := blkPort, index := k, field := i }, fld v hl.1 hl.2)
    else [({ block := blkPort, index := k, field := 0 }, action + 1)]

def portCtlBody : Body := fun c f =>
  let w0 := wd c.pay 0
  let v := wd c.pay 1
  let a := fld w0 10 8
  let bad := c.len != 16 || !onlyBits w0 [(10, 0)] || fld w0 7 0 == 0 || a ≥ 3 || (a != 0 && v != 0) ||
    (a == 0 && (!onlyBits v lnFields || fld v 59 58 == 3 || fld v 15 0 == 0))
  if !fromOf c [32, 33, 36] then denied 0 f
  else if bad then faulted f
  else holdOrder c 0x0600 (f.portCtlSets (fld w0 7 0) a v) f

/-- A port starts to drain (R373). -/
def Fabric.drainPort (f : Fabric) (k : Nat) (why : DrainFor) (mbxs : List Nat) : Fabric :=
  f.updPort k fun p => { p with drainFor := some why, drainStart := f.tick, drainMbxs := p.drainMbxs ++ mbxs }

/-- Bounce a port: drain, leave UP, enter QUIET; a port that is held OFF or in TEST stays. -/
def Fabric.bouncePort (f : Fabric) (k : Nat) (why : DrainFor) (mbxs : List Nat) : Fabric :=
  let p := f.port k
  if p.state.up then f.drainPort k why mbxs
  else if p.state == .off || p.state == .test then f
  else f.leaveUp k .quiet 0x07

/-- A spare lies outside the machine (R537). -/
def Fabric.isSpare (f : Fabric) : Bool := !f.rtr.inside f.rtr.node

/-- A torus port of a spare whose neighbour lies outside the spare's own rack is held OFF (R537). -/
def Fabric.outOfRack (f : Fabric) (k : Nat) : Bool :=
  f.isSpare && k < 6 && rackOf (f.rtr.neighbour k) != rackOf f.rtr.node

/-- Set one object of a port; in detention an enabled port stays at electrical idle (R437), and a spare's port toward another
rack stays OFF. -/
def Fabric.setPortObj (f : Fabric) (mbx k field v : Nat) : Fabric :=
  let p := f.port k
  match field with
  | 0 =>
    match v with
    | 0 =>
      let f := f.updPort k fun p => { p with enable := false }
      if p.state.up then f.drainPort k .off [mbx] else f.leaveUp k .off 0x07
    | 1 =>
      let f := f.updPort k fun p => { p with enable := true }
      if f.roll.state = 2 || f.outOfRack k then f
      else if p.state == .off || p.state == .test then (f.endTest k).toState k .quiet else f
    | 2 => f.enterRetrain k 0x07
    | _ => f.bouncePort k .bounce [mbx]
  | 1 => f.updPort k fun p => { p with fecReq := v == 1 }
  | 2 => f.updPort k fun p => { p with preReq := v == 1 }
  | 3 => f.updPort k fun p => { p with napEn := v == 1 }
  | 4 => f.updPort k fun p => { p with maxRate := v }
  | _ => f.updPort k fun p => { p with napTicks := v }

/-- The PORT_CTL of a mailbox completes when none of its ports drains for it. -/
def Fabric.endPortCtl (f : Fabric) (mbx : Nat) : Fabric :=
  match f.portCtls.find? fun c => c.mbx == mbx with
  | none => f
  | some c =>
    if (List.range 8).any fun k => (f.port k).drainMbxs.contains mbx then f
    else ({ f with portCtls := f.portCtls.filter fun y => y.mbx != mbx } : Fabric).finish mbx stOk c.mask

/-- PORT_CTL takes effect (R373). -/
def Fabric.portCtl (f : Fabric) (o : Order) : Fabric :=
  let g := o.sets.foldl (fun g s => g.setPortObj o.mbx s.1.index s.1.field s.2) f
  let changed := (List.range 8).filter fun k =>
    (g.port k).state != (f.port k).state || ((g.port k).drainFor.isSome && (f.port k).drainFor.isNone)
  ({ g with portCtls := g.portCtls ++ [{ mbx := o.mbx, mask := maskOf changed }] } : Fabric).endPortCtl o.mbx

/-- The drain of a port ends: OFF for ENABLE 0, else QUIET (R373). -/
def Fabric.endPortDrain (f : Fabric) (k : Nat) (why : DrainFor) : Fabric :=
  let mbxs := (f.port k).drainMbxs
  let f := f.updPort k fun p => { p with drainFor := none, drainMbxs := [] }
  let f := f.leaveUp k (if why == .off || !(f.port k).enable then .off else .quiet) 0x07
  mbxs.foldl (fun g m => g.endPortCtl m) f

/-- A draining port has emptied its queues and its retransmit buffer. -/
def Fabric.portDrainDone (f : Fabric) (k : Nat) : Fabric :=
  match (f.port k).drainFor with
  | none => f
  | some why => if !f.carries k && (f.port k).retx.isEmpty then f.endPortDrain k why else f

/-- DRAIN_TICKS have passed: what is left is discarded under R314. -/
def Fabric.portDrainTimeout (f : Fabric) (k : Nat) : Fabric :=
  match (f.port k).drainFor with
  | none => f
  | some why => if (f.port k).drainStart + 15625 * f.rtr.drainUnits ≤ f.tick then f.endPortDrain k why else f

/-! ### Registers (Tables 10.13–10.17) -/

def Port.stateWord (p : Port) : Word :=
  pack [(63, 52, p.active), (47, 32, p.retrains), (31, 28, p.state.code), (27, 26, p.rate), (25, 25, b2n p.fec), (24, 24, b2n p.txPre),
        (23, 23, b2n p.rxPre), (22, 22, b2n (p.state == .nap || p.state == .wake)), (21, 21, b2n p.rxNap), (20, 19, p.peerKind),
        (14, 0, p.peer)]

/-- LN_STATE, LN_CONTROL, LN_RTT, LN_FEC_CW, LN_FEC_CORR, LN_FEC_UNC, LN_LCF_TX. -/
def Port.lnRegs (p : Port) : List Word :=
  [p.stateWord, p.control, pack [(31, 16, p.replayTicks), (15, 0, p.rtt)], w64 p.fecCw, w64 p.fecCorr, w64 p.fecUnc, w64 p.lcfTx]

/-- LN_MARGIN, LN_SCAN_TICK, LN_PRBS, LN_PRBS_BITS. -/
def Lane.regs (l : Lane) : List Word :=
  [ pack [(63, 56, l.eh), (55, 50, l.ew), (49, 48, l.cls), (47, 46, l.eye), (31, 16, (l.slope % 65536).toNat), (15, 0, l.predict)],
    w64 l.scanTick, pack [(63, 63, b2n l.prbsLock), (62, 62, b2n l.prbsRun), (47, 0, l.prbsErrors)], w64 l.prbsBits ]

end Sys2Proof.Machine
end

