-- ==== Sys2Proof/Machine/Transfer.lean ====
section
/-!
DEFINITION. The commands of Table 4.1 and PAGE_MOVE (chapters 04 and 07): SUBMIT_LIST, XFER_ONE,
LIST_STATUS, LIST_CANCEL and PAGE_MOVE, and the HDP answers that lists wait for (R79–R82, R137–R141,
R154–R157, R171, R259).
-/
namespace Sys2Proof.Machine

/-! ### Submitting -/

/-- A work list header is malformed (R79, Table 2.18). -/
def headerBad (ws : List Word) : Bool :=
  !onlyBits (wd ws 0) [(47, 6)] || !onlyBits (wd ws 1) [(16, 0)] || fld (wd ws 1) 16 0 == 0 || fld (wd ws 1) 16 0 > 65536 ||
    !onlyBits (wd ws 2) [(47, 6)] || !onlyBits (wd ws 4) [(0, 0)] || wd ws 5 != 0 || wd ws 6 != 0 || wd ws 7 != 0

/-- The list entry that has been free longest (R171): `freedAt` numbers the entries in the order in which they became free. -/
def Part.freeEntry (x : Part) : Option Nat :=
  minBy (fun i => (x.entries.get i {}).freedAt) ((List.range 16).filter fun i => !(x.entries.get i {}).busy)

/-- Accepted lists that are not finished (R80). -/
def Part.openLists (x : Part) : Nat := (x.lists.filter fun l => !l.finished).length

def submitListBody : Body := fun c f =>
  liveGate (c.len != 8 || !onlyBits (wd c.pay 0) [(47, 6)]) 0 c f fun f =>
    (f.hdpRead (wn c.pay 0) 1 fun _ => .listHeader c.mbx, .wait)

/-- The list header of a SUBMIT_LIST has been read (R63, R79, R80): the list is accepted into the entry that
has been free longest, and its slots are fetched. -/
def Fabric.listHeader (f : Fabric) (mbx : Nat) (ws : List Word) (poison : Bool) (addr : Nat) : Fabric :=
  let c := f.cmdOf mbx
  let p := tagPart c.tag
  let x := f.part p
  if !(f.mbx mbx).env.own || (f.mbx mbx).env.opcode != 0x0200 then f
  else if poison then
    (f.notify p (faultNotice p 1 0 c.tag 2 (w64 addr) 0 (f.mbx mbx).env.cmdId)).finish mbx stFaulted
  else if x.draining then f.finish mbx stDraining
  else if headerBad ws || !f.tagLive c.tag then f.finish mbx stFaulted
  else
    match (if x.openLists < 16 then x.freeEntry else none) with
    | none => f.finish mbx stBusy
    | some e =>
      let cmdId := (f.mbx mbx).env.cmdId.toNat
      let l : WList :=
        { id := x.nextList, cmdId := cmdId, mbx := mbx, tag := c.tag, listId := wd ws 3, descBase := wn ws 0,
          count := fld (wd ws 1) 16 0, cplBase := wn ws 2, halt := bit (wd ws 4) 0, entry := e }
      let f := f.setPart p
        { x with lists := x.lists.filter (fun y => !y.finished) ++ [l] ++ x.lists.filter (fun y => y.finished),
                 nextList := x.nextList + 1, entries := x.entries.set e { cmdId := cmdId, busy := true } }
      (f.finish mbx stOk e).stepList p l.id

/-- Issue one descriptor from a mailbox (R133, R139): it is its context's next to start, before every descriptor that has not
started, and takes entry 16 (R171). -/
def Fabric.issueOne (f : Fabric) (c : Cmd) (words : List Word) (pageMove : Bool) : Fabric × Reply :=
  let p := tagPart c.tag
  (f.updPart p fun x =>
    { x with issued := { mbx := c.mbx, tag := c.tag, words := words, pageMove := pageMove } :: x.issued,
             entries := x.entries.set 16 { cmdId := (f.mbx c.mbx).env.cmdId.toNat, busy := true } }, .wait)

def xferOneBody : Body := fun c f =>
  liveGate (c.len != 64) 64 c f fun f => f.issueOne c (takePad 8 c.pay) false

def pageMoveBody : Body := fun c f =>
  liveGate (c.len != 48) 8 c f fun f =>
    if (f.ctx c.tag).state != .live then faulted f else f.issueOne c (takePad 6 c.pay) true

/-! ### Status and cancel -/

/-- The most recently accepted list of a context that carries a LIST_ID (R140). -/
def Part.listNamed (x : Part) (tag : Nat) (listId : Word) : Option WList :=
  (x.lists.filter fun l => l.tag == tag && l.listId == listId).foldl (fun b l =>
    match b with
    | some y => if y.id < l.id then some l else b
    | none => some l) none

/-- STATE of LIST_STATUS (Table 4.2). -/
def WList.state (l : WList) : Nat :=
  if l.finished then 3 else if l.started then 2 else 1

def listStatusBody : Body := fun c f =>
  ctxGate (c.len != 8) 32 c f fun f =>
    match (f.part (tagPart c.tag)).listNamed c.tag (wd c.pay 0) with
    | none => (f, .done stOk 0 (zeros 4) 32)
    | some l =>
      (f, .done stOk 0 [w64 l.cmdId, pack [(63, 32, l.lowest + l.ended.length), (4, 0, l.entry)], w64 l.state, 0] 32)

/-- A started descriptor of a list that is parked, held or waiting for an engine. -/
def Run.stopped (r : Run) (list : Nat) : Bool :=
  (match r.src with | .list l _ => l == list | .mailbox _ => false) && (match r.phase with | .running _ => false | .finishing => false | _ => true)

/-- End the unstarted and stopped descriptors of a list with SUPERSEDED, CANCELLED (R141). -/
def Fabric.cancelList (f : Fabric) (p : Nat) (l : WList) : Fabric :=
  let hit (r : Run) : Bool := r.stopped l.id
  let n := ((f.part p).runs.filter fun r => hit r && r.fin.isNone).length
  let f := f.updPart p fun x =>
    { x with runs := updWhere x.runs hit fun r => { r with fin := some (r.fin.getD (stSuperseded, 6)), phase := .finishing } }
  let f := f.updList p l.id fun l => { l with sweep := some (l.sweep.getD .cancelled), swept := l.swept + n }
  ((f.stepList p l.id).unpark l.tag).settleAll p

def listCancelBody : Body := fun c f =>
  ctxGate (c.len != 8) 0 c f fun f =>
    let p := tagPart c.tag
    match (f.part p).listNamed c.tag (wd c.pay 0) with
    | none => okay f
    | some l =>
      if l.finished then okay f
      else
        let f := f.updList p l.id fun l => { l with cancelMbx := l.cancelMbx ++ [c.mbx] }
        (f.cancelList p l, .wait)

/-! ### Answers that lists wait for -/

/-- Work list slots arrive (R63, R81); a poisoned read is reported once and its slots fail as they start. -/
def Fabric.listFetched (f : Fabric) (p id slot n : Nat) (ws : List Word) (poison : Bool) (addr : Nat) : Fabric :=
  match f.list p id with
  | none => f
  | some l =>
    let f := if poison then f.notify p (faultNotice p 1 0 l.tag 2 (w64 addr) 0 (w64 l.cmdId)) else f
    let slots := (List.range n).map fun k => if poison then [] else takePad 8 (ws.drop (8 * k))
    (f.updList p id fun l => { l with fetched := l.fetched.setList slot slots }).stepList p id

/-- A completion record of a list is visible. -/
def Fabric.recordWritten (f : Fabric) (p id : Nat) : Fabric :=
  (f.updList p id fun l => { l with pendingRecs := l.pendingRecs - 1 }).checkListEnd p id

/-- The list-end record is visible: the list is finished (R157), its entry is free, LIST_CANCELs of it
complete (R141), and the 16 lists that finished most recently stay known (R140). -/
def Fabric.listFinished (f : Fabric) (p id : Nat) : Fabric :=
  match f.list p id with
  | none => f
  | some l =>
    let done (x : Part) : List WList :=
      (x.lists.filter fun y => y.id != id && y.finished) ++ [{ l with finished := true, fetched := [] }]
    let f := f.updPart p fun x =>
      { x with lists := x.lists.filter (fun y => y.id != id && !y.finished) ++ (done x).drop ((done x).length - 16) }
    let f := f.freeCounts p l.entry l.cmdId
    l.cancelMbx.foldl (fun g m => g.finish m stOk l.swept) f

/-! ### PAR_CC_SNAP -/

/-- A source may touch the PAR_ block of a partition (R67, R174). -/
def Fabric.parAccess (f : Fabric) (src p : Nat) : Bool := src == p || (src == 32 && !f.confPart p)

/-- A write to PAR_CC_SNAP (R172, Table 4.16). -/
def Fabric.parSnap (f : Fabric) (src p : Nat) (w : Word) : Fabric :=
  if p ≥ f.partCount || (f.part p).disabled then f
  else if !f.parAccess src p then f.violate
  else if fld w 4 0 > 16 then f
  else f.snapEntry p (fld w 4 0)

end Sys2Proof.Machine
end

