-- ==== Sys2Proof/Machine/Target.lean ====
section
/-!
DEFINITION. Remote requests at their target and their answers at the source: the checks of Table 3.10,
WRITE, READ, ATOMIC, FILL, WACK, RDATA, AOLD (chapters 03 and 04), the hall pass (R285), credits and grants
(R281–R283), and the timers that recover from loss (R286, R558, R559).
-/
namespace Sys2Proof.Machine

/-! ### Checks at the target -/

/-- What the target-side checks answer. -/
inductive TargetCheck where
  | stale | violation | ok
  deriving DecidableEq, Repr

/-- Access right that a request needs. -/
def reqAccess (m : Msg) : Access :=
  match m.kind with
  | .read => .read
  | .atomic => .atomic
  | _ => .write

/-- The checks of Table 3.10, in their order (R129). -/
def Fabric.targetCheck (f : Fabric) (m : Msg) : TargetCheck :=
  if !f.targetLive m.tag then .stale
  else
    match (f.ctx m.tag).segs.vals.find? fun s => s.landHolds m.addr (reqBytes m) with
    | none => .violation
    | some s => if s.grants (reqAccess m) && f.rtr.inScope s.scope m.src then .ok else .violation

/-- The answer to a request (R165): WACK, RDATA or AOLD with its data; LEN counts the units that follow, at least one (R268). -/
def answerTo (m : Msg) (data : List Word) (poison : Bool) : Msg :=
  let k := match m.kind with
    | .read => MsgKind.rdata
    | .atomic => .aold
    | _ => .wack
  { kind := k, dst := m.src, src := 0, tag := m.tag, cls := 1, reqId := m.reqId,
    units := if m.kind == .read then m.units else 1, poison := poison, data := data }

/-- Words that an answer carries. -/
def answerWords (m : Msg) : Nat :=
  match m.kind with
  | .read => 8 * m.units
  | .atomic => 8
  | _ => 0

/-- Serve a released request (R129, R161, R165, R427). -/
def Fabric.serve (f : Fabric) (order : Nat) (m : Msg) : Fabric :=
  match f.targetCheck m with
  | .stale => f
  | .violation => f.violate.respond (answerTo m (zeros (answerWords m)) false)
  | .ok =>
    let id := f.rtr.nextTarget
    let n := if m.kind == .atomic then m.units else pieceCount m.addr m.units
    let op : TargetOp := { id := id, order := order, msg := m, pend := n }
    let f := { f with rtr := { f.rtr with targets := f.rtr.targets ++ [op], nextTarget := id + 1 } }
    match m.kind with
    | .read => f.hdpRead m.addr m.units fun o => .target id (8 * o)
    | .atomic =>
      let w := atopWidth m.atop
      (List.range m.units).foldl (fun g i =>
        g.hdpSend { kind := .atomic, addr := m.addr + w * i, atop := m.atop,
                    data := [w64 (elemAt m.data w i), w64 (elemAt (m.data.drop 8) w i), 0, 0, 0, 0, 0, 0],
                    purpose := .target id i }) f
    | .fill => f.hdpWrite m.addr (List.replicate (8 * m.units) (wd m.data 0)) fun o => .target id o
    | _ => f.hdpWrite m.addr m.data fun o => .target id o

/-- An HDP answer for a request served here; when the last has come, the request has taken effect (R159) and
is answered. Poisoned data is answered as R560 sets. -/
def Fabric.targetAnswer (f : Fabric) (id off : Nat) (ws : List Word) (poison : Bool) (addr : Nat) : Fabric :=
  match f.rtr.targets.find? fun o => o.id == id with
  | none => f
  | some o =>
    let p := tagPart o.msg.tag
    let f := if poison then f.notify p (faultNotice p 0 0 o.msg.tag 2 (w64 addr) 0 0) else f
    let o := { o with pend := o.pend - 1, data := o.data.setList off ws, poison := o.poison || poison }
    if o.pend != 0 then { f with rtr := { f.rtr with targets := updWhere f.rtr.targets (fun y => y.id == id) fun _ => o } }
    else
      let f := { f with rtr := { f.rtr with targets := f.rtr.targets.filter fun y => y.id != id } }
      let m := o.msg
      let data := match m.kind with
        | .read => if o.poison then zeros (8 * m.units) else o.data.words 0 (8 * m.units)
        | .atomic => packElems (atopWidth m.atop) 0 ((List.range m.units).map fun i => (o.data.get i 0).toNat)
        | _ => []
      f.respond (answerTo m data o.poison)

/-- Take a message off the inbox; its order of release, or the next one for a message that is not there. -/
def Fabric.takeMsg (f : Fabric) (m : Msg) : Fabric × Nat :=
  match f.rtr.inbox.find? fun a => a.msg == m with
  | some a => ({ f with rtr := { f.rtr with inbox := f.rtr.inbox.filter fun b => b.order != a.order } }, a.order)
  | none => ({ f with rtr := { f.rtr with order := f.rtr.order + 1 } }, f.rtr.order)

/-- A request message arrives at its target: served at once, or held under R285 when it carries HP. -/
def Fabric.requestMsg (f : Fabric) (m : Msg) : Fabric :=
  if m.hp then (if f.rtr.hpHeld.any fun a => a.msg == m then f else f.arrive m)
  else
    let (f, order) := f.takeMsg m
    f.serve order m

/-- R285: every earlier released request of the same source and tag has taken effect. -/
def Router.hpFree (r : Router) (a : Arrived) : Bool :=
  let before (src tag order : Nat) : Bool := src == a.msg.src && tag == a.msg.tag && order < a.order
  !(r.inbox.any fun b => b.msg.cls == 0 && before b.msg.src b.msg.tag b.order) &&
    !(r.hpHeld.any fun b => before b.msg.src b.msg.tag b.order) &&
    !(r.targets.any fun o => before o.msg.src o.msg.tag o.order)

/-- A held hall-pass request is issued (R285). -/
def Fabric.hpRelease (f : Fabric) (order : Nat) : Fabric :=
  match f.rtr.hpHeld.find? fun a => a.order == order with
  | none => f
  | some a =>
    if f.rtr.hpFree a then
      ({ f with rtr := { f.rtr with hpHeld := f.rtr.hpHeld.filter fun b => b.order != order } } : Fabric).serve order a.msg
    else f

/-! ### Credits and grants -/

/-- Credits pay what is owed, oldest first (R281): a credit names no message (log entry 165). -/
def payOwed : Nat → List (Option Nat × Nat) → List (Option Nat × Nat)
  | _, [] => []
  | n, (m, k) :: os => if n < k then (m, k - n) :: os else payOwed (n - k) os

/-- Settle open messages toward a receiver (R559): a message whose flits have all left and of which nothing
is owed there. -/
def Fabric.settleMsgs (f : Fabric) (d : Nat) : Fabric :=
  let s := f.srcState d
  let leaving (n : Nat) : Bool := f.rtr.outbox.any fun o => o.msgNo == some n
  let paid (n : Nat) : Bool := !leaving n && !(s.owed.any fun o => o.1 == some n)
  let ms := updWhere f.rtr.openMsgs (fun m => paid m.msg) fun m => { m with receivers := m.receivers.filter (· != d) }
  { f with rtr := { f.rtr with openMsgs := ms.filter fun m => !m.receivers.isEmpty } }

/-- The credits, grant and ECHO that a CLS 1 message brings (R283, R316). -/
def Fabric.takeCredits (f : Fabric) (m : Msg) : Fabric :=
  let s := f.srcState m.src
  let isCredit := m.kind == .credit
  let s := { s with owed := payOwed m.cred s.owed, grant := s.grant + (if isCredit then m.grant else 0),
                    asked := if isCredit then false else s.asked }
  let f := (f.setSrc m.src s).settleMsgs m.src
  let f := if m.echo then f.echo m.src else f
  f.pump

/-- Gathered credits are sent in a CREDIT message (R283). -/
def Fabric.creditFlush (f : Fabric) (src : Nat) : Fabric :=
  let d := f.dstState src
  if d.credits ≥ 64 || (d.credits > 0 && d.creditSince + 128 ≤ f.tick) then
    f.respond { kind := .credit, dst := src, src := 0, cls := 1 }
  else f

/-- Grant slots held by sources (Table 8.11). -/
def Router.granted (r : Router) : Nat := r.dsts.vals.foldl (fun a d => a + 64 * d.grant) 0

/-- Free slots of the grant pool (R281, R282). -/
def Router.grantPool (r : Router) : Nat := 163840 - r.base * (r.size - 1) - r.granted

/-- A source asks for grant blocks (R282): as many as the pool holds, up to the request and to MAX_WIN. -/
def Fabric.grantReq (f : Fabric) (m : Msg) : Fabric :=
  let (f, _) := f.takeMsg m
  let d := f.dstState m.src
  let n := min m.blocks (min (f.rtr.grantPool / 64) ((f.rtr.maxWin - f.rtr.base) / 64 - d.grant))
  (f.setDst m.src { d with grant := d.grant + n }).respond { kind := .credit, dst := m.src, src := 0, cls := 1, grant := n }

/-- A destination reclaims a grant 2,048 ref ticks after the last arrival (R282). -/
def Fabric.grantReclaim (f : Fabric) (src : Nat) : Fabric :=
  let d := f.dstState src
  if d.grant > 0 && d.lastArrival + 2048 ≤ f.tick then f.setDst src { d with grant := 0 } else f

/-- A source gives a grant up after 1,024 idle ref ticks with every credit back (R282). -/
def Fabric.grantRelease (f : Fabric) (d : Nat) : Fabric :=
  let s := f.srcState d
  if s.grant > 0 && s.used = 0 && s.lastSend + 1024 ≤ f.tick then f.setSrc d { s with grant := 0 } else f

/-! ### Answers at the source -/

/-- The open request that a response answers: its tag still names the context that sent it (R427). -/
def Fabric.openFor (f : Fabric) (m : Msg) : Option Request :=
  match f.rtr.reqs.find m.reqId with
  | none => none
  | some q =>
    match f.run q.part q.run with
    | none => none
    | some r =>
      let c := f.ctx m.tag
      if r.tag == m.tag && c.gen == tagGen m.tag && c.state != .free then some q else none

/-- The physical address that a tile's remote read names. -/
def Tile.readPa (t : Tile) : Nat :=
  match t.phase with
  | .compare => t.cmpPa.getD t.srcPa
  | .tagRead => (t.srcSeal.bind fun s => s.tagPa).getD t.srcPa
  | _ => t.srcPa

/-- A response reaches its source: its credits count, and it closes its request or is discarded late (R136,
R170, R427). -/
def Fabric.responseMsg (f : Fabric) (m : Msg) (g : Fabric → Request → Fabric) : Fabric :=
  let (f, _) := f.takeMsg m
  let f := f.takeCredits m
  match f.openFor m with
  | none => f.lateArrival m.tag m.reqId
  | some q => g (f.closeRequest m.reqId) q

/-- WACK acknowledges a remote write. -/
def Fabric.wackMsg (f : Fabric) (m : Msg) : Fabric :=
  f.responseMsg m fun f q => f.tileAnswer q.part q.run q.tile id

/-- RDATA brings remote read data, or POISON (R560). -/
def Fabric.rdataMsg (f : Fabric) (m : Msg) : Fabric :=
  f.responseMsg m fun f q =>
    if m.poison then
      let pa := match f.run q.part q.run with
        | some r => match r.tiles.find? fun t => t.id == q.tile with | some t => t.readPa | none => 0
        | none => 0
      f.tilePoison q.part q.run q.tile pa
    else f.tileAnswer q.part q.run q.tile fun t => t.put 0 m.data

/-- AOLD brings the old values of a remote atomic. -/
def Fabric.aoldMsg (f : Fabric) (m : Msg) : Fabric :=
  f.responseMsg m fun f q =>
    let w := match f.run q.part q.run with | some r => atopWidth (dAtop r.words) | none => 8
    f.tileAnswer q.part q.run q.tile fun t =>
      { t with old := t.old.setList 0 ((List.range t.size).map fun i => w64 (elemAt m.data w i)) }

/-- CREDIT brings credits and grants. -/
def Fabric.creditMsg (f : Fabric) (m : Msg) : Fabric :=
  let (f, _) := f.takeMsg m
  f.takeCredits m

/-! ### Loss -/

/-- Declare the missing SEQs below the flits that have waited GAP_TICKS lost (R286): each is credited back
(R559) and counted, and what is then in order is released. -/
def Fabric.skipGap : Nat → Fabric → Nat → Nat → Fabric
  | 0, f, _, _ => f
  | fuel + 1, f, src, cls =>
    let d := f.dstState src
    let held := if cls = 0 then d.held0 else d.held1
    let next := if cls = 0 then d.next0 else d.next1
    if !(held.any fun h => h.tick + f.rtr.gapTicks ≤ f.tick) then f
    else if held.any fun h => h.flit.seq == next then Fabric.skipGap fuel (Fabric.releaseSeq 2049 f src cls) src cls
    else
      let d := (d.gather 1 f.tick).feed cls none
      let d := if cls = 0 then { d.1 with next0 := (next + 1) % 4096 } else { d.1 with next1 := (next + 1) % 4096 }
      let f := f.setDst src d
      let f := { f with rtr := { f.rtr with gapSkips := sat32 (f.rtr.gapSkips + 1) } }
      Fabric.skipGap fuel (Fabric.releaseSeq 2049 f src cls) src cls

/-- GAP_TICKS have passed with a CLS 0 or CLS 1 SEQ missing (R286). -/
def Fabric.gapTimeout (f : Fabric) (src cls : Nat) : Fabric := if cls < 2 then Fabric.skipGap 4096 f src cls else f

/-- An incomplete CLS 2 or 3 message is discarded GAP_TICKS after its last arrival (R559). -/
def Fabric.msgGapTimeout (f : Fabric) (src msg : Nat) : Fabric :=
  let d := f.dstState src
  match d.msgs.find msg with
  | none => f
  | some hs =>
    if hs.any fun h => f.tick < h.tick + f.rtr.gapTicks then f
    else
      let was := prefixLen 32 0 hs
      let kept := hs.filter fun h => was ≤ h.flit.seq % 32
      let d := { (d.gather kept.length f.tick) with msgs := d.msgs.del msg }
      let f := kept.foldl (fun g h => g.freeReorder h.port 1) (f.setDst src d)
      { f with rtr := { f.rtr with gapSkips := sat32 (f.rtr.gapSkips + 1) } }

/-- A source settles a message by time, 2 × GAP_TICKS after its last flit left (R559): its unreturned credits
are added back. -/
def Fabric.msgSettleTimeout (f : Fabric) (msg : Nat) : Fabric :=
  match f.rtr.openMsgs.find? fun m => m.msg == msg with
  | none => f
  | some o =>
    if f.tick < o.last + 2 * f.rtr.gapTicks || f.rtr.outbox.any (fun y => y.msgNo == some msg) then f
    else
      let f := o.receivers.foldl (fun g d =>
        let s := g.srcState d
        g.setSrc d { s with owed := s.owed.filter fun y => y.1 != some msg }) f
      ({ f with rtr := { f.rtr with openMsgs := f.rtr.openMsgs.filter fun m => m.msg != msg } } : Fabric).pump

/-- A node is recorded dead or unseated: both sides' state for it is cleared (R558), the rest of a message that is partly
sent to it with it, since its next flit would meet SEQ 0. -/
def Fabric.clearPeer (f : Fabric) (n : Nat) : Fabric :=
  let d := f.dstState n
  let parts := d.msgs.vals.flatMap fun hs => hs.filter fun h => prefixLen 32 0 hs ≤ h.flit.seq % 32
  let f := (d.held0 ++ d.held1 ++ parts).foldl (fun g h => g.freeReorder h.port 1) f
  let ms := f.rtr.openMsgs.map fun m => { m with receivers := m.receivers.filter (· != n) }
  let cut (o : OutMsg) : OutMsg := if o.begun then { o with dsts := o.dsts.filter (· != n) } else o
  let f := { f with rtr := { f.rtr with dsts := f.rtr.dsts.del n, srcs := f.rtr.srcs.del n,
                                        hpHeld := f.rtr.hpHeld.filter fun a => a.msg.src != n,
                                        outbox := (f.rtr.outbox.map cut).filter fun o => !o.dsts.isEmpty,
                                        openMsgs := ms.filter fun m => !m.receivers.isEmpty } }
  f.pump

end Sys2Proof.Machine
end

