-- ==== Sys2Proof/Machine/Routes.lean ====
section
/-!
DEFINITION. Route updates, the timetable and the seating plan (chapter 08): ROUTE_UPDATE with its drains
(R298–R303, Tables 8.5 and 8.6), TIMETABLE_SET and the windows of circuits (R295–R297), SEAT_SET (R290, R291),
and the RTR_ registers (R301).
-/
namespace Sys2Proof.Machine

/-! ### State objects (R302) -/

def blkRtr : Nat := 8
def blkPortEn : Nat := 11
def blkRack : Nat := 12
def blkTt : Nat := 13
def blkSeat : Nat := 14

/-- RTR_CTL (Table 8.9). -/
def Router.ctl (r : Router) : Word :=
  pack [(63, 48, r.drainUnits), (47, 32, r.nmThresh), (31, 16, r.escWait), (15, 8, r.portEn), (1, 1, b2n r.nmEn), (0, 0, b2n r.dor)]

/-- RTR_CREDIT (Table 8.10). -/
def Router.creditWord (r : Router) : Word := pack [(63, 32, r.gapTicks), (31, 20, r.maxWin), (6, 0, r.base)]

/-- Fields of RTR_CTL and RTR_CREDIT other than PORT_EN: (word, hi, lo); their place is the field number. -/
def rtrFields : List (Nat × Nat × Nat) :=
  [(0, 63, 48), (0, 47, 32), (0, 31, 16), (0, 1, 1), (0, 0, 0), (1, 63, 32), (1, 31, 20), (1, 6, 0)]

/-- A Rack Table entry as a word (Table 8.15). -/
def Router.rackWord (r : Router) (i : Nat) : Word :=
  let (up, uplink) := r.rackEntry i
  pack [(3, 2, up), (0, 0, b2n uplink)]

/-! ### ROUTE_UPDATE -/

/-- Rack entries of a ROUTE_UPDATE: first index and count. -/
def ruFirst (pay : List Word) : Nat := fld (wd pay 3) 7 0
def ruCount (pay : List Word) : Nat := fld (wd pay 3) 16 8

/-- R303, the payload's own cases: a reserved bit, the Rack Table entries' range, the own rack as an uplink.
Without SET_RACK the payload's Rack Table part is not read. -/
def Fabric.routeForm (f : Fabric) (len : Nat) (pay : List Word) : Bool :=
  let w0 := wd pay 0
  let n := ruCount pay
  let es := (List.range n).map fun i => (ruFirst pay + i, wd pay (4 + i))
  !onlyBits w0 [(2, 0)] || !onlyBits (wd pay 3) [(16, 0)] || (bit w0 2 && n == 0) || n > 256 || ruFirst pay + n > 256 ||
    len < 32 || (bit w0 2 && len != 32 + 8 * n) || (bit w0 0 && !onlyBits (wd pay 1) [(63, 8), (1, 0)]) ||
    (bit w0 1 && !onlyBits (wd pay 2) [(63, 20), (6, 0)]) ||
    (bit w0 2 && es.any fun e => !onlyBits e.2 [(3, 2), (0, 0)] || (e.1 == rackOf f.rtr.node && bit e.2 0))

/-- The objects whose value a ROUTE_UPDATE changes (R302). -/
def Fabric.routeSets (f : Fabric) (pay : List Word) : List (Obj × Nat) :=
  let w0 := wd pay 0
  let now (w : Nat) : Word := if w = 0 then f.rtr.ctl else f.rtr.creditWord
  let fields := rtrFields.zipIdx.filterMap fun ((w, hi, lo), i) =>
    let v := fld (wd pay (1 + w)) hi lo
    if bit w0 w && v != fld (now w) hi lo then some ({ block := blkRtr, index := 0, field := i : Obj }, v) else none
  let en := if bit w0 0 then (List.range 8).filterMap fun k =>
      let v := fld (wd pay 1) (8 + k) (8 + k)
      if v != f.rtr.portEn / 2 ^ k % 2 then some ({ block := blkPortEn, index := k, field := 0 : Obj }, v) else none
    else []
  let rack := if bit w0 2 then (List.range (ruCount pay)).filterMap fun j =>
      let i := ruFirst pay + j
      let v := wn pay (4 + j)
      if v != (f.rtr.rackWord i).toNat then some ({ block := blkRack, index := i, field := 0 : Obj }, v) else none
    else []
  fields ++ en ++ rack

/-- Ports that Table 8.5 names for one object. -/
def drainPorts (o : Obj) : List Nat :=
  if o.block = blkRtr then (if o.field = 3 || o.field = 4 then List.range 6 else if o.field ≥ 5 then List.range 8 else [])
  else if o.block = blkPortEn then [o.index]
  else if o.block = blkRack then [6, 7]
  else []

/-- Set one object. -/
def Router.setObj (r : Router) (o : Obj) (v : Nat) : Router :=
  if o.block = blkRtr then
    match o.field with
    | 0 => { r with drainUnits := v }
    | 1 => { r with nmThresh := v }
    | 2 => { r with escWait := v }
    | 3 => { r with nmEn := v == 1 }
    | 4 => { r with dor := v == 1 }
    | 5 => { r with gapTicks := v }
    | 6 => { r with maxWin := v }
    | _ => { r with base := v }
  else if o.block = blkPortEn then
    let now := r.portEn / 2 ^ o.index % 2
    { r with portEn := r.portEn - now * 2 ^ o.index + v % 2 * 2 ^ o.index }
  else if o.block = blkRack then { r with rack := r.rack.set o.index (fld (w64 v) 3 2, v % 2 == 1) }
  else r

/-- Set the objects of an order. -/
def Router.setObjs (r : Router) (sets : List (Obj × Nat)) : Router := sets.foldl (fun r s => r.setObj s.1 s.2) r

/-- The router's values once the route updates that still drain are applied. -/
def Router.afterDrains (r : Router) : Router := r.drains.foldl (fun q d => q.setObjs d.order.sets) r

/-- R303, the limits, of the values that a router `r` would hold with the changes: checked when a ROUTE_UPDATE is accepted,
against the state that the orders before it left (R90), and when its drain ends. -/
def Fabric.routeLimits (f : Fabric) (r : Router) (sets : List (Obj × Nat)) : Bool :=
  let r := r.setObjs sets
  r.escWait == 0 || r.base == 0 || r.base > 64 || r.base * (r.size - 1) > 131072 || r.maxWin < r.base || r.maxWin > 2048 ||
    r.portEn % 64 == 0 || r.drainUnits == 0 || r.gapTicks < f.win.port + 31250

def routeUpdateBody : Body := fun c f =>
  let sets := f.routeSets c.pay
  let ports := sets.flatMap fun s => drainPorts s.1
  if !fromOf c [32, 33, 36] then denied 0 f
  else if f.routeForm c.len c.pay || f.routeLimits f.rtr sets then faulted f
  else if f.rtr.drains.any fun d => d.ports.any ports.contains then (f, .done stDraining)
  else holdOrder c 0x0500 sets f

/-- Apply the objects of a route update. -/
def Fabric.applyRoutes (f : Fabric) (o : Order) : Fabric :=
  ({ f with rtr := f.rtr.setObjs o.sets } : Fabric).rechoose.pump

/-- ROUTE_UPDATE takes effect: it drains the ports of Table 8.5 first (R298). An order accepted before another began to
drain the same ports drains beside it (R299 names only one accepted while another drains). -/
def Fabric.routeUpdate (f : Fabric) (o : Order) : Fabric :=
  let ports := (List.range 8).filter fun k => o.sets.any fun s => (drainPorts s.1).contains k
  let pool := o.sets.any fun s => s.1.block == blkRtr && s.1.field ≥ 5
  if ports.isEmpty then (f.applyRoutes o).finish o.mbx stOk
  else { f with rtr := { f.rtr with drains := f.rtr.drains ++ [{ order := o, ports := ports, start := f.tick, pool := pool }] } }

/-- Flits that the reorder pool holds. -/
def Router.poolHeld (r : Router) : Nat :=
  r.dsts.vals.foldl (fun a d => a + d.held0.length + d.held1.length +
    d.msgs.vals.foldl (fun b hs => b + (hs.length - prefixLen 32 0 hs)) 0) 0

/-- Step 3 of Table 8.6 is over: the queues and retransmit buffers of the ports are empty, and so is the pool where
the change needs it. -/
def Fabric.drainOver (f : Fabric) (d : PortDrain) : Bool :=
  (d.ports.all fun k => !f.carries k && (f.port k).retx.isEmpty) && (!d.pool || f.rtr.poolHeld == 0)

/-- Take a drain off. -/
def Fabric.dropDrain (f : Fabric) (id : Nat) : Fabric :=
  { f with rtr := { f.rtr with drains := f.rtr.drains.filter fun d => d.order.id != id } }

/-- DRAIN_TICKS have passed: the ports reopen and nothing is applied (R299); an order of roll call is repeated
(R436). -/
def Fabric.routeDrainTimeout (f : Fabric) (id : Nat) : Fabric :=
  match f.rtr.drains.find? fun d => d.order.id == id with
  | none => f
  | some d =>
    if d.start + 15625 * f.rtr.drainUnits ≤ f.tick then
      let f := (f.dropDrain id).rechoose
      if d.order.mbx = 99 then
        { f with orders := f.orders ++ [{ d.order with id := f.nextOrder, tick := f.tick }], nextOrder := f.nextOrder + 1 }
      else f.finish d.order.mbx stTimeout
    else f

/-- The drain of a ROUTE_UPDATE is done within DRAIN_TICKS: the change is applied and the ports reopen (Table 8.6, steps 4
and 5), unless its limits fail against what has been applied meanwhile (log entry 44). A later end is a timeout (R299). -/
def Fabric.routeDrainDone (f : Fabric) (id : Nat) : Fabric :=
  match f.rtr.drains.find? fun d => d.order.id == id with
  | none => f
  | some d =>
    if !f.drainOver d then f
    else if d.start + 15625 * f.rtr.drainUnits < f.tick then f.routeDrainTimeout id
    else
      let f := f.dropDrain id
      if f.routeLimits f.rtr d.order.sets then f.rechoose.finish d.order.mbx stFaulted
      else (f.applyRoutes d.order).finish d.order.mbx stOk (f.tick - d.start)

/-! ### The timetable -/

def ttPort (e : List Word) : Nat := fld (wd e 2) 2 0
def ttQuads (e : List Word) : Nat := fld (wd e 2) 31 20
def ttValid (e : List Word) : Bool := bit (wd e 2) 3
def ttTag (e : List Word) : Nat := fld (wd e 2) 63 48
def ttDst (e : List Word) : Nat := fld (wd e 2) 46 32

/-- Two windows overlap. -/
def ttMeet (a b : List Word) : Bool := wn a 0 < wn b 1 && wn b 0 < wn a 1

/-- R296: the entry is refused. Only the overlap of reservations asks whether it is valid. -/
def Fabric.ttBad (f : Fabric) (i : Nat) (e : List Word) : Bool :=
  let k := ttPort e
  let n := (f.port k).count
  let others := f.rtr.timetable.filter fun x => x.1 != i && ttValid x.2 && ttPort x.2 == k && ttMeet x.2 e
  let qs := bitsOf (ttQuads e) 12
  let taken := others.flatMap fun x => bitsOf (ttQuads x.2) 12
  k ≥ 6 || !(f.rtr.productivePorts (ttDst e)).contains k || qs.any (· ≥ n) ||
    (List.range n).all (fun q => qs.contains q || (ttValid e && taken.contains q)) || (ttValid e && qs.any taken.contains) || wn e 1 ≤ wn e 0

def timetableSetBody : Body := fun c f =>
  let e := [wd c.pay 1, wd c.pay 2, wd c.pay 3, wd c.pay 4]
  let i := fld (wd c.pay 0) 5 0
  if !(fromOf c [32, 33, 36] || (c.mbx < 32 && tagPart (ttTag e) == c.mbx)) then denied 0 f
  else if c.len != 40 || !onlyBits (wd c.pay 0) [(5, 0)] || !onlyBits (wd e 2) [(63, 48), (46, 20), (4, 0)] || wd e 3 != 0 || f.ttBad i e then
    faulted f
  else
    holdOrder c 0x0501 (e.zipIdx.map fun (w, j) => ({ block := blkTt, index := i, field := j }, w.toNat)) f

/-- TIMETABLE_SET takes effect. -/
def Fabric.timetableSet (f : Fabric) (o : Order) : Fabric :=
  let e := [wd o.pay 1, wd o.pay 2, wd o.pay 3, wd o.pay 4]
  let i := fld (wd o.pay 0) 5 0
  ({ f with rtr := { f.rtr with timetable := f.rtr.timetable.set i e } } : Fabric).rechoose.finish o.mbx stOk

/-- The Bell count reaches START_BELL (R295): flits that wait at their inputs choose again. -/
def Fabric.windowOpen (f : Fabric) (i : Nat) : Fabric :=
  match f.rtr.timetable.find i with
  | some e => if ttValid e && wn e 0 ≤ f.bell && f.bell < wn e 1 then f.rechoose else f
  | none => f

/-- The Bell count reaches END_BELL (R297): circuit flits that still wait are routed by spraying. -/
def Fabric.windowClose (f : Fabric) (i : Nat) : Fabric :=
  match f.rtr.timetable.find i with
  | none => f
  | some e =>
    if f.bell < wn e 1 then f
    else
      let mine := f.rtr.queue.filter fun q => q.circuit == some i
      let g := { f with rtr := { f.rtr with queue := f.rtr.queue.filter fun q => q.circuit != some i } }
      (mine.foldl (fun g q => g.place { q with out := none, circuit := none }) g).bumpHeads f.rtr

/-! ### The seating plan -/

/-- R291: the entry is refused. -/
def Fabric.seatBad (f : Fabric) (i : Nat) (w : Word) : Bool :=
  let others := Map.vals (f.rtr.seats.filter fun e => e.1 != i)
  !onlyBits w [(63, 62), (29, 0)] || (seatSelf w && seatReal w != 0) || !f.rtr.inside (seatOf w) ||
    (seatValid w && seatSelf w && others.any fun v => seatValid v && seatSelf v) ||
    (seatValid w && others.any fun v => seatValid v && seatOf v == seatOf w)

def seatSetBody : Body := fun c f =>
  let i := fld (wd c.pay 0) 5 0
  let w := wd c.pay 1
  if !fromOf c [32, 33, 36] then denied 0 f
  else if c.len != 16 || !onlyBits (wd c.pay 0) [(5, 0)] || f.seatBad i w then faulted f
  else holdOrder c 0x0502 [({ block := blkSeat, index := i, field := 0 }, w.toNat)] f

/-- Write a seating entry. -/
def Fabric.setSeat (f : Fabric) (i : Nat) (w : Word) : Fabric :=
  { f with rtr := { f.rtr with seats := f.rtr.seats.set i w } }

/-- SEAT_SET takes effect. -/
def Fabric.seatSet (f : Fabric) (o : Order) : Fabric :=
  let i := fld (wd o.pay 0) 5 0
  (f.setSeat i (wd o.pay 1)).finish o.mbx stOk

/-! ### Registers -/

/-- RTR_TOPO (Table 8.8). -/
def Router.topo (r : Router) : Word :=
  pack [(53, 49, r.lx - 1), (48, 44, r.ly - 1), (43, 39, r.lz - 1), (38, 31, rackOf r.node), (30, 30, b2n r.selfSeat.isSome),
        (29, 15, r.seated), (14, 0, r.node)]

/-- RTR_POOL (Table 8.11). -/
def Router.pool (r : Router) : Word := pack [(49, 32, r.granted), (17, 0, 163840 - r.poolHeld)]

/-- RTR_EV0, RTR_EV1, RTR_EV2 (Tables 8.12 to 8.14). -/
def Router.events (r : Router) : List Word :=
  [ pack [(63, 32, r.unreach), (31, 0, r.gapSkips)], pack [(63, 32, r.lateDrops), (31, 0, r.escapes)],
    pack [(63, 32, r.nmHops), (31, 0, r.mcSplits)] ]

end Sys2Proof.Machine
end

