-- ==== Sys2Proof/Machine/Power.lean ====
section
/-!
DEFINITION. The power manager and the safety monitors (R390–R408, R411): effective cap, bubbles, operating points,
limits, throttle reasons and slack; the flash with its boot configuration record (R385–R387); FW_STAGE, FW_ACTIVATE's
checks and BOOT_RECORD_SET (R409, R410).
-/
namespace Sys2Proof.Machine

/-! ### Cap, target and reasons -/

/-- Effective cap (R395). -/
def Pwr.capEff (w : Pwr) : Nat := min w.cap (min w.thermal w.current)

/-- Cap reason (R395): 0 CAP, 1 THERMAL, 2 CURRENT; CAP wins a tie. -/
def Pwr.capReason (w : Pwr) : Nat :=
  if w.cap ≤ w.thermal && w.cap ≤ w.current then 0
  else if w.thermal < w.current then 1
  else if w.current < w.thermal then 2
  else if Config.currentTie then 2 else 1

def Pwr.pointAt (w : Pwr) (i : Nat) : OpPoint := w.points.get i {}

/-- TARGET as R392 plans it. -/
def Pwr.plannedTarget (w : Pwr) : Nat := min 800 (max w.floor (w.pointAt w.point).mv)

/-- TARGET as R398 has it now. -/
def Pwr.target (w : Pwr) : Nat := max w.floor (w.plannedTarget - w.lowered)

/-- Some gate withholds tokens under R396. -/
def Pwr.bubbles (w : Pwr) : Bool := w.bubA != 0 || w.bubM != 0 || w.bubL != 0

/-- Reasons that hold (Table 11.7), bit r for reason r. -/
def Pwr.reasons (w : Pwr) (fixed : Bool) : Nat :=
  let margin := w.bubbles && w.target == w.floor && w.freshFloor < w.floor
  let cap (r : Nat) : Bool := w.bubbles && !margin && w.capReason == r
  maskOf ((List.range 6).filter fun r =>
    match r with
    | 0 => cap 0
    | 1 => cap 1
    | 2 => cap 2
    | 3 => w.droop
    | 4 => margin
    | _ => fixed)

def Fabric.reasons (f : Fabric) : Nat := f.pwr.reasons f.fixedRate

/-- Fraction of a gate: a droop hold raises it to at least 32 (R401). -/
def Pwr.gate (w : Pwr) (b : Nat) : Nat := if w.droop then max b 32 else b

/-- The set of reasons may have changed (R404). -/
def Fabric.noteReasons (f : Fabric) : Fabric :=
  let r := f.reasons
  if r = f.pwr.noted then f
  else { f with pwr := { f.pwr with noted := r, changed := true, seen := f.pwr.seen ||| r } }

/-- Change the power state and note the reasons. -/
def Fabric.updPwr (f : Fabric) (g : Pwr → Pwr) : Fabric := ({ f with pwr := g f.pwr } : Fabric).noteReasons

/-! ### Bubbles -/

/-- One domain of R396: the new fraction and the excess left, in 1/64 mW; `z` stands where p_dyn is 0. -/
def shed (e : Int) (pdyn old z : Nat) : Nat × Int :=
  let need := if e ≤ 0 then 0 else if pdyn = 0 then z else ((e + (pdyn : Int) - 1) / (pdyn : Int)).toNat
  let b := max (min need 56) (old - 8)
  (b, e - ((b * pdyn : Nat) : Int))

/-- Move every direction that holds no data flit into NAP (R397). -/
def Fabric.forceNap (f : Fabric) : Fabric :=
  (List.range 8).foldl (fun g k =>
    let p := g.port k
    if p.state == .active && p.retx.isEmpty && !g.waitsFor k then
      (((g.abortScans (p.allLanes.drop 1)).updPort k fun p => { p.owe g.tick with owedReq := 1 }).putLcf k none).toState k .nap
    else g) f

/-- Lanes in high-bias mode cost 0.12 W each, in the fixed part of domain L (R393), in mW. -/
def Fabric.biasPower (f : Fabric) : Nat := 120 * (f.lanes.filter fun l => l.2.highBias).length

/-- BUBBLE_UPDATE (R396, R397): estimate over 160 ref ticks without the high-bias lanes, and dynamic power of A, M and L, all
in mW. -/
def Fabric.bubbleUpdate (f : Fabric) (est pA pM pL : Nat) : Fabric :=
  let w := f.pwr
  let est := est + f.biasPower
  let e : Int := 64 * ((est : Int) - 1000 * (w.capEff : Int))
  let (f, z) := f.draw
  let z := z.toNat % 57
  let (bA, e) := shed e pA w.bubA z
  let (bM, e) := shed e pM w.bubM z
  let (bL, _) := shed e pL w.bubL z
  let unmet := bA == 56 && bM == 56 && bL == 56 && 1000 * w.capEff < est
  let on := bA != 0 || bM != 0 || bL != 0
  let f := f.updPwr fun w =>
    { w with est := est, bubA := bA, bubM := bM, bubL := bL, capUnmet := unmet, napForced := unmet,
             bubSince := if on then some (w.bubSince.getD f.tick) else none,
             freeSince := if !on && w.bubbles then f.tick else w.freeSince }
  if unmet then f.forceNap else f

/-- TARGET_STEP (R398): 5 mV down after 10 ms of cap bubbles, 5 mV back up after 10 ms without. -/
def Fabric.targetStep (f : Fabric) : Fabric :=
  let w := f.pwr
  if f.tick < w.lastTarget + 156250 then f
  else
    match w.bubSince with
    | some t =>
      if t + 1562500 ≤ f.tick && w.floor < w.target then
        f.updPwr fun w => { w with lowered := w.plannedTarget - max w.floor (w.target - 5), lastTarget := f.tick }
      else f
    | none =>
      if w.freeSince + 1562500 ≤ f.tick && w.target < w.plannedTarget then
        f.updPwr fun w => { w with lowered := w.plannedTarget - min w.plannedTarget (w.target + 5), lastTarget := f.tick }
      else f

/-! ### Estimate, canaries, floor -/

/-- POWER_RECALIBRATE (R394): the 1 ms average in W, READ_VOUT in mV and the VCORE current in A; `ok` is false where
the regulator failed PEC or NACKed. -/
def Fabric.recalibrate (f : Fabric) (ok : Bool) (w mv amps : Nat) : Fabric :=
  f.updPwr fun x =>
    let x := { x with fabricW := w, icore := amps }
    if ok && !x.pmbusFault then { x with pmbusFails := 0, vcoreMv := mv }
    else if ok then x
    else { x with pmbusFails := x.pmbusFails + 1, pmbusFault := x.pmbusFault || 3 ≤ x.pmbusFails + 1 }

/-- Ageing of a chain in ppm of its fresh period, rounding open (R391). -/
def ageFrac (c : Nat × Nat) : Int × Int := (((c.1 : Int) - (c.2 : Int)) * 1000000, (c.2 : Int))

/-- The PMBus master runs: the interface clock block stops while REFCLK is in fault (R31). -/
def Fabric.pmbusUp (f : Fabric) : Bool := f.clk.state != 2

/-- CANARY_SAMPLE (R391): (chain, period, fresh period in ps) of the chains that ran. -/
def Fabric.canarySample (f : Fabric) (samples : List (Nat × Nat × Nat)) : Fabric :=
  let runs (c : Nat) : Bool := c < 40 && (c ≥ 32 || f.prc.fusedOff / 2 ^ c % 2 == 0)
  let good := samples.filter fun s => runs s.1 && s.2.2 != 0
  let can := good.foldl (fun m s => m.set s.1 s.2) f.pwr.canary
  let ages := can.map fun e => (e.1, ageFrac e.2)
  let top (e : Nat × Int × Int) : Bool := ages.all fun o => o.2.1 * e.2.2 ≤ e.2.1 * o.2.2
  let best := ages.filter top
  let (f, v) := f.draw
  match best[v.toNat % (max 1 best.length)]? with
  | none => f.updPwr fun w => { w with canary := can }
  | some (c, num, den) =>
    let (f, age) := f.nearby num den
    f.updPwr fun w => { w with canary := can, worst := c, agePpm := min 65535 age.toNat }

/-- A chain's period stands more than 2,000 ppm above that of the last plan (R392). -/
def Pwr.aged (w : Pwr) : Bool :=
  w.canary.any fun e => match w.planned.find e.1 with
    | some p => p * 1002000 < e.2.1 * 1000000
    | none => false

/-- FLOOR_REPLAN (R392): the FLOOR that the chains ask for, in mV. -/
def Fabric.floorReplan (f : Fabric) (mv : Nat) : Fabric :=
  if f.tick < f.pwr.lastPlan + 9375000000 && !f.pwr.aged then f
  else
    let mv := max 650 (5 * ceilDiv mv 5)
    f.updPwr fun w =>
      { w with floor := min 800 mv, marginOut := 800 < mv, planned := w.canary.map (fun e => (e.1, e.2.1)), lastPlan := f.tick }

/-! ### Safety monitors -/

/-- Safe states of Table 11.1: every port leaves UP with its queues kept, and the HDP sends nothing. -/
def Fabric.safeStates (f : Fabric) : Fabric :=
  let before := (List.range 8).map fun k => (k, (f.port k).state)
  let f := (List.range 8).foldl (fun g k => (g.abortScans (g.port k).allLanes).toState k .off) f
  { f with clk := { f.clk with before := before }, hdp := { f.hdp with stopped := true } }

/-- THERMAL_SAMPLE (R399): the highest reading in 1/4 °C. At TJ_TRIP the device goes to its safe states and asks for
a power cycle. -/
def Fabric.thermalSample (f : Fabric) (tj : Nat) : Fabric :=
  let f := f.updPwr fun w =>
    { w with tjMax := tj, hot := 4 * w.tjThrottle < tj,
             coolSince := if tj + 12 ≤ 4 * w.tjThrottle then some (w.coolSince.getD f.tick) else none }
  if 4 * f.pwr.tjTrip ≤ tj then
    let f := f.safeStates.faultOn 7
    { f with pins := { f.pins with trayReq := true } }
  else f

/-- State objects of chapter 11 (R409). -/
def blkCap : Nat := 15
def blkLimit : Nat := 16
def blkPoint : Nat := 17
def blkSelect : Nat := 18

/-- Opcodes that the model gives the internal orders of the safety monitors; no mailbox can name them. -/
def opLimit : Nat := 0x10000

/-- An internal order of source `src`: it belongs to no mailbox (log entry 40). -/
def Fabric.inward (f : Fabric) (src op : Nat) (pay : List Word) (sets : List (Obj × Nat)) : Fabric :=
  let o : Order := { id := f.nextOrder, mbx := 99, rank := rankOf src, tick := f.tick, src := src, opcode := op, tag := 0,
                     pay := pay, len := 8 * pay.length, sets := sets }
  { f with orders := f.orders ++ [o], nextOrder := f.nextOrder + 1 }

/-- One step of a standing limit: 5 % of the present estimate, down to 100 W or up to 640 W; its rounding to whole
watts is open. -/
def Fabric.limitStep (f : Fabric) (limit : Nat) (lower : Bool) : Fabric × Nat :=
  let (f, d) := f.nearby (5 * (f.pwr.est : Int)) 100000
  (f, if lower then max 100 (limit - d.toNat) else min 640 (limit + d.toNat))

/-- THERMAL_LIMIT_STEP (R399). -/
def Fabric.thermalStep (f : Fabric) : Fabric :=
  let w := f.pwr
  let due := match w.lastThermal with | some t => t + 156250 ≤ f.tick | none => true
  let cool := match w.coolSince with | some t => t + 1562500 ≤ f.tick | none => false
  if !due || !(w.hot || (cool && w.thermal < 640)) then f
  else
    let (f, v) := f.limitStep w.thermal w.hot
    let f := { f with pwr := { f.pwr with lastThermal := some f.tick } }
    f.inward 34 opLimit [0, w64 v] [({ block := blkLimit, index := 0, field := 0 }, v)]

/-- CURRENT_LIMIT_STEP (R400): VCORE current in A. -/
def Fabric.currentStep (f : Fabric) (amps : Nat) : Fabric :=
  let w := f.pwr
  let high := w.iccLimit < amps
  let ease := if high then none else some (w.easeSince.getD f.tick)
  let f := { f with pwr := { w with easeSince := ease } }
  let due := match w.lastCurrent with | some t => t + 15625 ≤ f.tick | none => true
  let calm := match ease with | some t => t + 1562500 ≤ f.tick | none => false
  if !due || !(high || (calm && w.current < 640)) then f
  else
    let (f, v) := f.limitStep w.current high
    let f := { f with pwr := { f.pwr with lastCurrent := some f.tick } }
    f.inward 35 opLimit [1, w64 v] [({ block := blkLimit, index := 1, field := 0 }, v)]

/-- A standing limit takes effect at the end of its message time. -/
def Fabric.setLimit (f : Fabric) (o : Order) : Fabric :=
  f.updPwr fun w => if wn o.pay 0 = 0 then { w with thermal := wn o.pay 1 } else { w with current := wn o.pay 1 }

/-- DROOP_DETECT and DROOP_RELEASE (R401). -/
def Fabric.droopDetect (f : Fabric) : Fabric := f.updPwr fun w => { w with droop := true, droopSince := f.tick }
def Fabric.droopRelease (f : Fabric) : Fabric :=
  if f.pwr.droopSince + 16 ≤ f.tick then f.updPwr fun w => { w with droop := false } else f

/-! ### THROTTLE notice and slack -/

/-- Coarsening of R411: down to a multiple of m in confidential mode. -/
def Fabric.dim (f : Fabric) (m n : Nat) : Nat := if f.conf then down n m else n

/-- POWER_W and FABRIC_W as a reader receives them (R411). -/
def Fabric.shownPower (f : Fabric) : Nat := if f.conf then down f.pwr.avgW 10 else f.pwr.fabricW

/-- THROTTLE_NOTICE (R404, Table 11.8), to ring 32 and every enabled partition ring (Table 2.20). -/
def Fabric.throttleNotice (f : Fabric) : Fabric :=
  let w := f.pwr
  let due := match w.lastNotice with | some t => t + 156250 ≤ f.tick | none => true
  if !w.changed || !due then f
  else
    let (f, v) := f.draw
    let interval := match w.lastNotice with | some t => f.tick - t | none => v.toNat
    let n : Notice :=
      { unit := 0, code := 6,
        pay := [ pack [(7, 0, f.reasons), (15, 8, w.seen), (23, 16, f.dim 8 (w.gate w.bubA)), (31, 24, f.dim 8 (w.gate w.bubM)),
                       (39, 32, f.dim 8 (w.gate w.bubL))],
                 pack [(63, 48, f.dim 10 w.capEff), (47, 32, f.shownPower)],
                 w64 (f.dim 15625 w.thrTicks), w64 (f.dim 15625 interval), 0 ] }
    let rings := (List.range f.partCount).filter fun r => (f.ring r).enable
    let f := { f with pwr := { w with changed := false, seen := f.reasons, lastNotice := some f.tick, thrTicks := 0 } }
    rings.foldl (fun g r => g.notify r n) (f.notify 32 n)

/-- A collective sequencer waits for a contribution (R227): something is launched, read and not at its end. -/
def Coll.waits (c : Coll) : Bool :=
  c.launched && c.fin.isNone && c.inPend == 0 && c.outPend == 0 && c.jPend == 0

def Fabric.collWaits (f : Fabric) : Bool := f.parts.any fun e => e.2.colls.any Coll.waits

/-- What one ref tick charges (R403, R407). -/
def Fabric.tickPower (f : Fabric) : Fabric :=
  let r := f.reasons
  let w := f.pwr
  let thr := (bitsOf r 6).foldl (fun m i => m.set i (m.get i 0 + 1)) w.thr
  let slow := (bitsOf r 5).any fun i => i != 3
  { f with pwr :=
      { w with thr := thr, thrTicks := if r = 0 then w.thrTicks else w.thrTicks + 1, estSum := w.estSum + w.est,
               icSum := w.icSum + w.icore, thrSum := if slow then w.thrSum + 1 else w.thrSum,
               waitSum := if f.collWaits && !slow then w.waitSum + 1 else w.waitSum } }

/-- SLACK_WINDOW_END (R407): the readings of the window that ends; their rounding is open. -/
def Fabric.slackEnd (f : Fabric) : Fabric :=
  let w := f.pwr
  let n := f.tick - w.winStart
  if n < 15625000 then f
  else
    let (f, slack) := f.nearby (1000 * (w.capEff : Int) * (n : Int) - (w.estSum : Int)) (1000 * (n : Int))
    let (f, thr) := f.nearby (1000 * (w.thrSum : Int)) (n : Int)
    let (f, wait) := f.nearby (1000 * (w.waitSum : Int)) (n : Int)
    f.updPwr fun w =>
      { w with slackW := slack, thrPm := thr.toNat, waitPm := wait.toNat, avgW := w.estSum / (1000 * n), avgA := w.icSum / n,
               winStart := f.tick, estSum := 0, icSum := 0, thrSum := 0, waitSum := 0 }

/-! ### POWER_CAP and OP_POINT -/

def powerCapBody : Body := fun c f =>
  let v := fld (wd c.pay 0) 15 0
  if !fromOf c [32, 33, 36] then denied 0 f
  else if c.len != 8 || !onlyBits (wd c.pay 0) [(15, 0)] || v < 250 || 640 < v then faulted f
  else holdOrder c 0x0700 [({ block := blkCap, index := 0, field := 0 }, v)] f

/-- POWER_CAP takes effect (R409): RESULT0 is EFFECTIVE. -/
def Fabric.powerCap (f : Fabric) (o : Order) : Fabric :=
  let f := f.updPwr fun w => { w with cap := fld (wd o.pay 0) 15 0 }
  f.finish o.mbx stOk f.pwr.capEff

/-- Fields of OP_POINT out of range or not zero (Table 11.15). -/
def opPointBad (len : Nat) (pay : List Word) : Bool :=
  let w1 := wd pay 1
  len != 24 || !onlyBits (wd pay 0) [(0, 0), (10, 8)] ||
    (if bit (wd pay 0) 0 then w1 != 0
     else !onlyBits w1 [(16, 0)] || fld w1 15 0 < 650 || 800 < fld w1 15 0 || wd pay 2 != 0)

def opPointBody : Body := fun c f =>
  let i := fld (wd c.pay 0) 10 8
  if !fromOf c [32, 33, 36] then denied 0 f
  else if opPointBad c.len c.pay then faulted f
  else if bit (wd c.pay 0) 0 then
    holdOrder c 0x0701 [({ block := blkSelect, index := 0, field := 0 }, i), ({ block := blkSelect, index := 0, field := 1 }, wn c.pay 2)] f
  else holdOrder c 0x0701 [({ block := blkPoint, index := i, field := 0 }, fld (wd c.pay 1) 16 0)] f

/-- Select an operating point now: TARGET and fixed-rate mode follow it (R402, R406). -/
def Fabric.selectPoint (f : Fabric) (i : Nat) : Fabric :=
  ({ f with pwr := { f.pwr with point := i }, fixedRate := (f.pwr.pointAt i).fixed } : Fabric).noteReasons

/-- OP_POINT takes effect (R405, R406). -/
def Fabric.opPoint (f : Fabric) (o : Order) : Fabric :=
  let i := fld (wd o.pay 0) 10 8
  let f := if bit (wd o.pay 0) 0 then
      if wn o.pay 2 ≤ f.bell then f.selectPoint i
      else { f with pwr := { f.pwr with selects := f.pwr.selects ++ [(wn o.pay 2, i)] } }
    else
      let p : OpPoint := { mv := fld (wd o.pay 1) 15 0, fixed := bit (wd o.pay 1) 16 }
      let f := { f with pwr := { f.pwr with points := f.pwr.points.set i p } }
      if f.pwr.point = i then f.selectPoint i else f
  f.finish o.mbx stOk i

/-- OP_POINT_APPLY (R406): the selections whose AT_BELL the Bell count has reached, in order of their AT_BELL. -/
def Fabric.opPointApply (f : Fabric) : Fabric :=
  match minBy (fun s => s.1) (f.pwr.selects.filter fun s => s.1 ≤ f.bell) with
  | none => f
  | some s =>
    ({ f with pwr := { f.pwr with selects := f.pwr.selects.erase s } } : Fabric).selectPoint s.2

/-! ### Boot configuration record (R387, Table 11.4) -/

/-- Little-endian number of n bytes at an offset of a byte string. -/
def leAt (b : List Nat) (off n : Nat) : Nat :=
  (List.range n).foldl (fun a i => a + b.getD (off + i) 0 * 2 ^ (8 * i)) 0

/-- The first n bytes of words. -/
def bytesOf (ws : List Word) (n : Nat) : List Nat := (ws.flatMap wordBytes).take n

/-- Header and CRC of a record hold (R387). -/
def recordOk (b : List Nat) : Bool :=
  let len := leAt b 4 2
  leAt b 0 4 == 0x43464243 && 16 ≤ len && len ≤ 4032 && len ≤ b.length && leAt b 6 1 == 1 && leAt b 7 1 == 0 &&
    leAt b 8 4 == crc32c ((b.take len).drop 16) && leAt b 12 4 == 0

/-- The blocks of a record: (TYPE, body). -/
def recordBlocks : Nat → List Nat → List (Nat × List Nat)
  | 0, _ => []
  | fuel + 1, b =>
    if b.length < 4 then []
    else
      let n := leAt b 2 2
      (leAt b 0 1, (b.drop 4).take n) :: recordBlocks fuel (b.drop (4 + n))

/-- The body of the first block of a type whose length fits; none where the record is ignored. -/
def recordBlock (b : List Nat) (type : Nat) (fits : Nat → Bool) : Option (List Nat) :=
  if recordOk b then
    ((recordBlocks 1024 ((b.take (leAt b 4 2)).drop 16)).find? fun e => e.1 == type && fits e.2.length).map Prod.snd
  else none

/-- The PMBUS block, or its default (Table 11.4). -/
def recordPmbus (b : List Nat) : List (Nat × Nat) :=
  match recordBlock b 2 fun n => n % 4 == 0 && 4 ≤ n && n ≤ 32 with
  | some body => (List.range (body.length / 4)).map fun i => (leAt body (4 * i) 1 % 128, leAt body (4 * i + 1) 1)
  | none => [(0x40, 0)]

/-- The POWER block, or its default: CAP_W, TJ_THROTTLE, TJ_TRIP, ICC_LIMIT. -/
def recordPower (b : List Nat) : Nat × Nat × Nat × Nat :=
  let dflt := (640, 105, 120, 450)
  match recordBlock b 3 (· == 8) with
  | some body =>
    let c := leAt body 0 2
    let t := leAt body 2 1
    let tr := leAt body 3 1
    let i := leAt body 4 2
    if 250 ≤ c && c ≤ 640 && 85 ≤ t && t ≤ 110 && 110 ≤ tr && tr ≤ 125 && 100 ≤ i && i ≤ 600 then (c, t, tr, i) else dflt
  | none => dflt

/-! ### Quad map (R350–R353) -/

/-- Home group of a port (R349). -/
def homeGroup (k : Nat) : Nat := [0, 2, 1, 3, 1, 3, 0, 2].getD k 0

/-- COUNT of each port under a preset (Table 10.4). -/
def presetCounts (n : Nat) : List Nat :=
  let (x, y, z, u) := ([(6, 6, 6, 6), (10, 5, 6, 3), (8, 6, 6, 4), (12, 4, 5, 3), (6, 4, 8, 4), (6, 4, 6, 8), (12, 2, 2, 2)] : List (Nat × Nat × Nat × Nat)).getD n (6, 6, 6, 6)
  [x, x, y, y, z, z, u, u]

/-- Placement of a preset (R352): (port, FIRST, COUNT). -/
def presetMap (n : Nat) : List (Nat × Nat × Nat) :=
  let counts := presetCounts n
  (([0, 6, 2, 4, 1, 7, 3, 5] : List Nat).foldl (fun (st : Nat × List (Nat × Nat × Nat)) p =>
    let first := max st.1 (12 * homeGroup p)
    (first + counts.getD p 0, st.2 ++ [(p, first, counts.getD p 0)])) (0, [])).2

/-- The record's map: (port, FIRST, COUNT) of FP0 to FP7. -/
def recordMap (body : List Nat) : List (Nat × Nat × Nat) :=
  (List.range 8).map fun k => (k, leAt body (2 * k) 2 % 64, leAt body (2 * k) 2 / 4096)

/-- Quads of a run. -/
def runQuads (first count : Nat) : List Nat := (List.range count).map fun i => (first + i) % 48

/-- A record block's map is valid under R350, with the zero fields of R353 zero. -/
def mapOk (body : List Nat) : Bool :=
  let m := recordMap body
  let quads := m.flatMap fun e => runQuads e.2.1 e.2.2
  let home (k q : Nat) : Bool := q / 12 == homeGroup k || q / 12 == (homeGroup k + 1) % 4
  (m.all fun e => 2 ≤ e.2.2 && e.2.2 ≤ 12 && e.2.1 < 48 && (runQuads e.2.1 e.2.2).all (home e.1) &&
      (home e.1 e.2.1) && ((e.2.1 + 48 - 12 * homeGroup e.1) % 48 + e.2.2 ≤ 24)) &&
    (List.range 48).all (fun q => (quads.filter (· == q)).length ≤ 1) &&
    (List.range 8).all fun k => leAt body (2 * k) 2 / 64 % 64 == 0 && leAt body (16 + k) 1 % 16 == 0 && leAt body (16 + k) 1 / 16 % 4 != 3

/-- Input slots of a port with q quads (R305). -/
def inSlotsOf (q : Nat) : Nat := 16 * (1024 * q / 48)

/-- The quad map that a start-up takes (R351), and its SOURCE (Table 10.12). -/
def Fabric.takeMap (f : Fabric) : Fabric :=
  let strap := fld (w64 f.pins.straps) 33 31
  let body := recordBlock f.flash.record 1 (· == 24)
  let put (m : List (Nat × Nat × Nat)) (ctl : Nat → Nat) (f : Fabric) : Fabric :=
    m.foldl (fun g e => g.updPort e.1 fun p =>
      { p with first := e.2.1, count := e.2.2, inSlots := inSlotsOf e.2.2, fecReq := ctl e.1 / 128 == 1,
               preReq := ctl e.1 / 64 % 2 == 1, maxRate := ctl e.1 / 16 % 4 }) f
  let dflt (k : Nat) : Nat := if k ≥ 6 then 128 else 0
  match body with
  | some b =>
    if mapOk b then { put (recordMap b) (fun k => leAt b (16 + k) 1) f with qmapSource := 1 }
    else { put (presetMap (if strap = 7 then 0 else strap)) dflt f with qmapSource := 2 }
  | none => { put (presetMap (if strap = 7 then 0 else strap)) dflt f with qmapSource := if strap = 7 then 2 else 0 }

/-! ### Flash commands -/

/-- MBX_ID (Table 2.8). -/
def Fabric.idVersion (f : Fabric) : Nat := f.abi * 2 ^ 24 + f.major * 2 ^ 16 + f.minor

/-- An UPDATE notice (Table 11.16). -/
def Fabric.updateNotice (f : Fabric) (event cause ticks : Nat) : Notice :=
  { unit := 7, code := 9,
    pay := [ pack [(7, 0, event), (15, 8, f.prc.slot), (23, 16, cause), (63, 32, f.idVersion)], w64 ticks, w64 f.clk.winBefore,
             w64 f.clk.passCount, 0 ] }

/-- MEAS_EPOCH rises (R456). -/
def Fabric.newEpoch (f : Fabric) : Fabric := { f with prc := { f.prc with epoch := f.prc.epoch + 1 } }

/-- Fields of an image header (Table 13.1). -/
def Image.version (i : Image) : Nat := fld (wd i.words 1) 31 0
def Image.svn (i : Image) : Nat := fld (wd i.words 1) 39 32
def Image.commit (i : Image) : Bool := bit (wd i.words 1) 40

/-- R452 but for the two signatures of the header and the body. -/
def imageForm (i : Image) (minSvn : Nat) : Bool :=
  fld (wd i.words 0) 31 0 == 0x41444E54 && fld (wd i.words 0) 63 32 == 256 && fld (wd i.words 1) 63 41 == 0 &&
    fld (wd i.words 2) 63 32 == 0 && 1 ≤ fld (wd i.words 2) 31 0 && fld (wd i.words 2) 31 0 ≤ 25165568 &&
    256 + fld (wd i.words 2) 31 0 ≤ i.len && ((rangeFrom 9 11).all fun k => wd i.words k == 0) && minSvn ≤ Sys2Proof.Machine.Image.svn i

def fwStageBody : Body := fun c f =>
  let addr := wn c.pay 0
  let len := fld (wd c.pay 1) 31 0
  if !fromOf c [32] then denied 0 f
  else if c.len != 16 || !onlyBits (wd c.pay 0) [(47, 6)] || !onlyBits (wd c.pay 1) [(31, 0)] || len == 0 || 25165824 < len then faulted f
  else
    let units := ceilDiv len 64
    let s : Staging := { mbx := c.mbx, slot := 1 - f.flash.active, len := len, pend := pieceCount addr units }
    (({ f with flash := { f.flash with writing := some s } } : Fabric).hdpRead addr units (fun o => .cmdRead c.mbx o), .wait)

/-- Data of an image that FW_STAGE reads arrives (R410): poison ends the command, an image identical to the staged one
completes with OK, and any other is programmed into its slot. -/
def Fabric.stageData (f : Fabric) (mbx off : Nat) (ws : List Word) (poison : Bool) (addr : Nat) : Fabric :=
  match f.flash.writing with
  | none => f
  | some s =>
    if s.mbx != mbx || s.pend = 0 then f
    else
      let f := if poison then f.notify 32 (faultNotice 0 7 0 0 2 (w64 addr) 0 (f.mbx mbx).env.cmdId) else f
      let s := { s with pend := s.pend - 1, poison := s.poison || poison, data := s.data.setList (8 * off) ws }
      let img : Image := { words := s.data.words 0 (ceilDiv s.len 8), len := s.len }
      if s.pend != 0 then { f with flash := { f.flash with writing := some s } }
      else if s.poison then ({ f with flash := { f.flash with writing := none } } : Fabric).finish mbx stFaulted
      else if f.flash.staged == some s.slot && f.flash.slots.get s.slot {} == img then
        ({ f with flash := { f.flash with writing := none } } : Fabric).finish mbx stOk s.slot
      else
        let bad := f.flash.failed.filter (· != s.slot)
        let slots := f.flash.slots.set s.slot img
        ({ f with flash := { f.flash with writing := some s, staged := none, slots := slots, failed := bad } } : Fabric).newEpoch

/-- FW_STAGE_VERIFIED (R410): `ok` is the verdict of the signatures; the rest of R452 is checked here. -/
def Fabric.stageVerified (f : Fabric) (ok : Bool) : Fabric :=
  match f.flash.writing with
  | none => f
  | some s =>
    if s.pend != 0 then f
    else
      let f := { f with flash := { f.flash with writing := none } }
      if ok && imageForm (f.flash.slots.get s.slot {}) f.prc.fuseSvn then
        let f := ({ f with flash := { f.flash with staged := some s.slot } } : Fabric).newEpoch
        (f.notify 32 (f.updateNotice 2 0 0)).finish s.mbx stOk s.slot
      else f.newEpoch.finish s.mbx stFaulted

/-- FW_ACTIVATE AT_RESET (R410): the staged slot is marked TRIAL for the next device reset. -/
def Fabric.activateAtReset (f : Fabric) : Fabric × Reply :=
  match f.flash.staged with
  | none => faulted f
  | some s =>
    let f := if f.flash.trialNext then f else ({ f with flash := { f.flash with trialNext := true } } : Fabric).newEpoch
    okay (f.notify 32 (f.updateNotice 3 0 0)) s

def bootRecordBody : Body := fun c f =>
  let b := bytesOf c.pay c.len
  if !fromOf c [32, 33] then denied 0 f
  else if c.len < 16 || 4032 < c.len || leAt b 4 2 != c.len || !recordOk b then faulted f
  else if f.clk.state = 2 then ({ f with flash := { f.flash with held := f.flash.held ++ [(c.mbx, b)] } }, .wait)
  else okay { f with flash := { f.flash with record := b } } (crc32c b)

/-- The flash master runs again after a REFCLK fault (R31): the BOOT_RECORD_SET commands that wait write their records, in
order, and complete. -/
def Fabric.flashReturn (f : Fabric) : Fabric :=
  f.flash.held.foldl (fun g h =>
    ({ g with flash := { g.flash with record := h.2 } } : Fabric).finish h.1 stOk (crc32c h.2))
    { f with flash := { f.flash with held := [] } }

/-! ### Registers (Tables 11.10 to 11.14) -/

def Clk.regs (c : Clk) : List Word :=
  [pack [(63, 56, min 255 c.losses), (33, 32, c.state), (31, 0, c.lastCount)], pack [(63, 32, c.lastCal), (31, 0, sat32 c.windows)]]

/-- PWR_STATUS, PWR_CAP, PWR_POWER, PWR_VCORE, PWR_CANARY, PWR_SLACK as a reader receives them (R411). -/
def Fabric.pwrRegs (f : Fabric) : List Word :=
  let w := f.pwr
  let (per, fresh) := w.canary.get w.worst (0, 0)
  let slack : Int := if f.conf then 10 * (w.slackW / 10) else w.slackW
  [ pack [(56, 50, f.dim 8 (w.gate w.bubL)), (49, 43, f.dim 8 (w.gate w.bubM)), (42, 36, f.dim 8 (w.gate w.bubA)), (29, 24, f.reasons),
          (18, 16, w.point), (5, 5, b2n f.conf), (4, 4, b2n w.marginOut), (3, 3, b2n w.pmbusFault), (2, 2, b2n w.capUnmet),
          (1, 1, b2n w.napForced), (0, 0, b2n f.fixedRate)],
    pack [(63, 48, w.capEff), (47, 32, w.current), (31, 16, w.thermal), (15, 0, w.cap)],
    pack [(63, 48, f.shownPower), (47, 32, w.tjMax), (31, 16, if f.conf then down w.avgA 10 else w.icore), (15, 0, w.vcoreMv)],
    pack [(47, 32, w.floor), (31, 16, w.target), (15, 0, (w.pointAt w.point).mv)],
    pack [(63, 58, w.worst), (47, 32, w.agePpm), (31, 16, per), (15, 0, fresh)],
    pack [(63, 48, (slack % 65536).toNat), (31, 22, f.dim 125 w.waitPm), (21, 12, f.dim 125 w.thrPm)] ]

/-- PWR_THR r. -/
def Fabric.thrReg (f : Fabric) (r : Nat) : Word := w64 (f.dim 15625 (f.pwr.thr.get r 0))

end Sys2Proof.Machine
end

