-- ==== Sys2Proof/Machine/Meter.lean ====
section
/-!
DEFINITION. The Ballimer meter die (chapter 14): samples and windows, the calendar, supply and seal, the audit log with its
signatures, the requests of the Meter Link and of the calibration port. Nothing here takes or gives a part of the fabric
die's state (R484, R486).
-/
namespace Sys2Proof.Machine

/-- A fresh free value on the meter die. -/
def Meter.draw (m : Meter) : Meter × Word := ({ m with free := m.free + 1 }, Config.meterValue m.free)

/-- A quotient as an unsigned 32-bit field: its rounding, and a value below zero, are not stated. -/
def Meter.field (m : Meter) (num : Int) (den : Nat) : Meter × Nat :=
  let q := num / (den : Int)
  if den != 0 && 0 ≤ num && num % (den : Int) = 0 then (m, q.toNat % 2 ^ 32)
  else
    let (m, v) := m.draw
    (m, if den = 0 || num < 0 then v.toNat % 2 ^ 32 else (q.toNat + v.toNat % 2) % 2 ^ 32)

/-! ### Records (R500–R502, Tables 14.5 and 14.6) -/

/-- FLAGS. -/
def Meter.flags (m : Meter) : Nat :=
  b2n m.sealOpen + 2 * b2n m.backupLow + 4 * b2n m.lastOver + 8 * b2n m.calValid + 16 * b2n m.eraExhausted

/-- The fields that a record latches at its event; RSEQ and PREV follow when it is written. -/
def Meter.latch (m : Meter) (kind cal : Nat) (arg : Word) (source markKind markNo bell : Nat) : List Word :=
  [ pack [(55, 48, m.flags), (47, 40, kind), (39, 32, m.era)], w64 cal, w64 m.energy,
    pack [(39, 32, source), (31, 24, markKind), (23, 16, m.inForce - 1), (9, 0, m.eventCount)], arg, w64 markNo, w64 bell, 0 ]

/-- First 8 bytes of the SHA-512 of a record's 128 bytes. -/
def Record.chain (r : Record) : Word := wd (Config.sha512 (bytesOf r.words 64 ++ bytesOf (takePad 8 r.sig) 64)) 0

/-- Write a record under the next RSEQ. PREV stands once the previous record is signed; until then its value is open. -/
def Meter.write (m : Meter) (ws : List Word) : Meter :=
  let n := m.rseq
  let (m, prev) : Meter × Word :=
    if n = 0 then (m, 0)
    else match m.recs.find ((n - 1) % 16384) with
      | some r => if r.sig.isEmpty then m.draw else (m, r.chain)
      | none => m.draw
  let r : Record := { words := (pack [(63, 32, fld (wd ws 0) 63 32), (31, 0, n)] :: (ws.drop 1).take 6) ++ [prev] }
  { m with recs := m.recs.set (n % 16384) r, rseq := n + 1, waiting := m.waiting ++ [n] }

/-- A record falls due: it is written, or waits for room while 8 records await signature (R502). -/
def Meter.put (m : Meter) (ws : List Word) : Meter :=
  if m.overflow.isEmpty && m.waiting.length < 8 then m.write ws else { m with overflow := m.overflow ++ [ws] }

/-- A record of an event that happens now. -/
def Meter.event (m : Meter) (kind : Nat) (arg : Word) : Meter := m.put (m.latch kind m.cal arg 0 0 0 0)

/-- METER_RECORD_SIGNED (R501, R502): the next pending record is signed under the PREV of its signed predecessor. -/
def Meter.recordSigned (m : Meter) : Meter :=
  match m.backup, m.waiting with
  | false, n :: rest =>
    match m.recs.find (n % 16384) with
    | none => { m with waiting := rest }
    | some r =>
      let prev : Word := if n = 0 then 0 else match m.recs.find ((n - 1) % 16384) with
        | some q => q.chain
        | none => wd r.words 7
      let ws := takePad 7 r.words ++ [prev]
      let r : Record := { words := ws, sig := takePad 8 (Config.meterSign (bytesOf ws 64)) }
      let m := { m with recs := m.recs.set (n % 16384) r, waiting := rest }
      match m.overflow with
      | [] => m
      | o :: os => { m with overflow := os }.write o
  | _, _ => m

/-- The 128 bytes of record RSEQ; zeros where it is not written yet or overwritten. -/
def Meter.record (m : Meter) (n : Nat) : List Word :=
  match m.recs.find (n % 16384) with
  | some r => if n < m.rseq && m.rseq ≤ n + 16384 then takePad 8 r.words ++ takePad 8 r.sig else zeros 16
  | none => zeros 16

/-! ### Calendar and windows (R488–R490, R494) -/

/-- Calendar ticks pass; a TIME_SET that waits takes effect at the next one (Table 14.8). -/
def Meter.advance (m : Meter) (n : Nat) : Meter :=
  if n = 0 then m
  else match m.newTime with
    | none => { m with cal := (m.cal + n) % 2 ^ 64 }
    | some t =>
      let old := (m.cal + 1) % 2 ^ 64
      let m := ({ m with cal := t, calValid := true, newTime := none } : Meter).event 5 (w64 old)
      { m with cal := (t + (n - 1)) % 2 ^ 64 }

/-- Where the last tick stands within 4,096, as the next one will count. -/
def Meter.phase (m : Meter) : Nat := match m.newTime with | some t => (t + 4095) % 4096 | none => m.cal % 4096

/-- Ticks that an event other than a mark may lie after the last event: under main power it reaches no mark. -/
def Meter.within (m : Meter) (n : Nat) : Meter :=
  if m.backup then m.advance n
  else
    m.advance (min n (4095 - m.phase))

/-- The TICK status word (Table 14.4). -/
def Meter.status (m : Meter) : Word :=
  pack [(31, 0, m.rseq + 2 ^ 32 - 1), (39, 32, m.era), (49, 40, m.eventCount), (57, 50, m.flags)]

/-- A frame header (Table 14.3). -/
def frameHeader (status len seq type : Nat) : Word := pack [(31, 24, status), (23, 16, len), (15, 8, seq), (7, 0, type)]

/-! ### The signals of the Meter Link (R493–R495) -/

/-- One bit in level-encoded dual rail: the data signal takes the bit's value, or the phase signal toggles (R493). -/
def Line.bit (l : Line) (b : Bool) : Line := if l.data = b then { l with phase := !l.phase } else { l with data := b }

/-- A mark symbol: both signals change at once (R494). -/
def Line.mark (l : Line) : Line := { data := !l.data, phase := !l.phase }

/-- The levels after a string of bits. -/
def Line.send (l : Line) (bits : List Bool) : Line := bits.foldl Line.bit l

/-- The levels that the line takes, one for each bit. -/
def Line.trace : Line → List Bool → List Line
  | _, [] => []
  | l, b :: bs => l.bit b :: (l.bit b).trace bs

/-- What a receiver reads from the levels that follow: a bit where one signal changes, a mark symbol (none) where both do. -/
def Line.read : Line → List Line → List (Option Bool)
  | _, [] => []
  | l, x :: xs =>
    (if l.data != x.data && l.phase != x.phase then [none] else if l = x then [] else [some x.data]) ++ x.read xs

/-- The bytes of a frame: header, LEN bytes of payload, CRC-32C over both, little-endian (R495). -/
def frameBytes (frame : List Word) : List Nat :=
  let h := wd frame 0
  let body := wordBytes h ++ ((frame.drop 1).flatMap wordBytes).take (fld h 23 16)
  body ++ (wordBytes (w64 (crc32c body))).take 4

/-- The bits of a frame, each byte from bit 0. -/
def frameBits (frame : List Word) : List Bool :=
  (frameBytes frame).flatMap fun b => (List.range 8).map fun i => b / 2 ^ i % 2 == 1

/-- The meter sends a frame on MTL_MD and MTL_MP. -/
def Meter.drive (m : Meter) (frame : List Word) : Meter := { m with line := m.line.send (frameBits frame) }

/-- The parameter set in force: the last of the `inForce` sets that were burnt before the window began. -/
def Meter.inForceSet (m : Meter) : List Word := if m.inForce = 0 then zeros 4 else takePad 4 (m.params.getD (m.inForce - 1) [])

/-- A signed 32-bit field of a parameter set. -/
def param32 (w : Word) (hi lo : Nat) : Int := signed 32 (fld w hi lo)

/-- METER_SAMPLE (R487, R488): codes of the voltage and current channels. -/
def Meter.sample (m : Meter) (n : Nat) (vCode iCode : Int) : Meter :=
  let m := m.within n
  if m.backup then m
  else
    let p := m.inForceSet
    let off (w : Word) : Int := if Config.offsetSubtracted then - param32 w 63 32 else param32 w 63 32
    let v := (fld (wd p 0) 31 0 : Int) * (vCode + off (wd p 0))
    let i := (fld (wd p 1) 31 0 : Int) * (iCode + off (wd p 1))
    let pw := v * i
    let add := m.residue + 5 * pw.toNat
    let unit := 18 * 2 ^ 78
    let full (c : Int) : Bool := decide (2 ^ 23 - 1 ≤ c) || decide (c ≤ -(2 ^ 23))
    { m with energy := m.energy + add / unit, residue := add % unit, sumV := m.sumV + v, sumI := m.sumI + i, sumP := m.sumP + pw,
             maxP := if m.samples = 0 || m.maxP < pw then pw else m.maxP, samples := m.samples + 1,
             overNow := m.overNow || full vCode || full iCode }

/-- METER_CALENDAR_TICK (R489, R490, R494, R507): at the next multiple of 4,096 the window closes, the newest parameter set
comes into force, and the mark symbol and the TICK frame are sent. On backup only the calendar runs. -/
def Meter.calendarTick (m : Meter) : Meter :=
  let m := m.advance (4096 - m.phase)
  if m.backup then m
  else
    let k := m.samples
    let (m, v) := m.field (m.sumV * 1000000) (k * 2 ^ 32)
    let (m, i) := m.field (m.sumI * 1000) (k * 2 ^ 32)
    let (m, p) := m.field (m.sumP * 1000) (k * 2 ^ 64)
    let (m, x) := m.field (m.maxP * 1000) (b2n (k != 0) * 2 ^ 64)
    let first := m.overNow && !m.lastOver
    let m := { m with winCal := m.cal, winEnergy := m.energy, vAvg := v, iAvg := i, pAvg := p, pMax := x, lastOver := m.overNow,
                      overNow := false, sumV := 0, sumI := 0, sumP := 0, maxP := 0, samples := 0 }
    let m := if first then m.event 9 (w64 m.cal) else m
    let m := { m with inForce := m.params.length }
    let t := [frameHeader 0 16 0 0x90, w64 m.cal, m.status]
    ({ m with tickFrame := t, line := m.line.mark } : Meter).drive t

/-! ### Seal and supply (R491, R492, R505, R538, R545) -/

/-- METER_SEAL_CHANGE; on backup the change is latched with its CAL. -/
def Meter.sealChange (m : Meter) (n : Nat) (open_ : Bool) : Meter :=
  let m := m.within n
  if m.sealOpen = open_ then m
  else
    let m := { m with sealOpen := open_ }
    if m.backup then { m with latched := m.latched ++ [(open_, m.cal)] } else m.event (if open_ then 2 else 3) 0

/-- METER_SUPPLY_LOSS: the meter goes to backup. -/
def Meter.supplyLoss (m : Meter) (n : Nat) : Meter :=
  let m := m.within n
  if m.backup then m
  else { m.event 7 0 with backup := true, backupSince := m.cal, sumV := 0, sumI := 0, sumP := 0, maxP := 0, samples := 0, overNow := false }

/-- A new era (R492). -/
def Meter.newEra (m : Meter) : Meter :=
  let m := { m with era := min 255 (m.era + 1), eraExhausted := m.eraExhausted || 255 ≤ m.era, recs := [], rseq := 0, waiting := [],
                    overflow := [], latched := [], marks := [], energy := 0, residue := 0, cal := 0, calValid := false, newTime := none,
                    kept := none, keptCal := none }
  m.event 6 (w64 m.era)

/-- METER_SUPPLY_RETURN; `good` says that the retained memory passes its check. -/
def Meter.supplyReturn (m : Meter) (n : Nat) (good : Bool) : Meter :=
  let m := m.within n
  if !m.backup then m
  else
    let m := { m with backup := false }
    if !good then m.newEra
    else
      let m := m.event 8 (w64 (m.cal + 2 ^ 64 - m.backupSince))
      let m := m.latched.foldl (fun (m : Meter) e => m.put (m.latch (if e.1 then 2 else 3) e.2 0 0 0 0 0)) m
      { m with latched := [] }

/-- METER_BACKUP_CHECK (R491): the backup voltage lies below 2.6 V or not. -/
def Meter.backupCheck (m : Meter) (low : Bool) : Meter := if m.backup then m else { m with backupLow := low }

/-! ### The Meter Link (R485, R495–R497, R500, R504, Table 14.4) -/

/-- A response frame. -/
def response (type status seq : Nat) (body : List Word) : List Word := frameHeader status (8 * body.length) seq (0x80 + type) :: body

/-- An executed request: its response is kept under its SEQ (R497). -/
def Meter.executed (m : Meter) (type seq : Nat) (body : List Word) : Meter :=
  let r := response type 0 (seq % 256) body
  ({ m with kept := some (seq % 256, r), answer := r } : Meter).drive r

/-- A request that is answered without being executed. -/
def Meter.turned (m : Meter) (type seq status : Nat) : Meter :=
  let r := response type status (seq % 256) []
  ({ m with answer := r } : Meter).drive r

/-- A request arrives: none on backup; one with the kept SEQ gets the kept response. -/
def Meter.request (m : Meter) (seq : Nat) (k : Meter → Meter) : Meter :=
  if m.backup then m
  else match m.kept with
    | some (s, r) => if s = seq % 256 then ({ m with answer := r } : Meter).drive r else k m
    | none => k m

/-- SYNC. -/
def Meter.sync (m : Meter) (seq : Nat) : Meter :=
  if m.backup then m
  else
    let r := response 0 0 (seq % 256) []
    ({ m with kept := none, answer := r } : Meter).drive r

/-- READ_VALUES: the body of Table 14.10; the meter does not know its last word, the Bell count. -/
def Meter.readValues (m : Meter) (seq : Nat) : Meter :=
  m.request seq fun m =>
    let (m, v) := m.draw
    m.executed 1 seq [w64 m.winCal, w64 m.winEnergy, pack [(63, 32, m.pMax), (31, 0, m.pAvg)], pack [(63, 32, m.iAvg), (31, 0, m.vAvg)], m.status, v]

/-- READ_RECORD. -/
def Meter.readRecord (m : Meter) (seq rseq : Nat) : Meter :=
  m.request seq fun m => m.executed 2 seq (m.record (rseq % 2 ^ 32))

/-- A WRITE_MARK payload with a non-zero zero field, or with MARK_KIND 3. -/
def markBad (d : List Word) : Bool := d.length != 5 || !onlyBits (wd d 1) [(33, 0), (47, 40)] || fld (wd d 1) 33 32 = 3 || wd d 3 != 0 || wd d 4 != 0

/-- WRITE_MARK (R504). -/
def Meter.writeMark (m : Meter) (n seq : Nat) (d : List Word) : Meter :=
  (m.within n).request seq fun m =>
    let kind := fld (wd d 1) 33 32
    let no := fld (wd d 1) 31 0
    let ses := wn d 0
    if markBad d then m.turned 3 seq 3
    else match m.marks.find? fun x => x.1 == ses && x.2.1 == kind && x.2.2.1 == no with
      | some x => m.executed 3 seq [pack [(31, 0, x.2.2.2), (39, 32, m.era)]]
      | none =>
        if !m.overflow.isEmpty || 8 ≤ m.waiting.length then m.turned 3 seq 1
        else
          let r := m.rseq
          let m := m.put (m.latch 1 m.cal (wd d 0) (fld (wd d 1) 47 40) kind no (wn d 2))
          let m := { m with marks := ((ses, kind, no, r) :: m.marks).take 64 }
          m.executed 3 seq [pack [(31, 0, r), (39, 32, m.era)]]

/-- The words of METER_IDENTITY (Table 14.9). -/
def Meter.identity (m : Meter) : List Word :=
  takePad 2 (Config.meterIdentity 0) ++ takePad 4 (Config.meterIdentity 1) ++ [pack [(31, 0, wn (Config.meterIdentity 2) 0)]] ++
    takePad 4 (Config.meterIdentity 3) ++ takePad 4 (Config.sha512 (bytesOf m.inForceSet 32)) ++ [m.status] ++ zeros 4

/-- READ_IDENTITY. -/
def Meter.readIdentity (m : Meter) (seq : Nat) : Meter := m.request seq fun m => m.executed 4 seq m.identity

/-- READ_STATUS: the TICK body. -/
def Meter.readStatus (m : Meter) (seq : Nat) : Meter := m.request seq fun m => m.executed 5 seq [w64 m.winCal, m.status]

/-- MTL_UNKNOWN_TYPE (R485): REFUSED or BAD, and no effect. -/
def Meter.unknownType (m : Meter) (type seq : Nat) : Meter :=
  if type ≤ 5 then m
  else m.request seq fun m =>
    let (m, v) := m.draw
    m.turned (type % 128) seq (if v.toNat % 2 = 1 then 2 else 3)

/-! ### The calibration port (R486, R506, R507, Table 14.8) -/

/-- A request on the calibration port, with its own SEQ rule. -/
def Meter.calRequest (m : Meter) (type seq : Nat) (k : Meter → Meter × Nat × List Word) : Meter :=
  if m.backup then m
  else
    let again : Option (List Word) := match m.keptCal with
      | some (s, r) => if s = seq % 256 then some r else none
      | none => none
    match again with
    | some r => { m with calAnswer := r, calLine := m.calLine.send (frameBits r) }
    | none =>
      let (m, st, body) := k m
      let r := response type st (seq % 256) body
      { m with calAnswer := r, calLine := m.calLine.send (frameBits r), keptCal := if st = 0 then some (seq % 256, r) else m.keptCal }

/-- PARAM_WRITE. -/
def Meter.paramWrite (m : Meter) (n seq : Nat) (set : List Word) : Meter :=
  (m.within n).calRequest 0x40 seq fun m =>
    if !m.sealOpen || 1023 ≤ m.eventCount || 32 ≤ m.params.length then (m, 2, [])
    else if set.length != 4 || !onlyBits (wd set 3) [(15, 0)] then (m, 3, [])
    else
      let m := { m with eventCount := m.eventCount + 1, params := m.params ++ [set] }
      (m.event 4 (wd (Config.sha512 (bytesOf set 32)) 0), 0, [])

/-- TIME_SET: CAL is set at the next tick. -/
def Meter.timeSet (m : Meter) (n seq cal : Nat) : Meter :=
  (m.within n).calRequest 0x41 seq fun m =>
    if !m.sealOpen || 1023 ≤ m.eventCount then (m, 2, [])
    else ({ m with eventCount := m.eventCount + 1, newTime := some (cal % 2 ^ 64) }, 0, [])

/-- PARAM_READ: the set in force and its index. -/
def Meter.paramRead (m : Meter) (seq : Nat) : Meter :=
  m.calRequest 0x42 seq fun m => (m, if m.sealOpen then 0 else 2, if m.sealOpen then m.inForceSet ++ [w64 (m.inForce - 1)] else [])

end Sys2Proof.Machine
end

