-- ==== Sys2Proof/Machine/Roll.lean ====
section
/-!
DEFINITION. Roll call (R428–R440), the Bell count (R220–R222), detention (R437) and substitutes (R442–R445):
heartbeats and their items, votes, verdicts, the dead list, admission, hand-overs and ROLLCALL_STATUS.
-/
namespace Sys2Proof.Machine

/-! ### Items (Table 12.11) -/

def itType (w : List Word) : Nat := fld (wd w 0) 63 60
def itNode (w : List Word) : Nat := fld (wd w 0) 59 45
def itOrigin (w : List Word) : Nat := fld (wd w 0) 44 30
def itTtl (w : List Word) : Nat := fld (wd w 0) 29 27
def itCause (w : List Word) : Nat := fld (wd w 0) 26 23
def itLife (w : List Word) : Nat := fld (wd w 0) 15 0

/-- An item. -/
def mkItem (type node origin ttl cause life : Nat) (stamp : Word) : List Word :=
  [pack [(63, 60, type), (59, 45, node), (44, 30, origin), (29, 27, ttl), (26, 23, cause), (15, 0, life)], stamp]

/-- An item with another TTL. -/
def withTtl (w : List Word) (ttl : Nat) : List Word :=
  mkItem (itType w) (itNode w) (itOrigin w) ttl (itCause w) (itLife w) (wd w 1)

def voteDead : Nat := 1
def voteAlive : Nat := 2
def itLeave : Nat := 3
def verdictDead : Nat := 4
def verdictAlive : Nat := 5
def itSeat : Nat := 6
def itUnseat : Nat := 7

/-! ### The dead list -/

def Roll.node (r : Roll) (n : Nat) : NodeLife := r.nodes.get n {}

/-- The hand-over record of an alias. -/
def Roll.handover (r : Roll) (n : Nat) : Option HandOver := r.handovers.find? fun h => h.alias_ == n

/-- A node is the ALIAS of a valid seating entry (R442). -/
def Fabric.isSeat (f : Fabric) (n : Nat) : Bool :=
  (f.rtr.seats.vals.any fun w => seatValid w && !seatSelf w && seatOf w == n) || (f.roll.handover n).isSome

/-- A node is dead-listed: DEAD and not seated. -/
def Fabric.deadListed (f : Fabric) (n : Nat) : Bool := (f.roll.node n).dead && !f.isSeat n

/-- Dead-listed nodes. -/
def Fabric.deadNodes (f : Fabric) : List Nat := (f.roll.nodes.filter fun e => e.2.dead && !f.isSeat e.1).map Prod.fst

/-- The torus neighbours of a node of the machine. -/
def Router.nbrs (r : Router) (n : Nat) : List Nat :=
  ((List.range 6).map fun k => ({ r with node := n } : Router).neighbour k).eraseDups

/-- Live neighbours of a node. -/
def Fabric.liveNbrs (f : Fabric) (n : Nat) : List Nat := (f.rtr.nbrs n).filter fun m => !f.deadListed m

/-- The torus ports that face a node. -/
def Fabric.portsTo (f : Fabric) (n : Nat) : List Nat := (List.range 6).filter fun k => f.rtr.neighbour k == n

/-! ### Sending -/

/-- An item becomes owed on a torus link (R428). -/
def Fabric.oweItem (f : Fabric) (k : Nat) (it : List Word) : Fabric :=
  let r := f.roll
  ({ f with roll := { r with owed := r.owed.set k (r.owed.get k [] ++ [it]) } } : Fabric).updPort k fun p =>
    { p.owe f.tick with owedHb := true }

/-- Owe an item on the torus links but one (R429). -/
def Fabric.flood (f : Fabric) (skip : Option Nat) (it : List Word) : Fabric :=
  ((List.range 6).filter fun k => some k != skip).foldl (fun g k => g.oweItem k it) f

/-- The identity of an item: it without its TTL. -/
def Fabric.seenItem (f : Fabric) (it : List Word) : Fabric :=
  { f with roll := { f.roll with seen := withTtl it 0 :: f.roll.seen } }

/-- This device emits an item: votes and LEAVE with TTL 4, the rest with TTL 7 (R429). -/
def Fabric.emitItem (f : Fabric) (it : List Word) : Fabric := (f.seenItem it).flood none it

/-- A ROLL_CALL_VERDICT notice (Table 12.18). -/
def Fabric.verdictNotice (f : Fabric) (kind cause votes nbrs life node origin other : Nat) (stamp : Word) : Fabric :=
  f.notify 32
    { unit := 7, code := 7,
      pay := [ pack [(7, 0, kind), (15, 8, cause), (23, 16, votes), (31, 24, nbrs), (47, 32, life)],
               pack [(14, 0, node), (29, 15, origin), (44, 30, other)], stamp, w64 f.deadNodes.length, 0 ] }

/-! ### The Bell count -/

/-- Ports toward a root, in the order of R220: on each axis where the coordinates differ, the shorter direction, + at
a tie. -/
def Fabric.rootPorts (f : Fabric) (root : Nat) : List Nat :=
  (List.range 3).filterMap fun a =>
    let l := max 1 (f.rtr.len a)
    let c := coord a f.rtr.node
    let d := coord a root
    if c = d then none
    else
      let p := (d + l - c) % l
      some (if p ≤ l - p then 2 * a else 2 * a + 1)

/-- The root that this device holds: the lowest that it and its neighbours advertise and that roll call holds alive. -/
def Fabric.bellRoot (f : Fabric) : Nat :=
  let mine := if f.roll.state = 1 && !f.isSpare then [f.rtr.node] else []
  let heard := (f.bells.roots.vals.map Prod.fst).filter fun n => !f.deadListed n
  (minBy id (mine ++ heard)).getD 0

/-- Choose root, parent and depth anew (R220). The root has no parent and keeps its own count, so it is LOCKED. -/
def Fabric.rerootBell (f : Fabric) : Fabric :=
  let root := f.bellRoot
  let b := f.bells
  if root = f.rtr.node && f.roll.state = 1 && !f.isSpare then
    { f with bells := { b with root := root, depth := 0, parent := 7, offset := 0, state := 1, lastMsg := f.tick } }
  else
    let par := ((f.rootPorts root).find? fun k => !f.deadListed (f.rtr.neighbour k)).getD 7
    let depth := match b.roots.find par with | some e => e.2 + 1 | none => b.depth
    { f with bells := { b with root := root, parent := par, depth := min 48 depth } }

/-- Of some numbers, one for which a distance is least. -/
def nearest (g : Nat → Nat) : List Nat → Option Nat
  | [] => none
  | x :: xs => match nearest g xs with
    | some y => if g y < g x then some y else some x
    | none => some x

/-- The Bell count at which the heartbeat that BELL_RX reports left here (R221; DEDUCED, log entry 162). Heartbeats keep their
distances on a link: with the pair of the message before, it is the one whose distance in sending is nearest to the distance
in arrival, if that is within 8 ref ticks; else the latest one for which the round trip is not negative. -/
def BellState.sentFor (b : BellState) (k tx rx now : Nat) : Option Nat :=
  let sent := b.sent.get k []
  let late := sent.find? fun s => tx - rx ≤ now - s
  match b.pair.find k with
  | none => late
  | some (rx0, s0) =>
    let gap (s : Nat) : Nat := ((((s : Int) - s0) - ((rx : Int) - rx0))).natAbs
    match nearest gap (if sent.contains s0 then sent else sent ++ [s0]) with
    | some s => if gap s ≤ 8 then some s else late
    | none => late

/-- A time message (R221, R222): `tx` and `rx` are BELL_TX and BELL_RX. One from any candidate parent keeps HOLDOVER away; the
parent's gives the offset. The first offset steps the Bell count, once per device reset, except on a device that was the root
and is within ±2 ref ticks: a change of root steps no device. -/
def Fabric.timeMessage (f : Fabric) (k tx rx : Nat) : Fabric :=
  if rx = 0 then f
  else
    let cand := (f.rootPorts f.bells.root).contains k
    let b := if cand then { f.bells with lastMsg := f.tick } else f.bells
    match b.sentFor k tx rx f.bell with
    | none => { f with bells := b }
    | some s =>
      let b := { b with pair := b.pair.set k (rx, s) }
      if b.parent != k then { f with bells := b }
      else
        let off : Int := 32768 * ((s : Int) + (f.bell : Int) - (tx : Int) - (rx : Int))
        let near := -131072 ≤ off && off ≤ 131072
        if !b.stepped && !(b.state == 1 && near) then
          let d : Int := off / 65536
          let shift (n : Nat) : Nat := ((n : Int) - d).toNat
          { f with bell := shift f.bell,
                   bells := { b with stepped := true, offset := off, state := 0, good := 0,
                                     sent := b.sent.map (fun e => (e.1, e.2.map shift)), pair := b.pair.map fun e => (e.1, e.2.1, shift e.2.2) } }
        else
          let good := if near then b.good + 1 else 0
          { f with bells := { b with stepped := true, offset := off, good := good, state := if 8 ≤ good then 1 else b.state } }

/-- BELL_HOLDOVER (R222): 64 heartbeats without a time message. -/
def Fabric.bellHoldover (f : Fabric) : Fabric :=
  let b := f.bells
  if b.parent = 7 && b.root = f.rtr.node then f
  else if b.lastMsg + 64 * 3125 ≤ f.tick then { f with bells := { b with state := 2, good := 0 } } else f

/-- The Bell count steers toward the parent: LOCKED, and in HOLDOVER once a candidate parent's time messages come again, which
leads back to LOCKED (R222). -/
def Fabric.steers (f : Fabric) : Bool :=
  let b := f.bells
  b.parent != 7 && (b.state == 1 || (b.state == 2 && f.tick < b.lastMsg + 64 * 3125))

/-- One ref tick of the Bell count: a steering device moves it by at most 1/1,024 of a tick more or less, by an amount that is
open; else it runs free (R222). -/
def Fabric.tickBell (f : Fabric) : Fabric :=
  if f.steers then
    let (f, v) := f.draw
    let t := f.bells.frac + (65536 - 64) + v.toNat % 129
    { f with bell := (f.bell + t / 65536) % 2 ^ 64, bells := { f.bells with frac := t % 65536 } }
  else { f with bell := (f.bell + 1) % 2 ^ 64 }

/-! ### Detention (R437) -/

/-- The device enters detention: it emits nothing, its lanes sit idle, and every collective ends with PEER_DEAD. The
REASON of the ports' LINK_CHANGE notices is not stated. -/
def Fabric.detain (f : Fabric) (cause : Nat) : Fabric :=
  if f.roll.state = 2 then f
  else
    let me := f.rtr.node
    let life := f.roll.life
    let f := { f with roll := { f.roll with state := 2, owed := [] } }
    let f := f.verdictNotice 3 cause 0 (f.liveNbrs me).length life me me 0 (w64 f.bell)
    let f := (List.range 8).foldl (fun g k =>
      if (g.port k).state == .off then g
      else
        let (g, v) := g.draw
        g.leaveUp k .off (fld v 7 0)) f
    let all := (List.range f.partCount).flatMap fun p =>
      ((f.part p).colls.filter fun c => c.fin.isNone).map fun c => (p, c.id)
    all.foldl (fun g (p, id) => g.endColl p id stFaulted 0x12) f

/-! ### Recording verdicts -/

/-- A ROUTE_UPDATE of source 36 that sets or clears PORT_EN of a port (R436, R439). -/
def Fabric.orderPortEn (f : Fabric) (k : Nat) (en : Bool) : Fabric :=
  let now := f.rtr.portEn / 2 ^ k % 2
  let ctl := f.rtr.ctl
  let v := if en then ctl ||| w64 (2 ^ (8 + k)) else ctl &&& ~~~ (w64 (2 ^ (8 + k)))
  if now = b2n en then f
  else f.inward 36 0x0500 [1, v, 0, 0] [({ block := blkPortEn, index := k, field := 0 }, b2n en)]

/-- Close the tally about a node. -/
def Fabric.closeTally (f : Fabric) (n : Nat) : Fabric :=
  { f with roll := { f.roll with tallies := f.roll.tallies.filter fun t => t.node != n } }

/-- The SEAT item of a hand-over as its registrar floods it. -/
def HandOver.item (h : HandOver) (life : Nat) : List Word :=
  mkItem itSeat h.alias_ h.registrar 7 0 life (pack [(14, 0, h.real), (29, 15, h.partner), (31, 30, h.phase)])

/-- Put a hand-over record. -/
def Roll.putHandover (r : Roll) (h : HandOver) : Roll :=
  { r with handovers := r.handovers.filter (fun x => x.alias_ != h.alias_) ++ [h] }

/-- State-object block of aliases, and of nodes (R448). -/
def blkAlias : Nat := 19
def blkNode : Nat := 20

/-- The registrar's hand-overs whose partner has died become VOID, and a COMMIT that waits for its message time loses
(R445). -/
def Fabric.voidHandovers (f : Fabric) (n : Nat) : Fabric :=
  let hit := f.roll.handovers.filter fun h => h.partner == n && h.phase == 0 && h.registrar == f.rtr.node
  hit.foldl (fun g h =>
    let h := { h with phase := 2 }
    let lost (o : Order) : Bool := o.opcode == 0x0805 && fld (wd o.pay 0) 2 0 == 2 && fld (wd o.pay 1) 14 0 == h.alias_
    let os := g.orders.filter lost
    let g := { g with roll := g.roll.putHandover h, orders := g.orders.filter fun o => !lost o }
    let life := (g.roll.node h.alias_).life
    let g := g.emitItem (h.item life)
    let (g, v) := g.draw
    let g := g.verdictNotice 6 (fld v 7 0) 0 (g.liveNbrs h.alias_).length life h.alias_ h.registrar h.partner (wd (h.item life) 1)
    os.foldl (fun g o => g.finish o.mbx stSuperseded) g) f

/-- A node is recorded dead (R433–R437): the first verdict of a (SUBJECT, LIFE) counts. -/
def Fabric.recordDead1 (f : Fabric) (it : List Word) (votes : Nat) : Fabric :=
  let n := itNode it
  let life := itLife it
  let old := f.roll.node n
  if life < old.life || (old.dead && old.life = life) then f
  else
    let nbrs := (f.liveNbrs n).length
    let f := { f with roll := { f.roll with nodes := f.roll.nodes.set n { dead := true, life := life, item := it } } }
    let f := (f.seenItem it).closeTally n
    if n = f.rtr.node && f.roll.state = 1 && life = f.roll.life then f.detain 8
    else
      let f := f.verdictNotice 1 (itCause it) votes nbrs life n (itOrigin it) 0 (wd it 1)
      let f := ((f.peerDead n).clearPeer n).rerootBell
      let f := f.voidHandovers n
      if f.isSpare then f else (f.portsTo n).foldl (fun g k => g.orderPortEn k false) f

/-- Nodes around a dead one whose neighbours are all dead (R435). -/
def Fabric.enclaves (f : Fabric) (n : Nat) : List Nat :=
  (f.rtr.nbrs n).filter fun m => !(f.roll.node m).dead && !f.isSeat m && (f.rtr.nbrs m).all fun x => f.deadListed x

/-- Record a verdict of death and flood it, and those that the enclave rule adds. `skip` is the link it came from. -/
def Fabric.spreadDead : Nat → Fabric → Option Nat → List Word → Nat → Fabric
  | 0, f, _, _, _ => f
  | fuel + 1, f, skip, it, votes =>
    let n := itNode it
    let old := f.roll.node n
    if itLife it < old.life || (old.dead && old.life = itLife it) then f
    else
      let f := f.recordDead1 it votes
      if f.roll.state = 2 then f
      else
        let f := f.flood skip it
        (f.enclaves n).foldl (fun g m =>
          Fabric.spreadDead fuel g none (mkItem verdictDead m g.rtr.node 7 3 (g.roll.node m).life (w64 g.bell)) 0) f

/-- Record a verdict of death with room for every node of the machine. -/
def Fabric.recordDead (f : Fabric) (skip : Option Nat) (it : List Word) (votes : Nat) : Fabric :=
  Fabric.spreadDead (f.rtr.size + 1) f skip it votes

/-- A node is recorded alive (R438, R439). -/
def Fabric.recordAlive (f : Fabric) (it : List Word) : Fabric :=
  let n := itNode it
  let life := itLife it
  let old := f.roll.node n
  if life < old.life then f
  else
    let f := { f with roll := { f.roll with nodes := f.roll.nodes.set n { dead := false, life := life } } }
    let f := if n = f.rtr.node && f.roll.state = 0 then { f with roll := { f.roll with state := 1, life := life } } else f
    let f := (f.verdictNotice 2 (itCause it) 0 (f.liveNbrs n).length life n (itOrigin it) 0 (wd it 1)).rerootBell
    if f.isSpare then f else (f.portsTo n).foldl (fun g k => g.orderPortEn k true) f

/-! ### Votes -/

/-- A tally with room for one more vote. -/
def Fabric.addVote (f : Fabric) (n voter : Nat) (alive : Bool) : Fabric :=
  let r := f.roll
  let t := (r.tallies.find? fun t => t.node == n).getD { node := n, opened := f.tick }
  let put (l : List Nat) : List Nat := if l.contains voter then l else l ++ [voter]
  let t := if alive then { t with aliveVotes := put t.aliveVotes } else { t with deadVotes := put t.deadVotes }
  { f with roll := { r with tallies := r.tallies.filter (fun x => x.node != n) ++ [t] } }

/-- The quorum of R433. -/
def Fabric.quorum (f : Fabric) (n : Nat) : Fabric :=
  match f.roll.tallies.find? fun t => t.node == n with
  | none => f
  | some t =>
    if 2 * t.deadVotes.length > (f.liveNbrs n).length then
      f.recordDead none (mkItem verdictDead n f.rtr.node 7 1 (f.roll.node n).life (w64 f.bell)) t.deadVotes.length
    else f

/-- A vote counts at a live neighbour of its subject (R433). -/
def Fabric.countVote (f : Fabric) (n voter : Nat) (alive : Bool) : Fabric :=
  if f.roll.state = 1 && !f.isSpare && (f.rtr.nbrs n).contains f.rtr.node && (f.rtr.nbrs n).contains voter &&
      !f.deadListed n && !f.isSeat n then (f.addVote n voter alive).quorum n
  else f

/-- This device votes. -/
def Fabric.castVote (f : Fabric) (n : Nat) (alive : Bool) : Fabric :=
  let it := mkItem (if alive then voteAlive else voteDead) n f.rtr.node 4 0 (f.roll.node n).life (w64 f.bell)
  (f.emitItem it).countVote n f.rtr.node alive

/-- A VOTE_DEAD about a neighbour that this device has heard within 6,250 ref ticks (R432). -/
def Fabric.answerVote (f : Fabric) (n : Nat) : Fabric :=
  let life := (f.roll.node n).life
  let fresh := (f.portsTo n).any fun k => match f.roll.heard.find k with | some t => f.tick ≤ t + 6250 | none => false
  if f.roll.state = 1 && !f.isSpare && fresh && !f.roll.voted.contains (n, life) && !f.deadListed n && !f.isSeat n then
    ({ f with roll := { f.roll with voted := (n, life) :: f.roll.voted } } : Fabric).castVote n true
  else f

/-! ### Seating -/

/-- The free or present seating slot of an alias. -/
def Router.seatSlot (r : Router) (a : Nat) : Option Nat :=
  let slot (i : Nat) : Word := r.seats.get i 0
  match (List.range 64).find? fun i => seatValid (slot i) && seatOf (slot i) == a with
  | some i => some i
  | none => (List.range 64).find? fun i => !seatValid (slot i)

/-- A seating entry as a word (R290). -/
def seatWord (valid self : Bool) (real a : Nat) : Word :=
  pack [(63, 63, b2n valid), (62, 62, b2n self), (29, 15, real), (14, 0, a)]

/-- Order a seating entry by source 36 (Table 12.13, step 4). -/
def Fabric.orderSeat (f : Fabric) (i : Nat) (w : Word) : Fabric :=
  f.inward 36 0x0502 [w64 i, w] [({ block := blkSeat, index := i, field := 0 }, w.toNat)]

/-- A SEAT item is recorded: the registrar is the ORIGIN of the newest one (R444, R445). -/
def Fabric.recordSeat (f : Fabric) (it : List Word) : Fabric :=
  let st := wd it 1
  let h : HandOver := { alias_ := itNode it, real := fld st 14 0, partner := fld st 29 15, phase := fld st 31 30, registrar := itOrigin it }
  let old := f.roll.handover h.alias_
  let kind := match old with
    | none => some 4
    | some o => if o.phase = h.phase then none else if h.phase = 1 then some 5 else if h.phase = 2 then some 6 else some 4
  let f := { f with roll := f.roll.putHandover h }
  let (f, v) := if kind == some 6 then f.draw else (f, 9)
  let f := match kind with
    | some k => f.verdictNotice k (fld v 7 0) 0 (f.liveNbrs h.alias_).length (itLife it) h.alias_ h.registrar (if k = 4 then h.real else h.partner) st
    | none => f
  if old.isSome || f.isSpare then f
  else
    match f.rtr.seatSlot h.alias_ with
    | some i => f.orderSeat i (seatWord true false h.real h.alias_)
    | none => f

/-- An UNSEAT item is recorded: the alias returns to the dead list (R442), and the state for it is cleared (R558). -/
def Fabric.recordUnseat (f : Fabric) (it : List Word) : Fabric :=
  let a := itNode it
  match f.roll.handover a with
  | none => f.clearPeer a
  | some h =>
    let f := { f with roll := { f.roll with handovers := f.roll.handovers.filter (fun x => x.alias_ != a),
                                            seen := f.roll.seen.filter fun x => !(itType x == itSeat && itNode x == a) } }
    let f := f.verdictNotice 7 9 0 (f.liveNbrs a).length (itLife it) a (itOrigin it) h.real (wd it 1)
    let f := (f.peerDead a).clearPeer a
    match f.rtr.seatSlot a with
    | some i => if seatValid (f.rtr.seats.get i 0) then f.orderSeat i (seatWord false false h.real a) else f
    | none => f

/-! ### Receiving -/

/-- An item arrives on a link: stale items are ignored, and an item is relayed the first time while its TTL allows
(R429). -/
def Fabric.itemRx (f : Fabric) (k : Nat) (it : List Word) : Fabric :=
  let n := itNode it
  let known := f.roll.seen.contains (withTtl it 0)
  if itLife it < (f.roll.node n).life || known then f
  else
    let ttl := itTtl it
    let on := withTtl it (if ttl = 7 then 7 else ttl - 1)
    let relay (g : Fabric) : Fabric := if ttl = 0 then g else g.flood (some k) on
    match itType it with
    | 1 => ((relay (f.seenItem it)).answerVote n).countVote n (itOrigin it) false
    | 2 => (relay (f.seenItem it)).countVote n (itOrigin it) true
    | 3 => f.recordDead (some k) (mkItem verdictDead n (itOrigin it) 7 2 (itLife it) (wd it 1)) 0
    | 4 => if ttl = 0 then f.recordDead1 it 0 else f.recordDead (some k) on 0
    | 5 => (relay (f.seenItem it)).recordAlive it
    | 6 => (relay (f.seenItem it)).recordSeat it
    | 7 => (relay (f.seenItem it)).recordUnseat it
    | _ => f

/-- What a neighbour tells a joining device (R438): every dead node and every seat. -/
def Fabric.brief (f : Fabric) (k : Nat) : Fabric :=
  let dead := f.deadNodes.map fun n => (f.roll.node n).item
  let seats := f.roll.handovers.map fun h => h.item (f.roll.node h.alias_).life
  (dead ++ seats).foldl (fun g it => g.oweItem k it) f

/-- A good heartbeat arrives on a torus link (R221, R429, R438, R440). -/
def Fabric.heartbeatRx (f : Fabric) (k : Nat) (ws : List Word) : Fabric :=
  if k ≥ 6 || f.roll.state = 2 then f
  else
    let w := wd ws 2
    let peer := f.rtr.neighbour k
    let rc := fld w 37 36
    let before := f.roll.peerState.find k
    let r := f.roll
    let f := { f with roll := { r with heard := r.heard.set k f.tick, heardBell := r.heardBell.set k f.bell, misses := r.misses.del k,
                                       period := r.period.set k f.tick, peerState := r.peerState.set k rc } }
    if f.isSpare then f
    else
      let f := { f with bells := { f.bells with roots := f.bells.roots.set k (fld w 61 47, fld w 46 41) } }
      let f := (f.rerootBell).timeMessage k (wn ws 0) (wn ws 1)
      let items := ((List.range (min 2 (fld w 35 34))).map fun i => [wd ws (3 + 2 * i), wd ws (4 + 2 * i)])
      let f := items.foldl (fun g it => g.itemRx k it) f
      if rc = 0 && f.roll.state = 1 then
        let f := if before = some 0 then f else f.brief k
        if f.deadListed peer then f
        else f.oweItem k (mkItem verdictAlive peer f.rtr.node 0 5 (f.roll.node peer).life (w64 f.bell))
      else f

/-- The words of the heartbeat that a device sends now (Table 12.10); on an uplink both Bell counts and every item are zero
(R428). -/
def Fabric.heartbeatWords (f : Fabric) (k : Nat) : List Word :=
  let items := if f.isSpare || k ≥ 6 then [] else (f.roll.owed.get k []).take 2
  let b := f.bells
  [ if k ≥ 6 then 0 else w64 f.bell, if k ≥ 6 then 0 else w64 (f.roll.heardBell.get k 0),
    pack [(63, 62, b.state), (61, 47, b.root), (46, 41, b.depth), (37, 36, f.roll.state), (35, 34, items.length)] ] ++
    takePad 4 items.flatten ++ [0]

/-- A heartbeat may leave in the next slot: it is owed from here on, and fixed-rate mode lets no LCF take the place of a data
flit but in its own slots (R342). -/
def Fabric.mayHeartbeat (f : Fabric) (k : Nat) : Bool :=
  let p := f.port k
  p.state.usable && (!p.fixedNow || p.lcfSlot || !f.flitReady k)

/-- HEARTBEAT_SEND (R428): a heartbeat leaves on a torus link with up to two owed items; an injected silence withholds
it for its periods. -/
def Fabric.heartbeatSend (f : Fabric) (k : Nat) : Fabric :=
  let p := f.port k
  if f.roll.state = 2 || !f.mayHeartbeat k then f
  else if k ≥ 6 then f.putLcf k (some (f.heartbeatWords k))
  else if p.silence > 0 then
    if (f.roll.sent.get k 0) + 3125 ≤ f.tick then
      ({ f with roll := { f.roll with sent := f.roll.sent.set k f.tick } } : Fabric).updPort k fun p => { p with silence := p.silence - 1 }
    else f
  else
    let owed := f.roll.owed.get k []
    let left := owed.drop 2
    let f := f.putLcf k (some (f.heartbeatWords k))
    let f := { f with roll := { f.roll with sent := f.roll.sent.set k f.tick, owed := f.roll.owed.set k left },
                      bells := { f.bells with sent := f.bells.sent.set k ((f.bell :: f.bells.sent.get k []).take 64) } }
    if left.isEmpty then f else f.updPort k fun p => { p.owe f.tick with owedHb := true }

/-- A port sends a link control flit (R340–R342), with the heartbeat that it owes. -/
def Fabric.lcfSend (f : Fabric) (k : Nat) : Fabric :=
  if !f.mayLcf k then f
  else if (f.port k).owedHb && f.roll.state != 2 && (f.port k).silence = 0 then f.heartbeatSend k
  else f.putLcf k none

/-- ROLLCALL_MISS (R431): a period has passed on a torus link with no good heartbeat. -/
def Fabric.rollcallMiss (f : Fabric) (k : Nat) : Fabric :=
  let start := f.roll.period.get k 0
  if k ≥ 6 || f.roll.state = 2 || f.tick < start + 3125 then f
  else
    let n := f.rtr.neighbour k
    let m := f.roll.misses.get k 0 + 1
    let r := f.roll
    let f := { f with roll := { r with misses := r.misses.set k m, period := r.period.set k (start + 3125),
                                       peerState := if 10 ≤ m then r.peerState.del k else r.peerState } }
    if m = 10 && f.roll.state = 1 && !f.isSpare && !f.deadListed n && !f.isSeat n then f.castVote n false else f

/-- TALLY_TIMEOUT (R433). -/
def Fabric.tallyTimeout (f : Fabric) (n : Nat) : Fabric :=
  match f.roll.tallies.find? fun t => t.node == n with
  | some t => if t.opened + 250000 ≤ f.tick then f.closeTally n else f
  | none => f

/-- ISOLATION_TIMEOUT (R437): counted from the last heartbeat heard. -/
def Fabric.isolationTimeout (f : Fabric) : Fabric :=
  let h := f.roll.heard.vals
  if f.roll.state != 2 && !f.isSpare && !h.isEmpty && h.all (fun t => t + 31250 ≤ f.tick) then f.detain 6 else f

/-! ### Commands -/

/-- AON_ROLL (Table 12.17). -/
def Fabric.aonRoll (f : Fabric) : Word :=
  pack [(63, 62, f.roll.state), (47, 32, f.roll.life), (31, 16, f.deadNodes.length),
        (15, 8, (f.rtr.seats.vals.filter seatValid).length), (7, 0, min 255 f.roll.tallies.length)]

/-- The dead bitmap of ROLLCALL_STATUS: 256 words from a node on. -/
def Fabric.deadMap (f : Fabric) (first : Nat) : List Word :=
  let mine := f.deadNodes.filter fun n => first ≤ n && n < first + 16384
  (List.range 256).map fun i =>
    w64 (maskOf ((mine.filter fun n => (n - first) / 64 == i).map fun n => (n - first) % 64))

def rollStatusBody : Body := fun c f =>
  let first := fld (wd c.pay 0) 14 0
  if c.len != 8 || !onlyBits (wd c.pay 0) [(14, 0)] || first % 16384 != 0 then faulted f
  else
    let hs := f.roll.handovers.take 64
    let recs := hs.flatMap fun h =>
      [pack [(14, 0, h.alias_), (29, 15, h.real), (44, 30, h.partner), (46, 45, h.phase), (63, 63, 1)], w64 h.registrar]
    let mine := (f.roll.handovers.filter fun h => h.registrar == f.rtr.node).length
    (f, .done stOk 0 ([f.aonRoll, w64 first, w64 mine, 0] ++ f.deadMap first ++ takePad 128 recs) 3104)

def nodeBody (op : Nat) (srcs : List Nat) (v : Nat) : Body := fun c f =>
  let n := fld (wd c.pay 0) 14 0
  if !fromOf c srcs then denied 0 f
  else if c.len != 8 || !onlyBits (wd c.pay 0) [(14, 0)] then faulted f
  else holdOrder c op [({ block := blkNode, index := n, field := 0 }, v)] f

def rollAdmitBody : Body := nodeBody 0x0803 [32, 33] 1
def rollExpelBody : Body := nodeBody 0x0804 [33, 36] 0

/-- A JOINING heartbeat of a node is heard here; of a node that is no neighbour, this device cannot tell. -/
def Fabric.joiningHeard (f : Fabric) (n : Nat) : Fabric × Bool :=
  match f.portsTo n with
  | [] => let (f, v) := f.draw; (f, v.toNat % 2 == 1)
  | ks => (f, ks.any fun k => f.roll.peerState.find k == some 0)

/-- ROLLCALL_ADMIT takes effect (R439, R440). -/
def Fabric.rollAdmit (f : Fabric) (o : Order) : Fabric :=
  let n := fld (wd o.pay 0) 14 0
  if n = f.rtr.node && f.roll.state = 0 then
    if !f.deadNodes.isEmpty then f.finish o.mbx stBusy
    else (({ f with roll := { f.roll with state := 1, life := 0 } } : Fabric).rerootBell).finish o.mbx stOk 0
  else if f.roll.state != 1 then f.finish o.mbx stBusy
  else if !f.deadListed n then f.finish o.mbx stOk (f.roll.node n).life
  else
    let (f, heard) := f.joiningHeard n
    if !heard then f.finish o.mbx stBusy
    else
      let life := ((f.roll.node n).life + 1) % 65536
      let it := mkItem verdictAlive n f.rtr.node 7 5 life (w64 f.bell)
      ((f.emitItem it).recordAlive it).finish o.mbx stOk life

/-- ROLLCALL_EXPEL takes effect (R441). -/
def Fabric.rollExpel (f : Fabric) (o : Order) : Fabric :=
  let n := fld (wd o.pay 0) 14 0
  let life := (f.roll.node n).life
  if f.deadListed n then f.finish o.mbx stOk life
  else if f.roll.state != 1 then f.finish o.mbx stBusy
  else (f.recordDead none (mkItem verdictDead n f.rtr.node 7 4 life (w64 f.bell)) 0).finish o.mbx stOk life

def substituteBody : Body := fun c f =>
  let w0 := wd c.pay 0
  let w1 := wd c.pay 1
  if !fromOf c [32, 33] then denied 0 f
  else if c.len != 16 || !onlyBits w0 [(2, 0)] || 3 < fld w0 2 0 || !onlyBits w1 [(44, 0)] then faulted f
  else holdOrder c 0x0805 [({ block := blkAlias, index := fld w1 14 0, field := 0 }, 4 * w1.toNat + fld w0 2 0)] f

/-- SUBSTITUTE SEAT at a spare (R275, Table 12.13, step 3). -/
def Fabric.subSeat (f : Fabric) (o : Order) : Fabric :=
  let a := fld (wd o.pay 1) 14 0
  let w := seatWord true true 0 a
  match f.rtr.seatSlot a with
  | none => f.finish o.mbx stFaulted
  | some i =>
    if !f.isSpare || f.seatBad i w then f.finish o.mbx stFaulted
    else (f.setSeat i w).finish o.mbx stOk 0

/-- SUBSTITUTE ANNOUNCE at the registrar (R444, Table 12.13, step 4). -/
def Fabric.subAnnounce (f : Fabric) (o : Order) : Fabric :=
  let w := wd o.pay 1
  let h : HandOver := { alias_ := fld w 14 0, real := fld w 29 15, partner := fld w 44 30, phase := 0, registrar := f.rtr.node }
  let again := match f.roll.handover h.alias_ with
    | some x => x.real == h.real && x.partner == h.partner
    | none => false
  let phase := match f.roll.handover h.alias_ with | some x => x.phase | none => 0
  let h := { h with phase := phase }
  let full := (f.rtr.seatSlot h.alias_).isNone
  let breaks := match f.rtr.seatSlot h.alias_ with
    | some i => f.seatBad i (seatWord true false h.real h.alias_)
    | none => true
  if f.roll.state != 1 || f.isSpare || (!again && (!f.deadListed h.alias_ || full || breaks)) || f.rtr.inside h.real then f.finish o.mbx stFaulted
  else
    let it := h.item (f.roll.node h.alias_).life
    ((f.emitItem it).recordSeat it).finish o.mbx stOk h.phase

/-- SUBSTITUTE COMMIT at the registrar (R445). -/
def Fabric.subCommit (f : Fabric) (o : Order) : Fabric :=
  match f.roll.handover (fld (wd o.pay 1) 14 0) with
  | none => f.finish o.mbx stFaulted
  | some h =>
    if h.registrar != f.rtr.node then f.finish o.mbx stFaulted
    else if h.phase = 1 then f.finish o.mbx stOk 1
    else
      let it := ({ h with phase := 1 } : HandOver).item (f.roll.node h.alias_).life
      ((f.emitItem it).recordSeat it).finish o.mbx stOk 1

/-- SUBSTITUTE RELEASE at the registrar (R442). -/
def Fabric.subRelease (f : Fabric) (o : Order) : Fabric :=
  match f.roll.handover (fld (wd o.pay 1) 14 0) with
  | none => f.finish o.mbx stFaulted
  | some h =>
    if h.registrar != f.rtr.node then f.finish o.mbx stFaulted
    else
      let it := mkItem itUnseat h.alias_ f.rtr.node 7 0 (f.roll.node h.alias_).life 0
      ((f.emitItem it).recordUnseat it).finish o.mbx stOk h.phase

/-- SUBSTITUTE takes effect. -/
def Fabric.substitute (f : Fabric) (o : Order) : Fabric :=
  match fld (wd o.pay 0) 2 0 with
  | 0 => f.subSeat o
  | 1 => f.subAnnounce o
  | 2 => f.subCommit o
  | _ => f.subRelease o

end Sys2Proof.Machine
end

