-- ==== Sys2Proof/Machine/Hang.lean ====
section
/-!
DEFINITION. Progress counters and the hang ladder (R412–R417), the resets of Table 12.4 (R418–R425, R131, R557),
teardown of a context (R426), RESET_LEVEL, HANG_SET, fault injection (R446) and LOG_READ (R448), SRAM errors (R30).
-/
namespace Sys2Proof.Machine

/-- One second, 156,250,000 ref ticks: the window of Table 12.2's repeats. -/
def second : Nat := 156250000

/-- Opcodes that the model gives the ladder's internal orders (R416); no mailbox can name them. -/
def opFence : Nat := 0x10001
def opDevice : Nat := 0x10002
def opRung : Nat := 0x10003

/-- State-object blocks of chapter 12 (R448): reset targets, windows, INJ_POLICY, injections. -/
def blkReset : Nat := 21
def blkWin : Nat := 22
def blkPolicy : Nat := 23
def blkInject : Nat := 24

/-! ### HANG and PARTITION_FAILED -/

/-- One action of the ladder (Table 12.3). -/
structure HangOf where
  trigger : Nat
  action : Nat
  unit : Nat := 0
  part : Nat := 0xFF
  window : Nat := 0
  last : Nat := 0
  work : Word := 0
  deriving DecidableEq, Repr

/-- The unit that REPEATS counts. -/
def HangOf.key (h : HangOf) : Nat := 256 * h.part + h.unit

/-- The notice of an action: source unit TE for an engine, CS for a partition, the port, or the Management Cluster. -/
def HangOf.notice (h : HangOf) (repeats : Nat) : Notice :=
  { part := if h.part = 0xFF then 0 else h.part,
    unit := if h.action = 1 then 1 else if h.action ≤ 3 then 4 else if h.action ≤ 5 then 6 else if h.action = 6 then 7 else 0,
    unitIdx := if h.action ≤ 1 || 4 ≤ h.action then h.unit else 0, code := 3,
    pay := [ pack [(7, 0, h.trigger), (15, 8, h.action), (23, 16, h.unit), (31, 24, h.part), (63, 32, h.window)], w64 h.last, h.work,
             w64 repeats, 0 ] }

/-- Count an action of the ladder: REPEATS of Table 12.3. -/
def Fabric.noteAction (f : Fabric) (h : HangOf) : Fabric × Nat :=
  let keep := (f.ladder.repeats ++ [(h.action, h.key, f.tick)]).filter fun r => f.tick < r.2.2 + second
  ({ f with ladder := { f.ladder with repeats := keep } },
    (keep.filter fun r => r.1 == h.action && r.2.1 == h.key).length)

/-- Write the HANG notice of an action (R417): the partition's ring for its unit, ring 32 otherwise, the error log alone
for the D reset and power cycle rungs. -/
def Fabric.hang (f : Fabric) (h : HangOf) : Fabric :=
  let (f, n) := f.noteAction h
  let note := h.notice n
  if 7 ≤ h.action then f.logAppend (({ note with tick := f.tick } : Notice).words false 0)
  else f.notify (if h.part = 0xFF then 32 else h.part) note

/-- PARTITION_FAILED (Table 12.6). -/
def failedNotice (p phase cause outcome resets lists colls descs start contexts : Nat) : Notice :=
  { part := p, unit := 4, code := 4,
    pay := [ pack [(7, 0, phase), (15, 8, cause), (23, 16, outcome), (31, 24, resets), (63, 32, lists)],
             pack [(63, 32, colls), (31, 0, descs)], w64 start, w64 contexts, 0 ] }

/-! ### Commands that a reset takes with it -/

/-- A transaction served a command of a mailbox. -/
def Purpose.ofMbx (m : Nat) : Purpose → Bool
  | .listHeader x => x == m
  | .groupRead x _ => x == m
  | .emapRead x _ => x == m
  | .trace x => x == m
  | .cmdRead x _ => x == m
  | .cmdWrite x => x == m
  | _ => false

/-- No mailbox: the operation goes on, and what it tells nobody is lost. -/
def noMbx : Nat := 98

/-- Put another mailbox number for m. -/
def moveMbx (m x : Nat) : Nat := if x = m then noMbx else x

/-- Forget the command in a mailbox: its answers and its completion reach no later command of that mailbox. -/
def Fabric.forget (f : Fabric) (m : Nat) : Fabric :=
  let mv := moveMbx m
  let drop (l : List Nat) : List Nat := l.filter (· != m)
  let tx (t : HdpTx) : HdpTx := if t.purpose.ofMbx m then { t with purpose := .ccSnap } else t
  let ask (r : MtlReq) : MtlReq :=
    { r with why := match r.why with | .mark y => .mark (mv y) | .log y => .log (mv y) | .identity y => .identity (mv y) | o => o }
  let part (x : Part) : Part :=
    { x with
        runs := x.runs.map fun r => { r with src := match r.src with | .mailbox y => .mailbox (mv y) | s => s },
        issued := x.issued.map fun i => { i with mbx := mv i.mbx },
        ranges := x.ranges.filter fun o => o.mbx != m,
        walks := x.walks.map fun w => { w with for_ := match w.for_ with | .range y => .range (mv y) | .pin y => .pin (mv y) | o => o },
        tables := x.tables.filter fun t => t.mbx != m,
        reds := x.reds.map fun o => { o with mbx := mv o.mbx },
        lists := x.lists.map fun l => { l with cancelMbx := drop l.cancelMbx },
        ctxs := x.ctxs.map fun e => (e.1, { e.2 with destroyMbx := drop e.2.destroyMbx }),
        eResets := x.eResets.map fun r => { r with mbxs := drop r.mbxs },
        reset := x.reset.map fun r => { r with mbxs := drop r.mbxs } }
  { f with
      hdp := { f.hdp with outstanding := f.hdp.outstanding.map tx, waiting := f.hdp.waiting.map tx },
      parts := f.parts.map (fun e => (e.1, part e.2)),
      drains := f.drains.filter (fun d => d.mbx != m),
      orders := f.orders.filter (fun o => o.mbx != m),
      rtr := { f.rtr with drains := f.rtr.drains.map fun d => { d with order := { d.order with mbx := mv d.order.mbx } } },
      ports := f.ports.map (fun e => (e.1, { e.2 with drainMbxs := drop e.2.drainMbxs })),
      portCtls := f.portCtls.filter (fun c => c.mbx != m),
      scanOps := f.scanOps.map (fun o => { o with mbx := mv o.mbx }),
      lanes := f.lanes.map (fun e => (e.1, { e.2 with scan := e.2.scan.map fun s => { s with mbx := s.mbx.map mv } })),
      flash := { f.flash with writing := f.flash.writing.map (fun s => { s with mbx := mv s.mbx }),
                              held := f.flash.held.map fun h => (mv h.1, h.2) },
      ladder := { f.ladder with injections := f.ladder.injections.filter fun i => i.mbx != m },
      prc := { f.prc with claimOps := f.prc.claimOps.map (fun o => { o with mbx := mv o.mbx }),
                          keyOps := f.prc.keyOps.map fun o => { o with mbx := mv o.mbx } },
      mtl := { f.mtl with logs := f.mtl.logs.filter (fun l => l.mbx != m), out := f.mtl.out.map ask, queue := f.mtl.queue.map ask },
      trc := { f.trc with reads := f.trc.reads.filter (fun r => r.mbx != m), dumps := f.trc.dumps.filter (fun d => d.mbx != m),
                          snaps := f.trc.snaps.filter fun x => x.1 != m } }

/-- The partition that a command in progress acts on, where it acts on one (R557). -/
def Fabric.actsOn (f : Fabric) (m p : Nat) : Bool :=
  let b := f.mbx m
  let group := b.env.opcode / 256
  b.env.own && b.accepted &&
    ((1 ≤ group && group ≤ 4 && b.env.opcode != 0x0304 && tagPart b.env.tag == p) ||
      (b.env.opcode == 0x0800 && fld (wd b.pay 0) 1 0 != 3 && fld (wd b.pay 0) 12 8 == p))

/-! ### Context teardown (R426) -/

/-- Cancel every list of a context and its mailbox-issued descriptors that do not run: one that has not started ends its
command with FAULTED (R139, log entry 102). -/
def Fabric.cancelCtx (f : Fabric) (tag : Nat) : Fabric :=
  let p := tagPart tag
  let f := ((f.part p).lists.filter fun l => l.tag == tag && !l.finished).foldl (fun g l => g.cancelList p l) f
  let idle := (f.part p).issued.filter fun i => i.tag == tag
  let f := f.updPart p fun x => { x with issued := x.issued.filter fun i => i.tag != tag }
  let f := idle.foldl (fun g i => g.endIssued p i stFaulted) f
  let hit (r : Run) : Bool :=
    r.tag == tag && (match r.src with | .mailbox _ => true | .list _ _ => false) &&
      (match r.phase with | .running _ => false | .finishing => false | _ => true)
  (f.updPart p fun x =>
    { x with runs := updWhere x.runs hit fun r => { r with fin := some (r.fin.getD (stSuperseded, 6)), phase := .finishing } }).settleAll p

/-- Steps 1 to 3 of R426. -/
def Fabric.tearDown (f : Fabric) (tag : Nat) : Fabric :=
  let p := tagPart tag
  let f := f.updCtx tag fun c => { c with state := .draining, outTicks := c.outNow f.tick }
  let f := f.cancelCtx tag
  let colls := (f.part p).colls.filter fun c => c.tag == tag && c.fin.isNone
  colls.foldl (fun g c => if c.launched then g.endColl p c.id stLost 7 else g.endColl p c.id stSuperseded 6) f

/-- CTX_DESTROY (Table 3.11). -/
def ctxDestroyBody : Body := fun c f =>
  ctxGate (c.len != 0) 0 c f fun f =>
    let x := f.ctx c.tag
    let wait (f : Fabric) : Fabric := f.updCtx c.tag fun x => { x with destroyMbx := x.destroyMbx ++ [c.mbx] }
    if x.state == .free || x.gen != tagGen c.tag then okay f 0
    else if x.state == .draining then (wait f, .wait)
    else ((wait f).tearDown c.tag, .wait)

/-- Step 4 of R426 is over: nothing of the context is left. -/
def Fabric.ctxIdle (f : Fabric) (tag : Nat) : Bool :=
  let x := f.part (tagPart tag)
  !(x.runs.any fun r => r.tag == tag) && !(x.colls.any fun c => c.tag == tag) && !(x.lists.any fun l => l.tag == tag && !l.finished)

/-- CONTEXT_LINGER_END (R426, steps 5 and 6): the slot becomes FREE and what waited for it completes. CTX_DESTROY
answers whether it started the teardown, a C reset its level. After a CTX_DESTROY the TLB and the walk cache keep the
context's entries, and what it pinned stays pinned, until they are evicted, invalidated or reset (DESIGN CHOICE, log entry
161): R131 removes them for a C and a P reset only. -/
def Fabric.lingerEnd (f : Fabric) (tag : Nat) : Fabric :=
  let p := tagPart tag
  let c := f.ctx tag
  if c.state != .draining || c.gen != tagGen tag || !f.ctxIdle tag || (c.lastClose != 0 && f.tick < c.lastClose + f.rtr.gapTicks) then f
  else
    let f := f.updCtx tag fun _ => { gen := c.gen, retiredGen := c.gen }
    let f := f.updPart p fun x => { x with journals := x.journals.del (tagSlot tag), emaps := x.emaps.filter fun m => m.tag != tag }
    (c.destroyMbx.foldl (fun (st : Fabric × Nat) m =>
      let destroy := (st.1.mbx m).env.opcode == 0x0101
      (st.1.finish m stOk (if destroy then st.2 else 0), if destroy then 0 else st.2)) (f, 1)).1

/-- C reset (R131): translations, pins, advice and segments go, then the teardown of CTX_DESTROY. -/
def Fabric.cReset (f : Fabric) (tag mbx : Nat) : Fabric :=
  let p := tagPart tag
  let c := f.ctx tag
  if c.state == .free || c.gen != tagGen tag then f.finish mbx stOk 0
  else
    let f := f.updCtx tag fun c => { c with segs := [], seals := [], advice := [], destroyMbx := c.destroyMbx ++ [mbx] }
    let f := f.updPart p fun x =>
      { x with tlb := x.tlb.filter (fun e => e.tag != tag), walkCache := x.walkCache.filter (fun e => e.tag != tag),
               walks := updWhere x.walks (fun w => w.tag == tag) fun w => { w with aborted := true } }
    if c.state == .draining then f else f.tearDown tag

/-! ### Engine reset (R419) -/

/-- An E reset starts: the descriptor's requests close, nothing more is issued for it, and the engine's prefetched
translations go (R131). -/
def Fabric.startE (f : Fabric) (p e : Nat) (ladder : Bool) (mbxs : List Nat) : Fabric :=
  let x := f.part p
  if x.eResets.any fun r => r.eng == e then
    f.updPart p fun x => { x with eResets := updWhere x.eResets (fun r => r.eng == e) fun r => { r with mbxs := r.mbxs ++ mbxs } }
  else
    let run := x.onEngine e
    let er : EReset := { eng := e, start := f.tick, hang := x.resetStall.contains e, ladder := ladder, run := run.map (·.id), mbxs := mbxs }
    let f := f.updPart p fun x =>
      { x with eResets := x.eResets ++ [er], resetStall := x.resetStall.filter (· != e),
               stalled := x.stalled.filter (· != e) ++ [e],
               tlb := x.tlb.filter fun y => y.eng != some e || y.pinned || !y.colls.isEmpty,
               walks := updWhere x.walks (fun w => w.for_ == .prefetch e false || w.for_ == .prefetch e true) fun w => { w with aborted := true } }
    match run with
    | none => f
    | some r => (f.closeRequests p r).updRun p r.id fun r => { r with tiles := [], want := none, phase := .finishing }

/-- E_RESET_DONE (R419): the descriptor completes with STATE_LOST, DETAIL RESET. -/
def Fabric.eResetDone (f : Fabric) (p e : Nat) : Fabric :=
  match (f.part p).eResets.find? fun r => r.eng == e with
  | none => f
  | some er =>
    if er.hang then f
    else
      let f := f.updPart p fun x =>
        { x with eResets := x.eResets.filter (fun r => r.eng != e), stalled := x.stalled.filter (· != e),
                 eResetAt := if er.ladder then x.eResetAt.set e f.tick else x.eResetAt }
      let f := match er.run with
        | some id => (f.updRun p id fun r => { r with fin := some (stLost, 7) }).settleAll p
        | none => f
      er.mbxs.foldl (fun g m => g.finish m stOk 1) f

/-! ### Partition reset (Table 12.5) -/

/-- Contexts that are LIVE or SWITCHED_OUT. -/
def Part.liveCtxs (x : Part) : Nat := (x.ctxs.filter fun e => e.2.state == .live || e.2.state == .switchedOut).length

/-- Descriptors that a P reset ends: of lists, those not yet complete; of mailboxes, those issued. -/
def Part.openDescs (x : Part) : Nat :=
  (x.lists.filter fun l => !l.finished).foldl (fun a l => a + (l.count - l.lowest - l.ended.length)) 0 +
    (x.runs.filter fun r => match r.src with | .mailbox _ => true | _ => false).length + x.issued.length

/-- Every descriptor, list and collective of the partition ends (R421). -/
def Fabric.endWork (f : Fabric) (p : Nat) : Fabric :=
  let f := (f.part p).colls.foldl (fun g c =>
    if c.fin.isSome then g
    else if c.launched then g.endColl p c.id stLost 7
    else (g.updColl p c.id fun c => { c with fin := some (stLost, 7), parked := none }).finishColl p c.id) f
  let f := (f.part p).runs.foldl (fun g r => g.closeRequests p r) f
  let running (r : Run) : Bool := match r.phase with | .running _ => true | .finishing => true | _ => false
  let stop (r : Run) : Run :=
    { r with tiles := [], want := none, phase := .finishing, done := if running r then r.done else 0, fin := some (stLost, 7) }
  let idle := (f.part p).issued
  let f := f.updPart p fun x => { x with runs := x.runs.map stop, issued := [], walks := [], eResets := [] }
  let f := idle.foldl (fun g i => g.endIssued p i stLost) f
  let f := f.settleAll p
  ((f.part p).lists.filter fun l => !l.finished).foldl (fun g l =>
    (g.updList p l.id fun l => { l with sweep := some .reset }).stepList p l.id) f

/-- A P reset starts: steps 1 to 4 of Table 12.5. -/
def Fabric.startP (f : Fabric) (p trigger : Nat) (ladder release : Bool) (mbxs : List Nat) : Fabric :=
  let x := f.part p
  match x.reset with
  | some r => f.updPart p fun x => { x with reset := some { r with release := r.release || release, mbxs := r.mbxs ++ mbxs } }
  | none =>
    let recent := x.ladderResets.filter fun t => f.tick < t + second
    let recent := if ladder then recent ++ [f.tick] else recent
    let r : PReset :=
      { start := f.tick, trigger := trigger, ladder := ladder, release := release, mbxs := mbxs,
        lists := x.openLists, colls := x.colls.length, descs := x.openDescs, contexts := x.liveCtxs }
    let f := f.updPart p fun x => { x with draining := true, reset := some r, ladderResets := recent }
    let f := if ladder then
        let n := failedNotice p 1 trigger 0 recent.length 0 0 0 f.tick r.contexts
        (f.notify p n).notify 32 n
      else f
    let f := { f with prc := { f.prc with claimOps := f.prc.claimOps.filter fun o => o.part != p } }
    let hit := (List.range 34).filter fun m => f.actsOn m p && !mbxs.contains m
    let f := (p :: hit).foldl (fun g m => if (p :: hit).contains m && !mbxs.contains m then g.forget m else g) f
    f.endWork p

/-- Complete the commands of R557. -/
def Fabric.loseCommands (f : Fabric) (p : Nat) (keep : List Nat) : Fabric :=
  ((List.range 34).filter fun m => m ≥ 32 && f.actsOn m p && !keep.contains m).foldl (fun g m => (g.forget m).finish m stLost) f

/-- P_RESET_DRAIN_DONE (Table 12.5, step 4; R557). -/
def Fabric.pDrainDone (f : Fabric) (p : Nat) : Fabric :=
  let x := f.part p
  match x.reset with
  | none => f
  | some r =>
    if r.cleared || !x.runs.isEmpty || !x.colls.isEmpty || x.lists.any (fun l => !l.finished) then f
    else (f.loseCommands p r.mbxs).updPart p fun x => { x with reset := some { r with cleared := true } }

/-- The mailbox and the ring registers of a partition are cleared (R73, Table 2.12); the last notices stay for the
crash dump. -/
def Fabric.clearMailbox (f : Fabric) (p : Nat) : Fabric :=
  let f := f.forget p
  { (f.setMbx p {}).setRing p { recent := (f.ring p).recent } with waiting := f.waiting.filter (· != p) }

/-- A claim ends (R463): KEY_EVENT SESSION_END where its session has ended, else RELEASED; the device scrub starts after
the last claim (R464). -/
def Fabric.endClaim (f : Fabric) (p : Nat) : Fabric :=
  let sid := f.prc.claims.get p 0
  let open_ : Bool := match f.prc.sessions.find p with | some s => s.id == sid | none => false
  let claims := f.prc.claims.del p
  let f := { f with prc := { f.prc with claims := claims, scrubbing := claims.isEmpty || f.prc.scrubbing } }
  let f := f.updPart p fun x => { x with claimed := false }
  f.notify p (keyEvent p 0 (if open_ then 0x0A else 0x08) 0xFF 0 sid 0 0 0)

/-- P_RESET_SCRUB_DONE (Table 12.5, steps 5 to 7; R131, R422, R463, R466). -/
def Fabric.pScrubDone (f : Fabric) (p : Nat) : Fabric :=
  let x := f.part p
  match x.reset with
  | none => f
  | some r =>
    if !r.cleared || r.fence.isSome then f
    else
      let new : Part :=
        { claimed := x.claimed, quietUntil := f.tick + f.rtr.gapTicks, nextWalk := x.nextWalk, nextRun := x.nextRun,
          nextList := x.nextList, nextColl := x.nextColl, ladderResets := x.ladderResets, pResets := min 65535 (x.pResets + 1) }
      let others := r.mbxs.filter (· != p)
      let f := ((f.setPart p new).seedNonces p).clearMailbox p
      let f := if r.ladder then
          f.notify 32 (failedNotice p 2 r.trigger 1 (x.ladderResets.filter fun t => f.tick < t + second).length r.lists r.colls r.descs r.start r.contexts)
        else f
      let f := if x.claimed then f.notify p (keyEvent p 0 7 0xFF 0 (f.prc.claims.get p 0) 0 0 0) else f
      let f := if x.claimed && r.release then f.endClaim p else f
      others.foldl (fun g m => g.finish m stOk (if (g.mbx m).env.opcode = 0x0906 then b2n x.claimed else 2)) f

/-- P_RESET_QUIET_END (R422). -/
def Fabric.pQuietEnd (f : Fabric) (p : Nat) : Fabric :=
  if (f.part p).quietUntil ≤ f.tick then f.updPart p fun x => { x with quietUntil := 0 } else f

/-! ### The ladder -/

/-- An order of the ladder (R416): source 36. -/
def Fabric.ladderOrder (f : Fabric) (op : Nat) (pay : List Word) (o : Obj) : Fabric := f.inward 36 op pay [(o, 1)]

/-- Order a D reset: its AON cause, trigger, window and last progress. -/
def Fabric.orderDevice (f : Fabric) (cause trigger window last : Nat) : Fabric :=
  f.ladderOrder opDevice [w64 cause, w64 trigger, w64 window, w64 last] { block := blkReset, index := 0, field := 0 }

/-- Order the fence of a partition. -/
def Fabric.orderFence (f : Fabric) (p : Nat) : Fabric :=
  if f.orders.any fun o => o.opcode == opFence && wn o.pay 0 == p then f
  else f.ladderOrder opFence [w64 p] { block := blkReset, index := 1 + p, field := 1 }

/-- A ladder P reset; the third within a second fences the partition (Table 12.2). -/
def Fabric.ladderP (f : Fabric) (p : Nat) (h : HangOf) : Fabric :=
  if (f.part p).reset.isSome || (f.part p).disabled then f
  else
    let recent := ((f.part p).ladderResets.filter fun t => f.tick < t + second).length
    if 2 ≤ recent then ((f.hang { h with trigger := 7, action := 3 }).startP p 7 true false []).orderFence p
    else (f.hang h).startP p h.trigger true false []

/-- The fence of a partition takes effect: its power is being gated. -/
def Fabric.fence (f : Fabric) (o : Order) : Fabric :=
  f.updPart (wn o.pay 0) fun x => { x with reset := x.reset.map fun r => { r with fence := some f.tick } }

/-- PARTITION_FENCE_DONE (R423). -/
def Fabric.fenceDone (f : Fabric) (p : Nat) : Fabric :=
  let x := f.part p
  match x.reset with
  | none => f
  | some r =>
    if r.fence.isNone then f
    else
      let f := f.loseCommands p r.mbxs
      let f := (f.setPart p
        { disabled := true, claimed := x.claimed, nextWalk := x.nextWalk, nextRun := x.nextRun, nextList := x.nextList, nextColl := x.nextColl,
          ladderResets := x.ladderResets, pResets := min 65535 (x.pResets + 1) }).clearMailbox p
      let f := f.notify 32 (failedNotice p 2 r.trigger 2 (x.ladderResets.filter fun t => f.tick < t + second).length r.lists r.colls r.descs r.start r.contexts)
      let f := if x.claimed then f.endClaim p else f
      (r.mbxs.filter (· != p)).foldl
        (fun g m => if (g.mbx m).env.opcode = 0x0906 then g.finish m stOk (b2n x.claimed) else g.finish m stFaulted) f

/-- PARTITION_FENCE_HUNG: the fault passes to the device rung. -/
def Fabric.fenceHung (f : Fabric) (p : Nat) : Fabric :=
  match (f.part p).reset with
  | some { fence := some t, .. } => if t + 156250 ≤ f.tick then f.orderDevice 3 6 156250 t else f
  | _ => f

/-- P_RESET_HUNG. -/
def Fabric.pHung (f : Fabric) (p : Nat) : Fabric :=
  match (f.part p).reset with
  | none => f
  | some r =>
    if r.fence.isSome || f.tick < r.start + 781250 || f.orders.any (fun o => o.opcode == opFence && wn o.pay 0 == p) then f
    else (f.hang { trigger := 6, action := 3, part := p, window := 781250, last := r.start }).orderFence p

/-- E_RESET_HUNG: 31,250 ref ticks after the E reset started. -/
def Fabric.eHung (f : Fabric) (p e : Nat) : Fabric :=
  match (f.part p).eResets.find? fun r => r.eng == e with
  | none => f
  | some er =>
    if f.tick < er.start + 31250 then f
    else
      let work : Option Word := match er.run with
        | some id => (f.run p id).map fun (r : Run) => f.listIdOf p r.src
        | none => none
      f.ladderP p { trigger := 5, action := 2, unit := e, part := p, window := 31250, last := er.start, work := work.getD 0 }

/-- The engine counter runs for a run (R412, R413). -/
def Fabric.engCounts (f : Fabric) (p : Nat) (r : Run) : Bool :=
  (f.ctx r.tag).state != .switchedOut && !f.hpWaits p r && (r.pageMove || dKind r.words != 6)

/-- ENGINE_PROGRESS_EXPIRE (R412, R415). -/
def Fabric.engineExpire (f : Fabric) (p e : Nat) : Fabric :=
  match (f.part p).onEngine e with
  | none => f
  | some r =>
    if !f.engCounts p r || (f.part p).draining || f.tick < r.lastProgress + f.win.eng then f
    else
      let again : Bool := match (f.part p).eResetAt.find e with | some t => f.tick < t + second | none => false
      let h : HangOf := { trigger := 1, action := 1, unit := e, part := p, window := f.win.eng, last := r.lastProgress, work := f.listIdOf p r.src }
      if again then f.ladderP p { h with trigger := 7, action := 2 } else (f.hang h).startE p e true []

/-- Last progress of a collective sequencer. -/
def Part.lastStep (x : Part) : Nat := (x.colls.filter (·.launched)).foldl (fun a c => max a c.lastProgress) x.csProgress

/-- PARTITION_PROGRESS_EXPIRE (R412, R415). -/
def Fabric.partitionExpire (f : Fabric) (p : Nat) : Fabric :=
  let x := f.part p
  match x.colls.find? (·.launched) with
  | none => f
  | some c =>
    let last := x.lastStep
    if x.draining || f.tick < last + f.win.par then f
    else f.ladderP p { trigger := 2, action := 2, part := p, window := f.win.par, last := last, work := wd c.words 0 }

/-- PORT_PROGRESS_EXPIRE (R412, R413, R415): BOUNCE, or ENABLE 0 at the third expiry within a second. -/
def Fabric.portExpire (f : Fabric) (k : Nat) : Fabric :=
  let p := f.port k
  let old := f.rtr.queue.any fun q => q.out == some k && q.since + f.win.port ≤ f.tick
  if p.state != .active || !old || f.tick < p.progress + f.win.port || p.drainFor.isSome then f
  else
    let exp := (p.expiries ++ [f.tick]).filter fun t => f.tick < t + second
    let off := 3 ≤ exp.length
    let f := f.updPort k fun p => { p with expiries := exp, progress := f.tick }
    let f := f.hang { trigger := if off then 7 else 3, action := if off then 5 else 4, unit := k, window := f.win.port, last := p.progress }
    f.inward 36 opRung [w64 k, w64 (b2n off)] [({ block := blkPort, index := k, field := 0 }, if off then 0 else 3)]

/-- The port rung takes effect. -/
def Fabric.portRung (f : Fabric) (o : Order) : Fabric :=
  let k := wn o.pay 0
  if wn o.pay 1 = 0 then f.bouncePort k .rung []
  else
    let f := f.updPort k fun p => { p with enable := false }
    if (f.port k).state.up then f.drainPort k .off [] else f.leaveUp k .off 0x07

/-! ### Device reset (R424, R425) -/

/-- PAR_STATUS (Table 4.12). -/
def Fabric.parStatus (f : Fabric) (p : Nat) : Word :=
  let x := f.part p
  let n (s : CtxState) : Nat := (x.ctxs.filter fun e => e.2.state == s).length
  if p ≥ f.partCount || x.disabled then 0
  else pack [(52, 48, x.openLists), (37, 32, maskOf ((List.range 6).filter fun e => (x.onEngine e).isSome)), (22, 16, n .live),
             (14, 8, n .switchedOut), (1, 1, b2n x.draining), (0, 0, 1)]

/-- The crash dump (R425). Its length beside what the model holds is open. -/
def Fabric.writeDump (f : Fabric) (cause : Nat) : Fabric :=
  let (f, v) := f.draw
  let d : Dump :=
    { cause := cause, units := min 65536 (v.toNat % 65537),
      records := f.mbxs.filterMap (fun e => e.2.record.map fun r => (e.1, r)),
      parStatus := (List.range f.partCount).map f.parStatus, lnState := (List.range 8).map fun k => (f.port k).stateWord,
      notices := f.rings.map fun e => (e.1, e.2.recent) }
  { f with aon := { f.aon with dump := some d } }

/-- Odd parity of n bits. -/
def oddOnes (v n : Nat) : Bool := (bitsOf v n).length % 2 == 1

/-- The latched straps, in the layout that SMBus STATUS shows them (chapter 16): fields of Table 16.3. -/
structure Straps where
  node : Nat
  len : Nat
  qmap : Nat
  par : Nat
  smba : Nat
  deriving DecidableEq, Repr

def strapsOf (v : Nat) : Straps :=
  let w := w64 v
  { node := fld w 14 0, len := fld w 29 15, qmap := fld w 33 31, par := fld w 35 34, smba := fld w 38 36 }

/-- Axis lengths that the straps give. -/
def Straps.axes (s : Straps) : Nat × Nat × Nat := (s.len / 1024 % 32 + 1, s.len / 32 % 32 + 1, s.len % 32 + 1)

/-- Validity of the straps (R535). A node on any coordinates is inside the machine or is a spare. -/
def Straps.valid (s : Straps) : Bool :=
  let (x, y, z) := s.axes
  oddOnes (s.node + 2 ^ 15 * (s.par % 2)) 16 && oddOnes (s.len + 2 ^ 15 * s.qmap + 2 ^ 18 * s.smba + 2 ^ 21 * (s.par / 2)) 22 &&
    x % 4 == 0 && y % 4 == 0 && z % 8 == 0

/-- Step 3 of Table 11.5: the straps are latched (R534–R536); invalid ones stop the start-up there. -/
def Fabric.latchStraps (f : Fabric) : Fabric :=
  let s := strapsOf f.pins.straps
  let (x, y, z) := s.axes
  let f := { f with rtr := { f.rtr with node := s.node, lx := x, ly := y, lz := z }, aon := { f.aon with stage := 3 } }
  if s.valid then { f with aon := { f.aon with stage := 4 } } else f.faultOn 3

/-- What a D reset leaves (Table 12.4, R19): AON retention SRAM, flash, fuses, the pins, and that a reset happened. -/
def Fabric.afterReset (f : Fabric) (cause : Nat) : Fabric :=
  { p28 := f.p28, free := f.free,
    aon := { f.aon with stage := 0, trial := false, slotB := false, lastCount := 0, dCount := min 65535 (f.aon.dCount + 1),
                        cause := cause, bell := f.bell % 2 ^ 40 },
    flash := { f.flash with writing := none, held := [] },
    pins := { f.pins with faults := [], smbData := [] },
    pwr := { freshFloor := f.pwr.freshFloor },
    prc := { debugFuse := f.prc.debugFuse, fuseSvn := f.prc.fuseSvn, fusedOff := f.prc.fusedOff },
    ladder := { bootFrom := 1 } }

/-- What a V reset leaves (Table 0.5a): flash, fuses and the levels of the pins that drive the device. -/
def Fabric.vReset (f : Fabric) : Fabric :=
  { p28 := f.p28, free := f.free, flash := { f.flash with writing := none, held := [] },
    pins := { powerGood := f.pins.powerGood, rstN := f.pins.rstN, straps := f.pins.straps },
    pwr := { freshFloor := f.pwr.freshFloor },
    prc := { debugFuse := f.prc.debugFuse, fuseSvn := f.prc.fuseSvn, fusedOff := f.prc.fusedOff } }

/-- FAULT_N while the start-up checks run (R379): FCAUSE CHECKING. -/
def Fabric.checking (f : Fabric) : Fabric := f.faultOn 1

/-- The LEAVE item (R424, R434): the next heartbeat of each torus port carries it before every other item. -/
def Fabric.leave (f : Fabric) : Fabric :=
  let me := f.rtr.node
  let it := mkItem itLeave me me 4 0 f.roll.life (w64 f.bell)
  (List.range 6).foldl (fun g k =>
    ({ g with roll := { g.roll with owed := g.roll.owed.set k (it :: g.roll.owed.get k []) } } : Fabric).heartbeatSend k) f

/-- What each lane carried last: it has left the device. -/
def Fabric.onWires (f : Fabric) : Map Lane := f.lanes.map fun e => (e.1, { wire := e.2.wire })

/-- A D reset: dump and LEAVE (not for RST_N or power), then the reset, which takes no slot back from a lane, then start-up from
step 3 where RST_N is high. -/
def Fabric.deviceReset (f : Fabric) (cause : Nat) (dump : Bool) : Fabric :=
  let f := if dump then (f.writeDump cause).leave else f
  let f := ({ f.afterReset cause with lanes := if dump then f.onWires else [] } : Fabric).checking
  if f.pins.rstN && f.pins.powerGood then f.latchStraps else { f with aon := { f.aon with stage := 2 } }

/-- The device rung of the ladder takes effect. -/
def Fabric.ladderDevice (f : Fabric) (o : Order) : Fabric :=
  (f.hang { trigger := wn o.pay 1, action := 7, window := wn o.pay 2, last := wn o.pay 3 }).deviceReset (wn o.pay 0) true

/-- D_RESET_READY_TIMEOUT: the device asks for a power cycle. -/
def Fabric.readyTimeout (f : Fabric) : Fabric :=
  if f.ready || f.ladder.bootFrom = 0 || f.tick < 468750000 then f
  else
    let f := f.hang { trigger := 9, action := 8, window := 468750000 }
    { f with pins := { f.pins with trayReq := true } }

/-! ### RESET_LEVEL and HANG_SET -/

def resetBody : Body := fun c f =>
  let w := wd c.pay 0
  let lv := fld w 1 0
  let p := fld w 12 8
  let e := fld w 18 16
  let allowed := if lv = 3 then fromOf c [32, 33, 36] else c.mbx == p || (c.mbx == 32 && !f.confPart p)
  let obj : Obj :=
    if lv = 3 then { block := blkReset, index := 0, field := 0 }
    else if lv = 2 then { block := blkReset, index := 1 + p, field := 0 }
    else if lv = 1 then { block := blkReset, index := 256 + 8 * p + e, field := 0 }
    else { block := blkReset, index := 65536 + c.tag, field := 0 }
  if !allowed then denied 0 f
  else if c.len != 8 || !onlyBits w [(1, 0), (12, 8), (18, 16)] || e > 5 then faulted f
  else if lv = 0 && tagPart c.tag != p then (if c.mbx == 32 && !f.confPart (tagPart c.tag) then faulted f else denied 0 f)
  else if lv != 3 && (p ≥ f.partCount || (f.part p).disabled) then faulted f
  else if lv != 3 && (f.part p).draining then (f, .done stDraining)
  else holdOrder c 0x0800 [(obj, 1)] f

/-- RESET_LEVEL takes effect (R418). -/
def Fabric.resetLevel (f : Fabric) (o : Order) : Fabric :=
  let w := wd o.pay 0
  let p := fld w 12 8
  match fld w 1 0 with
  | 3 => f.deviceReset 5 true
  | lv =>
    if (f.part p).disabled then f.finish o.mbx stFaulted
    else if (f.part p).draining then f.finish o.mbx stDraining
    else if lv = 2 then f.startP p 0 false false [o.mbx]
    else if lv = 1 then f.startE p (fld w 18 16) false [o.mbx]
    else f.cReset o.tag o.mbx

/-- Ranges of HANG_SET (Table 12.9). -/
def hangBad (len : Nat) (pay : List Word) (gap : Nat) : Bool :=
  let e := fld (wd pay 0) 31 0
  let p := fld (wd pay 0) 63 32
  let k := wn pay 1
  len != 16 || e < 46875 || 3125000 < e || p < max e 312500 || 15625000 < p || k < 15625 || gap - 31250 < k

def hangSetBody : Body := fun c f =>
  let w := wd c.pay 0
  if !fromOf c [32, 33, 36] then denied 0 f
  else if hangBad c.len c.pay f.rtr.gapTicks then faulted f
  else
    holdOrder c 0x0801 [({ block := blkWin, index := 0, field := 0 }, fld w 31 0), ({ block := blkWin, index := 1, field := 0 }, fld w 63 32),
                        ({ block := blkWin, index := 2, field := 0 }, wn c.pay 1)] f

/-- HANG_SET takes effect (R414). -/
def Fabric.hangSet (f : Fabric) (o : Order) : Fabric :=
  let w := wd o.pay 0
  ({ f with win := { eng := fld w 31 0, par := fld w 63 32, port := wn o.pay 1 } } : Fabric).finish o.mbx stOk 0

/-! ### Fault injection (R446, Tables 12.14 and 10.10) -/

def injectPolicyBody : Body := fun c f =>
  let w := wd c.pay 0
  if !fromOf c [33, 36] then denied 0 f
  else if c.len != 8 || !onlyBits w [(7, 0)] then faulted f
  else holdOrder c 0x0806 [({ block := blkPolicy, index := 0, field := 0 }, w.toNat)] f

/-- INJECT_POLICY takes effect. -/
def Fabric.injectPolicy (f : Fabric) (o : Order) : Fabric :=
  ({ f with ladder := { f.ladder with policy := wn o.pay 0 } } : Fabric).finish o.mbx stOk (wn o.pay 0)

def injClass (pay : List Word) : Nat := fld (wd pay 0) 7 0
def injSel (pay : List Word) : Nat := fld (wd pay 0) 15 8
def injUnit (pay : List Word) : Nat := fld (wd pay 0) 18 16
def injPoint (pay : List Word) : Nat := fld (wd pay 0) 27 24
def injLane (pay : List Word) : Nat := fld (wd pay 0) 39 32
def injN (pay : List Word) : Nat := fld (wd pay 0) 47 40

/-- Policy bit of a class (Table 12.14). -/
def injBit (cls : Nat) : Nat := [0, 0, 1, 2, 3, 4, 4, 5, 6, 7].getD cls 0

/-- A field of INJECT_FAULT out of its range. -/
def Fabric.injBad (f : Fabric) (len : Nat) (pay : List Word) : Bool :=
  let cls := injClass pay
  let sel := injSel pay
  let ports := bitsOf sel 8
  let part := sel ≥ f.partCount || (f.part sel).disabled
  len != 32 || !onlyBits (wd pay 0) [(18, 0), (27, 24), (39, 32), (47, 40)] || wd pay 3 != 0 ||
    (match cls with
     | 1 => ports.isEmpty || 3 < injPoint pay || (injPoint pay == 0 && (injN pay < 1 || 16 < injN pay)) ||
        ((injPoint pay == 0 || injPoint pay == 3) && ports.any fun k => 4 * (f.port k).count ≤ injLane pay)
     | 4 => 64 ≤ injLane pay
     | 8 => false
     | 9 => ports.isEmpty || injN pay == 0
     | 5 => part || 5 < injUnit pay
     | 6 => part || 5 < injUnit pay
     | _ => part)

/-- INJECT_FAULT: the spec names no state object that an injection sets. Each accepted injection is an object of its own with
value 1, so two never contradict (DESIGN CHOICE, log entry 42). -/
def injectBody : Body := fun c f =>
  let cls := injClass c.pay
  if !fromOf c [32, 33, 36] then denied 0 f
  else if cls < 1 || 9 < cls then faulted f
  else if f.conf || f.ladder.policy / 2 ^ injBit cls % 2 == 0 then denied 0 f
  else if f.injBad c.len c.pay then faulted f
  else
    let id := (f.mbx c.mbx).env.accept
    holdOrder c 0x0807 [({ block := blkInject, index := id, field := 0 }, 1)] f

/-- The fault itself. -/
def Fabric.doInject (f : Fabric) (pay : List Word) : Fabric :=
  let sel := injSel pay
  let n := injN pay
  let ports := bitsOf sel 8
  let u := injUnit pay
  match injClass pay with
  | 1 =>
    ports.foldl (fun g k =>
      let lane := (g.port k).allLanes.getD (injLane pay) 0
      match injPoint pay with
      | 0 => g.updLane lane fun l => { l with symErrors := n }
      | 1 => g.updPort k fun p => { p with crcInject := true }
      | 2 => g.updPort k fun p => { p with lcfDrop := true }
      | _ => g.updLane lane fun l => { l with lossUntil := some (g.tick + 156250) }) f
  | 2 => { f with ladder := { f.ladder with injectedUe := f.ladder.injectedUe ++ [(sel, false)] } }
  | 3 => { f with ladder := { f.ladder with injectedUe := f.ladder.injectedUe ++ [(sel, true)] } }
  | 4 => { f with ladder := { f.ladder with crcSlices := f.ladder.crcSlices ++ [injLane pay] } }
  | 5 => f.updPart sel fun x => { x with stalled := x.stalled.filter (· != u) ++ [u] }
  | 6 => f.updPart sel fun x => { x with resetStall := x.resetStall.filter (· != u) ++ [u] }
  | 7 => f.updPart sel fun x => { x with csStalled := true }
  | 8 => { f with ladder := { f.ladder with stalledCores := f.ladder.stalledCores ++ [u] } }
  | _ => ports.foldl (fun g k => g.updPort k fun p => { p with silence := n }) f

/-- INJECT_FAULT takes effect: at once, or when the Bell count reaches AT_BELL. -/
def Fabric.injectFault (f : Fabric) (o : Order) : Fabric :=
  if f.conf then f.finish o.mbx stSuperseded
  else if wn o.pay 2 ≤ f.bell then (f.doInject o.pay).finish o.mbx stOk 1
  else { f with ladder := { f.ladder with injections := f.ladder.injections ++ [{ mbx := o.mbx, bell := wn o.pay 2, pay := o.pay }] } }

/-- INJECT_AT_BELL (R446): the injections whose Bell count has come, in order. -/
def Fabric.injectAtBell (f : Fabric) : Fabric :=
  match f.ladder.injections.find? fun i => i.bell ≤ f.bell with
  | none => f
  | some i =>
    (({ f with ladder := { f.ladder with injections := f.ladder.injections.erase i } } : Fabric).doInject i.pay).finish i.mbx stOk 1

/-- R465: entry to confidential mode cancels the injections that wait. -/
def Fabric.cancelInjections (f : Fabric) : Fabric :=
  f.ladder.injections.foldl (fun g i => g.finish i.mbx stSuperseded) { f with ladder := { f.ladder with injections := [] } }

/-! ### SRAM errors (R30, R198, Table 12.2) -/

/-- Count an SRAM error (Tables 15.2 and 15.3). -/
def Fabric.countSram (f : Fabric) (k p : Nat) (ue : Bool) : Fabric :=
  let (u, c) := f.sram.get k (0, 0)
  let f := { f with sram := f.sram.set k (if ue then (min 65535 (u + 1), c) else (u, min (2 ^ 48 - 1) (c + 1))),
                    ladder := { f.ladder with injectedUe := f.ladder.injectedUe.erase (p, ue) } }
  if k = 0 then f.count p fun n => if ue then { n with smUe := min 65535 (n.smUe + 1) } else { n with smCe := min (2 ^ 48 - 1) (n.smCe + 1) }
  else f

/-- SRAM_ERROR: array k of CNT_SRAM, uncorrectable or corrected, the partition for k = 0, what it hits, the block offset
and the syndrome. Table 12.2 orders a D reset for firmware SRAM, Proctor SRAM and the router core; that an uncorrectable
error in a port buffer (k = 1) orders one too is the model's choice (log entry 152). -/
def Fabric.sramError (f : Fabric) (k : Nat) (ue : Bool) (p : Nat) (hit : SramHit) (addr syndrome : Word) : Fabric :=
  if 5 < k || (k = 0 && (p ≥ f.partCount || (f.part p).disabled)) then f
  else
    let f := f.countSram k p ue
    if !ue then f
    else if k = 0 then
      let f := f.notify p (faultNotice p 5 0 0 1 addr syndrome 0)
      match hit with
      | .coll id => f.endColl p id stFaulted 0x13
      | .red id => match (f.part p).reds.find? fun o => o.id == id with | some o => f.endRed p o stFaulted o.exc | none => f
      | .sequencer => f.ladderP p { trigger := 8, action := 2, part := p, last := (f.part p).lastStep }
      | .idle => f
    else
      let f := f.notify 32 (faultNotice 0 0 0 0 1 addr syndrome 0)
      if k = 3 || k = 5 then f else f.orderDevice 4 8 0 f.tick

/-! ### LOG_READ (R448) -/

/-- Bytes 0x18–0x3F of an entry of a confidential partition read zero (Confidential mode). -/
def Fabric.logEntry (f : Fabric) (i : Nat) : List Word :=
  let ws := takePad 8 (f.aon.log.get i [])
  let unit := fld (wd ws 0) 18 16
  let p := fld (wd ws 0) 23 19
  if f.confPart p && 1 ≤ unit && unit ≤ 5 then ws.take 3 ++ zeros 5 else ws

def logReadBody : Body := fun c f =>
  let w := wd c.pay 0
  let n := fld w 21 16
  if !fromOf c [32, 33] then denied (64 * n) f
  else if c.len != 8 || !onlyBits w [(21, 0)] || n < 1 || 62 < n then faulted f
  else
    (f, .done stOk 0 ((List.range n).flatMap fun i => f.logEntry ((fld w 15 0 + i) % 65536)) (64 * n))

/-! ### AON registers (Tables 12.15 to 12.17) -/

def Aon.regs (a : Aon) : List Word :=
  [ pack [(63, 60, a.stage), (56, 56, b2n a.trial), (55, 55, b2n a.slotB), (31, 0, a.lastCount)],
    pack [(63, 48, a.dCount), (47, 40, a.cause), (39, 0, a.bell)],
    pack [(48, 32, a.logCount), (31, 16, a.logNext)],
    match a.dump with
    | some d => pack [(63, 63, 1), (55, 48, d.cause), (16, 0, d.units)]
    | none => 0 ]

/-- AON_STAGE to AON_ROLL. -/
def Fabric.aonRegs (f : Fabric) : List Word :=
  f.aon.regs ++ [pack [(63, 32, f.win.par), (31, 0, f.win.eng)], w64 f.win.port, f.aonRoll]

end Sys2Proof.Machine
end

