-- ==== Sys2Proof/Machine/Startup.lean ====
section
/-!
DEFINITION. Start-up and the calendar check of REFCLK (R377–R384, R388, R389, R534–R537, R541, R542): power-on, RST_N,
calendar windows, the Proctor's image, HDP training, READY, trial boots, brown-out; the watchdog and Management Cluster
restarts (R86, R415); FW_ACTIVATE RESTART (R410).
-/
namespace Sys2Proof.Machine

/-! ### Gates -/

/-- The die is held in one of the states of Table 11.1, or its HDP has stopped for good (R53, R382, R399, R542). -/
def Fabric.frozen (f : Fabric) : Bool :=
  f.clk.state == 2 || f.pins.faults.any fun c => c == 5 || c == 6 || c == 7

/-- Events other than those of power, reset, REFCLK and SMBus can occur: the die runs past step 6 of Table 11.5. -/
def Fabric.live (f : Fabric) : Bool := f.pins.powerGood && f.pins.rstN && 7 ≤ f.aon.stage && !f.frozen

/-- Ref ticks are counted: REFCLK is there and no safe state holds. -/
def Fabric.counting (f : Fabric) : Bool := f.pins.powerGood && f.pins.rstN && 4 ≤ f.aon.stage && !f.frozen

/-! ### Power and RST_N -/

/-- POWER_ON (R541, V reset): everything but flash, fuses and pins is new. An early RST_N takes effect now. -/
def Fabric.powerOn (f : Fabric) : Fabric :=
  let v := f.vReset
  let g := ({ v with aon := { stage := 1 }, pins := { v.pins with powerGood := true } } : Fabric).checking
  if g.pins.rstN then g.latchStraps else g

/-- RST_N_ASSERT (R54): a D reset with no dump and no LEAVE. -/
def Fabric.rstAssert (f : Fabric) : Fabric :=
  if !f.pins.rstN then f
  else
    let f := { f with pins := { f.pins with rstN := false } }
    if f.pins.powerGood then f.deviceReset 1 false else f

/-- RST_N_RELEASE (R534): the straps are latched and start-up begins. -/
def Fabric.rstRelease (f : Fabric) (straps : Nat) : Fabric :=
  if f.pins.rstN then f
  else
    let f := { f with pins := { f.pins with rstN := true, straps := straps } }
    if f.pins.powerGood then f.latchStraps else f

/-- BROWNOUT (R542): the safe states; of VAON or VIO, a V reset, which also clears AON retention SRAM and withdraws the
alerts and the power request (R553). -/
def Fabric.brownout (f : Fabric) (retention : Bool) : Fabric :=
  if !f.pins.powerGood then f
  else
    if retention then f.vReset.faultOn 6 else f.safeStates.faultOn 6

/-- BROWNOUT_RECOVERY (R542): a D reset with CAUSE POWER_ON, then start-up from step 3. -/
def Fabric.brownoutEnd (f : Fabric) : Fabric := if f.pins.faults.contains 6 then f.deviceReset 0 false else f

/-! ### Images -/

/-- Step 5 of Table 11.5 begins on a slot. -/
def Fabric.bootSlot (f : Fabric) (slot : Nat) (trial : Bool) : Fabric :=
  { f with aon := { f.aon with stage := 5, trial := trial, slotB := slot == 1 },
           prc := { f.prc with slot := slot, trial := trial, measured := false },
           ladder := { f.ladder with bootAt := f.tick } }

/-- The slot that step 5 reads: the staged one where it is marked TRIAL, else the active one, but not one marked failed
while the other is not. -/
def Fabric.beginBoot (f : Fabric) : Fabric :=
  let w := f.flash
  match w.trialNext, w.staged with
  | true, some s => ({ f with flash := { w with trialNext := false } } : Fabric).bootSlot s true
  | _, _ => f.bootSlot (if w.failed.contains w.active && !w.failed.contains (1 - w.active) then 1 - w.active else w.active) false

/-- A slot cannot boot (R389): it is marked failed, and the other slot boots; with neither, the device stays at step 5. -/
def Fabric.bootOther (f : Fabric) : Fabric :=
  let s := f.prc.slot
  let failed := if f.flash.failed.contains s then f.flash.failed else f.flash.failed ++ [s]
  let f := { f with flash := { f.flash with failed := failed }, ready := false, ladder := { f.ladder with rolledBack := true, restarting := false } }
  if failed.contains (1 - s) then ({ f with aon := { f.aon with stage := 5 } } : Fabric).faultOn 4
  else f.bootSlot (1 - s) false

/-- What firmware takes from the boot configuration record (R387, R351). -/
def Fabric.takeRecord (f : Fabric) : Fabric :=
  let b := f.flash.record
  let (cap, tj, trip, icc) := recordPower b
  let f := { f with pwr := { f.pwr with cap := cap, tjThrottle := tj, tjTrip := trip, iccLimit := icc, pmbus := recordPmbus b },
                    prc := { f.prc with bootRecord := if recordOk b then b else [] },
                    rtr := { f.rtr with base := min 64 (131072 / max 1 (f.rtr.size - 1)) } }
  f.takeMap

/-- Step 7: blind bring-up starts on every port that the map gives quads. -/
def Fabric.bringUp (f : Fabric) : Fabric :=
  (List.range 8).foldl (fun g k =>
    if (g.port k).count = 0 then g
    else if g.outOfRack k then g
    else if (g.port k).state == .off then g.toState k .quiet else g) f

/-- PROCTOR_IMAGE_LOADED (R452, R453): the slot's image, as read, and the verdict of its signatures. -/
def Fabric.imageLoaded (f : Fabric) (ok : Bool) (img : Image) : Fabric :=
  if f.aon.stage != 5 || f.prc.measured || f.frozen then f
  else
    let s := f.prc.slot
    let img := (f.flash.slots.find s).getD img
    let f := { f with flash := { f.flash with slots := f.flash.slots.set s img } }
    if ok && imageForm img f.prc.fuseSvn then
      let again := f.hdp.trained
      let f := { f with prc := { f.prc with running := img, measured := true } }
      if again then { f.newEpoch with aon := { f.aon with stage := 8 } }
      else
        let f := f.takeRecord
        ({ f with aon := { f.aon with stage := 7 } } : Fabric).bringUp
    else f.bootOther

/-- TRIAL_BOOT_TIMEOUT (R389). -/
def Fabric.trialTimeout (f : Fabric) : Fabric :=
  if f.prc.trial && !f.ready && 5 ≤ f.aon.stage && f.ladder.bootAt + 312500000 ≤ f.tick then f.bootOther else f

/-! ### REFCLK -/

/-- A REFCLK fault (R380–R382). -/
def Fabric.refclkFault (f : Fabric) : Fabric :=
  let f := (f.safeStates).faultOn 2
  { f with clk := { f.clk with state := 2, windowOpen := false, winBefore := 0 } }

/-- The first window that passes at start-up (R379): counting is sound, and step 5 begins. -/
def Fabric.windowPass (f : Fabric) (count cal : Nat) : Fabric :=
  let f := f.faultOff 1
  ({ f with clk := { f.clk with state := 1, passCount := count, passTick := f.tick, bellMark := f.bell, calMark := cal } } : Fabric).beginBoot

/-- Step 1 of Table 11.2 (R384). -/
def Fabric.clockReturn (f : Fabric) (count cal : Nat) : Fabric :=
  let away := cal - f.clk.calMark
  let bell := max f.bell ((f.clk.bellMark + away * 19531250 / 4096) % 2 ^ 64)
  { f with bell := bell, bells := { f.bells with state := 2, good := 0 }, hdp := { f.hdp with trained := false },
           clk := { f.clk with lastCal := away % 2 ^ 32, passCount := count, bellMark := bell, calMark := cal, returning := true } }

/-- CALENDAR_MARK (R378–R380, R383, R499): edges since the last mark. The first mark only opens a window, and no window
completes while the Meter Link is lost. The mark's CAL is the last one + 4,096 until its TICK arrives (R498). -/
def Fabric.calendarMark (f : Fabric) (count : Nat) : Fabric :=
  if !f.pins.powerGood || !f.pins.rstN || f.aon.stage < 4 || f.pins.faults.contains 5 then f
  else
    let cal := (f.mtl.cal + 4096) % 2 ^ 64
    let f := { f with mtl := { f.mtl with lastMark := f.tick, cal := cal, calBell := f.bell } }
    if !f.clk.windowOpen || f.mtl.lost then { f with clk := { f.clk with windowOpen := !f.mtl.lost } }
    else
      let pass := 19525391 ≤ count && count ≤ 19537109
      let c := f.clk
      let f := { f with clk := { c with lastCount := count, windows := c.windows + 1, winBefore := if pass then c.winBefore else c.winBefore + 1 },
                        aon := { f.aon with lastCount := count } }
      match c.state with
      | 0 => if pass then f.windowPass count cal else f
      | 1 => if pass then { f with clk := { f.clk with bellMark := f.bell, calMark := cal } } else f.refclkFault
      | _ => if pass && !c.returning then f.clockReturn count cal else f

/-- REFCLK_EDGE_GAP (R381): at start-up the window is abandoned; later it is a REFCLK fault. -/
def Fabric.edgeGap (f : Fabric) : Fabric :=
  if !f.pins.powerGood || !f.pins.rstN || f.pins.faults.contains 5 then f
  else if f.clk.state = 1 then f.refclkFault
  else { f with clk := { f.clk with windowOpen := false, returning := false } }

/-- Steps 3 to 5 of Table 11.2. -/
def Fabric.finishReturn (f : Fabric) : Fabric :=
  let before := f.clk.before
  let f := f.faultOff 2
  let f := { f with clk := { f.clk with state := 1, returning := false, losses := min 255 (f.clk.losses + 1), before := [] } }
  let f := (List.range 8).foldl (fun g k =>
    let old := before.get k .off
    let g := ((g.discardPort k).updPort k Port.linkDown).toState k .off
    if old == .off then g else g.linkNotice k old .off 8 0 0) f
  let f := f.rechoose.detain 7
  (f.notify 32 (f.updateNotice 6 0 f.clk.lastCal)).flashReturn

/-- HDP_TRAINING_DONE (R51, R53): the data wires that the tests of both dies found failed, by slice: device to host, and
host to device. A training at a reset starts with nothing retired; after a REFCLK fault retired slices stay retired, and
what was unacknowledged is sent again (Table 11.2, step 2). -/
def Fabric.hdpTrained (f : Fabric) (outFailed inFailed : List (Nat × List Nat)) : Fabric :=
  let boot := f.aon.stage == 7 && !f.hdp.trained && f.clk.state == 1
  if !(boot || f.clk.returning) || f.pins.faults.any (fun c => c == 5 || c == 6 || c == 7) then f
  else
    let h := if boot then ({ f.hdp with retired := [], repair := [], buf := [], asked := [], again := [] } : Hdp).train outFailed inFailed
      else (f.hdp.train outFailed inFailed).resendAll
    let h := { h with window := f.tick }
    let f := { f with hdp := h }
    if h.retired.length > 16 then ({ f with hdp := { h with stopped := true } } : Fabric).faultOn 5
    else if boot then { f with aon := { f.aon with stage := 8 } }
    else f.finishReturn

/-! ### READY -/

/-- Accept the commands that waited (R71), in the order of their OWN writes. -/
def Fabric.acceptWaiting (f : Fabric) (take : Fabric → Nat → Fabric) : Fabric :=
  f.waiting.foldl take { f with waiting := [] }

/-- The ready notice (R388, Table 11.16). -/
def Fabric.bootNotice (f : Fabric) : Notice :=
  f.updateNotice (if f.ladder.rolledBack then 5 else 1) (min 2 f.aon.cause) (f.tick - f.clk.passTick)

/-- A trial slot has reached READY (R389, R454). -/
def Fabric.commitTrial (f : Fabric) : Fabric :=
  if !f.prc.trial then f
  else
    let s := f.prc.slot
    let img := f.prc.running
    let svn := if img.commit then max f.prc.fuseSvn img.svn else f.prc.fuseSvn
    ({ f with flash := { f.flash with active := s, staged := if f.flash.staged == some s then none else f.flash.staged },
              prc := { f.prc with trial := false, fuseSvn := svn }, aon := { f.aon with trial := false } } : Fabric).newEpoch

/-- FIRMWARE_READY (R71, R388, R389): the version is the running image's. -/
def Fabric.firmwareReady (f : Fabric) (take : Fabric → Nat → Fabric) : Fabric :=
  if f.aon.stage != 8 || f.ready || !f.prc.measured || !f.hdp.trained || f.frozen then f
  else
    let v := f.prc.running.version
    let f := { f with abi := v / 2 ^ 24, major := v / 2 ^ 16 % 256, minor := v % 65536, ready := true, aon := { f.aon with stage := 10 } }
    let f := if f.isSpare then { f with roll := { f.roll with state := 1 } } else f
    let n := f.bootNotice
    let f := if (f.ring 32).enable then f.notify 32 n
      else { f.alert 7 with ladder := { f.ladder with bootHeld := some (w64 f.tick :: n.pay) }, trc := f.trc.sawNotice 9 }
    f.commitTrial.acceptWaiting take

/-! ### Watchdog and Management Cluster restarts (R86, R412, R415) -/

/-- Commands that firmware has accepted and not completed. -/
def Fabric.inProgress (f : Fabric) : List Nat := (f.mbxs.filter fun e => e.2.env.own && e.2.accepted).map Prod.fst

/-- The Management Cluster stops and restarts; the commands in progress are lost. -/
def Fabric.restartCluster (f : Fabric) (keep : List Nat) : Fabric :=
  { f with ladder := { f.ladder with restarting := true, lost := f.inProgress.filter fun m => !keep.contains m, stalledCores := [] } }

/-- WATCHDOG_EXPIRE of a core. -/
def Fabric.watchdogExpire (f : Fabric) (core : Nat) : Fabric :=
  if !f.prc.measured || f.aon.stage < 6 || f.ladder.restarting || 7 < core then f
  else if f.prc.trial && !f.ready then f.bootOther
  else
    let again : Bool := match f.ladder.lastRestart with | some t => f.tick < t + second | none => false
    if again then f.orderDevice 2 7 7812500 (f.tick - 7812500)
    else
      let f := f.hang { trigger := 4, action := 6, unit := core, window := 7812500, last := f.tick - 7812500 }
      let f := { f with ladder := { f.ladder with lastRestart := some f.tick }, prc := { f.prc with restarts := min 65535 (f.prc.restarts + 1) } }
      f.restartCluster []

/-- MC_RESTART_DONE (R86): FAULT FW_RESTART, the lost commands end with STATE_LOST, and waiting ones are accepted. -/
def Fabric.restartDone (f : Fabric) (take : Fabric → Nat → Fabric) : Fabric :=
  if !f.ladder.restarting then f
  else
    let f := f.notify 32 (faultNotice 0 7 0 0 5 0 0 0)
    let f := f.ladder.lost.foldl (fun g m => (g.forget m).finish m stLost) f
    let act := f.ladder.activated
    let f := { f with ladder := { f.ladder with restarting := false, lost := [], activated := false } }
    let f := if act then
        let v := f.prc.running.version
        let f := { f with major := v / 2 ^ 16 % 256, minor := v % 65536 }
        f.notify 32 (f.updateNotice 4 0 0)
      else f
    f.acceptWaiting take

/-- FW_ACTIVATE RESTART (R410, Table 13.10). -/
def Fabric.activateRestart (f : Fabric) (mbx : Nat) : Fabric × Reply :=
  match f.flash.staged with
  | none => faulted f
  | some s =>
    let img := f.flash.slots.get s {}
    if img.version / 2 ^ 24 != f.abi || !f.prc.claims.isEmpty then faulted f
    else
      let svn := if img.commit then max f.prc.fuseSvn img.svn else f.prc.fuseSvn
      let f := { f with flash := { f.flash with active := s, staged := none, trialNext := false },
                        prc := { f.prc with running := img, slot := s, sessions := [], conns := [], fuseSvn := svn },
                        aon := { f.aon with slotB := s == 1 }, ladder := { f.ladder with activated := true } }
      okay (f.newEpoch.restartCluster [mbx]) s

def fwActivateBody : Body := fun c f =>
  let w := wd c.pay 0
  if !fromOf c [32] then denied 0 f
  else if c.len != 8 || !onlyBits w [(0, 0)] then faulted f
  else if bit w 0 then f.activateRestart c.mbx
  else f.activateAtReset

end Sys2Proof.Machine
end

