-- ==== Sys2Proof/Machine/Proctor.lean ====
section
/-!
DEFINITION. The Proctor (chapter 13): report cards, SPDM connections and sessions, key slots, seal bindings, claims and
confidential mode, KEY_STATUS and DEBUG_UNLOCK.
-/
namespace Sys2Proof.Machine

/-- The codes of a text's characters. -/
def ascii (s : String) : List Nat := s.toList.map Char.toNat

/-! ### The report card (Tables 13.2 and 13.3) -/

/-- Logical partitions stand for the physical ones that are not fused off, in ascending order (R3). -/
def physicalOf (fusedOff p : Nat) : Nat := ((List.range 32).filter fun i => fusedOff / 2 ^ i % 2 == 0).getD p 0

/-- A partition entry. -/
def Fabric.cardEntry (f : Fabric) (p : Nat) : Word :=
  if f.partCount ≤ p then 0
  else
    let x := f.part p
    let state := if x.disabled then 3 else if x.reset.isSome then 2 else 1
    let keys := if x.disabled then 0 else (x.keys.filter fun e => e.2.loaded).length
    pack [(55, 48, keys), (47, 16, f.prc.claims.get p 0), (11, 11, b2n x.claimed), (10, 8, state), (4, 0, physicalOf f.prc.fusedOff p)]

/-- STAGED_STATE: 0 NONE, 1 WRITING, 2 VERIFIED. -/
def Fabric.stagedState (f : Fabric) : Nat :=
  let writes : Bool := match f.flash.writing with | some s => s.pend == 0 | none => false
  if writes then 1 else if f.flash.staged.isSome then 2 else 0

/-- The verified staged image. -/
def Fabric.stagedImage (f : Fabric) : Option Image :=
  if f.stagedState = 2 then f.flash.staged.map fun s => f.flash.slots.get s {} else none

/-- SHA-384 of an image as loaded (R453). -/
def Image.digest (i : Image) : List Word := takePad 6 (Config.sha384 (bytesOf i.words i.len))

/-- MBX_ID (Table 2.8), of stepping B0. -/
def Fabric.mbxId (f : Fabric) : Word := pack [(63, 48, 0x0192), (47, 40, 0xB0), (39, 32, b2n f.p28), (31, 0, f.idVersion)]

/-- Bytes 0x000–0x26F of a report card (R455). -/
def Fabric.cardBody (f : Fabric) (nonce : List Word) : List Word :=
  let p := f.prc
  let flags := pack [(0, 0, b2n f.conf), (1, 1, b2n p.debugFuse), (2, 2, b2n p.debugNow), (3, 3, b2n p.trial),
                     (4, 4, b2n f.flash.trialNext), (6, 5, f.stagedState)]
  let staged := f.stagedImage
  [ pack [(31, 0, 0x44524352), (47, 32, 1), (63, 48, 720)], pack [(63, 32, fld f.mbxId 63 32)] ] ++ takePad 4 nonce ++
    [ w64 f.bell, pack [(31, 0, p.epoch), (47, 32, p.restarts), (63, 48, flags.toNat)] ] ++
    takePad 6 (Config.fuseWords 1) ++ p.running.digest ++
    [ pack [(31, 0, p.running.version), (39, 32, p.running.svn), (47, 40, p.fuseSvn), (55, 48, p.slot)] ] ++
    (match staged with
      | some i => i.digest ++ [pack [(31, 0, i.version), (39, 32, i.svn)]]
      | none => zeros 7) ++
    (if p.bootRecord.isEmpty then zeros 6 else takePad 6 (Config.sha384 p.bootRecord)) ++
    takePad 6 (Config.fuseDigest p.fuseSvn p.fusedOff p.debugFuse) ++ takePad 6 (Config.fuseWords 2) ++
    (List.range 32).map f.cardEntry

/-- A signed report card (R455). -/
def Fabric.card (f : Fabric) (nonce : List Word) : List Word :=
  let b := f.cardBody nonce
  b ++ takePad 12 (Config.identitySign (bytesOf b 0x270))

/-! ### The gate of Tables 13.12 and 13.17 -/

/-- A source that the table does not admit is a violation; the mailbox of a draining partition answers DRAINING (Table
13.11); a malformed payload is FAULTED (R482). -/
def prcGate (admitted bad : Bool) (respLen : Nat) (c : Cmd) (f : Fabric) (k : Fabric → Fabric × Reply) : Fabric × Reply :=
  if !admitted then denied respLen f
  else if c.mbx < 32 && (f.part c.mbx).draining then (f, .done stDraining)
  else if bad then faulted f
  else k f

/-- The mailbox's partition is claimed under the session that the mailbox holds. -/
def Fabric.inSession (f : Fabric) (m : Nat) : Bool :=
  (f.part m).claimed && match f.prc.sessions.find m, f.prc.claims.find m with
    | some s, some i => s.id == i
    | _, _ => false

/-- REPORT_CARD_GET (R455, R479). -/
def reportCardBody : Body := fun c f =>
  prcGate (c.mbx ≤ 33) (c.tag != 0 || c.len != 32) 720 c f fun f => (f, .done stOk 0 (f.card (takePad 4 c.pay)) 720)

/-! ### SPDM (R457–R461, Tables 13.4 and 13.5) -/

/-- Request codes of SPDM 1.3 for the requests of Table 13.4. -/
def spdmCodes : List Nat := [0x84, 0xE1, 0xE3, 0x81, 0x82, 0x83, 0xE0, 0xE4, 0xE5, 0xE8, 0xE9, 0xEC]

/-- An ERROR message: ErrorCode and error data. -/
def spdmError (code data : Nat) : Nat × List Word := (4, [pack [(7, 0, 0x13), (15, 8, 0x7F), (23, 16, code), (31, 24, data)]])

/-- The session of a mailbox ends, and its claim with it through a P reset (R461, R463). -/
def Fabric.endSession (f : Fabric) (m : Nat) : Fabric :=
  if (f.prc.sessions.find m).isNone then f
  else
    let f := { f with prc := { f.prc with sessions := f.prc.sessions.del m } }
    if m < 32 && (f.prc.claims.find m).isSome then f.startP m 0 false true [] else f

def Fabric.setConn (f : Fabric) (m n : Nat) : Fabric := { f with prc := { f.prc with conns := f.prc.conns.set m n } }

def Fabric.setSession (f : Fabric) (m : Nat) (s : Session) : Fabric := { f with prc := { f.prc with sessions := f.prc.sessions.set m s } }

/-- The code of a request: byte 1 of an SPDM message. -/
def spdmCode (req : List Word) : Nat := fld (wd req 0) 15 8

/-- Answer one SPDM request of a mailbox, plain or in its session: the response's length and words. -/
def Fabric.spdmRequest (f : Fabric) (m : Nat) (secured : Bool) (req : List Word) : Fabric × Nat × List Word :=
  let code := spdmCode req
  let r := Config.spdmBody code req (f.cardBody [])
  let answer : Nat × List Word := (max 4 (min 3984 r.1), r.2)
  let conn := f.prc.conns.get m 0
  let bad := (f, spdmError 4 code)
  let plain (need next : Nat) : Fabric × Nat × List Word :=
    if secured || conn < need then bad else (f.setConn m next, answer)
  let data : Fabric × Nat × List Word := if conn < 3 then bad else (f, answer)
  let inSession (want : Nat) (g : Session → Session) : Fabric × Nat × List Word :=
    match f.prc.sessions.find m with
    | some s => if secured && s.state = want then (f.setSession m (g s), answer) else bad
    | none => bad
  if !spdmCodes.contains code then (f, spdmError 7 code)
  else match code with
    | 0x84 => plain 0 1
    | 0xE1 => plain 1 2
    | 0xE3 => plain 2 3
    | 0x83 => if secured then bad else data
    | 0xE4 =>
      if (f.prc.sessions.find m).isSome then (f, spdmError 0x0A 0)
      else if secured || conn < 3 then bad
      else
        let (f, ws) := f.randomBits
        let id := fld (wd req 0) 47 32 + 65536 * fld (wd ws 0) 15 0
        (f.setSession m { id := id, last := f.tick, secret := Config.exportSecret req ws }, answer)
    | 0xE5 => inSession 1 fun s => { s with state := 2 }
    | 0xE8 => inSession 2 id
    | 0xE9 => inSession 2 fun s =>
        let op := fld (wd req 0) 23 16
        { s with reqKeys := s.reqKeys + b2n (op == 1 || op == 2), rspKeys := s.rspKeys + b2n (op == 2) }
    | 0xEC => inSession 2 id
    | _ => data

/-- A frame of Table 13.5 whose zero fields and LENGTH are right. -/
def frameOk (len : Nat) (pay : List Word) : Bool :=
  let w := wd pay 0
  let n := fld (wd pay 2) 15 0
  onlyBits w [(0, 0), (63, 32)] && onlyBits (wd pay 2) [(15, 0)] && wd pay 3 == 0 && 4 ≤ n && n ≤ 4000 && len == 32 + n &&
    (bit w 0 || (fld w 63 32 == 0 && wd pay 1 == 0))

/-- Name a request in its message. -/
def withCode (req : Option Nat) (ws : List Word) : List Word :=
  match req, ws with
  | some c, w :: ws => pack [(7, 0, fld w 7 0), (15, 8, c), (63, 16, fld w 63 16)] :: ws
  | _, ws => ws

/-- A secured frame (R459, R460): one that fails its SEQ_NUM or its MAC is dropped. -/
def Fabric.spdmSecured (f : Fabric) (m n : Nat) (req : Option Nat) (hdr body : List Word) : Fabric × Reply :=
  let drop := (f, Reply.done stOk)
  match f.prc.sessions.find m with
  | none => drop
  | some s =>
    if s.id != fld (wd hdr 0) 63 32 || s.reqSeq != wn hdr 1 || n < 20 then drop
    else match Config.spdmOpen s.secret s.reqKeys hdr body with
      | none => drop
      | some pt =>
        let pt := withCode req pt
        let f := f.setSession m { s with last := f.tick, reqSeq := s.reqSeq + 1, rspSeq := s.rspSeq + 1 }
        let (f, len, ws) := f.spdmRequest m true pt
        let out := [pack [(0, 0, 1), (63, 32, s.id)], w64 s.rspSeq, w64 (len + 16), 0]
        let sealed_ := takePad (ceilDiv (len + 16) 8) (Config.spdmSeal s.secret s.rspKeys out (takePad (ceilDiv len 8) ws))
        let f := if spdmCode pt == 0xEC && s.state == 2 then f.endSession m else f
        (f, .done stOk 0 (out ++ sealed_) (48 + len))

/-- SPDM_MSG; `req` names the request that the frame carries, where the command names one. -/
def spdmBodyOf (req : Option Nat) : Body := fun c f =>
  prcGate (c.mbx ≤ 33) (c.tag != 0 || !frameOk c.len c.pay) 0 c f fun f =>
    let n := fld (wd c.pay 2) 15 0
    let body := takePad (ceilDiv n 8) (c.pay.drop 4)
    if bit (wd c.pay 0) 0 then f.spdmSecured c.mbx n req (takePad 4 c.pay) body
    else
      let (f, len, ws) := f.spdmRequest c.mbx false (withCode req body)
      (f, .done stOk 0 ([0, 0, w64 len, 0] ++ takePad (ceilDiv len 8) ws) (32 + len))

/-- SPDM_SESSION_TIMEOUT (R459). -/
def Fabric.sessionTimeout (f : Fabric) (m : Nat) : Fabric :=
  match f.prc.sessions.find m with
  | some s => if s.last + 18750000000 ≤ f.tick then f.endSession m else f
  | none => f

/-! ### Keys (R467–R471, R478) -/

/-- WK of a session (R468). -/
def wrapKey (secret : List Word) : List Word := takePad 4 (Config.hmac384 secret (ascii "FX-192 key wrap"))

/-- The key of generation g of a SEAL slot (R469). -/
def sealKey (domain : List Word) (g : Nat) : List Word :=
  takePad 4 (Config.hmac384 (Config.fuseWords 0) (ascii "FX-192 seal" ++ bytesOf (takePad 4 domain) 32 ++ [g]))

/-- Install a generation in a LOADED slot (R470): the slot and the generation that is destroyed. -/
def KeySlot.install (k : KeySlot) (gen : Nat) (key : List Word) : KeySlot × Option Nat :=
  ({ k with gen := gen, key := key, retiring := some (k.gen, k.key), sealedPages := 0 }, k.retiring.map Prod.fst)

/-- A side of a tile resolved a generation of a key slot. -/
def Sealing.resolved (s : Option Sealing) (slot gen : Nat) : Bool :=
  match s with
  | some s => s.slot == slot && s.gen == gen && !s.key.isEmpty
  | none => false

/-- Put a changed key slot; the command waits for the tiles that resolved the destroyed generation (R478). -/
def Fabric.putKey (f : Fabric) (m slot : Nat) (k : KeySlot) (gone : Option Nat) : Fabric × Reply :=
  let tiles := match gone with
    | some g => (f.tilesWhere m fun _ t => Sealing.resolved t.srcSeal slot g || Sealing.resolved t.dstSeal slot g).map Prod.snd
    | none => []
  let f := f.updPart m fun x => { x with keys := x.keys.set slot k }
  if tiles.isEmpty then okay f k.gen
  else ({ f with prc := { f.prc with keyOps := f.prc.keyOps ++ [{ mbx := m, part := m, gen := k.gen, tiles := tiles }] } }, .wait)

/-- KEY_EVENT of a key command (Table 13.18). -/
def Fabric.keyNotice (f : Fabric) (m reason slot gen : Nat) : Fabric :=
  f.notify m (keyEvent m 0 reason slot gen (f.prc.claims.get m 0) 0 (f.mbx m).env.cmdId 0)

/-- KEY_WRAP_LOAD (R468–R470, Table 13.8). -/
def keyWrapLoadBody : Body := fun c f =>
  let w0 := wd c.pay 0
  let m := c.mbx
  let bad := c.tag != 0 || c.len != 80 || !onlyBits w0 [(3, 0), (8, 8), (23, 16)] || !onlyBits (wd c.pay 1) [(31, 0)] || !onlyBits (wd c.pay 3) [(31, 0)]
  prcGate (m < 32) bad 0 c f fun f =>
    match f.prc.sessions.find m with
    | none => denied 0 f
    | some s =>
      if !f.inSession m || fld (wd c.pay 1) 31 0 != s.id then denied 0 f
      else
        let slot := fld w0 3 0
        let weight := bit w0 8
        let gen := fld w0 23 16
        let k := (f.part m).keys.get slot {}
        match Config.gcmOpen (wrapKey s.secret) [wd c.pay 2, wd c.pay 3] [w0, wd c.pay 1, w64 m] (takePad 4 (c.pay.drop 4)) (takePad 2 (c.pay.drop 8)) with
        | none => faulted f
        | some secret =>
          let secret := takePad 4 secret
          let key := if weight then secret else sealKey secret gen
          if k.loaded && (k.weight != weight || k.gen = gen) then faulted f
          else
            let (k, gone) : KeySlot × Option Nat :=
              if k.loaded then ({ k with secret := if weight then [] else secret } : KeySlot).install gen key
              else ({ loaded := true, weight := weight, gen := gen, key := key, secret := if weight then [] else secret }, none)
            (f.keyNotice m 1 slot gen).putKey m slot k gone

/-- KEY_ROTATE (R470). -/
def keyRotateBody : Body := fun c f =>
  let w := wd c.pay 0
  let m := c.mbx
  prcGate (m < 32) (c.tag != 0 || c.len != 8 || !onlyBits w [(3, 0), (9, 8)] || 1 < fld w 9 8) 0 c f fun f =>
    if !f.inSession m then denied 0 f
    else
      let slot := fld w 3 0
      let k := (f.part m).keys.get slot {}
      if !k.loaded then faulted f
      else if fld w 9 8 = 1 then
        (f.keyNotice m 2 slot k.gen).putKey m slot { k with retiring := none } (k.retiring.map Prod.fst)
      else if k.weight then faulted f
      else
        let g := (k.gen + 1) % 256
        let (k, gone) := k.install g (sealKey k.secret g)
        (f.keyNotice m 2 slot g).putKey m slot k gone

/-- KEY_CHANGE_DRAINED (R478). -/
def Fabric.keyDrained (f : Fabric) (m : Nat) : Fabric :=
  match f.prc.keyOps.find? fun o => o.mbx == m with
  | none => f
  | some o =>
    let live := f.tilesWhere o.part fun _ _ => true
    if o.tiles.any fun t => live.any fun u => u.2 == t then f
    else ({ f with prc := { f.prc with keyOps := f.prc.keyOps.filter fun o => o.mbx != m } } : Fabric).finish m stOk o.gen

/-- SEAL_BIND, and its unbind (R471). -/
def sealBindBody : Body := fun c f =>
  let w := wd c.pay 0
  let m := c.mbx
  prcGate (m < 32) (c.len != 16 || !onlyBits w [(2, 0), (7, 7), (11, 8)] || !onlyBits (wd c.pay 1) [(56, 6)]) 0 c f fun f =>
    if tagPart c.tag != m || !f.inSession m then denied 0 f
    else if !f.tagLive c.tag then faulted f
    else
      let seg := fld w 2 0
      okay (f.updCtx c.tag fun x =>
        if bit w 7 then { x with seals := x.seals.set seg { keySlot := fld w 11 8, tagBase := wn c.pay 1 } }
        else { x with seals := x.seals.del seg })

/-- KEY_STATUS (R482). -/
def keyStatusBody : Body := fun c f =>
  let p := fld (wd c.pay 0) 4 0
  prcGate (c.mbx = p || (c.mbx = 32 && !(f.part p).claimed)) (c.tag != 0 || c.len != 8 || !onlyBits (wd c.pay 0) [(4, 0)] || f.partCount ≤ p) 152 c f fun f =>
    let s := f.prc.sessions.find p
    let head := match s with
      | some s => [pack [(31, 0, s.id), (33, 32, s.state)], w64 s.reqSeq, w64 s.rspSeq]
      | none => zeros 3
    let slot (i : Nat) : Word :=
      let k := (f.part p).keys.get i {}
      pack [(0, 0, b2n k.loaded), (1, 1, b2n k.weight), (2, 2, b2n k.retiring.isSome), (15, 8, k.gen),
            (23, 16, match k.retiring with | some r => r.1 | none => 0), (55, 24, k.sealedPages / 256)]
    (f, .done stOk 0 (head ++ (List.range 16).map slot) 152)

/-! ### Claims and confidential mode (R462–R466) -/

/-- A partition holds nothing that a claim forbids (R462). -/
def Part.claimable (x : Part) : Bool :=
  !(x.ctxs.any fun e => e.2.state != .free) && !(x.lists.any fun l => !l.finished) && x.colls.isEmpty

/-- CONF_CLAIM (R462): the scrub starts; commands in progress on the partition end with DRAINING. -/
def confClaimBody : Body := fun c f =>
  let m := c.mbx
  prcGate (m < 32) (c.tag != 0 || c.len != 8 || !onlyBits (wd c.pay 0) [(31, 0)]) 0 c f fun f =>
    match f.prc.sessions.find m with
    | none => denied 0 f
    | some s =>
      if s.id != fld (wd c.pay 0) 31 0 then denied 0 f
      else if !(f.part m).claimable || f.prc.debugNow then faulted f
      else
        let hit := (List.range 34).filter fun n => n != m && f.actsOn n m
        let f := hit.foldl (fun g n => (g.forget n).finish n stDraining) f
        ((({ f with prc := { f.prc with claimOps := f.prc.claimOps ++ [{ mbx := m, part := m, session := s.id }] } } : Fabric).updPart m
          fun x => { x with draining := true }), .wait)

/-- What a scrub leaves of a partition whose power stays on (Table 13.7). -/
def Part.scrubbed (x : Part) : Part :=
  { x with ctxs := [], tlb := [], walkCache := [], walks := [], keys := [], groups := [], emaps := [], journals := [], entries := [], nonces := none,
           lists := [], collsDone := [], tables := [], ranges := [], reds := [] }

/-- CLAIM_SCRUB_DONE (R462). -/
def Fabric.claimDone (f : Fabric) (p : Nat) : Fabric :=
  match f.prc.claimOps.find? fun o => o.part == p with
  | none => f
  | some o =>
    let f := { f with prc := { f.prc with claimOps := f.prc.claimOps.filter (fun o => o.part != p), claims := f.prc.claims.set p o.session } }
    let f := f.updPart p fun x => { x.scrubbed with draining := false, claimed := true }
    let b := f.mbx p
    let f := f.setMbx p { b with record := none }
    let f := f.notify p (keyEvent p 0 9 0xFF 0 o.session 0 b.env.cmdId 0)
    let f := f.finish o.mbx stOk f.tick
    let held : Bool := match f.prc.sessions.find p with | some s => s.id == o.session | none => false
    if held then f else f.startP p 0 false true []

/-- CONF_RELEASE (R463). -/
def confReleaseBody : Body := fun c f =>
  let p := fld (wd c.pay 0) 4 0
  prcGate (c.mbx = p || 32 ≤ c.mbx) (c.tag != 0 || c.len != 8 || !onlyBits (wd c.pay 0) [(4, 0)] || f.partCount ≤ p) 0 c f fun f =>
    if !(f.part p).claimed then okay f
    else (f.startP p 0 false true [c.mbx], .wait)

/-- DEVICE_SCRUB_DONE (R464, R466). -/
def Fabric.deviceScrubDone (f : Fabric) : Fabric := { f with prc := { f.prc with scrubbing := false } }

/-- Confidential mode follows the claim bits and the device scrub at a ref tick (R464); on entry, armed trace triggers
are dropped, waiting injections cancelled and the debug port closed (R465). -/
def Fabric.tickConf (f : Fabric) : Fabric :=
  let now := f.parts.any (fun e => e.2.claimed) || f.prc.scrubbing
  if now && !f.conf then
    let f := f.cancelInjections
    let f := if f.prc.debugNow then f.newEpoch else f
    { f with conf := true, prc := { f.prc with debugNow := false } }
  else { f with conf := now }

/-- DEBUG_UNLOCK (R480, R465). -/
def debugUnlockBody : Body := fun c f =>
  if c.mbx != 32 then denied 0 f
  else if f.conf then denied 0 f
  else if c.tag != 0 then faulted f
  else
    let ok := f.prc.debugFuse ||
      (c.len == 96 && Config.debugVerify (bytesOf (takePad 6 (Config.fuseWords 2) ++ [w64 f.aon.dCount]) 56) (takePad 12 c.pay))
    let f := if ok && !f.prc.debugNow then ({ f with prc := { f.prc with debugNow := true } } : Fabric).newEpoch else f
    okay f (b2n f.prc.debugNow)

/-! ### Registers (Tables 13.13 to 13.16) -/

/-- PRC_STATUS, PRC_CLAIM and PRC_FUSE. -/
def Fabric.prcRegs (f : Fabric) : List Word :=
  let p := f.prc
  let claimed := (List.range 32).filter fun i => (f.part i).claimed
  [ pack [(63, 48, p.epoch), (47, 40, p.sessions.length), (39, 32, claimed.length), (31, 16, p.restarts), (7, 6, f.stagedState),
          (5, 5, b2n f.flash.trialNext), (4, 4, b2n p.trial), (3, 3, b2n p.debugNow), (2, 2, b2n p.scrubbing), (1, 1, b2n f.conf),
          (0, 0, b2n p.measured)],
    w64 (maskOf claimed), pack [(40, 40, b2n p.debugFuse), (39, 32, p.fuseSvn), (31, 0, p.fusedOff)] ]

end Sys2Proof.Machine
end

