-- ==== Sys2Proof/Machine/MeterLink.lean ====
section
/-!
DEFINITION. The fabric die's side of the Meter Link (R496–R499), the MTR_ registers (Table 14.11), the commands of Table
14.10 and METER_EVENT. The frames that arrive are the last response and the last TICK of the meter die.
-/
namespace Sys2Proof.Machine

def Fabric.updMtl (f : Fabric) (g : Mtl → Mtl) : Fabric := { f with mtl := g f.mtl }

/-- The frame of a request: READ_RECORD carries 4 B, WRITE_MARK 40 B, the others none (Table 14.4). -/
def MtlReq.frame (r : MtlReq) (seq : Nat) : List Word :=
  frameHeader 0 (if r.type = 2 then 4 else 8 * r.data.length) seq r.type :: r.data

/-- The outstanding request goes out on MTL_FD and MTL_FP (R493). -/
def Mtl.drive (m : Mtl) : Mtl :=
  match m.out with
  | some r => { m with line := m.line.send (frameBits (r.frame m.seq)) }
  | none => m

/-- Send a request under a new SEQ (R496). -/
def Fabric.mtlSend (f : Fabric) (r : MtlReq) : Fabric :=
  f.updMtl fun m => Mtl.drive { m with seq := (m.seq + 1) % 256, out := some r, sentAt := f.tick, tries := 0 }

/-- With the link up and no request outstanding, the next queued request is sent; none during a REFCLK fault (R499). -/
def Fabric.mtlPump (f : Fabric) : Fabric :=
  match f.mtl.out, f.mtl.queue with
  | none, r :: rs => if f.mtl.link = 2 && f.clk.state != 2 then (f.updMtl fun m => { m with queue := rs }).mtlSend r else f
  | _, _ => f

/-- Queue a request. -/
def Fabric.mtlAsk (f : Fabric) (r : MtlReq) : Fabric := (f.updMtl fun m => { m with queue := m.queue ++ [r] }).mtlPump

/-- METER_EVENT (Table 14.12). -/
def Fabric.meterEvent (f : Fabric) (pay : List Word) : Fabric := f.notify 32 { code := 0x0A, pay := pay }

/-- The mailbox of a command's request. -/
def MtlFor.mbx : MtlFor → Option Nat
  | .mark m => some m
  | .log m => some m
  | .identity m => some m
  | _ => none

/-- The link is declared down: its requests are lost, their commands end with BUSY (R499, R509). -/
def Fabric.mtlDown (f : Fabric) : Fabric :=
  let all := f.mtl.out.toList ++ f.mtl.queue
  let was := f.mtl.lost
  let f := { (f.updMtl fun m => { m with link := 0, lost := true, out := none, queue := [], logs := [], tries := 0 }) with
             clk := { f.clk with windowOpen := false } }
  let f := if was then f else f.meterEvent [w64 2, w64 f.mtl.cal, 0, 0, 0]
  (all.filterMap fun r => r.why.mbx).foldl (fun g m => g.finish m stBusy) f

/-- METER_REQUEST_TIMEOUT (R496). -/
def Fabric.mtlTimeout (f : Fabric) : Fabric :=
  if f.mtl.out.isNone || f.tick < f.mtl.sentAt + 31250 then f
  else if f.mtl.tries < 8 then f.updMtl fun m => Mtl.drive { m with tries := m.tries + 1, sentAt := f.tick, resends := min 65535 (m.resends + 1) }
  else f.mtlDown

/-- METER_LINK_SILENCE (R499). -/
def Fabric.mtlSilence (f : Fabric) : Fabric := if f.tick < f.mtl.lastMark + 39062500 then f else f.mtlDown

/-- METER_SYNC_RETRY (R497, R499). -/
def Fabric.mtlSync (f : Fabric) : Fabric :=
  if f.mtl.link != 0 || f.mtl.out.isSome || f.clk.state = 2 || (f.mtl.lastSync != 0 && f.tick < f.mtl.lastSync + 156250) then f
  else (f.updMtl fun m => { m with link := 1, lastSync := f.tick }).mtlSend { type := 0, data := [], why := .sync }

/-- ENERGY, I_AVG and P_AVG as shown (R510). -/
def Fabric.shownEnergy (f : Fabric) (e : Nat) : Nat := if f.conf then down e 1000 else e

/-- Take the values of a window (Table 14.11); PARAM_SET and SIGN_PENDING come with no frame: their values are open. -/
def Fabric.takeValues (f : Fabric) (b : List Word) : Fabric :=
  let (f, v) := f.draw
  f.updMtl fun m =>
    { m with winCal := wn b 0, energy := wn b 1, pMax := fld (wd b 2) 63 32, pAvg := fld (wd b 2) 31 0, iAvg := fld (wd b 3) 63 32,
             vAvg := fld (wd b 3) 31 0, winBell := m.calBell, paramSet := fld v 4 0, signPending := fld v 11 8 % 9 }

/-- Read the next new record (R498, R509). -/
def Fabric.nextRecord (f : Fabric) : Fabric :=
  match f.mtl.nextRec with
  | some n => if n ≤ f.mtl.latest then f.mtlAsk { type := 2, data := [w64 n], why := .record } else f
  | none => f

/-- A record that firmware reads: METER_EVENT RECORD where it is not a MARK. -/
def Fabric.takeRecordOf (f : Fabric) (b : List Word) : Fabric :=
  let w := wd b 0
  let kind := fld w 47 40
  let f := f.updMtl fun m => { m with nextRec := m.nextRec.map (· + 1) }
  let f := if kind = 0 || kind = 1 then f
    else f.meterEvent [pack [(7, 0, 1), (15, 8, kind), (23, 16, fld w 55 48), (31, 24, fld w 39 32), (63, 32, fld w 31 0)], wd b 1,
                       w64 (f.shownEnergy (wn b 2)), wd b 4, 0]
  f.nextRecord

/-- A record as METER_LOG_READ gives it to a mailbox: zeros where a tenant's number is not its SOURCE. -/
def logRecord (mbx : Nat) (b : List Word) : List Word := if mbx < 32 && fld (wd b 3) 39 32 != mbx then zeros 16 else takePad 16 b

/-- A record for METER_LOG_READ. -/
def Fabric.takeLog (f : Fabric) (mbx : Nat) (b : List Word) : Fabric :=
  match f.mtl.logs.find? fun l => l.mbx == mbx with
  | none => f
  | some l =>
    let recs := l.recs ++ logRecord mbx b
    if l.left ≤ 1 then
      (f.updMtl fun m => { m with logs := m.logs.filter fun l => l.mbx != mbx }).finish mbx stOk 0 recs (8 * recs.length)
    else
      let n := (l.next + 1) % 2 ^ 32
      (f.updMtl fun m => { m with logs := updWhere m.logs (fun l => l.mbx == mbx) fun l => { l with next := n, left := l.left - 1, recs := recs } }).mtlAsk
        { type := 2, data := [w64 n], why := .log mbx }

/-- What a response does. -/
def Fabric.mtlTake (f : Fabric) (why : MtlFor) (status : Nat) (b : List Word) : Fabric :=
  let st := if status = 0 then stOk else if status = 1 then stBusy else stFaulted
  match why with
  | .sync =>
    if status != 0 then f
    else
      let was := f.mtl.lost
      let f := f.updMtl fun m => { m with link := 2, lost := false, wasUp := true }
      if was then f.meterEvent [w64 3, 0, 0, 0, 0] else f
  | .values => if status = 0 then f.takeValues b else f
  | .record => if status = 0 then f.takeRecordOf b else f
  | .mark m => f.finish m st (if status = 0 then fld (wd b 0) 39 0 else 0)
  | .log m => if status = 0 then f.takeLog m b else f.finish m st
  | .identity m => if status = 0 then f.finish m stOk 0 (takePad 20 b) 160 else f.finish m st

/-- METER_RESPONSE_RX (R496): the response that the meter last sent, whole or failing its CRC. -/
def Fabric.mtlResponse (f : Fabric) (frame : List Word) (good : Bool) : Fabric :=
  if !good then f.updMtl fun m => { m with crcErrors := min 65535 (m.crcErrors + 1) }
  else if frame.isEmpty then f
  else
    let h := wd frame 0
    let f := f.updMtl fun m => { m with frames := sat32 (m.frames + 1) }
    match f.mtl.out with
    | none => f
    | some r =>
      if fld h 15 8 != f.mtl.seq || fld h 7 0 != 0x80 + r.type then f
      else ((f.updMtl fun m => { m with out := none }).mtlTake r.why (fld h 31 24) (frame.drop 1)).mtlPump

/-- METER_TICK_RX (R498): the TICK frame of the last mark; READ_VALUES follows, and the records that are new. -/
def Fabric.mtlTick (f : Fabric) (frame : List Word) (good : Bool) : Fabric :=
  if !good then f.updMtl fun m => { m with crcErrors := min 65535 (m.crcErrors + 1) }
  else if frame.isEmpty then f
  else
    let cal := wn frame 1
    let s := wd frame 2
    let latest := fld s 31 0
    let era := fld s 39 32
    let low := bit s 51 && f.mtl.flags / 2 % 2 = 0
    let next := match f.mtl.nextRec with
      | none => latest + 1
      | some n => if era != f.mtl.era then 0 else n
    let f := if f.clk.calMark = f.mtl.cal then { f with clk := { f.clk with calMark := cal } } else f
    let f := f.updMtl fun m =>
      { m with frames := sat32 (m.frames + 1), cal := cal, latest := latest, era := era, eventCount := fld s 49 40, flags := fld s 57 50,
               nextRec := some next }
    let f := if low then f.meterEvent [w64 4, 0, 0, 0, 0] else f
    if !f.ready || f.mtl.link != 2 || f.clk.state = 2 then f
    else
      let f := f.mtlAsk { type := 1, data := [], why := .values }
      if f.mtl.queue.any (fun r => r.why == .record) || (f.mtl.out.any fun r => r.why == .record) then f else f.nextRecord

/-! ### Commands (Table 14.10) -/

/-- The status word of the latest TICK. -/
def Mtl.status (m : Mtl) : Word := pack [(31, 0, m.latest), (39, 32, m.era), (49, 40, m.eventCount), (57, 50, m.flags)]

/-- P_MAX and P_AVG, V_AVG and I_AVG as shown (R510). -/
def Fabric.shownPMax (f : Fabric) : Nat := if f.conf then 0 else f.mtl.pMax
def Fabric.shownPAvg (f : Fabric) : Nat := if f.conf then down f.mtl.pAvg 10000 else f.mtl.pAvg
def Fabric.shownIAvg (f : Fabric) : Nat := if f.conf then down f.mtl.iAvg 1000 else f.mtl.iAvg

/-- The gate of R509: sources, zero fields, the link. -/
def meterGate (admitted bad : Bool) (respLen : Nat) (f : Fabric) (k : Fabric → Fabric × Reply) : Fabric × Reply :=
  if !admitted then denied respLen f
  else if bad then faulted f
  else if f.mtl.link != 2 then (f, .done stBusy)
  else k f

/-- METER_READ. -/
def meterReadBody : Body := fun c f =>
  meterGate (c.mbx = 32 || c.mbx = 33 || c.mbx = 36) (c.len != 0) 48 f fun f =>
    let m := f.mtl
    (f, .done stOk 0 [w64 m.winCal, w64 (f.shownEnergy m.energy), pack [(63, 32, f.shownPMax), (31, 0, f.shownPAvg)],
                      pack [(63, 32, f.shownIAvg), (31, 0, m.vAvg)], m.status, w64 m.winBell] 48)

/-- METER_MARK (R503, R511): SOURCE is the mailbox's source number, BELL the Bell count at acceptance. -/
def meterMarkBody : Body := fun c f =>
  let w := wd c.pay 1
  meterGate (c.mbx ≤ 33) (c.len != 24 || !onlyBits w [(33, 0)] || fld w 33 32 = 3 || wd c.pay 2 != 0) 0 f fun f =>
    let soon : Bool := match f.mtl.lastMarkCmd with | some t => f.tick < t + 15625000 | none => false
    if f.conf && soon then (f, .done stBusy)
    else
      let f := f.updMtl fun m => { m with lastMarkCmd := some f.tick }
      (f.mtlAsk { type := 3, data := [wd c.pay 0, pack [(33, 0, fld w 33 0), (47, 40, c.mbx)], w64 f.bell, 0, 0], why := .mark c.mbx }, .wait)

/-- METER_LOG_READ. -/
def meterLogBody : Body := fun c f =>
  let w := wd c.pay 0
  let n := fld w 36 32
  meterGate (c.mbx ≤ 33) (c.len != 8 || !onlyBits w [(36, 0)] || n = 0) (128 * n) f fun f =>
    let first := fld w 31 0
    ((f.updMtl fun m => { m with logs := m.logs ++ [{ mbx := c.mbx, next := first, left := n }] }).mtlAsk
      { type := 2, data := [w64 first], why := .log c.mbx }, .wait)

/-- METER_TIME. -/
def meterTimeBody : Body := fun c f =>
  meterGate true (c.len != 0) 24 f fun f => (f, .done stOk 0 [w64 f.mtl.cal, w64 f.mtl.calBell, w64 f.bell] 24)

/-- METER_IDENTITY. -/
def meterIdentityBody : Body := fun c f =>
  meterGate true (c.len != 0) 160 f fun f => (f.mtlAsk { type := 4, data := [], why := .identity c.mbx }, .wait)

/-- The MTR_ registers; they read zero until the link is UP. -/
def Fabric.mtrRegs (f : Fabric) : List Word :=
  let m : Mtl := if f.mtl.wasUp then f.mtl
    else { link := f.mtl.link, crcErrors := f.mtl.crcErrors, resends := f.mtl.resends, frames := f.mtl.frames }
  let f := { f with mtl := m }
  [ pack [(63, 56, m.era), (55, 46, m.eventCount), (39, 32, m.paramSet), (31, 0, m.latest)],
    pack [(11, 8, m.signPending), (7, 7, b2n f.conf), (6, 2, m.flags), (1, 0, m.link)], w64 (f.shownEnergy m.energy),
    pack [(63, 32, f.shownPAvg), (31, 0, f.shownPMax)], pack [(63, 32, m.vAvg), (31, 0, f.shownIAvg)], w64 m.cal, w64 m.calBell,
    pack [(63, 48, m.crcErrors), (47, 32, m.resends), (31, 0, m.frames)] ]

end Sys2Proof.Machine
end

