-- ==== Sys2Proof/Machine/Trace.lean ====
section
/-!
DEFINITION. Counters (R512–R517), trace of the management cores (R518–R526) and wait-for graphs (R527–R530). What a core's
program writes into its trace is not the device's rule: the records of a ref tick are free values under the rules of R519
to R524.
-/
namespace Sys2Proof.Machine

/-! ### Counters (Tables 15.1 to 15.6) -/

/-- A COUNT, and a TICKS field, as shown (Table 15.6). -/
def shownCount (coarse_ : Bool) (n : Nat) : Word := w64 (if coarse_ then down n 4096 else n)
def shownTicks (coarse_ : Bool) (n : Nat) : Word := w64 (if coarse_ then down n 15625 else n)

/-- An SRAM counter. -/
def sramWord (ue ce : Nat) : Word := pack [(63, 48, min ue 65535), (47, 0, min ce (2 ^ 48 - 1))]

/-- The 19 registers of Table 15.2. -/
def Fabric.deviceCounters (f : Fabric) (c : Bool) : List Word :=
  let mib (n : Nat) : Word := w64 (if c then down (n % 2 ^ 64) (2 ^ 20) else n)
  [ if c then 0 else w64 f.violations, mib f.hdp.rdBytes, mib f.hdp.wrBytes, shownCount c f.hdp.atoms,
    shownCount c (min f.hdp.replayBeats (2 ^ 64 - 1)) ] ++
    (List.range 6).map (fun k => let e := f.sram.get k (0, 0); sramWord e.1 e.2) ++
    (List.range 8).map fun k => shownTicks c (f.mcBusy.get k 0)

/-- The 10 registers of Table 15.3; a fenced partition holds its counters at zero (R512). -/
def Fabric.partCounters (f : Fabric) (p : Nat) (c : Bool) : List Word :=
  let x := f.part p
  if x.disabled || f.partCount ≤ p then zeros 10
  else
    let n := x.cnt
    [ pack [(63, 48, x.pResets)], shownTicks c n.teBusy, shownTicks c n.reBusy, shownTicks c n.csBusy, shownCount c n.tlbHit,
      shownCount c n.tlbMiss, shownCount c n.walkDem, shownCount c n.walkPf, shownCount c n.pfault, sramWord n.smUe n.smCe ]

/-- The response of a COUNTER_SNAP at this instant (Table 15.5, R516, R517). -/
def Fabric.counterWords (f : Fabric) (mbx : Nat) (w : Word) : List Word :=
  let tenant := mbx < 32
  let coarse_ := f.conf && !tenant
  let mine (p : Nat) : Bool := bit w p && (!tenant || p = mbx)
  let dev := if bit w 32 && !tenant then f.deviceCounters coarse_ else zeros 19
  let parts := (List.range 32).flatMap fun p => if mine p then f.partCounters p coarse_ else zeros 10
  [w64 f.tick, pack [(32, 32, b2n (coarse_ && w != 0)), (31, 0, fld w 31 0)], 0, 0] ++ dev ++ parts

/-- The start of a ref tick: the COUNTER_SNAPs that wait for it are taken (R515). -/
def Fabric.tickCounts (f : Fabric) : Fabric :=
  f.trc.snaps.foldl (fun g s => g.finish s.1 stOk f.tick (f.counterWords s.1 s.2) 2744) { f with trc := { f.trc with snaps := [] } }

/-- COUNTER_SNAP (R515–R517): its snapshot is taken at the start of the next ref tick, SNAP_TICK. -/
def counterSnapBody : Body := fun c f =>
  let w := wd c.pay 0
  if c.len != 8 || !onlyBits w [(32, 0)] then faulted f
  else
    let foreign := c.mbx < 32 && (bit w 32 || (List.range 32).any fun p => bit w p && p != c.mbx)
    let f := if foreign then f.violate else f
    ({ f with trc := { f.trc with snaps := f.trc.snaps ++ [(c.mbx, w)] } }, .wait)

/-- Engines that run a descriptor which is neither parked nor held. -/
def Part.busyEngines (x : Part) : Nat := (x.runs.filter fun r => match r.phase with | .running _ => true | _ => false).length

/-- The counters of ref ticks; what reduction engines and cores do within a tick is open. -/
def Fabric.tickCounters (f : Fabric) : Fabric :=
  let (f, re) := f.draw
  let (f, mc) := f.draw
  let busy (e : Nat × Part) : Nat × Part :=
    let x := e.2
    if x.disabled then e
    else
      let n := x.cnt
      let n := { n with teBusy := n.teBusy + Sys2Proof.Machine.Part.busyEngines x, reBusy := n.reBusy + fld re (2 * (e.1 % 32) + 1) (2 * (e.1 % 32)) % 3,
                        csBusy := n.csBusy + b2n (x.colls.any (·.launched)) }
      (e.1, { x with cnt := n })
  { f with parts := f.parts.map busy, mcBusy := (List.range 8).foldl (fun (m : Map Nat) i => if bit mc i then m.set i (m.get i 0 + 1) else m) f.mcBusy }

/-! ### Trace (R518–R526) -/

def Fabric.core (f : Fabric) (c : Nat) : CoreTrace := f.trc.cores.get c {}
def Fabric.setCore (f : Fabric) (c : Nat) (t : CoreTrace) : Fabric := { f with trc := { f.trc with cores := f.trc.cores.set c t } }

/-- A trace record (Table 15.7). -/
def traceRecord (addr : Word) (kind icount : Nat) (intr : Bool) (cause tick : Nat) : Word × Word :=
  (addr, pack [(63, 60, kind), (59, 44, icount), (43, 43, b2n intr), (42, 36, cause), (35, 0, tick)])

/-- Slots of the ring: the whole array in RING, what the window leaves of it otherwise. -/
def CoreTrace.ringSize (t : CoreTrace) : Nat := 131072 - t.post

/-- Write one record to the ring, or in CAPTURING to the window; the full window freezes the core, which counts every further
record (R524). -/
def CoreTrace.put (t : CoreTrace) (r : Word × Word) : CoreTrace :=
  if t.state = 4 then (if 0 < t.winCount then { t with lostAfter := sat32 (t.lostAfter + 1) } else t)
  else if t.state = 3 then
    { t with win := r :: t.win, winCount := t.winCount + 1, state := if t.post ≤ t.winCount + 1 then 4 else 3, sinceSync := t.sinceSync + 1 }
  else { t with ring := (r :: t.ring).take t.ringSize, ringCount := t.ringCount + 1, sinceSync := t.sinceSync + 1 }

/-- Count a lost record (R521). -/
def CoreTrace.lose (t : CoreTrace) : CoreTrace :=
  if t.state ≤ 2 then { t with lostBefore := sat32 (t.lostBefore + 1), lostNow := t.lostNow + 1 }
  else { t with lostAfter := sat32 (t.lostAfter + 1), lostNow := t.lostNow + 1 }

/-- A SYNC record (R520). -/
def CoreTrace.sync (t : CoreTrace) (tick : Nat) : CoreTrace :=
  { (t.put (traceRecord (w64 tick) 3 0 false 0 tick)) with needSync := false, sinceSync := 0, syncTick := tick }

/-- A record of a core's program comes to the trace writer, which is busy or free: lost records are told first, then a SYNC that
is due (R520, R521). -/
def CoreTrace.take (t : CoreTrace) (tick : Nat) (busy : Bool) (r : Word × Word) : CoreTrace :=
  if t.state = 4 then t.put r
  else if busy then t.lose
  else
    let t := if 0 < t.lostNow then
        { (t.put (traceRecord (w64 t.lostNow) 4 0 false 0 tick)) with lostNow := 0, needSync := true }
      else t
    (if t.needSync || 8192 ≤ t.sinceSync then t.sync tick else t).put r

/-- A record of an event of a core's program (R519): what the program does is open. A LINEAR record comes when ICOUNT reaches
65,535. -/
def programRecord (addr what : Word) (tick : Nat) : Word × Word :=
  let kind := [0, 1, 2, 6, 7].getD (fld what 2 0 % 5) 0
  traceRecord addr kind (if kind = 7 then 65535 else fld what 31 16) (kind = 1 && bit what 3) (if kind = 1 then fld what 14 8 else 0) tick

/-- A core's trace is on. -/
def Fabric.traced (f : Fabric) (c : Nat) : Bool := 1 ≤ (f.core c).state && (f.core c).state ≤ 4 && !f.conf

/-- Up to so many events of a core's program in a ref tick. -/
def Fabric.traceCore (c : Nat) : Nat → Fabric → Fabric
  | 0, f => f
  | n + 1, f =>
    let (f, addr) := f.draw
    let (f, what) := f.draw
    let f := if bit what 62 then f.setCore c ((f.core c).take f.tick (bit what 63) (programRecord addr what f.tick)) else f
    Fabric.traceCore c n f

/-- Firmware's MARK of an accepted command: the core that writes it is open (R519). -/
def Fabric.traceMark (f : Fabric) (id : Word) : Fabric :=
  let (f, v) := f.draw
  let c := v.toNat % 8
  if f.traced c then f.setCore c ((f.core c).take f.tick (bit v 63) (traceRecord id 6 (fld v 31 16) false 0 f.tick)) else f

/-- The trace of a ref tick: a SYNC where none has come for 2³⁴ ref ticks (R520), at most three events a core, one every two
handshakes (R521), and the MARKs of the commands accepted in the tick. -/
def Fabric.tickTrace (f : Fabric) : Fabric :=
  let old (t : CoreTrace) : CoreTrace := if t.state < 4 && t.syncTick + 2 ^ 34 ≤ f.tick then t.sync f.tick else t
  let f := (List.range 8).foldl (fun g c => if g.traced c then Fabric.traceCore c 3 (g.setCore c (old (g.core c))) else g) f
  f.trc.marks.foldl Fabric.traceMark { f with trc := { f.trc with marks := [] } }

/-- The state that TRC_STATUS shows: CANCELLED cores read OFF when confidential mode has ended (R526). -/
def Fabric.coreState (f : Fabric) (c : Nat) : Nat := if (f.core c).state = 5 && !f.conf then 0 else (f.core c).state

/-- Entry to confidential mode: every capture that is not frozen is cancelled (R526). -/
def Fabric.cancelTrace (f : Fabric) : Fabric :=
  let stop (t : CoreTrace) : CoreTrace := if t.state = 1 || t.state = 2 || t.state = 3 then { state := 5 } else t
  { f with trc := { f.trc with arms := [], cores := f.trc.cores.mapVals fun _ t => stop t } }

/-- A core enters CAPTURING with its TRIGGER record and, where records were lost, a LOST record behind it (R523, R524). -/
def CoreTrace.capture (t : CoreTrace) (cross : Bool) (addr : Word) (icount tick : Nat) : CoreTrace :=
  let t := { t with state := 3, cross := cross, needSync := true }
  let t := t.put (traceRecord addr 5 icount false 0 tick)
  if 0 < t.lostNow then { (t.put (traceRecord (w64 t.lostNow) 4 0 true 0 tick)) with lostNow := 0 } else t

/-- The condition of an arm is met by an instruction of a core (Table 15.9): its address or the MARK that it writes is
`value`; the Bell count, notices and opcodes are the device's own. -/
def Fabric.armMet (f : Fabric) (a : TraceArm) (value : Word) : Bool :=
  if a.kind = 1 then a.value == value else if a.kind = 4 then a.met || a.value == value else if a.kind = 5 then a.value.toNat ≤ f.bell else a.met

/-- TRACE_TRIGGER (R523): an armed core retires an instruction that meets its condition. -/
def Fabric.traceTrigger (f : Fabric) (core : Nat) (value : Word) : Fabric :=
  match f.trc.arms.find? fun a => a.cores / 2 ^ core % 2 == 1 && f.armMet a value with
  | none => f
  | some a =>
    let f := { f with trc := { f.trc with arms := f.trc.arms.filter (fun b => b != a), origin := core, trigTick := f.tick } }
    (bitsOf a.cores 8).foldl (fun g c =>
      let t := g.core c
      if t.state != 2 then g
      else
        let (g, addr) := g.draw
        let (g, ic) := g.draw
        let own := c == core
        let at_ := if own && a.kind = 1 then value else addr
        g.setCore c (t.capture (!own) at_ (fld ic 15 0) (if own then g.tick else g.tick + 1))) f

/-- Fields of TRACE_ARM that are not zero where they must be, or out of range (Table 15.16). -/
def armBad (len : Nat) (pay : List Word) : Bool :=
  let w := wd pay 0
  let act := fld w 10 8
  let kind := fld w 15 12
  let post := wn pay 1
  let v := wd pay 2
  len != 24 || !onlyBits w [(10, 0), (15, 12)] || fld w 7 0 = 0 || 3 < act || 5 < kind ||
    (if act = 1 then post < 1024 || 65536 < post else post != 0) ||
    (act = 1 && ((kind = 0 && v != 0) || (kind = 2 && !onlyBits v [(7, 0)]) || (kind = 3 && !onlyBits v [(15, 0)])))

/-- TRACE_ARM (R522, R526). -/
def traceArmBody : Body := fun c f =>
  let w := wd c.pay 0
  let act := fld w 10 8
  let kind := fld w 15 12
  let post := if act = 1 then wn c.pay 1 else 0
  let v := wd c.pay 2
  let cores := bitsOf (fld w 7 0) 8
  if c.mbx != 32 || f.conf then denied 0 f
  else if armBad c.len c.pay then faulted f
  else if act ≤ 1 && cores.any (fun k => f.coreState k = 4) then (f, .done stBusy)
  else
    let holds (t : CoreTrace) : Bool :=
      match act with
      | 0 => t.state = 1
      | 1 => t.state = 2 && t.post = post && t.kind = kind && t.value == v
      | 2 => !(t.state = 1 || t.state = 2)
      | _ => t == {}
    let moved := cores.filter fun k => !holds (f.core k)
    let next (t : CoreTrace) : CoreTrace :=
      match act with
      | 0 => { state := 1, needSync := true, syncTick := f.tick }
      | 1 => { state := 2, post := post, kind := kind, value := v, needSync := true, syncTick := f.tick }
      | 2 => { t with state := 4 }
      | _ => {}
    let f := moved.foldl (fun g k => g.setCore k (next (g.core k))) f
    let gone := maskOf moved
    let arms := (f.trc.arms.map fun a => { a with cores := maskOf ((bitsOf a.cores 8).filter fun k => gone / 2 ^ k % 2 == 0) }).filter fun a => a.cores != 0
    let arms := if act = 1 && !moved.isEmpty then
        arms ++ [{ cores := gone, kind := kind, value := v, post := post, met := kind = 0 }]
      else arms
    okay { f with trc := { f.trc with arms := arms } } gone

/-- TRACE_READ (R525, R526): the ring from its oldest record, then the window, in 64 B writes. -/
def traceReadBody : Body := fun c f =>
  let core := fld (wd c.pay 0) 2 0
  let addr := wn c.pay 1
  if c.mbx != 32 || f.conf then denied 0 f
  else if c.len != 16 || !onlyBits (wd c.pay 0) [(2, 0)] || !onlyBits (wd c.pay 1) [(47, 6)] then faulted f
  else if !(f.coreState core = 4 || f.coreState core = 0) then (f, .done stBusy)
  else
    let t := f.core core
    let ws := (t.ring.reverse ++ t.win.reverse).flatMap fun r => [r.1, r.2]
    let units := ceilDiv ws.length 8
    let r0 := pack [(31, 0, t.ring.length), (63, 32, t.win.length)]
    if units = 0 then (f, .done stOk r0)
    else
      let f := (List.range units).foldl (fun (g : Fabric) i =>
        g.hdpSend { kind := .memWr, addr := addr + 64 * i, units := 1, data := takePad 8 (ws.drop (8 * i)), purpose := .trace c.mbx }) f
      ({ f with trc := { f.trc with reads := f.trc.reads ++ [{ mbx := c.mbx, pend := units, result := r0 }] } }, .wait)

/-- A write of TRACE_READ is acknowledged. -/
def Fabric.traceWritten (f : Fabric) (mbx : Nat) : Fabric :=
  match f.trc.reads.find? fun r => r.mbx == mbx with
  | none => f
  | some r =>
    if 1 < r.pend then
      { f with trc := { f.trc with reads := updWhere f.trc.reads (fun r => r.mbx == mbx) fun r => { r with pend := r.pend - 1 } } }
    else ({ f with trc := { f.trc with reads := f.trc.reads.filter fun r => r.mbx != mbx } } : Fabric).finish mbx stOk r.result.toNat

/-- TRC_STATUS, TRC_INDEX and TRC_COUNT of a core. -/
def Fabric.coreRegs (f : Fabric) (c : Nat) : List Word :=
  let t := f.core c
  [ pack [(63, 61, f.coreState c), (60, 60, b2n t.cross), (56, 40, t.post), (39, 36, t.kind)],
    pack [(49, 49, b2n (t.ringSize < t.ringCount)), (48, 32, t.ringCount % t.ringSize), (16, 0, t.winCount)],
    pack [(63, 32, t.lostBefore), (31, 0, t.lostAfter)] ]

/-- TRC_TRIG. -/
def Fabric.trigReg (f : Fabric) : Word := pack [(63, 61, f.trc.origin), (60, 0, f.trc.trigTick)]

/-! ### Wait-for graphs (R527–R530, Tables 15.13 to 15.16) -/

/-- A node: KIND, PARTITION, UNIT, CTX_TAG, NODE, WORK_ID. -/
structure WaitNode where
  kind : Nat
  part : Nat := 0
  unit : Nat := 0
  tag : Nat := 0
  node : Nat := 0
  work : Word := 0
  deriving DecidableEq, Repr

/-- An edge: who waits, for whom, why, and since when (none: the model does not hold the tick). -/
structure WaitEdge where
  src : WaitNode
  dst : WaitNode
  reason : Nat
  since : Option Nat := none
  deriving DecidableEq, Repr

def hdpNode : WaitNode := { kind := 7 }
def remoteNode (n : Nat) (work : Word) : WaitNode := { kind := 8, node := n, work := work }

/-- The node of a descriptor: its engine, or its context where it holds none. -/
def Fabric.runNode (f : Fabric) (p : Nat) (r : Run) : WaitNode :=
  match r.phase with
  | .running e => { kind := 1, part := p, unit := e, tag := r.tag, work := f.listIdOf p r.src }
  | _ => { kind := 9, part := p, tag := r.tag, work := f.listIdOf p r.src }

/-- The device sends or waits for an HDP transaction that a test picks. -/
def Fabric.hdpServes (f : Fabric) (g : Purpose → Bool) : Bool := f.hdp.outstanding.any (fun t => g t.purpose) || f.hdp.waiting.any fun t => g t.purpose

/-- The device that a tile's open requests go to. -/
def Tile.peer (t : Tile) : Nat :=
  match t.phase with
  | .read => paNode t.srcPa
  | .compare => paNode (Sys2Proof.Machine.Tile.readPa t)
  | .list _ _ => paNode t.srcPa
  | .tagRead => paNode (Sys2Proof.Machine.Tile.readPa t)
  | .ret => paNode (t.retPa.getD 0)
  | .tagWrite => paNode ((t.dstSeal.bind fun s => s.tagPa).getD t.dstPa)
  | _ => paNode t.dstPa

/-- Waits of a descriptor. -/
def Fabric.runWaits (f : Fabric) (p : Nat) (r : Run) : List WaitEdge :=
  let me := f.runNode p r
  let hdp := f.hdpServes fun w => match w with
    | .tileRd q id _ _ => q == p && id == r.id
    | .tileWr q id _ => q == p && id == r.id
    | .tileAt q id _ _ => q == p && id == r.id
    | _ => false
  let mine := f.rtr.reqs.filter fun e => e.2.part == p && e.2.run == r.id
  let held (e : Nat × Request) : Bool := f.rtr.outbox.any fun o => o.reqId == e.1 && o.kind != .credit && o.kind != .grantReq
  let remote := mine.map fun e =>
    let node := match r.tiles.find? fun t => t.id == e.2.tile with | some t => Sys2Proof.Machine.Tile.peer t | none => 0
    let full := (f.rtr.window (f.srcState node)) ≤ (f.srcState node).used
    ({ src := me, dst := remoteNode node me.work, reason := if held e then (if full then 3 else 4) else 2, since := some e.2.start } : WaitEdge)
  let parked := match r.phase with
    | .parked _ => [({ src := me, dst := { kind := 10, part := p }, reason := 8 } : WaitEdge)]
    | .ready => [({ src := me, dst := { kind := 10, part := p }, reason := 0x0B } : WaitEdge)]
    | _ => []
  let fence := if dKind r.words = 6 && !r.pageMove && r.fin.isNone && !f.fenceMet p r then
      [({ src := me, dst := { kind := 9, part := p, tag := r.tag }, reason := 9, since := some r.startTick } : WaitEdge)] else []
  let pass := if f.hpWaits p r then [({ src := me, dst := { kind := 9, part := p, tag := r.tag }, reason := 0x0A } : WaitEdge)] else []
  (if hdp then [({ src := me, dst := hdpNode, reason := 1 } : WaitEdge)] else []) ++ remote ++ parked ++ fence ++ pass

/-- Waits of a collective, dispatch or combine. -/
def Fabric.collWaitsOn (f : Fabric) (p : Nat) (c : Coll) : List WaitEdge :=
  let me : WaitNode := { kind := 3, part := p, tag := c.tag, work := wd c.words 0 }
  let hdp := f.hdpServes fun w => match w with
    | .collIn q id _ => q == p && id == c.id
    | .collOut q id _ => q == p && id == c.id
    | .collRec q id => q == p && id == c.id
    | .journal q id => q == p && id == c.id
    | _ => false
  let absent := if c.launched && !c.disp then Sys2Proof.Machine.Coll.missingNow c (Sys2Proof.Machine.Coll.me c f) else 0xFFFF
  let x := f.part p
  (if hdp then [({ src := me, dst := hdpNode, reason := 1 } : WaitEdge)] else []) ++
    (if c.launched && c.fin.isNone && absent != 0xFFFF then
      [({ src := me, dst := remoteNode (f.rtr.real (c.group.node absent)) me.work, reason := 0x0C, since := some c.lastProgress } : WaitEdge)] else []) ++
    (if !c.launched && c.fin.isNone then
      if c.parked.isSome then [({ src := me, dst := { kind := 10, part := p }, reason := 8 } : WaitEdge)]
      else if f.bell < Sys2Proof.Machine.Coll.launchBell c || Sys2Proof.Machine.Part.launchesAfter x c then [({ src := me, dst := { kind := 10, part := p }, reason := 0x0D } : WaitEdge)]
      else [({ src := me, dst := { kind := 10, part := p }, reason := 0x0E } : WaitEdge)]
    else [])

/-- Waits of a partition's units. -/
def Fabric.partWaits (f : Fabric) (p : Nat) : List WaitEdge :=
  let x := f.part p
  let walks := if x.walks.isEmpty then [] else [({ src := { kind := 4, part := p }, dst := hdpNode, reason := 1 } : WaitEdge)]
  let start := (x.ctxs.filter fun e => e.2.state == .live && (f.startable (mkTag p e.1 e.2.gen)).isSome).map fun e =>
    ({ src := { kind := 9, part := p, tag := mkTag p e.1 e.2.gen }, dst := { kind := 10, part := p }, reason := 0x0B } : WaitEdge)
  x.runs.flatMap (f.runWaits p) ++ x.colls.flatMap (f.collWaitsOn p) ++ walks ++ start

/-- Waits of a mailbox's command. -/
def Fabric.mbxWaits (f : Fabric) (m : Nat) : List WaitEdge :=
  let b := f.mbx m
  let me : WaitNode := { kind := 6, unit := m, work := b.env.cmdId }
  let on (dst : WaitNode) (why : Nat) : WaitEdge := { src := me, dst := dst, reason := why, since := some b.env.issueTick }
  if !(b.env.own && b.accepted) then []
  else
    (f.orders.filter fun o => o.mbx == m).map (fun _ => on { kind := 11 } 0x0F) ++
    (f.rtr.drains.filter fun d => d.order.mbx == m).flatMap (fun d => d.ports.map fun k => on { kind := 5, unit := k } 0x10) ++
    (f.drains.filter fun d => d.mbx == m).map (fun _ => on { kind := 10, part := tagPart b.env.tag } 0x11) ++
    (if f.hdpServes fun w => w.ofMbx m then [on hdpNode 1] else []) ++
    ((List.range 8).filter fun k => (f.port k).drainMbxs.contains m).map fun k => on { kind := 5, unit := k } 0x10

/-- Waits of a port's queue. -/
def Fabric.portWaits (f : Fabric) (k : Nat) : List WaitEdge :=
  let p := f.port k
  let me : WaitNode := { kind := 5, unit := k }
  let far := remoteNode p.peer 0
  if !f.waitsFor k then []
  else if !p.state.usable then [{ src := me, dst := far, reason := 7 }]
  else if p.replaying || 4096 ≤ p.retx.length then [{ src := me, dst := far, reason := 6 }]
  else if (f.pickFlit k).isNone then [{ src := me, dst := far, reason := 5 }]
  else []

/-- A node of a claimed partition. -/
def Fabric.hidden (f : Fabric) (n : WaitNode) : Option Nat :=
  if [1, 2, 3, 4, 9, 10].contains n.kind && (f.part n.part).claimed then some n.part
  else if n.kind = 6 && n.unit < 32 && (f.part n.unit).claimed then some n.unit
  else none

/-- R530: a claimed partition is one node without tag and work; what leaves it keeps its reason and its local target. -/
def Fabric.blurEdge (f : Fabric) (e : WaitEdge) : Option WaitEdge :=
  let merge (n : WaitNode) : WaitNode := match f.hidden n with | some p => { kind := 10, part := p } | none => n
  match f.hidden e.src with
  | none => some { e with dst := merge e.dst }
  | some p =>
    if f.hidden e.dst = some p then none
    else
      let dst := if e.dst.kind = 8 then remoteNode 0 0 else merge e.dst
      some { e with src := { kind := 10, part := p }, dst := dst, since := e.since.map fun t => down t 15625 }

/-- Each node once. -/
def distinct (ns : List WaitNode) : List WaitNode := ns.foldl (fun a n => if a.contains n then a else a ++ [n]) []

/-- Nodes that a node reaches in so many edges. -/
def reaches (es : List (Nat × Nat)) : Nat → List Nat → List Nat
  | 0, seen => seen
  | fuel + 1, seen =>
    let more := (es.filter fun e => seen.contains e.1 && !seen.contains e.2).map Prod.snd
    if more.isEmpty then seen else reaches es fuel (seen ++ more.foldl (fun a n => if a.contains n then a else a ++ [n]) [])

/-- Record of a node (Table 15.14). -/
def WaitNode.words (n : WaitNode) : List Word :=
  [pack [(63, 56, n.kind), (52, 48, n.part), (47, 40, n.unit), (39, 24, n.tag), (14, 0, n.node)], n.work]

/-- The edges that a dump holds: ALL partitions, or one with the edges that leave its nodes. -/
def Fabric.dumpEdges (f : Fabric) (all : Bool) (p mbx : Nat) : List WaitEdge :=
  let es := if all then
      (List.range f.partCount).flatMap f.partWaits ++ (List.range 34).flatMap f.mbxWaits ++ (List.range 8).flatMap f.portWaits
    else f.partWaits p
  if f.conf && 32 ≤ mbx then es.filterMap f.blurEdge else es

/-- The graph (Tables 15.13 to 15.15), cut to so many bytes; both passes fall at one ref tick, so every edge is stable. Ticks
that the model does not hold are open. Gives the words and the bytes of the whole graph. -/
def Fabric.graph (f : Fabric) (es : List WaitEdge) (coarse_ : Bool) (room : Nat) : Fabric × List Word × Nat :=
  let nodes := (distinct (es.flatMap fun e => [e.src, e.dst])).take 4096
  let ix (n : WaitNode) : Nat := nodes.findIdx (· == n)
  let edges := (es.filter fun e => nodes.contains e.src && nodes.contains e.dst).take 8192
  let links := edges.map fun e => (ix e.src, ix e.dst)
  let cyc (a b : Nat) : Bool := (reaches links (nodes.length + 1) [b]).contains a
  let (f, recs) := edges.foldl (fun (st : Fabric × List Word) e =>
    let (g, v) := st.1.draw
    let a := ix e.src
    let b := ix e.dst
    (g, st.2 ++ [pack [(63, 48, a), (47, 32, b), (31, 24, e.reason), (17, 17, b2n (cyc a b)), (16, 16, 1)],
                 match e.since with | some t => w64 t | none => v])) (f, [])
  let whole := 64 + 16 * (nodes.length + edges.length)
  let fit := (min room whole - 64) / 16
  let n := min nodes.length fit
  let m := min edges.length (fit - n)
  let cut := n < nodes.length || m < edges.length || nodes.length + edges.length < (distinct (es.flatMap fun e => [e.src, e.dst])).length + es.length
  let seen := f.parts.any fun e => e.2.reset.isSome
  let head := [w64 f.tick, w64 f.tick, pack [(63, 48, n), (47, 32, m), (2, 2, b2n seen), (1, 1, b2n coarse_), (0, 0, b2n cut)], w64 f.rtr.node, 0, 0, 0, 0]
  (f, head ++ (nodes.take n).flatMap WaitNode.words ++ recs.take (2 * m), whole)

/-- WAITFOR_DUMP (R527–R530). -/
def waitforBody : Body := fun c f =>
  let w := wd c.pay 0
  let addr := fld w 47 6 * 64
  let all := bit w 48
  let p := fld w 57 53
  if c.mbx = 36 then denied 0 f
  else if c.len != 8 || !onlyBits w [(48, 6), (57, 53)] || (!all && f.partCount ≤ p) then faulted f
  else if c.mbx < 32 && (all || p != c.mbx) then denied (if addr = 0 then 64 else 0) f
  else
    let (f, ws, whole) := f.graph (f.dumpEdges all p c.mbx) (f.conf && 32 ≤ c.mbx) (if addr = 0 then 4032 else 196672)
    if addr = 0 then (f, .done stOk (w64 whole) ws (8 * ws.length))
    else
      let units := ceilDiv ws.length 8
      let d : DumpOp := { mbx := c.mbx, pend := pieceCount addr units, bytes := whole }
      let f : Fabric := { f with trc := { f.trc with dumps := f.trc.dumps ++ [d] } }
      (f.hdpWrite addr ws (fun _ => .cmdWrite c.mbx), .wait)

/-- A write of WAITFOR_DUMP is acknowledged. -/
def Fabric.dumpWritten (f : Fabric) (mbx : Nat) : Fabric :=
  match f.trc.dumps.find? fun d => d.mbx == mbx with
  | none => f
  | some d =>
    if 1 < d.pend then
      { f with trc := { f.trc with dumps := updWhere f.trc.dumps (fun d => d.mbx == mbx) fun d => { d with pend := d.pend - 1 } } }
    else ({ f with trc := { f.trc with dumps := f.trc.dumps.filter fun d => d.mbx != mbx } } : Fabric).finish mbx stOk d.bytes

end Sys2Proof.Machine
end

