-- ==== Sys2Proof/Machine/Admin.lean ====
section
/-!
DEFINITION. The admin commands of Table 2.17, the body of every opcode (Table 2.16), and the acceptance of a command that
waits in its mailbox (R71).
-/
namespace Sys2Proof.Machine

/-- NOP: the payload comes back, with RESULT0 = ISSUE_TICK. -/
def nopBody : Body := fun c f =>
  if 4032 < c.len then faulted f else (f, .done stOk (w64 f.tick) (takePad (ceilDiv c.len 8) c.pay) c.len)

/-- A mailbox index that names no mailbox of the device (R77, R68, R423). -/
def Fabric.noMailbox (f : Fabric) (i : Nat) : Bool := 33 < i || (i < 32 && !f.mbxExists i)

/-- SEQ_QUERY (R77): the checks come before the violation rule, which applies to a mailbox that the source does not hold
(Table 2.6). -/
def seqQueryBody : Body := fun c f =>
  let i := fld (wd c.pay 0) 7 0
  if c.len != 8 || !onlyBits (wd c.pay 0) [(7, 0)] || f.noMailbox i then faulted f
  else if !f.mbxAccess c.mbx i then denied 16 f
  else
    let b := f.mbx i
    let now := if b.env.own && b.accepted then b.env.seq else 0
    (f, .done stOk 0 [pack [(31, 0, b.last.1), (39, 32, b.last.2), (47, 40, b2n b.env.own)], pack [(31, 0, now)]] 16)

/-- CMD_ABORT (R77): a command that has had no effect yet stops: an order that still waits for its message time (whose
start then rests on the orders that remain, log entry 153), and an XFER_ONE or PAGE_MOVE whose descriptor has not started. -/
def cmdAbortBody : Body := fun c f =>
  let w := wd c.pay 0
  let i := fld w 7 0
  if c.mbx != 32 then denied 0 f
  else if c.len != 8 || !onlyBits w [(7, 0), (63, 32)] || 31 < i || f.noMailbox i then faulted f
  else if f.confPart i then denied 0 f
  else
    let b := f.mbx i
    let p := tagPart b.env.tag
    let order := f.orders.any fun o => o.mbx == i
    let issued := (f.part p).issued.find? fun d => d.mbx == i
    if !(b.env.own && b.accepted && b.env.seq == fld w 63 32) || !(order || issued.isSome) then okay f
    else
      let f := { f with orders := f.orders.filter fun o => o.mbx != i }
      let f := f.updPart p fun x => { x with issued := x.issued.filter fun d => d.mbx != i }
      match issued with
      | some d => okay (f.endIssued p d stSuperseded) 1
      | none => okay (f.finish i stSuperseded) 1

/-! ### Bodies that wake waiting work -/

/-- A command after which prefetch ranges go on. -/
def withRanges (b : Body) : Body := fun c f =>
  let (g, r) := b c f
  (g.pumpRanges (tagPart c.tag), r)

/-- A command after which collectives go on. -/
def withColls (b : Body) : Body := fun c f =>
  let (g, r) := b c f
  (g.pumpColls (tagPart c.tag), r)

/-- The body of an opcode of the transfer, context and collective blocks (Table 2.16). -/
def bodyLow (op : Nat) : Body :=
  match op with
  | 0x0000 => nopBody
  | 0x0001 => seqQueryBody
  | 0x0002 => cmdAbortBody
  | 0x0100 => ctxCreateBody
  | 0x0101 => ctxDestroyBody
  | 0x0102 => ctxQueryBody
  | 0x0103 => segSetBody
  | 0x0104 => withColls invalidateBody
  | 0x0105 => withColls ctxResumeBody
  | 0x0106 => withRanges prefetchRangeBody
  | 0x0107 => withRanges adviseBody
  | 0x0200 => submitListBody
  | 0x0201 => xferOneBody
  | 0x0202 => listStatusBody
  | 0x0203 => listCancelBody
  | 0x0300 => withColls (postBody false)
  | 0x0301 => groupSetBody
  | 0x0302 => cancelBody false
  | 0x0303 => statusBody false
  | 0x0304 => bellReadBody
  | 0x0305 => journalSetBody
  | 0x0306 => journalStatusBody
  | 0x0380 => redLocalBody
  | 0x0400 => emapSetBody
  | 0x0401 => withColls (postBody true)
  | 0x0402 => statusBody true
  | 0x0403 => cancelBody true
  | 0x0404 => pageMoveBody
  | _ => fun _ f => faulted f

/-- The body of an opcode of the routing, link, power and ladder blocks (Table 2.16). -/
def bodyMid (op : Nat) : Body :=
  match op with
  | 0x0500 => routeUpdateBody
  | 0x0501 => timetableSetBody
  | 0x0502 => seatSetBody
  | 0x0580 => flowSetBody
  | 0x0581 => telemSnapBody
  | 0x0600 => portCtlBody
  | 0x0601 => laneScanBody
  | 0x0602 => laneTestBody
  | 0x0700 => powerCapBody
  | 0x0701 => opPointBody
  | 0x0702 => fwStageBody
  | 0x0703 => fwActivateBody
  | 0x0704 => bootRecordBody
  | 0x0800 => resetBody
  | 0x0801 => hangSetBody
  | 0x0802 => rollStatusBody
  | 0x0803 => rollAdmitBody
  | 0x0804 => rollExpelBody
  | 0x0805 => substituteBody
  | 0x0806 => injectPolicyBody
  | 0x0807 => injectBody
  | 0x0808 => logReadBody
  | _ => fun _ f => faulted f

/-- The body of an opcode of the Proctor, meter and counter blocks (Table 2.16). -/
def bodyHigh (op : Nat) : Body :=
  match op with
  | 0x0900 => spdmBodyOf none
  | 0x0901 => reportCardBody
  | 0x0902 => keyWrapLoadBody
  | 0x0903 => keyRotateBody
  | 0x0904 => sealBindBody
  | 0x0905 => confClaimBody
  | 0x0906 => confReleaseBody
  | 0x0907 => keyStatusBody
  | 0x0908 => debugUnlockBody
  | 0x0A00 => meterReadBody
  | 0x0A01 => meterMarkBody
  | 0x0A02 => meterLogBody
  | 0x0A03 => meterTimeBody
  | 0x0A04 => meterIdentityBody
  | 0x0B00 => counterSnapBody
  | 0x0B01 => traceArmBody
  | 0x0B02 => traceReadBody
  | 0x0B03 => waitforBody
  | _ => fun _ f => faulted f

/-- The body of an opcode; an opcode with no definition completes with FAULTED (R76). -/
def bodyOf (op : Nat) : Body :=
  if op < 0x0500 then bodyLow op else if op < 0x0900 then bodyMid op else bodyHigh op

/-- Acceptance of the command that waits in a mailbox (R71). -/
def Fabric.take (f : Fabric) (m : Nat) : Fabric :=
  f.accept (f.cmdOf m) (f.mbx m).env.opcode (bodyOf (f.mbx m).env.opcode)

end Sys2Proof.Machine
end

