-- ==== Sys2Proof/Machine/Registers.lean ====
section
/-!
DEFINITION. The register window (R65–R69, Tables 2.5 to 2.12, 4.12 to 4.16, 8.7, 9.3, 9.8, 10.11, 11.9, 12.15, 13.13, 14.11,
15.2, 15.3, 15.10): what a source reads, what a write does; and the SMBus messages (R547–R551).
-/
namespace Sys2Proof.Machine

/-! ### Reads -/

/-- MBX_HDP_STATUS (Table 2.9). -/
def Fabric.hdpStatus (f : Fabric) : Word :=
  pack [(23, 16, f.partCount), (9, 9, b2n f.conf), (8, 8, b2n f.ready), (6, 0, 64 - f.hdp.retired.length)]

/-- The four registers of a notice ring (Table 2.12). -/
def Ring.regs (r : Ring) : List Word :=
  [ pack [(63, 63, b2n r.enable), (47, 6, r.base / 64)], pack [(26, 17, r.mask), (16, 16, 1), (4, 0, r.log2)],
    pack [(63, 32, r.lost), (16, 16, b2n r.phase), (15, 0, r.head)], pack [(15, 0, r.tail)] ]

/-- Word i of a mailbox page. -/
def Mailbox.word (b : Mailbox) (i : Nat) : Word := if i < 8 then wd b.env.words i else wd b.pay (i - 8)

/-- A logical partition of the device; those of a P28 part above 27 and fenced ones have no mailbox, ring or PAR_ block. -/
def Fabric.partHere (f : Fabric) (p : Nat) : Bool := p < f.partCount && !(f.part p).disabled

/-- The ring of an offset of the MBX block, and the register's number. -/
def ringAt (off : Nat) : Option (Nat × Nat) :=
  if 0x400 ≤ off && off < 0x820 then some ((off - 0x400) / 32, off % 32 / 8) else none

/-- The mailbox of an offset of the MBX block. -/
def mailboxAt (off : Nat) : Option Nat :=
  if 0x1000 ≤ off && off < 0x2000 then some 32
  else if 0x2000 ≤ off && off < 0x22000 then some (off / 4096 - 2) else none

/-- A register of the MBX block. -/
def Fabric.mbxReg (f : Fabric) (off : Nat) : Word :=
  match ringAt off, mailboxAt off with
  | some (r, i), _ => if r = 32 || f.partHere r then wd (f.ring r).regs i else 0
  | _, some m => if f.mbxExists m then (f.mbx m).word (off % 4096 / 8) else 0
  | _, _ =>
    if off = 0 then f.mbxId
    else if off = 8 then f.hdpStatus
    else if off = 0x10 then w64 (maskOf (f.hdp.retired.map Prod.fst))
    else if 0x100 ≤ off && off < 0x300 then w64 (f.hdp.repair.get (off / 8 - 32) 0)
    else 0

/-- Both fields of an event register in steps of 4,096 (R517). -/
def coarseEvent (w : Word) : Word := pack [(63, 32, down (fld w 63 32) 4096), (31, 0, down (fld w 31 0) 4096)]

/-- A register of the RTR_ block; the admin does not see circuits of a confidential partition (chapter 08). -/
def Fabric.rtrReg (f : Fabric) (off : Nat) : Word :=
  let r := f.rtr
  if off < 0x20 then wd [r.topo, r.ctl, r.creditWord, r.pool] (off / 8)
  else if off < 0x38 then let w := wd r.events (off / 8 - 4); if f.conf then coarseEvent w else w
  else if 0x1000 ≤ off && off < 0x1800 then r.rackWord (off / 8 - 512)
  else if 0x1800 ≤ off && off < 0x1A00 then r.seats.get (off / 8 - 768) 0
  else if 0x2000 ≤ off && off < 0x2800 then
    let e := r.timetable.get (off / 32 - 256) []
    if f.confPart (tagPart (ttTag e)) && ttValid e then 0 else wd e (off % 32 / 8)
  else 0

/-- A register of the PRT_ block. -/
def Fabric.prtReg (f : Fabric) (off : Nat) : Word :=
  let k := off / 65536
  if k < 8 then wd (f.prtRegs k) (off % 65536 / 8)
  else if k = 8 then wd [f.flow.ctl, f.ccStat, f.ccHeld] (off % 65536 / 8)
  else 0

/-- LN_QMAP (Table 10.12). -/
def Fabric.qmap (f : Fabric) (k : Nat) : Word :=
  pack [(20, 18, (strapsOf f.pins.straps).qmap), (17, 16, f.qmapSource), (15, 12, (f.port k).count), (5, 0, (f.port k).first)]

/-- A register of the LN_ block. -/
def Fabric.lnReg (f : Fabric) (off : Nat) : Word :=
  if off < 0x40 then f.qmap (off / 8)
  else if 0x100 ≤ off && off < 0x300 then wd (f.port (off / 64 - 4)).lnRegs (off % 64 / 8)
  else if 0x1000 ≤ off && off < 0x2800 then wd (f.lane (off / 32 - 128)).regs (off % 32 / 8)
  else 0

/-- A register of the PAR_ blocks. -/
def Fabric.parReg (f : Fabric) (off : Nat) : Word :=
  let p := off / 65536
  let x := f.part p
  if f.partHere p then wd [f.parStatus p, w64 x.timeoutDef, w64 x.lateDiscard, w64 x.snapAddr] (off % 65536 / 8)
  else 0

/-- A register of the CLK_ and PWR_ block. -/
def Fabric.pwrReg (f : Fabric) (off : Nat) : Word :=
  if off < 0x10 then wd f.clk.regs (off / 8)
  else if 0x1000 ≤ off && off < 0x1030 then wd f.pwrRegs (off / 8 - 512)
  else if 0x1040 ≤ off && off < 0x1070 then f.thrReg (off / 8 - 520)
  else 0

/-- A register of the CNT_ block, coarsened in confidential mode (R517). -/
def Fabric.cntReg (f : Fabric) (off : Nat) : Word :=
  let d := f.deviceCounters f.conf
  if off < 0x28 then wd d (off / 8)
  else if 0x40 ≤ off && off < 0x70 then wd d (off / 8 - 3)
  else if 0x80 ≤ off && off < 0xC0 then wd d (off / 8 - 5)
  else if 0x1000 ≤ off && off < 0x2000 then wd (f.partCounters (off / 128 - 32) f.conf) (off % 128 / 8)
  else 0

/-- A register of the TRC_ block. -/
def Fabric.trcReg (f : Fabric) (off : Nat) : Word :=
  if off < 0x100 then wd (f.coreRegs (off / 32)) (off % 32 / 8)
  else if off = 0x200 then f.trigReg else 0

/-- The aligned 8 B register at an offset of the window (Table 2.5). -/
def Fabric.reg (f : Fabric) (off : Nat) : Word :=
  let o := off % 0x100000
  match off / 0x100000 with
  | 0 => f.mbxReg o
  | 1 => f.rtrReg o
  | 2 => f.prtReg o
  | 3 => f.lnReg o
  | 4 => f.parReg o
  | 5 => f.parReg (o + 0x100000)
  | 6 => f.pwrReg o
  | 7 => wd f.prcRegs (o / 8)
  | 8 => wd f.mtrRegs (o / 8)
  | 9 => f.cntReg o
  | 10 => f.trcReg o
  | 11 => wd f.aonRegs (o / 8)
  | _ => 0

/-! ### Privilege (Table 2.6, R549) -/

/-- What a source may do at an offset: read, write. A reserved offset asks for no privilege (log entry 60). -/
def Fabric.mayTouch (f : Fabric) (src off : Nat) : Bool × Bool :=
  let o := off % 0x100000
  let admin := src == 32
  let own (p : Nat) : Bool := src == p || (admin && !f.confPart p)
  match off / 0x100000 with
  | 0 =>
    match ringAt o, mailboxAt o with
    | some (32, _), _ => (admin, admin)
    | some (r, _), _ => let a := own r || !f.partHere r; (a, a)
    | _, some 32 => (admin, admin)
    | _, some m => let a := own m || !f.partHere m; (a, a)
    | _, _ =>
      if o < 0x10 then (src ≤ 33, false)
      else if o < 0x18 || (0x100 ≤ o && o < 0x300) then (admin, false)
      else (true, true)
  | 4 => let p := o / 65536; let a := own p || !f.partHere p; (a, a)
  | 5 => let p := 16 + o / 65536; let a := own p || !f.partHere p; (a, a)
  | 1 => (admin, false)
  | 7 => (true, false)
  | b => if b ≤ 11 then (admin || src == 33, false) else (true, true)

/-- A register as a source reads it: zero for a violation (R87). -/
def Fabric.regRead (f : Fabric) (src off : Nat) : Word := if (f.mayTouch src off).1 then f.reg off else 0

/-- REG_RD of 4 or 8 bytes, naturally aligned (R56); one of another size or alignment gets no answer (log entry 50). The
device answers with REG_RSP: the register's bytes, or zero for a violation, which counts (R66, R87). -/
def Fabric.regRd (f : Fabric) (src off size : Nat) : Fabric :=
  if !(size = 4 || size = 8) || off % size != 0 || 2 ^ 26 ≤ off then f
  else
    let w := f.regRead src (down off 8)
    let v := if size = 8 then w else if off % 8 = 0 then w64 (fld w 31 0) else w64 (fld w 63 32)
    let f := if (f.mayTouch src off).1 then f else f.violate
    { f with hdp := { f.hdp with regRsp := some v } }

/-! ### Writes -/

/-- The ready notice that waited for ring 32 (R388) is the ring's first notice. -/
def Fabric.releaseBoot (f : Fabric) : Fabric :=
  match f.ladder.bootHeld with
  | none => f
  | some ws =>
    let r := f.ring 32
    let n : Notice := { f.updateNotice 1 0 0 with pay := ws.drop 1, tick := (wd ws 0).toNat, nseq := r.nseq }
    let f := { f with ladder := { f.ladder with bootHeld := none } }
    let f := f.setRing 32 { r with nseq := (r.nseq + 1) % 2 ^ 32, recent := (n :: r.recent).take 1024 }
    if r.delivers 9 then f.writeNotice 32 n else f.dropNotice 32

/-- A write to a ring register (R69, R85, Table 2.12). -/
def Fabric.ringWrite (f : Fabric) (i reg : Nat) (w : Word) : Fabric :=
  let r := f.ring i
  match reg with
  | 0 =>
    let r := if r.enable then r else { r with base := 64 * fld w 47 6 }
    if bit w 63 && !r.enable then
      let f := f.setRing i { r with enable := true, head := 0, tail := 0, phase := true, lost := 0, nseq := 0, expect := 0 }
      if i = 32 then f.releaseBoot else f
    else if !bit w 63 && r.enable then
      f.setRing i { r with enable := false, lost := sat32 (r.lost + r.held.length), held := [] }
    else f.setRing i r
  | 1 =>
    let n := fld w 4 0
    f.setRing i { r with mask := fld w 26 17, log2 := if !r.enable && 6 ≤ n && n ≤ 16 then n else r.log2 }
  | 3 => if fld w 15 0 < 2 ^ r.log2 then f.setRing i { r with tail := fld w 15 0 } else f
  | _ => f

/-- Put words into a mailbox page from word i on. While OWN is 0 the fields that Table 2.13 gives to the device are stored
as written (log entry 149). -/
def Mailbox.putWords (b : Mailbox) (i : Nat) (ws : List Word) : Mailbox :=
  let old := (List.range (max 8 (max (i + ws.length) (8 + b.pay.length)))).map b.word
  let new := old.take i ++ ws ++ old.drop (i + ws.length)
  { b with env := Env.ofWords (new.take 8), pay := new.drop 8 }

/-- A write to a mailbox page from word i on (R71, R72): while OWN is 1 it is ignored, and one that sets OWN starts a
command. While the Management Cluster restarts, a command waits as while READY is 0 (log entry 150). -/
def Fabric.mailboxWrite (f : Fabric) (src m i : Nat) (ws : List Word) : Fabric :=
  let b := f.mbx m
  if b.env.own then f
  else
    let b := b.putWords i ws
    let f := f.setMbx m b
    if !b.env.own then f
    else
      let f := f.setMbx m { b with src := src, accepted := false }
      if f.ready && !f.ladder.restarting then f.take m else { f with waiting := f.waiting ++ [m] }

/-- A write to a PAR_ register (Tables 4.12 to 4.16). -/
def Fabric.parWrite (f : Fabric) (src p reg : Nat) (w : Word) : Fabric :=
  match reg with
  | 1 => if fld w 31 0 = 0 then f else f.updPart p fun x => { x with timeoutDef := fld w 31 0 }
  | 3 => f.updPart p fun x => { x with snapAddr := 64 * fld w 47 6 }
  | 4 => f.parSnap src p w
  | _ => f

/-- The words that a write of 4, 8 or 64 bytes leaves at its aligned offset. -/
def Fabric.merged (f : Fabric) (off size : Nat) (data : List Word) : List Word :=
  if size = 4 then
    let old := f.reg (off / 8 * 8)
    let v := fld (wd data 0) 31 0
    [if off % 8 = 0 then pack [(63, 32, fld old 63 32), (31, 0, v)] else pack [(63, 32, v), (31, 0, fld old 31 0)]]
  else takePad (size / 8) data

/-- REG_WR (R17, R56, R66–R72): a write of another size or alignment is ignored, one without privilege is a violation. A
register transaction without a data beat is a REG_RD (Table 2.3). Each returns its register credit (R58) as it is applied. -/
def Fabric.regWrite (f : Fabric) (src off size : Nat) (data : List Word) : Fabric :=
  if data.isEmpty then f.regRd src off size
  else if !(size = 4 || size = 8 || size = 64) || off % size != 0 || 2 ^ 26 ≤ off then f
  else if !(f.mayTouch src off).2 then f.violate
  else
    let o := off % 0x100000
    let ws := f.merged off size data
    let inMbx := off < 0x100000
    match (if inMbx then mailboxAt o else none), (if inMbx then ringAt o else none) with
    | some m, _ => if f.mbxExists m then f.mailboxWrite src m (o % 4096 / 8) ws else f
    | _, some (r, i) => if size != 64 && (r = 32 || f.partHere r) then f.ringWrite r i (wd ws 0) else f
    | _, _ =>
      let p := (off - 0x400000) / 65536
      if 0x400000 ≤ off && off < 0x600000 && size != 64 && f.partHere p then
        let reg := off % 65536 / 8
        if reg = 4 && off % 8 != 0 then f else f.parWrite src p reg (wd ws 0)
      else f

/-- A notice that waits for room in its ring is written once the ring has a free entry (R84). -/
def Fabric.deferredWrite (f : Fabric) (i : Nat) : Fabric :=
  let r := f.ring i
  match r.held with
  | n :: rest => if r.enable && r.room then (f.setRing i { r with held := rest }).writeNotice i n else f
  | [] => f

/-! ### SMBus (R547–R551) -/

/-- What the target answers. -/
def Fabric.smbAnswer (f : Fabric) (ws : List Word) : Fabric := { f with pins := { f.pins with smbData := ws } }

/-- A transaction has a correct PEC and the AON domain runs (R541, R547). -/
def Fabric.smb (f : Fabric) (pec : Bool) (k : Fabric → Fabric) : Fabric :=
  if !f.pins.powerGood then f else if !pec then f.smbAnswer [] else k f

/-- STATUS (Table 16.10); of several causes the one of highest number shows (log entry 61). -/
def Fabric.smbStatus (f : Fabric) : Fabric :=
  let cause := f.pins.faults.foldl max 0
  let s := strapsOf f.pins.straps
  f.smbAnswer
    [ pack [(55, 48, cause), (45, 45, b2n f.pins.trayReq), (44, 44, b2n (!f.pins.faults.isEmpty)), (43, 40, f.aon.stage),
            (39, 39, b2n s.valid), (38, 36, s.smba), (35, 34, s.par), (33, 31, s.qmap), (29, 15, s.len), (14, 0, s.node)],
      w64 f.pins.alerts, f.mbxId ]

/-- What R549 grants the rack manager: MBX_ID, MBX_HDP_STATUS and the blocks that it names; every other offset reads zero under
R87. -/
def smbGrants (off : Nat) : Bool := off < 0x10 || [2, 3, 6, 7, 8, 9, 10, 11].contains (off / 0x100000)

/-- REG_READ (R549): a malformed message has no effect; a register without privilege reads zero and is a violation. -/
def Fabric.smbRegRead (f : Fabric) (w : Word) : Fabric :=
  let n := fld w 30 26 + 1
  if !onlyBits w [(30, 0)] || 30 < n || fld w 2 0 != 0 then f.smbAnswer []
  else
    let offs := (List.range n).map fun i => fld w 25 0 + 8 * i
    let g := offs.foldl (fun g o => if smbGrants o then g else Sys2Proof.Machine.Fabric.violate g) f
    g.smbAnswer (offs.map fun o => if smbGrants o then f.reg o else 0)

/-- MBX_WRITE (R550): a fragment that sets OWN covers the whole envelope or has no effect. -/
def Fabric.smbMbxWrite (f : Fabric) (off : Nat) (ws : List Word) : Fabric :=
  let f := f.smbAnswer []
  if off % 8 != 0 || 4096 ≤ off || ws.isEmpty || 30 < ws.length || 512 < off / 8 + ws.length then f
  else
    let i := off / 8
    let setsOwn := i ≤ 7 && 7 < i + ws.length && bit (wd ws (7 - i)) 63
    if setsOwn && !(i = 0 && 8 ≤ ws.length) then f else f.mailboxWrite 33 33 i ws

/-- MBX_READ of a length in bytes. -/
def Fabric.smbMbxRead (f : Fabric) (off len : Nat) : Fabric :=
  if off % 8 != 0 || 4096 ≤ off || len % 8 != 0 || len < 8 || 240 < len || 4096 < off + len then f.smbAnswer []
  else f.smbAnswer ((List.range (len / 8)).map fun i => (f.mbx 33).word (off / 8 + i))

/-- ALERT_CLEAR (R551). -/
def Fabric.alertClear (f : Fabric) (mask : Nat) : Fabric :=
  let keep (x : Nat) : Nat := maskOf ((bitsOf x 8).filter fun i => !(mask / 2 ^ i % 2 == 1))
  { f with pins := { f.pins with alerts := keep f.pins.alerts, fresh := keep f.pins.fresh, smbData := [] } }

/-- A read of the Alert Response Address: the device answers it only while ALERT_N is asserted, with its own address. -/
def Fabric.alertResponse (f : Fabric) (won : Bool) : Fabric :=
  if f.pins.fresh = 0 || !won then f.smbAnswer []
  else { f with pins := { f.pins with fresh := 0, smbData := [w64 (2 * (0x58 + (strapsOf f.pins.straps).smba))] } }

/-- SCL low for 25 ms: the target releases the bus. -/
def Fabric.smbTimeout (f : Fabric) : Fabric := f.smbAnswer []

end Sys2Proof.Machine
end

