-- ==== Sys2Proof/Machine/HdpPort.lean ====
section
/-!
DEFINITION. What the host die sends the device: answers to MEM_RD, MEM_WR and ATOMIC (R58–R63), and CRC errors and replay
requests of slices (R50, R52, R53); errors that an injection puts into a lane's next codeword (R370).
-/
namespace Sys2Proof.Machine

/-- A walk's end for a collective or a RED_LOCAL: either holds the number; poison is reported (R63). -/
def Fabric.walkEnded (va addr : Nat) (f : Fabric) (p id : Nat) (w : CollWalk) : Fabric :=
  let red := (f.part p).reds.find? fun o => o.id == id
  let tag : Nat := match f.coll p id, red with
    | some c, _ => c.tag
    | _, some o => o.tag
    | _, _ => 0
  let cmd : Word := match f.coll p id, red with
    | some c, _ => w64 c.cmdId
    | _, some o => (f.mbx o.mbx).env.cmdId
    | _, _ => 0
  let f := if w == .poison then f.notify p (faultNotice p 3 0 tag 2 (w64 addr) 0 cmd) else f
  (f.collWalk p id va w).redWalk p id va w

/-- A walk's line arrives, and waiting collectives and reductions go on. -/
def Fabric.walkLine (f : Fabric) (p id : Nat) (line : List Word) (poison : Bool) (addr : Nat) : Fabric :=
  let va := ((f.part p).walks.find? fun w => w.id == id).elim 0 fun w => w.va
  (((f.walkData p id line poison addr (Sys2Proof.Machine.Fabric.walkEnded va addr)).pumpRanges p).pumpColls p).pumpReds p

/-- Bytes read count on arrival, and a wrap of CNT_HDP_RD is reported (R514). -/
def Fabric.countRead (f : Fabric) (units : Nat) : Fabric :=
  { f with hdp := { f.hdp with rdBytes := f.hdp.rdBytes + 64 * units } }

/-- Report wraps of CNT_HDP_RD and CNT_HDP_WR (R514). -/
def Fabric.settleWraps (f : Fabric) : Fabric :=
  let h := f.hdp
  let f := if h.rdBytes < 2 ^ 64 then f
    else ({ f with hdp := { f.hdp with rdBytes := f.hdp.rdBytes - 2 ^ 64 } } : Fabric).counterWrap 0x900008 0 0
  if h.wrBytes < 2 ^ 64 then f
  else ({ f with hdp := { f.hdp with wrBytes := f.hdp.wrBytes - 2 ^ 64 } } : Fabric).counterWrap 0x900010 0 0

/-- What read data does for the operation that asked for it. -/
def Fabric.feedRead (f : Fabric) (t : HdpTx) (ws : List Word) (poison : Bool) : Fabric :=
  match t.purpose with
  | .listHeader m => f.listHeader m ws poison t.addr
  | .listFetch p l s => f.listFetched p l s t.units ws poison t.addr
  | .walk p w => f.walkLine p w ws poison t.addr
  | .tileRd p r k off =>
    if poison then f.tilePoison p r k t.addr else f.tileAnswer p r k fun x => x.put off ws
  | .target op off => f.targetAnswer op off ws poison t.addr
  | .groupRead m off => f.tableData m off ws poison false t.addr
  | .emapRead m off => f.tableData m off ws poison true t.addr
  | .collIn p c off => f.collInput p c off ws poison t.addr
  | .redIn p o v off => f.redInput p o v off ws poison t.addr
  | .cmdRead m off => f.stageData m off ws poison t.addr
  | _ => f

/-- CONF_NACK for a write of a tile: FAULTED SEAL with KEY_EVENT CONF_NACK (R477). -/
def Fabric.tileNack (f : Fabric) (p id tile : Nat) : Fabric :=
  match f.run p id with
  | none => f
  | some r =>
    match r.tiles.find? fun t => t.id == tile with
    | none => f
    | some t =>
      let (slot, gen) := match t.srcSeal with | some s => (s.slot, s.gen) | none => (0xFF, 0)
      ((f.sealFault p r 5 slot gen t.dstVa).tileDrop p r t).settleAll p

/-- What an acknowledged write does for the operation that sent it. -/
def Fabric.feedWrite (f : Fabric) (t : HdpTx) (nack : Bool) : Fabric :=
  match t.purpose with
  | .record p l _ => f.recordWritten p l
  | .listEnd p l => f.listFinished p l
  | .tileWr p r k => if nack && t.conf then f.tileNack p r k else f.tileAnswer p r k id
  | .target op _ => f.targetAnswer op 0 [] false t.addr
  | .collOut p c _ => f.collWritten p c
  | .collRec p c => (f.collWritten p c).wakeCombines p
  | .journal p c => f.journalWritten p c
  | .redOut p o off => f.redWritten p o off
  | .trace m => f.traceWritten m
  | .cmdWrite m => f.dumpWritten m
  | _ => f

/-- The outstanding transaction of a tag and kind. -/
def Fabric.openTx (f : Fabric) (tag : Nat) (k : HdpKind) : Option HdpTx :=
  f.hdp.outstanding.find? fun t => t.tag == tag && t.kind == k

/-- RD_DATA (R63): data for an outstanding MEM_RD; of a poisoned answer no data is used. -/
def Fabric.rdData (f : Fabric) (tag : Nat) (data : List Word) (poison : Bool) : Fabric :=
  match f.openTx tag .memRd with
  | none => f
  | some t =>
    let ws := if poison then zeros (8 * t.units) else takePad (8 * t.units) data
    ({ f with hdp := f.hdp.answered t } : Fabric).countRead t.units |>.feedRead t ws poison

/-- WR_ACK (R59, R62): a MEM_WR is visible, or the host die discarded a CONF write. -/
def Fabric.wrAck (f : Fabric) (tag : Nat) (nack : Bool) : Fabric :=
  match f.openTx tag .memWr with
  | none => f
  | some t => ({ f with hdp := f.hdp.answered t } : Fabric).feedWrite t nack

/-- ATOMIC_RSP (R61): the old value of an element. -/
def Fabric.atomicRsp (f : Fabric) (tag : Nat) (old : Word) : Fabric :=
  match f.openTx tag .atomic with
  | none => f
  | some t =>
    let f := { f with hdp := f.hdp.answered t }
    match t.purpose with
    | .tileAt p r k e => f.tileAnswer p r k fun x => { x with old := x.old.set e old }
    | .target op e => f.targetAnswer op e [old] false t.addr
    | _ => f

/-! ### Replays -/

/-- A slice works: it is one of the 64, not retired, and the port is trained. -/
def Hdp.slice (h : Hdp) (slice : Nat) : Bool := slice ≤ 63 && !h.retired.get slice false && h.trained



/-- A replay on a slice (R50, R52, R53): more than 16 in a window of 156,250 ref ticks retire the slice, and below 48 active
slices the port stops. -/
def Fabric.sliceReplay (f : Fabric) (slice beats : Nat) : Fabric :=
  if !f.hdp.slice slice then f
  else
    let h := f.hdp
    let start := down f.tick 156250
    let counts : Map Nat := if h.window = start then h.replays else []
    let n := counts.get slice 0 + 1
    let h := { h with window := start, replays := counts.set slice n, replayBeats := h.replayBeats + min 64 beats }
    let f := { f with hdp := h, ladder := { f.ladder with crcSlices := f.ladder.crcSlices.filter (· != slice) } }
    if n ≤ 16 then f
    else
      let f := { f with hdp := f.hdp.retire slice }
      let f := f.notify 32 (faultNotice 0 0 0 0 3 (w64 slice) (w64 n) 0)
      if f.hdp.retired.length ≤ 16 then f
      else ({ f with hdp := { f.hdp with stopped := true } } : Fabric).faultOn 5

/-- A received beat and its CRC-7 (R50): where they differ, the device asks for a replay from this beat on, of the beats
that the host die has sent since. -/
def Fabric.beatRx (f : Fabric) (slice beats : Nat) (b : Beat) (crc : Nat) : Fabric :=
  if b.crc == crc || !f.hdp.slice slice then f
  else ({ f with hdp := { f.hdp with asked := f.hdp.asked.set slice (min 64 beats) } } : Fabric).sliceReplay slice beats

/-- The host die asks for a replay (R50): the device resends the last `beats` of the slice's replay buffer on that slice. -/
def Fabric.replayAsked (f : Fabric) (slice beats : Nat) : Fabric :=
  if !f.hdp.slice slice then f
  else
    let b := f.hdp.buf.get slice []
    ({ f with hdp := { f.hdp with again := (b.drop (b.length - beats)).map fun x => (slice, x) } } : Fabric).sliceReplay slice beats

end Sys2Proof.Machine
end

