-- ==== Sys2Proof/Machine/Arbiter.lean ====
section
/-!
DEFINITION. Contradictory orders (R88–R91): the end of a message time.
-/
namespace Sys2Proof.Machine

/-- Ref ticks of a message time (R89). -/
def messageTicks : Nat := 128

/-- Two objects of the model are one state object: a reset target, a timetable entry and the selection of an operating point
hold several fields, and every other field is a state object of its own (R302, R328, R373, R448; log entry 41). -/
def Obj.same (a b : Obj) : Bool :=
  a.block == b.block && a.index == b.index && (a.field == b.field || [blkTt, blkSelect, blkReset].contains a.block)

/-- Two orders set a common state object. -/
def Order.meets (a b : Order) : Bool := a.sets.any fun x => b.sets.any fun y => x.1.same y.1

/-- Two orders contradict: a common state object with different values (R88). -/
def Order.contradicts (a b : Order) : Bool := a.sets.any fun x => b.sets.any fun y => x.1 == y.1 && x.2 != y.2

/-- A message time (R89): its start and its orders. -/
structure MsgTime where
  start : Nat
  orders : List Order
  deriving DecidableEq, Repr

/-- An order is stamped: it joins every message time that is open at its ISSUE_TICK and sets an object of it, or begins a
new one (R89, R91). -/
def joinTimes (times : List MsgTime) (o : Order) : List MsgTime :=
  let hit (t : MsgTime) : Bool := o.tick < t.start + messageTicks && t.orders.any o.meets
  let mine := times.filter hit
  times.filter (fun t => !hit t) ++
    [{ start := mine.foldl (fun m t => min m t.start) o.tick, orders := mine.flatMap (·.orders) ++ [o] }]

/-- The message times of the orders that await application, in the order of their stamps. An order that CMD_ABORT has
taken away counts for none of them: the starts are those of the orders that remain (log entry 153). -/
def messageTimes (all : List Order) : List MsgTime := all.foldl joinTimes []

/-- R90's order: highest rank, then later ISSUE_TICK, then lower source number; of two that agree in all three the one
accepted later (DESIGN CHOICE, log entry 45). -/
def Order.ahead (a b : Order) : Bool :=
  if a.rank != b.rank then a.rank < b.rank
  else if a.tick != b.tick then b.tick < a.tick
  else if a.src != b.src then a.src < b.src
  else b.id ≤ a.id

/-- Insert an order at its place. -/
def insertOrder (o : Order) : List Order → List Order
  | [] => [o]
  | x :: xs => if o.ahead x then o :: x :: xs else x :: insertOrder o xs

/-- The effect of a standing order; its meaning completes its command. -/
def Fabric.applyOrder (f : Fabric) (o : Order) : Fabric :=
  match o.opcode with
  | 0x0500 => f.routeUpdate o
  | 0x0501 => f.timetableSet o
  | 0x0502 => f.seatSet o
  | 0x0580 => f.flowSet o
  | 0x0600 => f.portCtl o
  | 0x0700 => f.powerCap o
  | 0x0701 => f.opPoint o
  | 0x0800 => f.resetLevel o
  | 0x0801 => f.hangSet o
  | 0x0803 => f.rollAdmit o
  | 0x0804 => f.rollExpel o
  | 0x0805 => f.substitute o
  | 0x0806 => f.injectPolicy o
  | 0x0807 => f.injectFault o
  | 0x10000 => f.setLimit o
  | 0x10001 => f.fence o
  | 0x10002 => f.ladderDevice o
  | 0x10003 => f.portRung o
  | _ => f

/-- The limits of an order across state objects fail (R90, R291, R296, R303, R448), against the state that the orders
before it leave; a ROUTE_UPDATE that still drains counts as applied. -/
def Fabric.orderFails (f : Fabric) (o : Order) : Bool :=
  match o.opcode with
  | 0x0500 => f.routeLimits f.rtr.afterDrains o.sets
  | 0x0501 => f.ttBad (fld (wd o.pay 0) 5 0) [wd o.pay 1, wd o.pay 2, wd o.pay 3, wd o.pay 4]
  | 0x0502 => f.seatBad (fld (wd o.pay 0) 5 0) (wd o.pay 1)
  | 0x0801 => hangBad o.len o.pay f.rtr.afterDrains.gapTicks
  | _ => false

/-- The command of an order has completed with FAULTED: its limits failed (R90). -/
def Fabric.limitsFailed (f : Fabric) (o : Order) : Bool := !(f.mbx o.mbx).env.own && (f.mbx o.mbx).env.status == stFaulted

/-- Take the orders of a message time in turn: a contradicted order completes with SUPERSEDED, another stands, unless its
limits fail against the state that the orders before it left. -/
def Fabric.arbitrate (f : Fabric) : List Order → List Order → Fabric
  | [], _ => f
  | o :: os, standing =>
    if standing.any fun s => s.contradicts o then (f.finish o.mbx stSuperseded).arbitrate os standing
    else if f.orderFails o then (f.finish o.mbx stFaulted).arbitrate os standing
    else
      let g := f.applyOrder o
      g.arbitrate os (if (f.mbx o.mbx).env.own && g.limitsFailed o then standing else standing ++ [o])

/-- MESSAGE_TIME_END (R90): the message time of a pending order is over. One that sets an object of an earlier message time
applies after it (R91). -/
def Fabric.messageTimeEnd (f : Fabric) (id : Nat) : Fabric :=
  let times := messageTimes f.orders
  match times.find? fun t => t.orders.any fun o => o.id == id with
  | none => f
  | some t =>
    let before := times.any fun u => u.start < t.start && u.orders.any fun a => t.orders.any a.meets
    if f.tick < t.start + messageTicks || before then f
    else
      let rest := f.orders.filter fun x => !(t.orders.any fun y => y.id == x.id)
      ({ f with orders := rest } : Fabric).arbitrate (t.orders.foldl (fun l x => insertOrder x l) []) []

end Sys2Proof.Machine
end

