-- ==== Sys2Proof/Machine/Run.lean ====
section
/-!
DEFINITION. How a command of the opcode table meets the state: mailbox commands, events of the fabric die behind their gate,
events of the meter die; and what one ref tick does (R11, R15, R464, R513, R521).
-/
namespace Sys2Proof.Machine

/-! ### Gates -/

/-- An event that nothing holds back. -/
def Fabric.always (_ : Fabric) : Bool := true

/-- The die is powered and out of RST_N. -/
def Fabric.awake (f : Fabric) : Bool := f.pins.powerGood && f.pins.rstN

/-- The power manager and the safety monitors run, also during a REFCLK fault (Table 11.1), unless the HDP has stopped the
device (R53). -/
def Fabric.powered (f : Fabric) : Bool := f.awake && 4 ≤ f.aon.stage && !f.pins.faults.contains 5

/-- The HDP carries transactions. -/
def Fabric.hdpUp (f : Fabric) : Bool := f.live && f.hdp.trained && !f.hdp.stopped

/-- A source can reach its mailbox: the HDP for sources 0 to 32, the SMBus port for 33, the die itself for 36. -/
def Fabric.canSend (f : Fabric) (src : Nat) : Bool :=
  if src ≤ 32 then f.hdpUp
  else if src = 33 then f.awake && !(f.pins.faults.any fun c => c == 5 || c == 6 || c == 7)
  else f.live

/-! ### Lifts -/

/-- An event of the fabric die behind its gate; the meter die and the queue stay as they are. -/
def State.onFabric (s : State) (gate : Fabric → Bool) (g : Fabric → Fabric) : Host.Outcome State Fault Refusal :=
  .next (if gate s.fab then { s with fab := g s.fab } else s)

/-- An event of the meter die; the fabric die and the queue stay as they are. -/
def State.onMeter (s : State) (g : Meter → Meter) : Host.Outcome State Fault Refusal := .next { s with meter := g s.meter }

/-- A mailbox command (R71): its source reaches the mailbox, and the envelope is written with OWN = 1. -/
def State.command (s : State) (c : Cmd) (op : Nat) (body : Body) : Host.Outcome State Fault Refusal :=
  s.onFabric (fun f => f.canSend c.src) fun f => f.issue c op body

/-- The command with field [hi:lo] of its first payload word set, for rows that share an opcode. -/
def force (c : Cmd) (hi lo v : Nat) : Cmd :=
  let w := wd c.pay 0
  let w := (w &&& ~~~ (pack [(hi, lo, 2 ^ (hi + 1 - lo) - 1)])) ||| pack [(hi, lo, v)]
  { c with pay := w :: c.pay.drop 1 }

/-! ### Events that join two meanings -/

/-- A write of one register of a notice ring. -/
def Fabric.ringReg (f : Fabric) (src ring reg : Nat) (w : Word) : Fabric :=
  if 32 < ring then f else f.regWrite src (0x400 + 0x20 * ring + 8 * reg) 8 [w]

/-- A good link control flit with its heartbeat (R343, R428). -/
def Fabric.linkControl (f : Fabric) (k : Nat) (m : Lcf) : Fabric :=
  match m.hb with
  | some ws => (f.lcfRx k m).heartbeatRx k ws
  | none => f.lcfRx k m

/-- A link control slot arrives (R338, R339): it is good where its CRC passes under the LCF prefix. -/
def Fabric.lcfSlotRx (f : Fabric) (k : Nat) (m : Lcf) (crc : Word) : Fabric :=
  f.slotIn k fun f => if crc == lcfCrc m.words then f.linkControl k m else f.slotFailed k

/-- A collective message leaves the inbox and reaches its member. -/
def Fabric.collMsg (f : Fabric) (m : Msg) : Fabric := (f.takeMsg m).1.collArrive m

/-- A NACK leaves the inbox and reaches the sender. -/
def Fabric.nackMsg (f : Fabric) (m : Msg) : Fabric := (f.takeMsg m).1.collNack m

/-! ### One ref tick -/

/-- The run that a held HDP transaction works for. -/
def HdpTx.run (t : HdpTx) : Option (Nat × Nat) :=
  match t.purpose with
  | .tileRd p r _ _ => some (p, r)
  | .tileWr p r _ => some (p, r)
  | .tileAt p r _ _ => some (p, r)
  | _ => none

/-- Counter entries (partition, entry) of commands of which an engine holds a request for want of a flow-control credit or of
an HDP slot; a message that waits for its rate allowance alone is not one (log entry 136). -/
def Fabric.stalledEntries (f : Fabric) : List (Nat × Nat) :=
  let held := f.hdp.waiting.filterMap HdpTx.run
  let short (o : OutMsg) : Bool := o.dsts.any fun d => f.rtr.window (f.srcState d) ≤ (f.srcState d).used
  let sent := f.rtr.outbox.filterMap fun o =>
    if o.kind.request && short o then (f.rtr.reqs.find o.reqId).map fun q => (q.part, q.run) else none
  let entry (x : Nat × Nat) : Option (Nat × Nat) := (f.run x.1 x.2).bind fun r =>
    let i := f.entryOf x.1 r.src
    if ((f.part x.1).entries.get i {}).cmdId = r.cmdId then some (x.1, i) else none
  (held ++ sent).foldl (fun l x =>
    match entry x with
    | some e => if l.contains e then l else l ++ [e]
    | none => l) []

/-- STALL_TICKS of Table 4.11. -/
def Fabric.tickStalls (f : Fabric) : Fabric :=
  f.stalledEntries.foldl (fun g e => g.updEntry e.1 e.2 fun x => { x with stall := x.stall + 1 }) f

/-- An engine's progress counter stands while it does not run: its descriptor waits only on other descriptors, or its context
is SWITCHED_OUT (R412, R413). -/
def Fabric.tickHp (f : Fabric) : Fabric :=
  (f.parts.map (·.1)).foldl (fun g p =>
    g.updPart p fun x => { x with runs := updWhere x.runs (fun r => r.phase.eng.isSome && !f.engCounts p r) fun r => { r with lastProgress := r.lastProgress + 1 } }) f

/-- Confidential mode follows the claims; entry also drops armed traces (R464, R465, R526). -/
def Fabric.tickMode (f : Fabric) : Fabric := if f.tickConf.conf && !f.conf then f.tickConf.cancelTrace else f.tickConf

/-- One ref tick: the tick that ends is charged, the counts of ref ticks move on, snapshots are taken at its start, rates refill and what can leave does, the modes of chapter 13 follow. -/
def Fabric.tickOnce (f : Fabric) : Fabric :=
  if !f.counting then f
  else
    let f := ((List.range 8).foldl Sys2Proof.Machine.Fabric.chargePort f).chargeHeld.tickCounters.tickStalls.tickHp
    let f := ({ f with tick := f.tick + 1 } : Fabric).tickCtl.tickSnaps.tickCounts.tickBell.tickFlow
    f.tickPower.tickTrace.tickMode.settleWraps

end Sys2Proof.Machine
end

