-- ==== Sys2Proof/Machine/CmdColl.lean ====
section
/-!
DEFINITION. Meanings: Collectives, dispatch, combine and page moves (chapters 05 to 07).
-/
namespace Sys2Proof.Machine

/-- COLL_POST (R209). -/
def execCollPost (c : Cmd) (s : State) : Host.Outcome State Fault Refusal := s.command c 0x0300 (withColls (postBody false))

/-- GROUP_SET (R204). -/
def execGroupSet (c : Cmd) (s : State) : Host.Outcome State Fault Refusal := s.command c 0x0301 groupSetBody

/-- COLL_CANCEL (R231). -/
def execCollCancel (c : Cmd) (s : State) : Host.Outcome State Fault Refusal := s.command c 0x0302 (cancelBody false)

/-- COLL_STATUS (R235). -/
def execCollStatus (c : Cmd) (s : State) : Host.Outcome State Fault Refusal := s.command c 0x0303 (statusBody false)

/-- BELL_READ (R235). -/
def execBellRead (c : Cmd) (s : State) : Host.Outcome State Fault Refusal := s.command c 0x0304 bellReadBody

/-- JOURNAL_SET (R233). -/
def execJournalSet (c : Cmd) (s : State) : Host.Outcome State Fault Refusal := s.command c 0x0305 journalSetBody

/-- JOURNAL_STATUS (R235). -/
def execJournalStatus (c : Cmd) (s : State) : Host.Outcome State Fault Refusal := s.command c 0x0306 journalStatusBody

/-- RED_LOCAL (R200). -/
def execRedLocal (c : Cmd) (s : State) : Host.Outcome State Fault Refusal := s.command c 0x0380 redLocalBody

/-- COLL_LAUNCH (R224). -/
def execCollLaunch (p : Nat) (id : Nat) (s : State) : Host.Outcome State Fault Refusal :=
  s.onFabric Sys2Proof.Machine.Fabric.live fun f => f.launch p id

/-- COLL_WAIT_TIMEOUT (R228). -/
def execCollWaitTimeout (p : Nat) (id : Nat) (s : State) : Host.Outcome State Fault Refusal :=
  s.onFabric Sys2Proof.Machine.Fabric.live fun f => f.collTimeout p id

/-- COLL_RESEND_TIMER (R226). -/
def execCollResendTimer (p : Nat) (id : Nat) (s : State) : Host.Outcome State Fault Refusal :=
  s.onFabric Sys2Proof.Machine.Fabric.live fun f => f.collResend p id

/-- BELL_HOLDOVER (R222). -/
def execBellHoldover (s : State) : Host.Outcome State Fault Refusal :=
  s.onFabric Sys2Proof.Machine.Fabric.live fun f => f.bellHoldover

/-- EMAP_SET (R236). -/
def execEmapSet (c : Cmd) (s : State) : Host.Outcome State Fault Refusal := s.command c 0x0400 emapSetBody

/-- DISPATCH_POST (R253). -/
def execDispatchPost (c : Cmd) (s : State) : Host.Outcome State Fault Refusal := s.command c 0x0401 (withColls (postBody true))

/-- DISPATCH_STATUS (R257). -/
def execDispatchStatus (c : Cmd) (s : State) : Host.Outcome State Fault Refusal := s.command c 0x0402 (statusBody true)

/-- DISPATCH_CANCEL (R257). -/
def execDispatchCancel (c : Cmd) (s : State) : Host.Outcome State Fault Refusal := s.command c 0x0403 (cancelBody true)

/-- PAGE_MOVE (R259). -/
def execPageMove (c : Cmd) (s : State) : Host.Outcome State Fault Refusal := s.command c 0x0404 pageMoveBody

end Sys2Proof.Machine
end

