-- ==== Sys2Proof/Machine/CmdContext.lean ====
section
/-!
DEFINITION. Meanings: Contexts, segments and translation (chapter 03).
-/
namespace Sys2Proof.Machine

/-- CTX_CREATE (R94). -/
def execCtxCreate (c : Cmd) (s : State) : Host.Outcome State Fault Refusal := s.command c 0x0100 ctxCreateBody

/-- CTX_DESTROY (R426). -/
def execCtxDestroy (c : Cmd) (s : State) : Host.Outcome State Fault Refusal := s.command c 0x0101 ctxDestroyBody

/-- CONTEXT_LINGER_END (R426). -/
def execContextLingerEnd (tag : Nat) (s : State) : Host.Outcome State Fault Refusal :=
  s.onFabric Sys2Proof.Machine.Fabric.live fun f => f.lingerEnd tag

/-- CTX_QUERY (R97). -/
def execCtxQuery (c : Cmd) (s : State) : Host.Outcome State Fault Refusal := s.command c 0x0102 ctxQueryBody

/-- SEG_SET (R98). -/
def execSegSet (c : Cmd) (s : State) : Host.Outcome State Fault Refusal := s.command c 0x0103 segSetBody

/-- SEG_SET_DRAINED (R101). -/
def execSegSetDrained (mbx : Nat) (s : State) : Host.Outcome State Fault Refusal :=
  s.onFabric Sys2Proof.Machine.Fabric.live fun f => f.finishDrain mbx true

/-- INVALIDATE (R122). -/
def execInvalidate (c : Cmd) (s : State) : Host.Outcome State Fault Refusal := s.command c 0x0104 (withColls invalidateBody)

/-- INVALIDATE_DRAINED (R122). -/
def execInvalidateDrained (mbx : Nat) (s : State) : Host.Outcome State Fault Refusal :=
  s.onFabric Sys2Proof.Machine.Fabric.live fun f => f.finishDrain mbx false

/-- CTX_RESUME (R115). -/
def execCtxResume (c : Cmd) (s : State) : Host.Outcome State Fault Refusal := s.command c 0x0105 (withColls ctxResumeBody)

/-- PREFETCH_RANGE (R125). -/
def execPrefetchRange (c : Cmd) (s : State) : Host.Outcome State Fault Refusal :=
  s.command c 0x0106 (withRanges prefetchRangeBody)

/-- ADVISE (R126). -/
def execAdvise (c : Cmd) (s : State) : Host.Outcome State Fault Refusal := s.command c 0x0107 (withRanges adviseBody)

end Sys2Proof.Machine
end

