-- ==== Sys2Proof/Machine/CmdHang.lean ====
section
/-!
DEFINITION. Meanings: SRAM errors, roll call, the ladder, resets, injections (chapter 12).
-/
namespace Sys2Proof.Machine

/-- SRAM_ERROR (R30): every error counts, in start-up and in a REFCLK fault too. -/
def execSramError (unit : Nat) (ue : Bool) (p : Nat) (hit : SramHit) (addr : Word) (syndrome : Word) (s : State) : Host.Outcome State Fault Refusal :=
  s.onFabric Sys2Proof.Machine.Fabric.awake fun f => f.sramError unit ue p hit addr syndrome

/-- HEARTBEAT_SEND (R428). -/
def execHeartbeatSend (k : Nat) (s : State) : Host.Outcome State Fault Refusal :=
  s.onFabric Sys2Proof.Machine.Fabric.live fun f => f.heartbeatSend k

/-- ROLLCALL_MISS (R431). -/
def execRollcallMiss (k : Nat) (s : State) : Host.Outcome State Fault Refusal :=
  s.onFabric Sys2Proof.Machine.Fabric.live fun f => f.rollcallMiss k

/-- TALLY_TIMEOUT (R433). -/
def execTallyTimeout (node : Nat) (s : State) : Host.Outcome State Fault Refusal :=
  s.onFabric Sys2Proof.Machine.Fabric.live fun f => f.tallyTimeout node

/-- ISOLATION_TIMEOUT (R437). -/
def execIsolationTimeout (s : State) : Host.Outcome State Fault Refusal :=
  s.onFabric Sys2Proof.Machine.Fabric.live fun f => f.isolationTimeout

/-- ENGINE_PROGRESS_EXPIRE (R412). -/
def execEngineProgressExpire (p : Nat) (e : Nat) (s : State) : Host.Outcome State Fault Refusal :=
  s.onFabric Sys2Proof.Machine.Fabric.live fun f => f.engineExpire p e

/-- E_RESET_DONE (R419). -/
def execEResetDone (p : Nat) (e : Nat) (s : State) : Host.Outcome State Fault Refusal :=
  s.onFabric Sys2Proof.Machine.Fabric.live fun f => f.eResetDone p e

/-- E_RESET_HUNG (R415). -/
def execEResetHung (p : Nat) (e : Nat) (s : State) : Host.Outcome State Fault Refusal :=
  s.onFabric Sys2Proof.Machine.Fabric.live fun f => f.eHung p e

/-- PARTITION_PROGRESS_EXPIRE (R415). -/
def execPartitionProgressExpire (p : Nat) (s : State) : Host.Outcome State Fault Refusal :=
  s.onFabric Sys2Proof.Machine.Fabric.live fun f => f.partitionExpire p

/-- P_RESET_DRAIN_DONE (R421). -/
def execPResetDrainDone (p : Nat) (s : State) : Host.Outcome State Fault Refusal :=
  s.onFabric Sys2Proof.Machine.Fabric.live fun f => f.pDrainDone p

/-- P_RESET_SCRUB_DONE (R466). -/
def execPResetScrubDone (p : Nat) (s : State) : Host.Outcome State Fault Refusal :=
  s.onFabric Sys2Proof.Machine.Fabric.live fun f => f.pScrubDone p

/-- P_RESET_HUNG (R415). -/
def execPResetHung (p : Nat) (s : State) : Host.Outcome State Fault Refusal :=
  s.onFabric Sys2Proof.Machine.Fabric.live fun f => f.pHung p

/-- P_RESET_QUIET_END (R422). -/
def execPResetQuietEnd (p : Nat) (s : State) : Host.Outcome State Fault Refusal :=
  s.onFabric Sys2Proof.Machine.Fabric.live fun f => f.pQuietEnd p

/-- PORT_PROGRESS_EXPIRE (R415). -/
def execPortProgressExpire (k : Nat) (s : State) : Host.Outcome State Fault Refusal :=
  s.onFabric Sys2Proof.Machine.Fabric.live fun f => f.portExpire k

/-- WATCHDOG_EXPIRE (R86). -/
def execWatchdogExpire (core : Nat) (s : State) : Host.Outcome State Fault Refusal :=
  s.onFabric Sys2Proof.Machine.Fabric.counting fun f => f.watchdogExpire core

/-- MC_RESTART_DONE (R86). -/
def execMcRestartDone (s : State) : Host.Outcome State Fault Refusal :=
  s.onFabric Sys2Proof.Machine.Fabric.live fun f => f.restartDone Sys2Proof.Machine.Fabric.take

/-- D_RESET_READY_TIMEOUT (R415). -/
def execDResetReadyTimeout (s : State) : Host.Outcome State Fault Refusal :=
  s.onFabric Sys2Proof.Machine.Fabric.always fun f => f.readyTimeout

/-- RESET_LEVEL_C (R131). -/
def execResetLevelC (c : Cmd) (s : State) : Host.Outcome State Fault Refusal := s.command (force c 1 0 0) 0x0800 resetBody

/-- RESET_LEVEL_E (R419). -/
def execResetLevelE (c : Cmd) (s : State) : Host.Outcome State Fault Refusal := s.command (force c 1 0 1) 0x0800 resetBody

/-- RESET_LEVEL_P (R418). -/
def execResetLevelP (c : Cmd) (s : State) : Host.Outcome State Fault Refusal := s.command (force c 1 0 2) 0x0800 resetBody

/-- RESET_LEVEL_D (R424). -/
def execResetLevelD (c : Cmd) (s : State) : Host.Outcome State Fault Refusal := s.command (force c 1 0 3) 0x0800 resetBody

/-- HANG_SET (R414). -/
def execHangSet (c : Cmd) (s : State) : Host.Outcome State Fault Refusal := s.command c 0x0801 hangSetBody

/-- ROLLCALL_STATUS (R448). -/
def execRollcallStatus (c : Cmd) (s : State) : Host.Outcome State Fault Refusal := s.command c 0x0802 rollStatusBody

/-- ROLLCALL_ADMIT (R439). -/
def execRollcallAdmit (c : Cmd) (s : State) : Host.Outcome State Fault Refusal := s.command c 0x0803 rollAdmitBody

/-- ROLLCALL_EXPEL (R441). -/
def execRollcallExpel (c : Cmd) (s : State) : Host.Outcome State Fault Refusal := s.command c 0x0804 rollExpelBody

/-- SUBSTITUTE_SEAT (R275). -/
def execSubstituteSeat (c : Cmd) (s : State) : Host.Outcome State Fault Refusal := s.command (force c 2 0 0) 0x0805 substituteBody

/-- SUBSTITUTE_ANNOUNCE (R444). -/
def execSubstituteAnnounce (c : Cmd) (s : State) : Host.Outcome State Fault Refusal :=
  s.command (force c 2 0 1) 0x0805 substituteBody

/-- SUBSTITUTE_COMMIT (R445). -/
def execSubstituteCommit (c : Cmd) (s : State) : Host.Outcome State Fault Refusal :=
  s.command (force c 2 0 2) 0x0805 substituteBody

/-- SUBSTITUTE_RELEASE (R442). -/
def execSubstituteRelease (c : Cmd) (s : State) : Host.Outcome State Fault Refusal :=
  s.command (force c 2 0 3) 0x0805 substituteBody

/-- INJECT_POLICY (R446). -/
def execInjectPolicy (c : Cmd) (s : State) : Host.Outcome State Fault Refusal := s.command c 0x0806 injectPolicyBody

/-- INJECT_FAULT_LANE (R370). -/
def execInjectFaultLane (c : Cmd) (s : State) : Host.Outcome State Fault Refusal := s.command (force c 7 0 1) 0x0807 injectBody

/-- INJECT_FAULT_SRAM_CE (R446). -/
def execInjectFaultSramCe (c : Cmd) (s : State) : Host.Outcome State Fault Refusal := s.command (force c 7 0 2) 0x0807 injectBody

/-- INJECT_FAULT_SRAM_UE (R446). -/
def execInjectFaultSramUe (c : Cmd) (s : State) : Host.Outcome State Fault Refusal := s.command (force c 7 0 3) 0x0807 injectBody

/-- INJECT_FAULT_HDP_CRC (R446). -/
def execInjectFaultHdpCrc (c : Cmd) (s : State) : Host.Outcome State Fault Refusal := s.command (force c 7 0 4) 0x0807 injectBody

/-- INJECT_FAULT_ENGINE_STALL (R446). -/
def execInjectFaultEngineStall (c : Cmd) (s : State) : Host.Outcome State Fault Refusal :=
  s.command (force c 7 0 5) 0x0807 injectBody

/-- INJECT_FAULT_RESET_STALL (R446). -/
def execInjectFaultResetStall (c : Cmd) (s : State) : Host.Outcome State Fault Refusal :=
  s.command (force c 7 0 6) 0x0807 injectBody

/-- INJECT_FAULT_CS_STALL (R446). -/
def execInjectFaultCsStall (c : Cmd) (s : State) : Host.Outcome State Fault Refusal := s.command (force c 7 0 7) 0x0807 injectBody

/-- INJECT_FAULT_MC_STALL (R446). -/
def execInjectFaultMcStall (c : Cmd) (s : State) : Host.Outcome State Fault Refusal := s.command (force c 7 0 8) 0x0807 injectBody

/-- INJECT_FAULT_HB_SILENCE (R446). -/
def execInjectFaultHbSilence (c : Cmd) (s : State) : Host.Outcome State Fault Refusal :=
  s.command (force c 7 0 9) 0x0807 injectBody

/-- INJECT_AT_BELL (R446). -/
def execInjectAtBell (s : State) : Host.Outcome State Fault Refusal :=
  s.onFabric Sys2Proof.Machine.Fabric.live fun f => f.injectAtBell

/-- LOG_READ (R448). -/
def execLogRead (c : Cmd) (s : State) : Host.Outcome State Fault Refusal := s.command c 0x0808 logReadBody

end Sys2Proof.Machine
end

