-- ==== Sys2Proof/Machine/CmdHost.lean ====
section
/-!
DEFINITION. Meanings: The Host Die Port: notice rings, registers, answers, replays (chapter 02).
-/
namespace Sys2Proof.Machine

/-- NRING_ENABLE (R69). -/
def execNringEnable (src : Nat) (ring : Nat) (base : Nat) (s : State) : Host.Outcome State Fault Refusal :=
  s.onFabric Sys2Proof.Machine.Fabric.hdpUp fun f => f.ringReg src ring 0 (pack [(63, 63, 1), (47, 6, base / 64)])

/-- NRING_DISABLE (R85). -/
def execNringDisable (src : Nat) (ring : Nat) (s : State) : Host.Outcome State Fault Refusal :=
  s.onFabric Sys2Proof.Machine.Fabric.hdpUp fun f => f.ringReg src ring 0 0

/-- NRING_TAIL_WRITE (R84). -/
def execNringTailWrite (src : Nat) (ring : Nat) (index : Nat) (s : State) : Host.Outcome State Fault Refusal :=
  s.onFabric Sys2Proof.Machine.Fabric.hdpUp fun f => f.ringReg src ring 3 (w64 index)

/-- NOTICE_DEFERRED_WRITE (R84). -/
def execNoticeDeferredWrite (ring : Nat) (s : State) : Host.Outcome State Fault Refusal :=
  s.onFabric Sys2Proof.Machine.Fabric.live fun f => f.deferredWrite ring

/-- REGISTER_WRITE (R17): a REG_WR, or, without a data beat, a REG_RD (log entry 148). -/
def execRegisterWrite (src : Nat) (off : Nat) (size : Nat) (data : List Word) (s : State) : Host.Outcome State Fault Refusal :=
  s.onFabric Sys2Proof.Machine.Fabric.hdpUp fun f => f.regWrite src off size data

/-- HDP_RD_DATA (R63). -/
def execHdpRdData (tag : Nat) (data : List Word) (poison : Bool) (s : State) : Host.Outcome State Fault Refusal :=
  s.onFabric Sys2Proof.Machine.Fabric.hdpUp fun f => f.rdData tag data poison

/-- HDP_WR_ACK (R59). -/
def execHdpWrAck (tag : Nat) (nack : Bool) (s : State) : Host.Outcome State Fault Refusal :=
  s.onFabric Sys2Proof.Machine.Fabric.hdpUp fun f => f.wrAck tag nack

/-- HDP_ATOMIC_RSP (R61). -/
def execHdpAtomicRsp (tag : Nat) (old : Word) (s : State) : Host.Outcome State Fault Refusal :=
  s.onFabric Sys2Proof.Machine.Fabric.hdpUp fun f => f.atomicRsp tag old

/-- HDP_CRC_ERROR (R50): the beat as it arrived, its header flag and its CRC-7. -/
def execHdpCrcError (slice : Nat) (beats : BeatRx) (s : State) : Host.Outcome State Fault Refusal :=
  s.onFabric Sys2Proof.Machine.Fabric.hdpUp fun f => f.beatRx slice beats.beats { header := beats.header, data := beats.data } beats.crc

/-- HDP_REPLAY_REQUEST (R50). -/
def execHdpReplayRequest (slice : Nat) (beats : Nat) (s : State) : Host.Outcome State Fault Refusal :=
  s.onFabric Sys2Proof.Machine.Fabric.hdpUp fun f => f.replayAsked slice beats

end Sys2Proof.Machine
end

