-- ==== Sys2Proof/Machine/CmdLate.lean ====
section
/-!
DEFINITION. Meanings: Rows of several chapters that stand at the end of the table.
-/
namespace Sys2Proof.Machine

/-- SPDM_UNSUPPORTED_REQUEST (R457). -/
def execSpdmUnsupportedRequest (c : Cmd) (code : Nat) (s : State) : Host.Outcome State Fault Refusal :=
  s.command c 0x0900 (spdmBodyOf (some code))

/-- PARTITION_FENCE_DONE (R423). -/
def execPartitionFenceDone (p : Nat) (s : State) : Host.Outcome State Fault Refusal :=
  s.onFabric Sys2Proof.Machine.Fabric.live fun f => f.fenceDone p

/-- PARTITION_FENCE_HUNG (R415). -/
def execPartitionFenceHung (p : Nat) (s : State) : Host.Outcome State Fault Refusal :=
  s.onFabric Sys2Proof.Machine.Fabric.live fun f => f.fenceHung p

/-- PORT_DRAIN_DONE (R373). -/
def execPortDrainDone (k : Nat) (s : State) : Host.Outcome State Fault Refusal :=
  s.onFabric Sys2Proof.Machine.Fabric.live fun f => f.portDrainDone k

/-- PORT_DRAIN_TIMEOUT (R373). -/
def execPortDrainTimeout (k : Nat) (s : State) : Host.Outcome State Fault Refusal :=
  s.onFabric Sys2Proof.Machine.Fabric.live fun f => f.portDrainTimeout k

/-- NAK_REPEAT (R345). -/
def execNakRepeat (k : Nat) (s : State) : Host.Outcome State Fault Refusal :=
  s.onFabric Sys2Proof.Machine.Fabric.live fun f => f.nakRepeat k

/-- LINK_CONTROL_FLIT_SEND (R341). -/
def execLinkControlFlitSend (k : Nat) (s : State) : Host.Outcome State Fault Refusal :=
  s.onFabric Sys2Proof.Machine.Fabric.live fun f => f.lcfSend k

/-- PRBS_CHECKER_LOCK (R369). -/
def execPrbsCheckerLock (lane : Nat) (errors : Nat) (bits : Nat) (s : State) : Host.Outcome State Fault Refusal :=
  s.onFabric Sys2Proof.Machine.Fabric.live fun f => f.prbsLocked lane errors bits

/-- LANE_LOSS_END (R370). -/
def execLaneLossEnd (lane : Nat) (s : State) : Host.Outcome State Fault Refusal :=
  s.onFabric Sys2Proof.Machine.Fabric.live fun f => f.laneLossEnd lane

/-- HDP_TRAINING_DONE (R51). -/
def execHdpTrainingDone (outFailed inFailed : List (Nat × List Nat)) (s : State) : Host.Outcome State Fault Refusal :=
  s.onFabric Sys2Proof.Machine.Fabric.awake fun f => f.hdpTrained outFailed inFailed

end Sys2Proof.Machine
end

