-- ==== Sys2Proof/Machine/CmdLink.lean ====
section
/-!
DEFINITION. Meanings: Lanes, quads and links (chapter 10).
-/
namespace Sys2Proof.Machine

/-- PORT_CTL_SET (R373). -/
def execPortCtlSet (c : Cmd) (s : State) : Host.Outcome State Fault Refusal := s.command (force c 10 8 0) 0x0600 portCtlBody

/-- PORT_CTL_RETRAIN (R373). -/
def execPortCtlRetrain (c : Cmd) (s : State) : Host.Outcome State Fault Refusal := s.command (force c 10 8 1) 0x0600 portCtlBody

/-- PORT_CTL_BOUNCE (R373). -/
def execPortCtlBounce (c : Cmd) (s : State) : Host.Outcome State Fault Refusal := s.command (force c 10 8 2) 0x0600 portCtlBody

/-- LANE_SCAN_CONTOUR (R366). -/
def execLaneScanContour (c : Cmd) (s : State) : Host.Outcome State Fault Refusal := s.command (force c 0 0 0) 0x0601 laneScanBody

/-- LANE_SCAN_MAP (R374). -/
def execLaneScanMap (c : Cmd) (s : State) : Host.Outcome State Fault Refusal := s.command (force c 0 0 1) 0x0601 laneScanBody

/-- SCAN_COMPLETE (R366). -/
def execScanComplete (lane : Nat) (m : ScanRes) (s : State) : Host.Outcome State Fault Refusal :=
  s.onFabric Sys2Proof.Machine.Fabric.live fun f => f.scanComplete lane m

/-- BACKGROUND_SCAN (R367). -/
def execBackgroundScan (s : State) : Host.Outcome State Fault Refusal :=
  s.onFabric Sys2Proof.Machine.Fabric.live fun f => f.backgroundScan

/-- LANE_TEST_START (R369). -/
def execLaneTestStart (c : Cmd) (s : State) : Host.Outcome State Fault Refusal := s.command (force c 7 7 0) 0x0602 laneTestBody

/-- LANE_TEST_STOP (R369). -/
def execLaneTestStop (c : Cmd) (s : State) : Host.Outcome State Fault Refusal := s.command (force c 7 7 1) 0x0602 laneTestBody

/-- LINK_DATA_FLIT_RX (R339). -/
def execLinkDataFlitRx (k : Nat) (x : FlitRx) (s : State) : Host.Outcome State Fault Refusal :=
  s.onFabric Sys2Proof.Machine.Fabric.live fun f => f.dataFlitRx k x.flit x.crc

/-- LINK_SLOT_FAILED (R345). -/
def execLinkSlotFailed (k : Nat) (s : State) : Host.Outcome State Fault Refusal :=
  s.onFabric Sys2Proof.Machine.Fabric.live fun f => f.slotIn k fun f => f.slotFailed k

/-- FEC_UNCORRECTABLE (R337). -/
def execFecUncorrectable (lane : CodewordRx) (s : State) : Host.Outcome State Fault Refusal :=
  s.onFabric Sys2Proof.Machine.Fabric.live fun f => f.codewordRx lane.lane lane.before lane.levels

/-- LCF_RX (R343). -/
def execLcfRx (k : Nat) (m : LcfRx) (s : State) : Host.Outcome State Fault Refusal :=
  s.onFabric Sys2Proof.Machine.Fabric.live fun f => f.lcfSlotRx k m.lcf m.crc

/-- REPLAY_TIMEOUT (R346). -/
def execReplayTimeout (k : Nat) (s : State) : Host.Outcome State Fault Refusal :=
  s.onFabric Sys2Proof.Machine.Fabric.live fun f => f.replayTimeout k

/-- LANE_LOCK_LOSS (R348). -/
def execLaneLockLoss (lane : Nat) (s : State) : Host.Outcome State Fault Refusal :=
  s.onFabric Sys2Proof.Machine.Fabric.live fun f => f.laneLockLoss lane

/-- TRAINING_SEQUENCE_RX (R357). -/
def execTrainingSequenceRx (k : Nat) (t : Ts) (good : Nat) (s : State) : Host.Outcome State Fault Refusal :=
  s.onFabric Sys2Proof.Machine.Fabric.live fun f => f.trainingRx k t good

/-- QUIET_END (R355). -/
def execQuietEnd (k : Nat) (s : State) : Host.Outcome State Fault Refusal :=
  s.onFabric Sys2Proof.Machine.Fabric.live fun f => f.quietEnd k

/-- RATE_TRY_TIMEOUT (R356). -/
def execRateTryTimeout (k : Nat) (s : State) : Host.Outcome State Fault Refusal :=
  s.onFabric Sys2Proof.Machine.Fabric.live fun f => f.rateTryTimeout k

/-- RATE_FALLBACK (R356). -/
def execRateFallback (k : Nat) (energy : Nat) (s : State) : Host.Outcome State Fault Refusal :=
  s.onFabric Sys2Proof.Machine.Fabric.live fun f => f.rateFallback k energy

/-- LANE_WAIT_EXPIRE (R360). -/
def execLaneWaitExpire (k : Nat) (s : State) : Host.Outcome State Fault Refusal :=
  s.onFabric Sys2Proof.Machine.Fabric.live fun f => f.laneWaitExpire k

/-- RETRAIN_LIMIT (R360). -/
def execRetrainLimit (k : Nat) (s : State) : Host.Outcome State Fault Refusal :=
  s.onFabric Sys2Proof.Machine.Fabric.live fun f => f.retrainLimit k

/-- NAP_ENTRY (R362). -/
def execNapEntry (k : Nat) (s : State) : Host.Outcome State Fault Refusal :=
  s.onFabric Sys2Proof.Machine.Fabric.live fun f => f.napEntry k

/-- TX_WAKE (R363). -/
def execTxWake (k : Nat) (s : State) : Host.Outcome State Fault Refusal :=
  s.onFabric Sys2Proof.Machine.Fabric.live fun f => f.txWake k

/-- WAKE_RELOCK_TIMEOUT (R364). -/
def execWakeRelockTimeout (k : Nat) (s : State) : Host.Outcome State Fault Refusal :=
  s.onFabric Sys2Proof.Machine.Fabric.live fun f => f.wakeTimeout k

/-- FLIT_TX (R311). -/
def execFlitTx (k : Nat) (s : State) : Host.Outcome State Fault Refusal :=
  s.onFabric Sys2Proof.Machine.Fabric.live fun f => f.flitTx k

/-- ESCAPE_TIMEOUT (R277). -/
def execEscapeTimeout (order : Nat) (s : State) : Host.Outcome State Fault Refusal :=
  s.onFabric Sys2Proof.Machine.Fabric.live fun f => f.escapeTimeout order

end Sys2Proof.Machine
end

