-- ==== Sys2Proof/Machine/CmdMailbox.lean ====
section
/-!
DEFINITION. Meanings: Admin commands, unknown opcodes and the end of a message time (chapter 02).
-/
namespace Sys2Proof.Machine

/-- NOP (R77). -/
def execNop (c : Cmd) (s : State) : Host.Outcome State Fault Refusal := s.command c 0x0000 nopBody

/-- SEQ_QUERY (R77). -/
def execSeqQuery (c : Cmd) (s : State) : Host.Outcome State Fault Refusal := s.command c 0x0001 seqQueryBody

/-- CMD_ABORT (R77). -/
def execCmdAbort (c : Cmd) (s : State) : Host.Outcome State Fault Refusal := s.command c 0x0002 cmdAbortBody

/-- UNDEFINED_OPCODE (R76). -/
def execUndefinedOpcode (c : Cmd) (op : Nat) (s : State) : Host.Outcome State Fault Refusal := s.command c op (bodyOf op)

/-- MESSAGE_TIME_END (R90). -/
def execMessageTimeEnd (order : Nat) (s : State) : Host.Outcome State Fault Refusal :=
  s.onFabric Sys2Proof.Machine.Fabric.counting fun f => f.messageTimeEnd order

end Sys2Proof.Machine
end

