-- ==== Sys2Proof/Machine/CmdMessage.lean ====
section
/-!
DEFINITION. Meanings: Flow of messages and the messages that arrive (chapters 04, 06 to 09).
-/
namespace Sys2Proof.Machine

/-- GAP_TIMEOUT (R286). -/
def execGapTimeout (src : Nat) (cls : Nat) (s : State) : Host.Outcome State Fault Refusal :=
  s.onFabric Sys2Proof.Machine.Fabric.live fun f => f.gapTimeout src cls

/-- MSG_GAP_TIMEOUT (R559). -/
def execMsgGapTimeout (src : Nat) (msg : Nat) (s : State) : Host.Outcome State Fault Refusal :=
  s.onFabric Sys2Proof.Machine.Fabric.live fun f => f.msgGapTimeout src msg

/-- MSG_SETTLE_TIMEOUT (R559). -/
def execMsgSettleTimeout (msg : Nat) (s : State) : Host.Outcome State Fault Refusal :=
  s.onFabric Sys2Proof.Machine.Fabric.live fun f => f.msgSettleTimeout msg

/-- CREDIT_FLUSH (R283). -/
def execCreditFlush (src : Nat) (s : State) : Host.Outcome State Fault Refusal :=
  s.onFabric Sys2Proof.Machine.Fabric.live fun f => f.creditFlush src

/-- GRANT_RECLAIM (R282). -/
def execGrantReclaim (src : Nat) (s : State) : Host.Outcome State Fault Refusal :=
  s.onFabric Sys2Proof.Machine.Fabric.live fun f => f.grantReclaim src

/-- GRANT_RELEASE (R282). -/
def execGrantRelease (dst : Nat) (s : State) : Host.Outcome State Fault Refusal :=
  s.onFabric Sys2Proof.Machine.Fabric.live fun f => f.grantRelease dst

/-- GRANT_REQ (R282). -/
def execGrantReq (m : Msg) (s : State) : Host.Outcome State Fault Refusal :=
  s.onFabric Sys2Proof.Machine.Fabric.live fun f => f.grantReq { m with kind := .grantReq }

/-- CREDIT (R283). -/
def execCredit (m : Msg) (s : State) : Host.Outcome State Fault Refusal :=
  s.onFabric Sys2Proof.Machine.Fabric.live fun f => f.creditMsg { m with kind := .credit }

/-- WRITE (R129). -/
def execWrite (m : Msg) (s : State) : Host.Outcome State Fault Refusal :=
  s.onFabric Sys2Proof.Machine.Fabric.live fun f => f.requestMsg { m with kind := .write }

/-- READ (R129). -/
def execRead (m : Msg) (s : State) : Host.Outcome State Fault Refusal :=
  s.onFabric Sys2Proof.Machine.Fabric.live fun f => f.requestMsg { m with kind := .read }

/-- ATOMIC (R161). -/
def execAtomic (m : Msg) (s : State) : Host.Outcome State Fault Refusal :=
  s.onFabric Sys2Proof.Machine.Fabric.live fun f => f.requestMsg { m with kind := .atomic }

/-- FILL (R129). -/
def execFill (m : Msg) (s : State) : Host.Outcome State Fault Refusal :=
  s.onFabric Sys2Proof.Machine.Fabric.live fun f => f.requestMsg { m with kind := .fill }

/-- HP_RELEASE (R285). -/
def execHpRelease (order : Nat) (s : State) : Host.Outcome State Fault Refusal :=
  s.onFabric Sys2Proof.Machine.Fabric.live fun f => f.hpRelease order

/-- WACK (R136). -/
def execWack (m : Msg) (s : State) : Host.Outcome State Fault Refusal :=
  s.onFabric Sys2Proof.Machine.Fabric.live fun f => f.wackMsg { m with kind := .wack }

/-- RDATA (R560). -/
def execRdata (m : Msg) (s : State) : Host.Outcome State Fault Refusal :=
  s.onFabric Sys2Proof.Machine.Fabric.live fun f => f.rdataMsg { m with kind := .rdata }

/-- AOLD (R136). -/
def execAold (m : Msg) (s : State) : Host.Outcome State Fault Refusal :=
  s.onFabric Sys2Proof.Machine.Fabric.live fun f => f.aoldMsg { m with kind := .aold }

/-- RATE_INCREASE (R322). -/
def execRateIncrease (key : Nat) (s : State) : Host.Outcome State Fault Refusal :=
  s.onFabric Sys2Proof.Machine.Fabric.live fun f => f.rateIncrease key

/-- RAW (R226). -/
def execRaw (m : Msg) (s : State) : Host.Outcome State Fault Refusal :=
  s.onFabric Sys2Proof.Machine.Fabric.live fun f => f.collMsg { m with kind := .raw }

/-- PARTIAL (R214). -/
def execPartial_ (m : Msg) (s : State) : Host.Outcome State Fault Refusal :=
  s.onFabric Sys2Proof.Machine.Fabric.live fun f => f.collMsg { m with kind := .partialSum }

/-- RESULT (R215). -/
def execResult (m : Msg) (s : State) : Host.Outcome State Fault Refusal :=
  s.onFabric Sys2Proof.Machine.Fabric.live fun f => f.collMsg { m with kind := .result }

/-- COUNTS (R244). -/
def execCounts (m : Msg) (s : State) : Host.Outcome State Fault Refusal :=
  s.onFabric Sys2Proof.Machine.Fabric.live fun f => f.collMsg { m with kind := .counts }

/-- ROW (R246). -/
def execRow (m : Msg) (s : State) : Host.Outcome State Fault Refusal :=
  s.onFabric Sys2Proof.Machine.Fabric.live fun f => f.collMsg { m with kind := .row }

/-- ABORT (R229). -/
def execAbort (m : Msg) (s : State) : Host.Outcome State Fault Refusal :=
  s.onFabric Sys2Proof.Machine.Fabric.live fun f => f.collMsg { m with kind := .abort }

/-- NACK (R226). -/
def execNack (m : Msg) (s : State) : Host.Outcome State Fault Refusal :=
  s.onFabric Sys2Proof.Machine.Fabric.live fun f => f.nackMsg { m with kind := .nack }

end Sys2Proof.Machine
end

