-- ==== Sys2Proof/Machine/CmdMeter.lean ====
section
/-!
DEFINITION. Meanings: Meter commands, the Meter Link and the meter die (chapter 14).
-/
namespace Sys2Proof.Machine

/-- METER_READ (R509). -/
def execMeterRead (c : Cmd) (s : State) : Host.Outcome State Fault Refusal := s.command c 0x0A00 meterReadBody

/-- METER_MARK (R503). -/
def execMeterMark (c : Cmd) (s : State) : Host.Outcome State Fault Refusal := s.command c 0x0A01 meterMarkBody

/-- METER_LOG_READ (R509). -/
def execMeterLogRead (c : Cmd) (s : State) : Host.Outcome State Fault Refusal := s.command c 0x0A02 meterLogBody

/-- METER_TIME (R509). -/
def execMeterTime (c : Cmd) (s : State) : Host.Outcome State Fault Refusal := s.command c 0x0A03 meterTimeBody

/-- METER_IDENTITY (R509). -/
def execMeterIdentity (c : Cmd) (s : State) : Host.Outcome State Fault Refusal := s.command c 0x0A04 meterIdentityBody

/-- METER_RESPONSE_RX (R496). -/
def execMeterResponseRx (good : Bool) (s : State) : Host.Outcome State Fault Refusal :=
  s.onFabric Sys2Proof.Machine.Fabric.counting fun f => f.mtlResponse s.meter.answer good

/-- METER_TICK_RX (R498), also during a REFCLK fault (R499). -/
def execMeterTickRx (good : Bool) (s : State) : Host.Outcome State Fault Refusal :=
  s.onFabric Sys2Proof.Machine.Fabric.powered fun f => f.mtlTick s.meter.tickFrame good

/-- METER_REQUEST_TIMEOUT (R496). -/
def execMeterRequestTimeout (s : State) : Host.Outcome State Fault Refusal :=
  s.onFabric Sys2Proof.Machine.Fabric.counting fun f => f.mtlTimeout

/-- METER_LINK_SILENCE (R499). -/
def execMeterLinkSilence (s : State) : Host.Outcome State Fault Refusal :=
  s.onFabric Sys2Proof.Machine.Fabric.counting fun f => f.mtlSilence

/-- METER_SYNC_RETRY (R499). -/
def execMeterSyncRetry (s : State) : Host.Outcome State Fault Refusal :=
  s.onFabric Sys2Proof.Machine.Fabric.counting fun f => f.mtlSync

/-- METER_CALENDAR_TICK (R494). -/
def execMeterCalendarTick (s : State) : Host.Outcome State Fault Refusal := s.onMeter fun m => m.calendarTick

/-- METER_SAMPLE (R488). -/
def execMeterSample (n : Nat) (vCode : Int) (iCode : Int) (s : State) : Host.Outcome State Fault Refusal :=
  s.onMeter fun m => m.sample n vCode iCode

/-- METER_SEAL_CHANGE (R538). -/
def execMeterSealChange (n : Nat) (opened : Bool) (s : State) : Host.Outcome State Fault Refusal :=
  s.onMeter fun m => m.sealChange n opened

/-- METER_SUPPLY_LOSS (R545). -/
def execMeterSupplyLoss (n : Nat) (s : State) : Host.Outcome State Fault Refusal := s.onMeter fun m => m.supplyLoss n

/-- METER_SUPPLY_RETURN (R545). -/
def execMeterSupplyReturn (n : Nat) (good : Bool) (s : State) : Host.Outcome State Fault Refusal :=
  s.onMeter fun m => m.supplyReturn n good

/-- METER_BACKUP_CHECK (R491). -/
def execMeterBackupCheck (low : Bool) (s : State) : Host.Outcome State Fault Refusal := s.onMeter fun m => m.backupCheck low

/-- METER_RECORD_SIGNED (R502). -/
def execMeterRecordSigned (s : State) : Host.Outcome State Fault Refusal := s.onMeter fun m => m.recordSigned

/-- SYNC (R497). -/
def execSync (seq : Nat) (s : State) : Host.Outcome State Fault Refusal := s.onMeter fun m => m.sync seq

/-- READ_VALUES (R489). -/
def execReadValues (seq : Nat) (s : State) : Host.Outcome State Fault Refusal := s.onMeter fun m => m.readValues seq

/-- READ_RECORD (R500). -/
def execReadRecord (seq : Nat) (rseq : Nat) (s : State) : Host.Outcome State Fault Refusal :=
  s.onMeter fun m => m.readRecord seq rseq

/-- WRITE_MARK (R504). -/
def execWriteMark (n : Nat) (seq : Nat) (data : List Word) (s : State) : Host.Outcome State Fault Refusal :=
  s.onMeter fun m => m.writeMark n seq data

/-- READ_IDENTITY (R485). -/
def execReadIdentity (seq : Nat) (s : State) : Host.Outcome State Fault Refusal := s.onMeter fun m => m.readIdentity seq

/-- READ_STATUS (R485). -/
def execReadStatus (seq : Nat) (s : State) : Host.Outcome State Fault Refusal := s.onMeter fun m => m.readStatus seq

/-- MTL_UNKNOWN_TYPE (R485). -/
def execMtlUnknownType (type : Nat) (seq : Nat) (s : State) : Host.Outcome State Fault Refusal :=
  s.onMeter fun m => m.unknownType type seq

/-- PARAM_WRITE (R507). -/
def execParamWrite (n : Nat) (seq : Nat) (params : List Word) (s : State) : Host.Outcome State Fault Refusal :=
  s.onMeter fun m => m.paramWrite n seq params

/-- TIME_SET (R490). -/
def execTimeSet (n : Nat) (seq : Nat) (cal : Nat) (s : State) : Host.Outcome State Fault Refusal :=
  s.onMeter fun m => m.timeSet n seq cal

/-- PARAM_READ (R507). -/
def execParamRead (seq : Nat) (s : State) : Host.Outcome State Fault Refusal := s.onMeter fun m => m.paramRead seq

end Sys2Proof.Machine
end

