-- ==== Sys2Proof/Machine/CmdPower.lean ====
section
/-!
DEFINITION. Meanings: The power manager, operating points, firmware slots (chapter 11).
-/
namespace Sys2Proof.Machine

/-- BUBBLE_UPDATE (R396). -/
def execBubbleUpdate (est : Nat) (pA : Nat) (pM : Nat) (pL : Nat) (s : State) : Host.Outcome State Fault Refusal :=
  s.onFabric Sys2Proof.Machine.Fabric.powered fun f => f.bubbleUpdate est pA pM pL

/-- POWER_RECALIBRATE (R394): the regulator is read over PMBus, so there is none during a REFCLK fault (R31). -/
def execPowerRecalibrate (ok : Bool) (w : Nat) (mv : Nat) (amps : Nat) (s : State) : Host.Outcome State Fault Refusal :=
  s.onFabric (fun f => f.powered && f.pmbusUp) fun f => f.recalibrate ok w mv amps

/-- CANARY_SAMPLE (R391). -/
def execCanarySample (samples : List (Nat × Nat × Nat)) (s : State) : Host.Outcome State Fault Refusal :=
  s.onFabric Sys2Proof.Machine.Fabric.powered fun f => f.canarySample samples

/-- FLOOR_REPLAN (R392). -/
def execFloorReplan (mv : Nat) (s : State) : Host.Outcome State Fault Refusal :=
  s.onFabric Sys2Proof.Machine.Fabric.powered fun f => f.floorReplan mv

/-- TARGET_STEP (R398). -/
def execTargetStep (s : State) : Host.Outcome State Fault Refusal :=
  s.onFabric Sys2Proof.Machine.Fabric.powered fun f => f.targetStep

/-- THERMAL_SAMPLE (R399). -/
def execThermalSample (tj : Nat) (s : State) : Host.Outcome State Fault Refusal :=
  s.onFabric Sys2Proof.Machine.Fabric.powered fun f => f.thermalSample tj

/-- THERMAL_LIMIT_STEP (R399). -/
def execThermalLimitStep (s : State) : Host.Outcome State Fault Refusal :=
  s.onFabric Sys2Proof.Machine.Fabric.powered fun f => f.thermalStep

/-- CURRENT_LIMIT_STEP (R400). -/
def execCurrentLimitStep (amps : Nat) (s : State) : Host.Outcome State Fault Refusal :=
  s.onFabric Sys2Proof.Machine.Fabric.powered fun f => f.currentStep amps

/-- DROOP_DETECT (R401). -/
def execDroopDetect (s : State) : Host.Outcome State Fault Refusal :=
  s.onFabric Sys2Proof.Machine.Fabric.powered fun f => f.droopDetect

/-- DROOP_RELEASE (R401). -/
def execDroopRelease (s : State) : Host.Outcome State Fault Refusal :=
  s.onFabric Sys2Proof.Machine.Fabric.powered fun f => f.droopRelease

/-- THROTTLE_NOTICE (R404). -/
def execThrottleNotice (s : State) : Host.Outcome State Fault Refusal :=
  s.onFabric Sys2Proof.Machine.Fabric.live fun f => f.throttleNotice

/-- SLACK_WINDOW_END (R407). -/
def execSlackWindowEnd (s : State) : Host.Outcome State Fault Refusal :=
  s.onFabric Sys2Proof.Machine.Fabric.live fun f => f.slackEnd

/-- OP_POINT_APPLY (R406). -/
def execOpPointApply (s : State) : Host.Outcome State Fault Refusal :=
  s.onFabric Sys2Proof.Machine.Fabric.live fun f => f.opPointApply

/-- POWER_CAP (R395). -/
def execPowerCap (c : Cmd) (s : State) : Host.Outcome State Fault Refusal := s.command c 0x0700 powerCapBody

/-- OP_POINT_DEFINE (R405). -/
def execOpPointDefine (c : Cmd) (s : State) : Host.Outcome State Fault Refusal := s.command (force c 0 0 0) 0x0701 opPointBody

/-- OP_POINT_SELECT (R406). -/
def execOpPointSelect (c : Cmd) (s : State) : Host.Outcome State Fault Refusal := s.command (force c 0 0 1) 0x0701 opPointBody

/-- FW_STAGE (R410). -/
def execFwStage (c : Cmd) (s : State) : Host.Outcome State Fault Refusal := s.command c 0x0702 fwStageBody

/-- FW_STAGE_VERIFIED (R410). -/
def execFwStageVerified (ok : Bool) (s : State) : Host.Outcome State Fault Refusal :=
  s.onFabric Sys2Proof.Machine.Fabric.live fun f => f.stageVerified ok

/-- FW_ACTIVATE_AT_RESET (R410). -/
def execFwActivateAtReset (c : Cmd) (s : State) : Host.Outcome State Fault Refusal :=
  s.command (force c 0 0 0) 0x0703 fwActivateBody

/-- FW_ACTIVATE_RESTART (R410). -/
def execFwActivateRestart (c : Cmd) (s : State) : Host.Outcome State Fault Refusal :=
  s.command (force c 0 0 1) 0x0703 fwActivateBody

/-- BOOT_RECORD_SET (R409). -/
def execBootRecordSet (c : Cmd) (s : State) : Host.Outcome State Fault Refusal := s.command c 0x0704 bootRecordBody

end Sys2Proof.Machine
end

