-- ==== Sys2Proof/Machine/CmdProctor.lean ====
section
/-!
DEFINITION. Meanings: Sessions, keys, claims, debug (chapter 13).
-/
namespace Sys2Proof.Machine

/-- GET_VERSION (R457). -/
def execGetVersion (c : Cmd) (s : State) : Host.Outcome State Fault Refusal := s.command c 0x0900 (spdmBodyOf (some 0x84))

/-- GET_CAPABILITIES (R457). -/
def execGetCapabilities (c : Cmd) (s : State) : Host.Outcome State Fault Refusal := s.command c 0x0900 (spdmBodyOf (some 0xE1))

/-- NEGOTIATE_ALGORITHMS (R457). -/
def execNegotiateAlgorithms (c : Cmd) (s : State) : Host.Outcome State Fault Refusal :=
  s.command c 0x0900 (spdmBodyOf (some 0xE3))

/-- GET_DIGESTS (R457). -/
def execGetDigests (c : Cmd) (s : State) : Host.Outcome State Fault Refusal := s.command c 0x0900 (spdmBodyOf (some 0x81))

/-- GET_CERTIFICATE (R457). -/
def execGetCertificate (c : Cmd) (s : State) : Host.Outcome State Fault Refusal := s.command c 0x0900 (spdmBodyOf (some 0x82))

/-- CHALLENGE (R457). -/
def execChallenge (c : Cmd) (s : State) : Host.Outcome State Fault Refusal := s.command c 0x0900 (spdmBodyOf (some 0x83))

/-- GET_MEASUREMENTS (R479). -/
def execGetMeasurements (c : Cmd) (s : State) : Host.Outcome State Fault Refusal := s.command c 0x0900 (spdmBodyOf (some 0xE0))

/-- KEY_EXCHANGE (R459). -/
def execKeyExchange (c : Cmd) (s : State) : Host.Outcome State Fault Refusal := s.command c 0x0900 (spdmBodyOf (some 0xE4))

/-- FINISH (R457). -/
def execFinish (c : Cmd) (s : State) : Host.Outcome State Fault Refusal := s.command c 0x0900 (spdmBodyOf (some 0xE5))

/-- HEARTBEAT (R459). -/
def execHeartbeat (c : Cmd) (s : State) : Host.Outcome State Fault Refusal := s.command c 0x0900 (spdmBodyOf (some 0xE8))

/-- KEY_UPDATE (R457). -/
def execKeyUpdate (c : Cmd) (s : State) : Host.Outcome State Fault Refusal := s.command c 0x0900 (spdmBodyOf (some 0xE9))

/-- END_SESSION (R461). -/
def execEndSession (c : Cmd) (s : State) : Host.Outcome State Fault Refusal := s.command c 0x0900 (spdmBodyOf (some 0xEC))

/-- SPDM_SESSION_TIMEOUT (R459). -/
def execSpdmSessionTimeout (mbx : Nat) (s : State) : Host.Outcome State Fault Refusal :=
  s.onFabric Sys2Proof.Machine.Fabric.live fun f => f.sessionTimeout mbx

/-- REPORT_CARD_GET (R455). -/
def execReportCardGet (c : Cmd) (s : State) : Host.Outcome State Fault Refusal := s.command c 0x0901 reportCardBody

/-- KEY_WRAP_LOAD (R468). -/
def execKeyWrapLoad (c : Cmd) (s : State) : Host.Outcome State Fault Refusal := s.command c 0x0902 keyWrapLoadBody

/-- KEY_ROTATE_ADVANCE (R470). -/
def execKeyRotateAdvance (c : Cmd) (s : State) : Host.Outcome State Fault Refusal :=
  s.command (force c 9 8 0) 0x0903 keyRotateBody

/-- KEY_ROTATE_DROP_RETIRING (R470). -/
def execKeyRotateDropRetiring (c : Cmd) (s : State) : Host.Outcome State Fault Refusal :=
  s.command (force c 9 8 1) 0x0903 keyRotateBody

/-- KEY_CHANGE_DRAINED (R478). -/
def execKeyChangeDrained (mbx : Nat) (s : State) : Host.Outcome State Fault Refusal :=
  s.onFabric Sys2Proof.Machine.Fabric.live fun f => f.keyDrained mbx

/-- SEAL_BIND (R471). -/
def execSealBind (c : Cmd) (s : State) : Host.Outcome State Fault Refusal := s.command (force c 7 7 1) 0x0904 sealBindBody

/-- SEAL_UNBIND (R471). -/
def execSealUnbind (c : Cmd) (s : State) : Host.Outcome State Fault Refusal := s.command (force c 7 7 0) 0x0904 sealBindBody

/-- CONF_CLAIM (R462). -/
def execConfClaim (c : Cmd) (s : State) : Host.Outcome State Fault Refusal := s.command c 0x0905 confClaimBody

/-- CLAIM_SCRUB_DONE (R462). -/
def execClaimScrubDone (p : Nat) (s : State) : Host.Outcome State Fault Refusal :=
  s.onFabric Sys2Proof.Machine.Fabric.live fun f => f.claimDone p

/-- CONF_RELEASE (R463). -/
def execConfRelease (c : Cmd) (s : State) : Host.Outcome State Fault Refusal := s.command c 0x0906 confReleaseBody

/-- DEVICE_SCRUB_DONE (R464). -/
def execDeviceScrubDone (s : State) : Host.Outcome State Fault Refusal :=
  s.onFabric Sys2Proof.Machine.Fabric.live fun f => f.deviceScrubDone

/-- KEY_STATUS (R482). -/
def execKeyStatus (c : Cmd) (s : State) : Host.Outcome State Fault Refusal := s.command c 0x0907 keyStatusBody

/-- DEBUG_UNLOCK (R480). -/
def execDebugUnlock (c : Cmd) (s : State) : Host.Outcome State Fault Refusal := s.command c 0x0908 debugUnlockBody

end Sys2Proof.Machine
end

