-- ==== Sys2Proof/Machine/CmdRoute.lean ====
section
/-!
DEFINITION. Meanings: Routes, circuits, seats, flow control (chapters 08 and 09).
-/
namespace Sys2Proof.Machine

/-- ROUTE_UPDATE (R298). -/
def execRouteUpdate (c : Cmd) (s : State) : Host.Outcome State Fault Refusal := s.command c 0x0500 routeUpdateBody

/-- ROUTE_DRAIN_DONE (R298). -/
def execRouteDrainDone (order : Nat) (s : State) : Host.Outcome State Fault Refusal :=
  s.onFabric Sys2Proof.Machine.Fabric.live fun f => f.routeDrainDone order

/-- ROUTE_DRAIN_TIMEOUT (R299). -/
def execRouteDrainTimeout (order : Nat) (s : State) : Host.Outcome State Fault Refusal :=
  s.onFabric Sys2Proof.Machine.Fabric.live fun f => f.routeDrainTimeout order

/-- TIMETABLE_SET (R296). -/
def execTimetableSet (c : Cmd) (s : State) : Host.Outcome State Fault Refusal := s.command c 0x0501 timetableSetBody

/-- TIMETABLE_WINDOW_OPEN (R295). -/
def execTimetableWindowOpen (i : Nat) (s : State) : Host.Outcome State Fault Refusal :=
  s.onFabric Sys2Proof.Machine.Fabric.live fun f => f.windowOpen i

/-- TIMETABLE_WINDOW_CLOSE (R297). -/
def execTimetableWindowClose (i : Nat) (s : State) : Host.Outcome State Fault Refusal :=
  s.onFabric Sys2Proof.Machine.Fabric.live fun f => f.windowClose i

/-- SEAT_SET (R291). -/
def execSeatSet (c : Cmd) (s : State) : Host.Outcome State Fault Refusal := s.command c 0x0502 seatSetBody

/-- FLOW_SET (R323). -/
def execFlowSet (c : Cmd) (s : State) : Host.Outcome State Fault Refusal := s.command c 0x0580 flowSetBody

/-- TELEM_SNAP (R329). -/
def execTelemSnap (c : Cmd) (s : State) : Host.Outcome State Fault Refusal := s.command c 0x0581 telemSnapBody

end Sys2Proof.Machine
end

