-- ==== Sys2Proof/Machine/CmdSmbus.lean ====
section
/-!
DEFINITION. Meanings: The SMBus management port (chapter 16).
-/
namespace Sys2Proof.Machine

/-- STATUS (R548). -/
def execStatus (pec : Bool) (s : State) : Host.Outcome State Fault Refusal :=
  s.onFabric Sys2Proof.Machine.Fabric.always fun f => f.smb pec fun f => f.smbStatus

/-- REG_READ (R549). -/
def execRegRead (pec : Bool) (w : Word) (s : State) : Host.Outcome State Fault Refusal :=
  s.onFabric Sys2Proof.Machine.Fabric.always fun f => f.smb pec fun f => f.smbRegRead w

/-- MBX_WRITE (R550). -/
def execMbxWrite (pec : Bool) (off : Nat) (data : List Word) (s : State) : Host.Outcome State Fault Refusal :=
  s.onFabric Sys2Proof.Machine.Fabric.always fun f => f.smb pec fun f => f.smbMbxWrite off data

/-- MBX_READ (R550). -/
def execMbxRead (pec : Bool) (off : Nat) (len : Nat) (s : State) : Host.Outcome State Fault Refusal :=
  s.onFabric Sys2Proof.Machine.Fabric.always fun f => f.smb pec fun f => f.smbMbxRead off len

/-- ALERT_CLEAR (R551). -/
def execAlertClear (pec : Bool) (mask : Nat) (s : State) : Host.Outcome State Fault Refusal :=
  s.onFabric Sys2Proof.Machine.Fabric.always fun f => f.smb pec fun f => f.alertClear mask

/-- ALERT_RESPONSE_READ (R551). -/
def execAlertResponseRead (won : Bool) (s : State) : Host.Outcome State Fault Refusal :=
  s.onFabric Sys2Proof.Machine.Fabric.always fun f => f.smb true fun f => f.alertResponse won

/-- SMBUS_BUS_TIMEOUT (R547). -/
def execSmbusBusTimeout (s : State) : Host.Outcome State Fault Refusal :=
  s.onFabric Sys2Proof.Machine.Fabric.always fun f => f.smbTimeout

end Sys2Proof.Machine
end

