-- ==== Sys2Proof/Machine/CmdStart.lean ====
section
/-!
DEFINITION. Meanings: Power, RST_N, the calendar check and start-up (chapters 11 and 16).
-/
namespace Sys2Proof.Machine

/-- POWER_ON (R541). -/
def execPowerOn (s : State) : Host.Outcome State Fault Refusal := s.onFabric Sys2Proof.Machine.Fabric.always fun f => f.powerOn

/-- RST_N_ASSERT (R54). -/
def execRstNAssert (s : State) : Host.Outcome State Fault Refusal :=
  s.onFabric Sys2Proof.Machine.Fabric.always fun f => f.rstAssert

/-- RST_N_RELEASE (R534). -/
def execRstNRelease (straps : Nat) (s : State) : Host.Outcome State Fault Refusal :=
  s.onFabric Sys2Proof.Machine.Fabric.always fun f => f.rstRelease straps

/-- CALENDAR_MARK (R378). -/
def execCalendarMark (count : Nat) (s : State) : Host.Outcome State Fault Refusal :=
  s.onFabric Sys2Proof.Machine.Fabric.always fun f => f.calendarMark count

/-- REFCLK_EDGE_GAP (R381). -/
def execRefclkEdgeGap (s : State) : Host.Outcome State Fault Refusal :=
  s.onFabric Sys2Proof.Machine.Fabric.always fun f => f.edgeGap

/-- PROCTOR_IMAGE_LOADED (R453). -/
def execProctorImageLoaded (ok : Bool) (words : List Word) (len : Nat) (s : State) : Host.Outcome State Fault Refusal :=
  s.onFabric Sys2Proof.Machine.Fabric.always fun f => f.imageLoaded ok { words := words, len := len }

/-- FIRMWARE_READY (R388). -/
def execFirmwareReady (s : State) : Host.Outcome State Fault Refusal :=
  s.onFabric Sys2Proof.Machine.Fabric.always fun f => f.firmwareReady Sys2Proof.Machine.Fabric.take

/-- TRIAL_BOOT_TIMEOUT (R389). -/
def execTrialBootTimeout (s : State) : Host.Outcome State Fault Refusal :=
  s.onFabric Sys2Proof.Machine.Fabric.counting fun f => f.trialTimeout

/-- BROWNOUT (R542). -/
def execBrownout (retention : Bool) (s : State) : Host.Outcome State Fault Refusal :=
  s.onFabric Sys2Proof.Machine.Fabric.always fun f => f.brownout retention

/-- BROWNOUT_RECOVERY (R542). -/
def execBrownoutRecovery (s : State) : Host.Outcome State Fault Refusal :=
  s.onFabric Sys2Proof.Machine.Fabric.always fun f => f.brownoutEnd

end Sys2Proof.Machine
end

