-- ==== Sys2Proof/Machine/CmdTrace.lean ====
section
/-!
DEFINITION. Meanings: Counters, trace, wait-for graphs (chapter 15).
-/
namespace Sys2Proof.Machine

/-- COUNTER_SNAP (R515). -/
def execCounterSnap (c : Cmd) (s : State) : Host.Outcome State Fault Refusal := s.command c 0x0B00 counterSnapBody

/-- TRACE_ARM_RING (R522). -/
def execTraceArmRing (c : Cmd) (s : State) : Host.Outcome State Fault Refusal := s.command (force c 10 8 0) 0x0B01 traceArmBody

/-- TRACE_ARM_ARM (R522). -/
def execTraceArmArm (c : Cmd) (s : State) : Host.Outcome State Fault Refusal := s.command (force c 10 8 1) 0x0B01 traceArmBody

/-- TRACE_ARM_STOP (R522). -/
def execTraceArmStop (c : Cmd) (s : State) : Host.Outcome State Fault Refusal := s.command (force c 10 8 2) 0x0B01 traceArmBody

/-- TRACE_ARM_CLEAR (R522). -/
def execTraceArmClear (c : Cmd) (s : State) : Host.Outcome State Fault Refusal := s.command (force c 10 8 3) 0x0B01 traceArmBody

/-- TRACE_TRIGGER (R523). -/
def execTraceTrigger (core : Nat) (value : Word) (s : State) : Host.Outcome State Fault Refusal :=
  s.onFabric Sys2Proof.Machine.Fabric.live fun f => f.traceTrigger core value

/-- TRACE_READ (R525). -/
def execTraceRead (c : Cmd) (s : State) : Host.Outcome State Fault Refusal := s.command c 0x0B02 traceReadBody

/-- WAITFOR_DUMP (R527). -/
def execWaitforDump (c : Cmd) (s : State) : Host.Outcome State Fault Refusal := s.command c 0x0B03 waitforBody

end Sys2Proof.Machine
end

