-- ==== Sys2Proof/Machine/CmdTransfer.lean ====
section
/-!
DEFINITION. Meanings: Lists, descriptors and requests (chapter 04).
-/
namespace Sys2Proof.Machine

/-- SUBMIT_LIST (R79). -/
def execSubmitList (c : Cmd) (s : State) : Host.Outcome State Fault Refusal := s.command c 0x0200 submitListBody

/-- XFER_ONE (R139). -/
def execXferOne (c : Cmd) (s : State) : Host.Outcome State Fault Refusal := s.command c 0x0201 xferOneBody

/-- LIST_STATUS (R140). -/
def execListStatus (c : Cmd) (s : State) : Host.Outcome State Fault Refusal := s.command c 0x0202 listStatusBody

/-- LIST_CANCEL (R141). -/
def execListCancel (c : Cmd) (s : State) : Host.Outcome State Fault Refusal := s.command c 0x0203 listCancelBody

/-- DESCRIPTOR_START (R135). -/
def execDescriptorStart (p : Nat) (e : Nat) (s : State) : Host.Outcome State Fault Refusal :=
  s.onFabric Sys2Proof.Machine.Fabric.live fun f => f.startDescriptor p e

/-- TILE_ISSUE (R132). -/
def execTileIssue (p : Nat) (e : Nat) (s : State) : Host.Outcome State Fault Refusal :=
  s.onFabric Sys2Proof.Machine.Fabric.live fun f => f.issueTile p e

/-- STREAM_PREFETCH (R112). -/
def execStreamPrefetch (p : Nat) (e : Nat) (dst : Bool) (s : State) : Host.Outcome State Fault Refusal :=
  s.onFabric Sys2Proof.Machine.Fabric.live fun f => f.streamPrefetch p e dst

/-- REQUEST_TIMEOUT (R169). -/
def execRequestTimeout (reqId : Nat) (s : State) : Host.Outcome State Fault Refusal :=
  s.onFabric Sys2Proof.Machine.Fabric.live fun f => f.requestTimeout reqId

/-- PAR_CC_SNAP (R172). -/
def execParCcSnap (src : Nat) (p : Nat) (w : Word) (s : State) : Host.Outcome State Fault Refusal :=
  s.onFabric Sys2Proof.Machine.Fabric.hdpUp fun f => f.parSnap src p w

end Sys2Proof.Machine
end

