-- ==== Sys2Proof/Machine/Dispatch.lean ====
section
/-!
DEFINITION. The meaning of each constructor of `Instr`.
-/
namespace Sys2Proof.Machine

def exec (i : Instr) (s : State) : Host.Outcome State Fault Refusal :=
  match i with
  | .nop c => Sys2Proof.Machine.execNop c s
  | .seqQuery c => Sys2Proof.Machine.execSeqQuery c s
  | .cmdAbort c => Sys2Proof.Machine.execCmdAbort c s
  | .undefinedOpcode c op => Sys2Proof.Machine.execUndefinedOpcode c op s
  | .messageTimeEnd order => Sys2Proof.Machine.execMessageTimeEnd order s
  | .ctxCreate c => Sys2Proof.Machine.execCtxCreate c s
  | .ctxDestroy c => Sys2Proof.Machine.execCtxDestroy c s
  | .contextLingerEnd tag => Sys2Proof.Machine.execContextLingerEnd tag s
  | .ctxQuery c => Sys2Proof.Machine.execCtxQuery c s
  | .segSet c => Sys2Proof.Machine.execSegSet c s
  | .segSetDrained mbx => Sys2Proof.Machine.execSegSetDrained mbx s
  | .invalidate c => Sys2Proof.Machine.execInvalidate c s
  | .invalidateDrained mbx => Sys2Proof.Machine.execInvalidateDrained mbx s
  | .ctxResume c => Sys2Proof.Machine.execCtxResume c s
  | .prefetchRange c => Sys2Proof.Machine.execPrefetchRange c s
  | .advise c => Sys2Proof.Machine.execAdvise c s
  | .submitList c => Sys2Proof.Machine.execSubmitList c s
  | .xferOne c => Sys2Proof.Machine.execXferOne c s
  | .listStatus c => Sys2Proof.Machine.execListStatus c s
  | .listCancel c => Sys2Proof.Machine.execListCancel c s
  | .descriptorStart p e => Sys2Proof.Machine.execDescriptorStart p e s
  | .tileIssue p e => Sys2Proof.Machine.execTileIssue p e s
  | .streamPrefetch p e dst => Sys2Proof.Machine.execStreamPrefetch p e dst s
  | .requestTimeout reqId => Sys2Proof.Machine.execRequestTimeout reqId s
  | .parCcSnap src p w => Sys2Proof.Machine.execParCcSnap src p w s
  | .nringEnable src ring base => Sys2Proof.Machine.execNringEnable src ring base s
  | .nringDisable src ring => Sys2Proof.Machine.execNringDisable src ring s
  | .nringTailWrite src ring index => Sys2Proof.Machine.execNringTailWrite src ring index s
  | .noticeDeferredWrite ring => Sys2Proof.Machine.execNoticeDeferredWrite ring s
  | .registerWrite src off size data => Sys2Proof.Machine.execRegisterWrite src off size data s
  | .hdpRdData tag data poison => Sys2Proof.Machine.execHdpRdData tag data poison s
  | .hdpWrAck tag nack => Sys2Proof.Machine.execHdpWrAck tag nack s
  | .hdpAtomicRsp tag old => Sys2Proof.Machine.execHdpAtomicRsp tag old s
  | .hdpCrcError slice beats => Sys2Proof.Machine.execHdpCrcError slice beats s
  | .hdpReplayRequest slice beats => Sys2Proof.Machine.execHdpReplayRequest slice beats s
  | .powerOn => Sys2Proof.Machine.execPowerOn s
  | .rstNAssert => Sys2Proof.Machine.execRstNAssert s
  | .rstNRelease straps => Sys2Proof.Machine.execRstNRelease straps s
  | .calendarMark count => Sys2Proof.Machine.execCalendarMark count s
  | .refclkEdgeGap => Sys2Proof.Machine.execRefclkEdgeGap s
  | .proctorImageLoaded ok words len => Sys2Proof.Machine.execProctorImageLoaded ok words len s
  | .firmwareReady => Sys2Proof.Machine.execFirmwareReady s
  | .trialBootTimeout => Sys2Proof.Machine.execTrialBootTimeout s
  | .brownout retention => Sys2Proof.Machine.execBrownout retention s
  | .brownoutRecovery => Sys2Proof.Machine.execBrownoutRecovery s
  | .bubbleUpdate est pA pM pL => Sys2Proof.Machine.execBubbleUpdate est pA pM pL s
  | .powerRecalibrate ok w mv amps => Sys2Proof.Machine.execPowerRecalibrate ok w mv amps s
  | .canarySample samples => Sys2Proof.Machine.execCanarySample samples s
  | .floorReplan mv => Sys2Proof.Machine.execFloorReplan mv s
  | .targetStep => Sys2Proof.Machine.execTargetStep s
  | .thermalSample tj => Sys2Proof.Machine.execThermalSample tj s
  | .thermalLimitStep => Sys2Proof.Machine.execThermalLimitStep s
  | .currentLimitStep amps => Sys2Proof.Machine.execCurrentLimitStep amps s
  | .droopDetect => Sys2Proof.Machine.execDroopDetect s
  | .droopRelease => Sys2Proof.Machine.execDroopRelease s
  | .throttleNotice => Sys2Proof.Machine.execThrottleNotice s
  | .slackWindowEnd => Sys2Proof.Machine.execSlackWindowEnd s
  | .opPointApply => Sys2Proof.Machine.execOpPointApply s
  | .powerCap c => Sys2Proof.Machine.execPowerCap c s
  | .opPointDefine c => Sys2Proof.Machine.execOpPointDefine c s
  | .opPointSelect c => Sys2Proof.Machine.execOpPointSelect c s
  | .fwStage c => Sys2Proof.Machine.execFwStage c s
  | .fwStageVerified ok => Sys2Proof.Machine.execFwStageVerified ok s
  | .fwActivateAtReset c => Sys2Proof.Machine.execFwActivateAtReset c s
  | .fwActivateRestart c => Sys2Proof.Machine.execFwActivateRestart c s
  | .bootRecordSet c => Sys2Proof.Machine.execBootRecordSet c s
  | .collPost c => Sys2Proof.Machine.execCollPost c s
  | .groupSet c => Sys2Proof.Machine.execGroupSet c s
  | .collCancel c => Sys2Proof.Machine.execCollCancel c s
  | .collStatus c => Sys2Proof.Machine.execCollStatus c s
  | .bellRead c => Sys2Proof.Machine.execBellRead c s
  | .journalSet c => Sys2Proof.Machine.execJournalSet c s
  | .journalStatus c => Sys2Proof.Machine.execJournalStatus c s
  | .redLocal c => Sys2Proof.Machine.execRedLocal c s
  | .collLaunch p id => Sys2Proof.Machine.execCollLaunch p id s
  | .collWaitTimeout p id => Sys2Proof.Machine.execCollWaitTimeout p id s
  | .collResendTimer p id => Sys2Proof.Machine.execCollResendTimer p id s
  | .bellHoldover => Sys2Proof.Machine.execBellHoldover s
  | .emapSet c => Sys2Proof.Machine.execEmapSet c s
  | .dispatchPost c => Sys2Proof.Machine.execDispatchPost c s
  | .dispatchStatus c => Sys2Proof.Machine.execDispatchStatus c s
  | .dispatchCancel c => Sys2Proof.Machine.execDispatchCancel c s
  | .pageMove c => Sys2Proof.Machine.execPageMove c s
  | .routeUpdate c => Sys2Proof.Machine.execRouteUpdate c s
  | .routeDrainDone order => Sys2Proof.Machine.execRouteDrainDone order s
  | .routeDrainTimeout order => Sys2Proof.Machine.execRouteDrainTimeout order s
  | .timetableSet c => Sys2Proof.Machine.execTimetableSet c s
  | .timetableWindowOpen n => Sys2Proof.Machine.execTimetableWindowOpen n s
  | .timetableWindowClose n => Sys2Proof.Machine.execTimetableWindowClose n s
  | .seatSet c => Sys2Proof.Machine.execSeatSet c s
  | .flowSet c => Sys2Proof.Machine.execFlowSet c s
  | .telemSnap c => Sys2Proof.Machine.execTelemSnap c s
  | .portCtlSet c => Sys2Proof.Machine.execPortCtlSet c s
  | .portCtlRetrain c => Sys2Proof.Machine.execPortCtlRetrain c s
  | .portCtlBounce c => Sys2Proof.Machine.execPortCtlBounce c s
  | .laneScanContour c => Sys2Proof.Machine.execLaneScanContour c s
  | .laneScanMap c => Sys2Proof.Machine.execLaneScanMap c s
  | .scanComplete lane m => Sys2Proof.Machine.execScanComplete lane m s
  | .backgroundScan => Sys2Proof.Machine.execBackgroundScan s
  | .laneTestStart c => Sys2Proof.Machine.execLaneTestStart c s
  | .laneTestStop c => Sys2Proof.Machine.execLaneTestStop c s
  | .linkDataFlitRx k x => Sys2Proof.Machine.execLinkDataFlitRx k x s
  | .linkSlotFailed k => Sys2Proof.Machine.execLinkSlotFailed k s
  | .fecUncorrectable lane => Sys2Proof.Machine.execFecUncorrectable lane s
  | .lcfRx k m => Sys2Proof.Machine.execLcfRx k m s
  | .replayTimeout k => Sys2Proof.Machine.execReplayTimeout k s
  | .laneLockLoss lane => Sys2Proof.Machine.execLaneLockLoss lane s
  | .trainingSequenceRx k t good => Sys2Proof.Machine.execTrainingSequenceRx k t good s
  | .quietEnd k => Sys2Proof.Machine.execQuietEnd k s
  | .rateTryTimeout k => Sys2Proof.Machine.execRateTryTimeout k s
  | .rateFallback k energy => Sys2Proof.Machine.execRateFallback k energy s
  | .laneWaitExpire k => Sys2Proof.Machine.execLaneWaitExpire k s
  | .retrainLimit k => Sys2Proof.Machine.execRetrainLimit k s
  | .napEntry k => Sys2Proof.Machine.execNapEntry k s
  | .txWake k => Sys2Proof.Machine.execTxWake k s
  | .wakeRelockTimeout k => Sys2Proof.Machine.execWakeRelockTimeout k s
  | .flitTx k => Sys2Proof.Machine.execFlitTx k s
  | .escapeTimeout order => Sys2Proof.Machine.execEscapeTimeout order s
  | .gapTimeout src cls => Sys2Proof.Machine.execGapTimeout src cls s
  | .msgGapTimeout src msg => Sys2Proof.Machine.execMsgGapTimeout src msg s
  | .msgSettleTimeout msg => Sys2Proof.Machine.execMsgSettleTimeout msg s
  | .creditFlush src => Sys2Proof.Machine.execCreditFlush src s
  | .grantReclaim src => Sys2Proof.Machine.execGrantReclaim src s
  | .grantRelease dst => Sys2Proof.Machine.execGrantRelease dst s
  | .grantReq m => Sys2Proof.Machine.execGrantReq m s
  | .credit m => Sys2Proof.Machine.execCredit m s
  | .write m => Sys2Proof.Machine.execWrite m s
  | .read m => Sys2Proof.Machine.execRead m s
  | .atomic m => Sys2Proof.Machine.execAtomic m s
  | .fill m => Sys2Proof.Machine.execFill m s
  | .hpRelease order => Sys2Proof.Machine.execHpRelease order s
  | .wack m => Sys2Proof.Machine.execWack m s
  | .rdata m => Sys2Proof.Machine.execRdata m s
  | .aold m => Sys2Proof.Machine.execAold m s
  | .rateIncrease key => Sys2Proof.Machine.execRateIncrease key s
  | .raw m => Sys2Proof.Machine.execRaw m s
  | .partial_ m => Sys2Proof.Machine.execPartial_ m s
  | .result m => Sys2Proof.Machine.execResult m s
  | .counts m => Sys2Proof.Machine.execCounts m s
  | .row m => Sys2Proof.Machine.execRow m s
  | .abort m => Sys2Proof.Machine.execAbort m s
  | .nack m => Sys2Proof.Machine.execNack m s
  | .sramError unit ue p hit addr syndrome => Sys2Proof.Machine.execSramError unit ue p hit addr syndrome s
  | .heartbeatSend k => Sys2Proof.Machine.execHeartbeatSend k s
  | .rollcallMiss k => Sys2Proof.Machine.execRollcallMiss k s
  | .tallyTimeout node => Sys2Proof.Machine.execTallyTimeout node s
  | .isolationTimeout => Sys2Proof.Machine.execIsolationTimeout s
  | .engineProgressExpire p e => Sys2Proof.Machine.execEngineProgressExpire p e s
  | .eResetDone p e => Sys2Proof.Machine.execEResetDone p e s
  | .eResetHung p e => Sys2Proof.Machine.execEResetHung p e s
  | .partitionProgressExpire p => Sys2Proof.Machine.execPartitionProgressExpire p s
  | .pResetDrainDone p => Sys2Proof.Machine.execPResetDrainDone p s
  | .pResetScrubDone p => Sys2Proof.Machine.execPResetScrubDone p s
  | .pResetHung p => Sys2Proof.Machine.execPResetHung p s
  | .pResetQuietEnd p => Sys2Proof.Machine.execPResetQuietEnd p s
  | .portProgressExpire k => Sys2Proof.Machine.execPortProgressExpire k s
  | .watchdogExpire core => Sys2Proof.Machine.execWatchdogExpire core s
  | .mcRestartDone => Sys2Proof.Machine.execMcRestartDone s
  | .dResetReadyTimeout => Sys2Proof.Machine.execDResetReadyTimeout s
  | .resetLevelC c => Sys2Proof.Machine.execResetLevelC c s
  | .resetLevelE c => Sys2Proof.Machine.execResetLevelE c s
  | .resetLevelP c => Sys2Proof.Machine.execResetLevelP c s
  | .resetLevelD c => Sys2Proof.Machine.execResetLevelD c s
  | .hangSet c => Sys2Proof.Machine.execHangSet c s
  | .rollcallStatus c => Sys2Proof.Machine.execRollcallStatus c s
  | .rollcallAdmit c => Sys2Proof.Machine.execRollcallAdmit c s
  | .rollcallExpel c => Sys2Proof.Machine.execRollcallExpel c s
  | .substituteSeat c => Sys2Proof.Machine.execSubstituteSeat c s
  | .substituteAnnounce c => Sys2Proof.Machine.execSubstituteAnnounce c s
  | .substituteCommit c => Sys2Proof.Machine.execSubstituteCommit c s
  | .substituteRelease c => Sys2Proof.Machine.execSubstituteRelease c s
  | .injectPolicy c => Sys2Proof.Machine.execInjectPolicy c s
  | .injectFaultLane c => Sys2Proof.Machine.execInjectFaultLane c s
  | .injectFaultSramCe c => Sys2Proof.Machine.execInjectFaultSramCe c s
  | .injectFaultSramUe c => Sys2Proof.Machine.execInjectFaultSramUe c s
  | .injectFaultHdpCrc c => Sys2Proof.Machine.execInjectFaultHdpCrc c s
  | .injectFaultEngineStall c => Sys2Proof.Machine.execInjectFaultEngineStall c s
  | .injectFaultResetStall c => Sys2Proof.Machine.execInjectFaultResetStall c s
  | .injectFaultCsStall c => Sys2Proof.Machine.execInjectFaultCsStall c s
  | .injectFaultMcStall c => Sys2Proof.Machine.execInjectFaultMcStall c s
  | .injectFaultHbSilence c => Sys2Proof.Machine.execInjectFaultHbSilence c s
  | .injectAtBell => Sys2Proof.Machine.execInjectAtBell s
  | .logRead c => Sys2Proof.Machine.execLogRead c s
  | .getVersion c => Sys2Proof.Machine.execGetVersion c s
  | .getCapabilities c => Sys2Proof.Machine.execGetCapabilities c s
  | .negotiateAlgorithms c => Sys2Proof.Machine.execNegotiateAlgorithms c s
  | .getDigests c => Sys2Proof.Machine.execGetDigests c s
  | .getCertificate c => Sys2Proof.Machine.execGetCertificate c s
  | .challenge c => Sys2Proof.Machine.execChallenge c s
  | .getMeasurements c => Sys2Proof.Machine.execGetMeasurements c s
  | .keyExchange c => Sys2Proof.Machine.execKeyExchange c s
  | .finish c => Sys2Proof.Machine.execFinish c s
  | .heartbeat c => Sys2Proof.Machine.execHeartbeat c s
  | .keyUpdate c => Sys2Proof.Machine.execKeyUpdate c s
  | .endSession c => Sys2Proof.Machine.execEndSession c s
  | .spdmSessionTimeout mbx => Sys2Proof.Machine.execSpdmSessionTimeout mbx s
  | .reportCardGet c => Sys2Proof.Machine.execReportCardGet c s
  | .keyWrapLoad c => Sys2Proof.Machine.execKeyWrapLoad c s
  | .keyRotateAdvance c => Sys2Proof.Machine.execKeyRotateAdvance c s
  | .keyRotateDropRetiring c => Sys2Proof.Machine.execKeyRotateDropRetiring c s
  | .keyChangeDrained mbx => Sys2Proof.Machine.execKeyChangeDrained mbx s
  | .sealBind c => Sys2Proof.Machine.execSealBind c s
  | .sealUnbind c => Sys2Proof.Machine.execSealUnbind c s
  | .confClaim c => Sys2Proof.Machine.execConfClaim c s
  | .claimScrubDone p => Sys2Proof.Machine.execClaimScrubDone p s
  | .confRelease c => Sys2Proof.Machine.execConfRelease c s
  | .deviceScrubDone => Sys2Proof.Machine.execDeviceScrubDone s
  | .keyStatus c => Sys2Proof.Machine.execKeyStatus c s
  | .debugUnlock c => Sys2Proof.Machine.execDebugUnlock c s
  | .meterRead c => Sys2Proof.Machine.execMeterRead c s
  | .meterMark c => Sys2Proof.Machine.execMeterMark c s
  | .meterLogRead c => Sys2Proof.Machine.execMeterLogRead c s
  | .meterTime c => Sys2Proof.Machine.execMeterTime c s
  | .meterIdentity c => Sys2Proof.Machine.execMeterIdentity c s
  | .meterResponseRx good => Sys2Proof.Machine.execMeterResponseRx good s
  | .meterTickRx good => Sys2Proof.Machine.execMeterTickRx good s
  | .meterRequestTimeout => Sys2Proof.Machine.execMeterRequestTimeout s
  | .meterLinkSilence => Sys2Proof.Machine.execMeterLinkSilence s
  | .meterSyncRetry => Sys2Proof.Machine.execMeterSyncRetry s
  | .meterCalendarTick => Sys2Proof.Machine.execMeterCalendarTick s
  | .meterSample n vCode iCode => Sys2Proof.Machine.execMeterSample n vCode iCode s
  | .meterSealChange n opened => Sys2Proof.Machine.execMeterSealChange n opened s
  | .meterSupplyLoss n => Sys2Proof.Machine.execMeterSupplyLoss n s
  | .meterSupplyReturn n good => Sys2Proof.Machine.execMeterSupplyReturn n good s
  | .meterBackupCheck low => Sys2Proof.Machine.execMeterBackupCheck low s
  | .meterRecordSigned => Sys2Proof.Machine.execMeterRecordSigned s
  | .sync seq => Sys2Proof.Machine.execSync seq s
  | .readValues seq => Sys2Proof.Machine.execReadValues seq s
  | .readRecord seq rseq => Sys2Proof.Machine.execReadRecord seq rseq s
  | .writeMark n seq data => Sys2Proof.Machine.execWriteMark n seq data s
  | .readIdentity seq => Sys2Proof.Machine.execReadIdentity seq s
  | .readStatus seq => Sys2Proof.Machine.execReadStatus seq s
  | .mtlUnknownType type seq => Sys2Proof.Machine.execMtlUnknownType type seq s
  | .paramWrite n seq params => Sys2Proof.Machine.execParamWrite n seq params s
  | .timeSet n seq cal => Sys2Proof.Machine.execTimeSet n seq cal s
  | .paramRead seq => Sys2Proof.Machine.execParamRead seq s
  | .counterSnap c => Sys2Proof.Machine.execCounterSnap c s
  | .traceArmRing c => Sys2Proof.Machine.execTraceArmRing c s
  | .traceArmArm c => Sys2Proof.Machine.execTraceArmArm c s
  | .traceArmStop c => Sys2Proof.Machine.execTraceArmStop c s
  | .traceArmClear c => Sys2Proof.Machine.execTraceArmClear c s
  | .traceTrigger core value => Sys2Proof.Machine.execTraceTrigger core value s
  | .traceRead c => Sys2Proof.Machine.execTraceRead c s
  | .waitforDump c => Sys2Proof.Machine.execWaitforDump c s
  | .status pec => Sys2Proof.Machine.execStatus pec s
  | .regRead pec w => Sys2Proof.Machine.execRegRead pec w s
  | .mbxWrite pec off data => Sys2Proof.Machine.execMbxWrite pec off data s
  | .mbxRead pec off len => Sys2Proof.Machine.execMbxRead pec off len s
  | .alertClear pec mask => Sys2Proof.Machine.execAlertClear pec mask s
  | .alertResponseRead won => Sys2Proof.Machine.execAlertResponseRead won s
  | .smbusBusTimeout => Sys2Proof.Machine.execSmbusBusTimeout s
  | .spdmUnsupportedRequest c code => Sys2Proof.Machine.execSpdmUnsupportedRequest c code s
  | .partitionFenceDone p => Sys2Proof.Machine.execPartitionFenceDone p s
  | .partitionFenceHung p => Sys2Proof.Machine.execPartitionFenceHung p s
  | .portDrainDone k => Sys2Proof.Machine.execPortDrainDone k s
  | .portDrainTimeout k => Sys2Proof.Machine.execPortDrainTimeout k s
  | .nakRepeat k => Sys2Proof.Machine.execNakRepeat k s
  | .linkControlFlitSend k => Sys2Proof.Machine.execLinkControlFlitSend k s
  | .prbsCheckerLock lane errors bits => Sys2Proof.Machine.execPrbsCheckerLock lane errors bits s
  | .laneLossEnd lane => Sys2Proof.Machine.execLaneLossEnd lane s
  | .hdpTrainingDone outFailed inFailed => Sys2Proof.Machine.execHdpTrainingDone outFailed inFailed s

end Sys2Proof.Machine
end

