-- ==== Sys2Proof/WellFormed.lean ====
section
/-!
DEFINITION. Which commands are well formed: each operand fits the field, the unit or the list of the spec that it names.
The meanings are total, so that a command with an operand outside its range still has an answer; the spec speaks of
well-formed commands only.
-/
namespace Sys2Proof

/-- The opcodes that the chapters of Table 2.16 define. -/
def definedOpcodes : List Nat :=
  [0x0000, 0x0001, 0x0002, 0x0100, 0x0101, 0x0102, 0x0103, 0x0104, 0x0105, 0x0106, 0x0107, 0x0200, 0x0201, 0x0202, 0x0203,
   0x0300, 0x0301, 0x0302, 0x0303, 0x0304, 0x0305, 0x0306, 0x0380, 0x0400, 0x0401, 0x0402, 0x0403, 0x0404, 0x0500, 0x0501,
   0x0502, 0x0580, 0x0581, 0x0600, 0x0601, 0x0602, 0x0700, 0x0701, 0x0702, 0x0703, 0x0704, 0x0800, 0x0801, 0x0802, 0x0803,
   0x0804, 0x0805, 0x0806, 0x0807, 0x0808, 0x0900, 0x0901, 0x0902, 0x0903, 0x0904, 0x0905, 0x0906, 0x0907, 0x0908, 0x0A00,
   0x0A01, 0x0A02, 0x0A03, 0x0A04, 0x0B00, 0x0B01, 0x0B02, 0x0B03]

/-- Request codes of SPDM that the device answers (Table 13.3). -/
def spdmCodes : List Nat := [0x84, 0xE1, 0xE3, 0x81, 0x82, 0x83, 0xE0, 0xE4, 0xE5, 0xE8, 0xE9, 0xEC]

/-- Request types that the fabric die may send on the Meter Link (Table 14.4); those of the calibration port are unknown there
(R485). -/
def mtlTypes : List Nat := [0, 1, 2, 3, 4, 5]

/-- A source of register writes: tenants, the system host admin, the rack manager, the Proctor (Table 2.6). -/
def srcWf (s : Nat) : Bool := s ≤ 33 || s == 36

def partWf (p : Nat) : Bool := p < 32
def portWf (k : Nat) : Bool := k < 8
def laneWf (l : Nat) : Bool := l < 192
def ringWf (r : Nat) : Bool := r ≤ 32
def sliceWf (s : Nat) : Bool := s < 64
def nodeWf (n : Nat) : Bool := n < 32768
def seqWf (n : Nat) : Bool := n < 256

/-- Whole words of a size in bytes, at least one. -/
def down8 (n : Nat) : Nat := 8 * ((n + 7) / 8)

/-- Operands of a mailbox command (Table 2.13). -/
def Cmd.wf (c : Cmd) : Bool :=
  srcWf c.src && c.mbx < 256 && c.seq < 2 ^ 32 && c.tag < 65536 && c.len < 65536 && c.pay.length ≤ 504 && c.doneAddr < 2 ^ 48

/-- Fields of a fabric message (Table 8.4). -/
def Msg.wf (m : Msg) : Bool :=
  nodeWf m.dst && nodeWf m.src && m.tag < 65536 && m.cls < 4 && 0 < m.units && m.reqId < 4096 && m.atop < 256 &&
    m.member < 32768 && m.coll < 2 ^ 24 && m.blocks ≤ 32 && m.cred < 4096 && m.units ≤ 64 && m.data.length ≤ 4096

/-- Fields of a flit (Table 8.2). -/
def Flit.wf (x : Flit) : Bool :=
  nodeWf x.dst && nodeWf x.src && x.tag < 65536 && x.cls < 4 && x.seq < 4096 && x.bytes ≤ 240 && x.data.length ≤ 30

/-- Fields of a link control flit (Table 10.3). -/
def Lcf.wf (m : Lcf) : Bool :=
  m.ack < 65536 && m.req < 4 && m.cr.length ≤ 6 && (m.cr.all fun n => n < 65536)

/-- Fields of a training sequence (Table 10.7). -/
def Ts.wf (t : Ts) : Bool :=
  t.kind < 8 && t.rate < 4 && t.phase < 256 && t.port < 8 && nodeWf t.node && t.marker < 2 ^ 64 && t.version < 256 && t.quad < 64 &&
    t.lane < 256 && t.inSlots < 8192 && t.rxGood < 4096 && t.echoAge < 65536 && t.echoTick < 65536 && t.tick < 65536 &&
    1 ≤ t.lx && t.lx ≤ 32 && 1 ≤ t.ly && t.ly ≤ 32 && 1 ≤ t.lz && t.lz ≤ 32 && t.crc < 2 ^ 32

/-- A command is well formed. -/
def Instr.wf (i : Instr) : Bool :=
  match i with
  | .nop c => c.wf
  | .seqQuery c => c.wf
  | .cmdAbort c => c.wf
  | .undefinedOpcode c op => c.wf && decide (op < 65536) && !definedOpcodes.contains op
  | .messageTimeEnd _ => true
  | .ctxCreate c => c.wf
  | .ctxDestroy c => c.wf
  | .contextLingerEnd tag => decide (tag < 65536)
  | .ctxQuery c => c.wf
  | .segSet c => c.wf
  | .segSetDrained mbx => decide (mbx < 256)
  | .invalidate c => c.wf
  | .invalidateDrained mbx => decide (mbx < 256)
  | .ctxResume c => c.wf
  | .prefetchRange c => c.wf
  | .advise c => c.wf
  | .submitList c => c.wf
  | .xferOne c => c.wf
  | .listStatus c => c.wf
  | .listCancel c => c.wf
  | .descriptorStart p e => partWf p && decide (e < 6)
  | .tileIssue p e => partWf p && decide (e < 6)
  | .streamPrefetch p e _ => partWf p && decide (e < 6)
  | .requestTimeout reqId => decide (reqId < 4096)
  | .parCcSnap src p _ => srcWf src && partWf p
  | .nringEnable src ring base => srcWf src && ringWf ring && decide (base < 2 ^ 48 ∧ base % 64 = 0)
  | .nringDisable src ring => srcWf src && ringWf ring
  | .nringTailWrite src ring index => srcWf src && ringWf ring && decide (index < 65536)
  | .noticeDeferredWrite ring => ringWf ring
  | .registerWrite src off size data =>
    srcWf src && decide (off < 2 ^ 26 ∧ 0 < size ∧ size ≤ 64 ∧ (8 * data.length = down8 size ∨ data = []))
  | .hdpRdData tag data _ => decide (tag < 4096 ∧ data.length % 8 = 0 ∧ data.length ≤ 512)
  | .hdpWrAck tag _ => decide (tag < 4096)
  | .hdpAtomicRsp tag _ => decide (tag < 4096)
  | .hdpCrcError slice b => sliceWf slice && decide (0 < b.beats ∧ b.data.length = 8 ∧ b.crc < 128)
  | .hdpReplayRequest slice beats => sliceWf slice && decide (0 < beats)
  | .powerOn => true
  | .rstNAssert => true
  | .rstNRelease straps => decide (straps < 2 ^ 39)
  | .calendarMark _ => true
  | .refclkEdgeGap => true
  | .proctorImageLoaded _ words len => decide (len ≤ 24 * 2 ^ 20 ∧ words.length ≤ 3 * 2 ^ 20)
  | .firmwareReady => true
  | .trialBootTimeout => true
  | .brownout _ => true
  | .brownoutRecovery => true
  | .bubbleUpdate _ _ _ _ => true
  | .powerRecalibrate _ _ _ _ => true
  | .canarySample _ => true
  | .floorReplan _ => true
  | .targetStep => true
  | .thermalSample _ => true
  | .thermalLimitStep => true
  | .currentLimitStep _ => true
  | .droopDetect => true
  | .droopRelease => true
  | .throttleNotice => true
  | .slackWindowEnd => true
  | .opPointApply => true
  | .powerCap c => c.wf
  | .opPointDefine c => c.wf
  | .opPointSelect c => c.wf
  | .fwStage c => c.wf
  | .fwStageVerified _ => true
  | .fwActivateAtReset c => c.wf
  | .fwActivateRestart c => c.wf
  | .bootRecordSet c => c.wf
  | .collPost c => c.wf
  | .groupSet c => c.wf
  | .collCancel c => c.wf
  | .collStatus c => c.wf
  | .bellRead c => c.wf
  | .journalSet c => c.wf
  | .journalStatus c => c.wf
  | .redLocal c => c.wf
  | .collLaunch p _ => partWf p
  | .collWaitTimeout p _ => partWf p
  | .collResendTimer p _ => partWf p
  | .bellHoldover => true
  | .emapSet c => c.wf
  | .dispatchPost c => c.wf
  | .dispatchStatus c => c.wf
  | .dispatchCancel c => c.wf
  | .pageMove c => c.wf
  | .routeUpdate c => c.wf
  | .routeDrainDone _ => true
  | .routeDrainTimeout _ => true
  | .timetableSet c => c.wf
  | .timetableWindowOpen i => decide (i < 64)
  | .timetableWindowClose i => decide (i < 64)
  | .seatSet c => c.wf
  | .flowSet c => c.wf
  | .telemSnap c => c.wf
  | .portCtlSet c => c.wf
  | .portCtlRetrain c => c.wf
  | .portCtlBounce c => c.wf
  | .laneScanContour c => c.wf
  | .laneScanMap c => c.wf
  | .scanComplete lane m => laneWf lane && decide (m.eyes.length = 3)
  | .backgroundScan => true
  | .laneTestStart c => c.wf
  | .laneTestStop c => c.wf
  | .linkDataFlitRx k x => portWf k && x.flit.wf
  | .linkSlotFailed k => portWf k
  | .fecUncorrectable w => laneWf w.lane && decide (w.before < 4) && w.levels.all fun x => x < 4
  | .lcfRx k m => portWf k && m.lcf.wf
  | .replayTimeout k => portWf k
  | .laneLockLoss lane => laneWf lane
  | .trainingSequenceRx k t good => portWf k && decide (good < 2 ^ 24) && t.wf
  | .quietEnd k => portWf k
  | .rateTryTimeout k => portWf k
  | .rateFallback k _ => portWf k
  | .laneWaitExpire k => portWf k
  | .retrainLimit k => portWf k
  | .napEntry k => portWf k
  | .txWake k => portWf k
  | .wakeRelockTimeout k => portWf k
  | .flitTx k => portWf k
  | .escapeTimeout _ => true
  | .gapTimeout src cls => nodeWf src && decide (cls < 2)
  | .msgGapTimeout src msg => nodeWf src && decide (msg < 128)
  | .msgSettleTimeout _ => true
  | .creditFlush src => nodeWf src
  | .grantReclaim src => nodeWf src
  | .grantRelease dst => nodeWf dst
  | .grantReq m => m.wf
  | .credit m => m.wf
  | .write m => m.wf
  | .read m => m.wf
  | .atomic m => m.wf
  | .fill m => m.wf
  | .hpRelease _ => true
  | .wack m => m.wf
  | .rdata m => m.wf
  | .aold m => m.wf
  | .rateIncrease _ => true
  | .raw m => m.wf
  | .partial_ m => m.wf
  | .result m => m.wf
  | .counts m => m.wf
  | .row m => m.wf
  | .abort m => m.wf
  | .nack m => m.wf
  | .sramError unit _ p _ _ _ => decide (unit < 6) && partWf p
  | .heartbeatSend k => portWf k
  | .rollcallMiss k => portWf k
  | .tallyTimeout node => nodeWf node
  | .isolationTimeout => true
  | .engineProgressExpire p e => partWf p && decide (e < 6)
  | .eResetDone p e => partWf p && decide (e < 6)
  | .eResetHung p e => partWf p && decide (e < 6)
  | .partitionProgressExpire p => partWf p
  | .pResetDrainDone p => partWf p
  | .pResetScrubDone p => partWf p
  | .pResetHung p => partWf p
  | .pResetQuietEnd p => partWf p
  | .portProgressExpire k => portWf k
  | .watchdogExpire core => decide (core < 8)
  | .mcRestartDone => true
  | .dResetReadyTimeout => true
  | .resetLevelC c => c.wf
  | .resetLevelE c => c.wf
  | .resetLevelP c => c.wf
  | .resetLevelD c => c.wf
  | .hangSet c => c.wf
  | .rollcallStatus c => c.wf
  | .rollcallAdmit c => c.wf
  | .rollcallExpel c => c.wf
  | .substituteSeat c => c.wf
  | .substituteAnnounce c => c.wf
  | .substituteCommit c => c.wf
  | .substituteRelease c => c.wf
  | .injectPolicy c => c.wf
  | .injectFaultLane c => c.wf
  | .injectFaultSramCe c => c.wf
  | .injectFaultSramUe c => c.wf
  | .injectFaultHdpCrc c => c.wf
  | .injectFaultEngineStall c => c.wf
  | .injectFaultResetStall c => c.wf
  | .injectFaultCsStall c => c.wf
  | .injectFaultMcStall c => c.wf
  | .injectFaultHbSilence c => c.wf
  | .injectAtBell => true
  | .logRead c => c.wf
  | .getVersion c => c.wf
  | .getCapabilities c => c.wf
  | .negotiateAlgorithms c => c.wf
  | .getDigests c => c.wf
  | .getCertificate c => c.wf
  | .challenge c => c.wf
  | .getMeasurements c => c.wf
  | .keyExchange c => c.wf
  | .finish c => c.wf
  | .heartbeat c => c.wf
  | .keyUpdate c => c.wf
  | .endSession c => c.wf
  | .spdmSessionTimeout mbx => decide (mbx < 256)
  | .reportCardGet c => c.wf
  | .keyWrapLoad c => c.wf
  | .keyRotateAdvance c => c.wf
  | .keyRotateDropRetiring c => c.wf
  | .keyChangeDrained mbx => decide (mbx < 256)
  | .sealBind c => c.wf
  | .sealUnbind c => c.wf
  | .confClaim c => c.wf
  | .claimScrubDone p => partWf p
  | .confRelease c => c.wf
  | .deviceScrubDone => true
  | .keyStatus c => c.wf
  | .debugUnlock c => c.wf
  | .meterRead c => c.wf
  | .meterMark c => c.wf
  | .meterLogRead c => c.wf
  | .meterTime c => c.wf
  | .meterIdentity c => c.wf
  | .meterResponseRx _ => true
  | .meterTickRx _ => true
  | .meterRequestTimeout => true
  | .meterLinkSilence => true
  | .meterSyncRetry => true
  | .meterCalendarTick => true
  | .meterSample _ _ _ => true
  | .meterSealChange _ _ => true
  | .meterSupplyLoss _ => true
  | .meterSupplyReturn _ _ => true
  | .meterBackupCheck _ => true
  | .meterRecordSigned => true
  | .sync seq => seqWf seq
  | .readValues seq => seqWf seq
  | .readRecord seq rseq => seqWf seq && decide (rseq < 2 ^ 32)
  | .writeMark _ seq data => seqWf seq && decide (data.length ≤ 24)
  | .readIdentity seq => seqWf seq
  | .readStatus seq => seqWf seq
  | .mtlUnknownType type seq => decide (type < 256) && !mtlTypes.contains type && seqWf seq
  | .paramWrite _ seq params => seqWf seq && decide (params.length ≤ 24)
  | .timeSet _ seq _ => seqWf seq
  | .paramRead seq => seqWf seq
  | .counterSnap c => c.wf
  | .traceArmRing c => c.wf
  | .traceArmArm c => c.wf
  | .traceArmStop c => c.wf
  | .traceArmClear c => c.wf
  | .traceTrigger core _ => decide (core < 8)
  | .traceRead c => c.wf
  | .waitforDump c => c.wf
  | .status _ => true
  | .regRead _ _ => true
  | .mbxWrite _ off data => decide (off % 8 = 0 ∧ off + 8 * data.length ≤ 4096 ∧ 1 ≤ data.length ∧ data.length ≤ 30)
  | .mbxRead _ off len => decide (off % 8 = 0 ∧ off + len ≤ 4096 ∧ len % 8 = 0 ∧ 8 ≤ len ∧ len ≤ 240)
  | .alertClear _ mask => decide (mask < 256)
  | .alertResponseRead _ => true
  | .smbusBusTimeout => true
  | .spdmUnsupportedRequest c code => c.wf && decide (code < 256) && !spdmCodes.contains code
  | .partitionFenceDone p => partWf p
  | .partitionFenceHung p => partWf p
  | .portDrainDone k => portWf k
  | .portDrainTimeout k => portWf k
  | .nakRepeat k => portWf k
  | .linkControlFlitSend k => portWf k
  | .prbsCheckerLock lane errors bits => laneWf lane && decide (errors ≤ bits)
  | .laneLossEnd lane => laneWf lane
  | .hdpTrainingDone o i => (o ++ i).all fun e => sliceWf e.1 && e.2.all fun w => w < 64

end Sys2Proof
end

