-- ==== Sys2Proof/Safety.lean ====
section
/-!
DEFINITION. The words in which statements about the device are made: when a mailbox command runs as soon as it is issued,
what it leaves when it has run, and what a message that arrives finds.
-/
namespace Sys2Proof.Machine

/-- A command that its source issues is accepted at once and runs: the source reaches the mailbox (Table 2.6), the mailbox
is one of the device and no command is in progress in it (R72), READY is 1 (R71), and SEQ differs from the recorded
one (R74). -/
def Fabric.takes (f : Fabric) (c : Cmd) : Bool :=
  f.canSend c.src && f.mbxExists c.mbx && f.mbxAccess c.src c.mbx && !(f.mbx c.mbx).env.own && f.ready &&
    !f.ladder.restarting &&
    match (f.mbx c.mbx).record with
    | some r => r.env.seq != c.seq % 2 ^ 32
    | none => true

/-- The envelope of an accepted command (steps 1 to 4 of Table 2.14). -/
def Fabric.acceptedEnv (f : Fabric) (c : Cmd) (op : Nat) : Env :=
  { seq := c.seq % 2 ^ 32, doneWb := c.doneWb, opcode := op, payLen := c.len, tag := c.tag, doneAddr := c.doneAddr,
    own := true, mbx := c.mbx, accept := (f.accepts + 1) % 2 ^ 24, seqEcho := c.seq % 2 ^ 32, issueTick := f.tick }

/-- The device after it has accepted a command: its envelope and payload stand in the mailbox, ACCEPT has advanced, and
armed triggers on its opcode are met. -/
def Fabric.begun (f : Fabric) (c : Cmd) (op : Nat) : Fabric :=
  { f.setMbx c.mbx { f.mbx c.mbx with env := f.acceptedEnv c op, pay := c.pay ++ (f.mbx c.mbx).pay.drop c.pay.length,
                                      src := c.src, accepted := true } with
    accepts := f.accepts + 1, trc := f.trc.sawOpcode op (f.acceptedEnv c op).cmdId }

/-- The device after a command that has made a change and completed: nothing else is different. -/
def Fabric.answers (f : Fabric) (c : Cmd) (op : Nat) (change : Fabric → Fabric) (status : Nat) (r0 : Nat := 0)
    (resp : List Word := []) (len : Nat := 0) : Fabric :=
  (change (f.begun c op)).complete c.mbx status (w64 r0) resp len

/-- The device after an arbitrated command is held for its message time (R89): it sets the given objects. -/
def Fabric.holds (f : Fabric) (c : Cmd) (op : Nat) (sets : List (Obj × Nat)) : Fabric :=
  { f.begun c op with
    orders := f.orders ++ [{ id := f.nextOrder, mbx := c.mbx, rank := rankOf c.src, tick := f.tick, src := c.src,
                             opcode := op, tag := c.tag, pay := c.pay, len := c.len, sets := sets }],
    nextOrder := f.nextOrder + 1 }

/-- The device answers a command with a next state that has the fabric die `g`; the meter die and the queue stay. -/
def Goes (i : Instr) (s : State) (g : Fabric) : Prop := exec i s = .next { s with fab := g }

/-- The device answers a command with a next state that has the meter die `m`; the fabric die and the queue stay. -/
def Meters (i : Instr) (s : State) (m : Meter) : Prop := exec i s = .next { s with meter := m }

/-- The device answers a command with a next state of which something holds. -/
def Yields (i : Instr) (s : State) (P : State → Prop) : Prop := ∃ t, exec i s = .next t ∧ P t

/-- The partition of a command's Context Tag is one that its mailbox may name and that takes commands (R67, R95, R557). -/
def Fabric.opens (f : Fabric) (c : Cmd) : Bool :=
  (c.mbx == tagPart c.tag || (c.mbx == 32 && !f.confPart (tagPart c.tag))) && tagPart c.tag < f.partCount &&
    !(f.part (tagPart c.tag)).disabled && !(f.part (tagPart c.tag)).draining

/-- The command's context is live in a partition that its mailbox may name. -/
def Fabric.opensLive (f : Fabric) (c : Cmd) : Bool := f.opens c && f.tagLive c.tag

/-! ### The meter's log -/

/-- A record can be written at once: fewer than 8 await signature and none waits for room (R502). -/
def Meter.room (m : Meter) : Prop := m.overflow = [] ∧ m.waiting.length < 8

/-- Between `m` and `t` the meter recorded one event (R500, Table 14.6) under RSEQ, unsigned, with the fields of its moment; where 8
records await signature the record waits for room. -/
def Meter.wrote (m t : Meter) (kind cal : Nat) (arg : Word) : Prop :=
  (m.room → t.rseq = m.rseq + 1 ∧ t.waiting = m.waiting ++ [m.rseq] ∧ t.overflow = [] ∧
    ∃ r, t.recs.find (m.rseq % 16384) = some r ∧ r.sig = [] ∧
      r.words.take 7 = [ pack [(55, 48, t.flags), (47, 40, kind), (39, 32, m.era), (31, 0, m.rseq)], w64 cal, w64 m.energy,
                         pack [(23, 16, m.inForce - 1), (9, 0, t.eventCount)], arg, 0, 0 ]) ∧
  (¬ m.room → t.rseq = m.rseq ∧ t.waiting = m.waiting ∧ t.recs = m.recs ∧ t.overflow.length = m.overflow.length + 1)

/-- The audit log (R500–R502): the records of the era's last 16,384 numbers lie each in slot RSEQ mod 16,384; the newest
ones, at most 8 and in RSEQ order, await signature and have none; every other one is signed over its 64 bytes; and PREV of
each signed record is taken from the 128 bytes of its predecessor. -/
def Meter.LogInv (m : Meter) : Prop :=
  m.waiting.length ≤ 8 ∧ m.waiting.length ≤ m.rseq ∧ (m.overflow ≠ [] → m.waiting.length = 8) ∧
  m.waiting = List.range' (m.rseq - m.waiting.length) m.waiting.length ∧
  ∀ n, n < m.rseq → m.rseq ≤ n + 16384 → ∃ r, m.recs.find (n % 16384) = some r ∧ fld (wd r.words 0) 31 0 = n % 2 ^ 32 ∧
    (n ∈ m.waiting → r.sig = []) ∧
    (n ∉ m.waiting → r.sig = takePad 8 (Config.meterSign (bytesOf r.words 64)) ∧
      (n = 0 → wd r.words 7 = 0) ∧
      ∀ q, n ≠ 0 → m.rseq ≤ n - 1 + 16384 → m.recs.find ((n - 1) % 16384) = some q →
        wd r.words 7 = wd (Config.sha512 (bytesOf q.words 64 ++ bytesOf (takePad 8 q.sig) 64)) 0)

/-! ### Kinds of commands -/

/-- The mailbox command that an instruction issues, and its opcode (Table 2.16); none for an event. -/
def mailboxOf : Instr → Option (Cmd × Nat)
  | .nop c => some (c, 0x0000)
  | .seqQuery c => some (c, 0x0001)
  | .cmdAbort c => some (c, 0x0002)
  | .undefinedOpcode c op => some (c, op)
  | .ctxCreate c => some (c, 0x0100)
  | .ctxDestroy c => some (c, 0x0101)
  | .ctxQuery c => some (c, 0x0102)
  | .segSet c => some (c, 0x0103)
  | .invalidate c => some (c, 0x0104)
  | .ctxResume c => some (c, 0x0105)
  | .prefetchRange c => some (c, 0x0106)
  | .advise c => some (c, 0x0107)
  | .submitList c => some (c, 0x0200)
  | .xferOne c => some (c, 0x0201)
  | .listStatus c => some (c, 0x0202)
  | .listCancel c => some (c, 0x0203)
  | .powerCap c => some (c, 0x0700)
  | .opPointDefine c => some (force c 0 0 0, 0x0701)
  | .opPointSelect c => some (force c 0 0 1, 0x0701)
  | .fwStage c => some (c, 0x0702)
  | .fwActivateAtReset c => some (force c 0 0 0, 0x0703)
  | .fwActivateRestart c => some (force c 0 0 1, 0x0703)
  | .bootRecordSet c => some (c, 0x0704)
  | .collPost c => some (c, 0x0300)
  | .groupSet c => some (c, 0x0301)
  | .collCancel c => some (c, 0x0302)
  | .collStatus c => some (c, 0x0303)
  | .bellRead c => some (c, 0x0304)
  | .journalSet c => some (c, 0x0305)
  | .journalStatus c => some (c, 0x0306)
  | .redLocal c => some (c, 0x0380)
  | .emapSet c => some (c, 0x0400)
  | .dispatchPost c => some (c, 0x0401)
  | .dispatchStatus c => some (c, 0x0402)
  | .dispatchCancel c => some (c, 0x0403)
  | .pageMove c => some (c, 0x0404)
  | .routeUpdate c => some (c, 0x0500)
  | .timetableSet c => some (c, 0x0501)
  | .seatSet c => some (c, 0x0502)
  | .flowSet c => some (c, 0x0580)
  | .telemSnap c => some (c, 0x0581)
  | .portCtlSet c => some (force c 10 8 0, 0x0600)
  | .portCtlRetrain c => some (force c 10 8 1, 0x0600)
  | .portCtlBounce c => some (force c 10 8 2, 0x0600)
  | .laneScanContour c => some (force c 0 0 0, 0x0601)
  | .laneScanMap c => some (force c 0 0 1, 0x0601)
  | .laneTestStart c => some (force c 7 7 0, 0x0602)
  | .laneTestStop c => some (force c 7 7 1, 0x0602)
  | .resetLevelC c => some (force c 1 0 0, 0x0800)
  | .resetLevelE c => some (force c 1 0 1, 0x0800)
  | .resetLevelP c => some (force c 1 0 2, 0x0800)
  | .resetLevelD c => some (force c 1 0 3, 0x0800)
  | .hangSet c => some (c, 0x0801)
  | .rollcallStatus c => some (c, 0x0802)
  | .rollcallAdmit c => some (c, 0x0803)
  | .rollcallExpel c => some (c, 0x0804)
  | .substituteSeat c => some (force c 2 0 0, 0x0805)
  | .substituteAnnounce c => some (force c 2 0 1, 0x0805)
  | .substituteCommit c => some (force c 2 0 2, 0x0805)
  | .substituteRelease c => some (force c 2 0 3, 0x0805)
  | .injectPolicy c => some (c, 0x0806)
  | .injectFaultLane c => some (force c 7 0 1, 0x0807)
  | .injectFaultSramCe c => some (force c 7 0 2, 0x0807)
  | .injectFaultSramUe c => some (force c 7 0 3, 0x0807)
  | .injectFaultHdpCrc c => some (force c 7 0 4, 0x0807)
  | .injectFaultEngineStall c => some (force c 7 0 5, 0x0807)
  | .injectFaultResetStall c => some (force c 7 0 6, 0x0807)
  | .injectFaultCsStall c => some (force c 7 0 7, 0x0807)
  | .injectFaultMcStall c => some (force c 7 0 8, 0x0807)
  | .injectFaultHbSilence c => some (force c 7 0 9, 0x0807)
  | .logRead c => some (c, 0x0808)
  | .getVersion c => some (c, 0x0900)
  | .getCapabilities c => some (c, 0x0900)
  | .negotiateAlgorithms c => some (c, 0x0900)
  | .getDigests c => some (c, 0x0900)
  | .getCertificate c => some (c, 0x0900)
  | .challenge c => some (c, 0x0900)
  | .getMeasurements c => some (c, 0x0900)
  | .keyExchange c => some (c, 0x0900)
  | .finish c => some (c, 0x0900)
  | .heartbeat c => some (c, 0x0900)
  | .keyUpdate c => some (c, 0x0900)
  | .endSession c => some (c, 0x0900)
  | .reportCardGet c => some (c, 0x0901)
  | .keyWrapLoad c => some (c, 0x0902)
  | .keyRotateAdvance c => some (force c 9 8 0, 0x0903)
  | .keyRotateDropRetiring c => some (force c 9 8 1, 0x0903)
  | .sealBind c => some (force c 7 7 1, 0x0904)
  | .sealUnbind c => some (force c 7 7 0, 0x0904)
  | .confClaim c => some (c, 0x0905)
  | .confRelease c => some (c, 0x0906)
  | .keyStatus c => some (c, 0x0907)
  | .debugUnlock c => some (c, 0x0908)
  | .meterRead c => some (c, 0x0A00)
  | .meterMark c => some (c, 0x0A01)
  | .meterLogRead c => some (c, 0x0A02)
  | .meterTime c => some (c, 0x0A03)
  | .meterIdentity c => some (c, 0x0A04)
  | .counterSnap c => some (c, 0x0B00)
  | .traceArmRing c => some (force c 10 8 0, 0x0B01)
  | .traceArmArm c => some (force c 10 8 1, 0x0B01)
  | .traceArmStop c => some (force c 10 8 2, 0x0B01)
  | .traceArmClear c => some (force c 10 8 3, 0x0B01)
  | .traceRead c => some (c, 0x0B02)
  | .waitforDump c => some (c, 0x0B03)
  | .spdmUnsupportedRequest c _ => some (c, 0x0900)
  | _ => none

/-- An instruction of the meter die; every other one acts on the fabric die. -/
def onMeterDie : Instr → Bool
  | .meterCalendarTick => true
  | .meterSample _ _ _ => true
  | .meterSealChange _ _ => true
  | .meterSupplyLoss _ => true
  | .meterSupplyReturn _ _ => true
  | .meterBackupCheck _ => true
  | .meterRecordSigned => true
  | .sync _ => true
  | .readValues _ => true
  | .readRecord _ _ => true
  | .writeMark _ _ _ => true
  | .readIdentity _ => true
  | .readStatus _ => true
  | .mtlUnknownType _ _ => true
  | .paramWrite _ _ _ => true
  | .timeSet _ _ _ => true
  | .paramRead _ => true
  | _ => false

end Sys2Proof.Machine
end

