-- ==== Sys2Proof/Certificates/Slice0/Obligations.lean ====
section
/-!
DEFINITION. The statements for the provers. `Goes i s g`: the command i at the state s answers the next state that has the
fabric die g and is otherwise s; `Fabric.takes`, `begun`, `answers` and `holds` stand in Safety.lean.
-/
open Sys2Proof Sys2Proof.Machine

/-- A step takes the front command and runs it with the queue's rest. -/
def Obligations.StepTakesTheFrontCommand : Prop :=
  ∀ (c : Instr) (rest : List Instr) (s : State), s.pending = c :: rest → step s = exec c { s with pending := rest }

/-- An idle step is one ref tick (the model's choice, log entry 1); with no REFCLK nothing changes. -/
def Obligations.IdleStepIsOneRefTick : Prop :=
  ∀ s : State, s.pending = [] →
    ∃ g, step s = .next { s with fab := g } ∧
      (s.fab.counting = true → g.tick = s.fab.tick + 1) ∧ (s.fab.counting = false → g = s.fab)

/-- Every command answers a next state, and none touches the queue. -/
def Obligations.EveryCommandAnswers : Prop :=
  ∀ (c : Instr) (s : State), ∃ t, exec c s = .next t ∧ t.pending = s.pending

/-- The 17 commands of the meter die leave the fabric die as it is; every other command leaves the meter die as it is. -/
def Obligations.DiesAreSeparate : Prop :=
  ∀ (c : Instr) (s t : State), exec c s = .next t →
    (onMeterDie c = true → t.fab = s.fab) ∧ (onMeterDie c = false → t.meter = s.meter)

/-- What a mailbox does before a command runs: a violation, ignored, replayed, or waiting. -/
def Obligations.MailboxGateAndRecord : Prop :=
  (∀ (i : Instr) (c : Cmd) (op : Nat) (s : State), mailboxOf i = some (c, op) →
    s.fab.canSend c.src = true → s.fab.mbxExists c.mbx = true → s.fab.mbxAccess c.src c.mbx = false →
    Goes i s { s.fab with violations := min (s.fab.violations + 1) (2 ^ 64 - 1) }) ∧
  (∀ (i : Instr) (c : Cmd) (op : Nat) (s : State), mailboxOf i = some (c, op) →
    s.fab.canSend c.src = true → s.fab.mbxExists c.mbx = true → s.fab.mbxAccess c.src c.mbx = true →
    (s.fab.mbx c.mbx).env.own = true → Goes i s s.fab) ∧
  (∀ (i : Instr) (c : Cmd) (op : Nat) (s : State) (r : CmdRecord), mailboxOf i = some (c, op) →
    s.fab.canSend c.src = true → s.fab.mbxExists c.mbx = true → s.fab.mbxAccess c.src c.mbx = true →
    (s.fab.mbx c.mbx).env.own = false → s.fab.ready = true → s.fab.ladder.restarting = false →
    (s.fab.mbx c.mbx).record = some r → r.env.seq = c.seq % 2 ^ 32 →
    Goes i s ((s.fab.begun c op).complete c.mbx r.env.status r.env.result0 r.resp r.env.respLen)) ∧
  (∀ (i : Instr) (c : Cmd) (op : Nat) (s : State), mailboxOf i = some (c, op) →
    s.fab.canSend c.src = true → s.fab.mbxExists c.mbx = true → s.fab.mbxAccess c.src c.mbx = true →
    (s.fab.mbx c.mbx).env.own = false → (s.fab.ready = false ∨ s.fab.ladder.restarting = true) →
    ∃ b : Mailbox, b.env.own = true ∧ b.env.seq = c.seq % 2 ^ 32 ∧ b.env.opcode = op ∧ b.env.tag = c.tag ∧
      b.env.payLen = c.len ∧ b.accepted = false ∧ b.src = c.src ∧ b.record = (s.fab.mbx c.mbx).record ∧
      Goes i s { s.fab with mbxs := s.fab.mbxs.set c.mbx b, waiting := s.fab.waiting ++ [c.mbx] })

/-- NOP, SEQ_QUERY, CMD_ABORT of a held order, and an opcode without a definition. -/
def Obligations.AdminCommandsAnswer : Prop :=
  (∀ (s : State) (c : Cmd), s.fab.takes c = true → c.len ≤ 4032 →
    Goes (.nop c) s (s.fab.answers c 0x0000 id stOk s.fab.tick (takePad (ceilDiv c.len 8) c.pay) c.len)) ∧
  (∀ (s : State) (c : Cmd) (i : Nat), s.fab.takes c = true → c.len = 8 → i < 256 → wd c.pay 0 = w64 i →
    s.fab.noMailbox i = false → s.fab.mbxAccess c.mbx i = true →
    let b := (s.fab.begun c 0x0001).mbx i
    Goes (.seqQuery c) s (s.fab.answers c 0x0001 id stOk 0
      [pack [(31, 0, b.last.1), (39, 32, b.last.2), (47, 40, b2n b.env.own)],
       pack [(31, 0, if b.env.own && b.accepted then b.env.seq else 0)]] 16)) ∧
  (∀ (s : State) (c : Cmd) (i q : Nat), s.fab.takes c = true → c.mbx = 32 → c.len = 8 → i < 32 → q < 2 ^ 32 →
    wd c.pay 0 = pack [(7, 0, i), (63, 32, q)] → s.fab.mbxExists i = true → s.fab.confPart i = false →
    (s.fab.mbx i).env.own = true → (s.fab.mbx i).accepted = true → (s.fab.mbx i).env.seq = q →
    let p := tagPart (s.fab.mbx i).env.tag
    let found := (s.fab.part p).issued.find? fun d => d.mbx == i
    let removed (f : Fabric) := ({ f with orders := f.orders.filter fun o => o.mbx != i } : Fabric).updPart p
      fun x => { x with issued := x.issued.filter fun d => d.mbx != i }
    ((s.fab.orders.any fun o => o.mbx == i) = true → found = none →
      Goes (.cmdAbort c) s (s.fab.answers c 0x0002 (fun f => (removed f).complete i stSuperseded 0 [] 0) stOk 1)) ∧
    (∀ d, found = some d →
      Goes (.cmdAbort c) s (s.fab.answers c 0x0002
        (fun f => ((removed f).freeCounts p 16 (s.fab.mbx i).env.cmdId.toNat).complete i stSuperseded 0 [] 0) stOk 1)) ∧
    ((s.fab.orders.any fun o => o.mbx == i) = false → found = none → Goes (.cmdAbort c) s (s.fab.answers c 0x0002 id stOk))) ∧
  (∀ (s : State) (c : Cmd) (op : Nat), s.fab.takes c = true → op ∉ definedOpcodes →
    Goes (.undefinedOpcode c op) s (s.fab.answers c op id stFaulted))

/-- The end of the message time of a lone order. -/
def Obligations.MessageTimeEndAppliesAStandingOrder : Prop :=
  ∀ (s : State) (o : Order), s.fab.live = true → s.fab.orders = [o] →
    let g : Fabric := { s.fab with orders := [] }
    (o.tick + 128 ≤ s.fab.tick → g.orderFails o = false → Goes (.messageTimeEnd o.id) s (g.applyOrder o)) ∧
    (o.tick + 128 ≤ s.fab.tick → g.orderFails o = true → Goes (.messageTimeEnd o.id) s (g.finish o.mbx stFaulted)) ∧
    (s.fab.tick < o.tick + 128 → Goes (.messageTimeEnd o.id) s s.fab)

/-- Two contradicting orders of one message time (R90). -/
def Obligations.ContradictedOrderIsSuperseded : Prop :=
  ∀ (s : State) (a b : Order), s.fab.live = true → s.fab.orders = [a, b] → a.id ≠ b.id → a.contradicts b = true →
    a.ahead b = true → b.ahead a = false → max a.tick b.tick < min a.tick b.tick + 128 → min a.tick b.tick + 128 ≤ s.fab.tick →
    let f : Fabric := { s.fab with orders := [] }
    let g := f.applyOrder a
    f.orderFails a = false → ((s.fab.mbx a.mbx).env.own && g.limitsFailed a) = false →
    Goes (.messageTimeEnd b.id) s (g.finish b.mbx stSuperseded)

/-- A mailbox command whose source cannot reach the device changes nothing; neither do these events on a device that is not live. -/
def Obligations.ClosedGateLeavesTheState : Prop :=
  (∀ (i : Instr) (c : Cmd) (op : Nat) (s : State), mailboxOf i = some (c, op) → s.fab.canSend c.src = false → exec i s = .next s) ∧
  (∀ (s : State) (n : Nat), s.fab.counting = false → exec (.messageTimeEnd n) s = .next s) ∧
  ∀ s : State, s.fab.live = false →
    (∀ n, exec (.contextLingerEnd n) s = .next s) ∧
    (∀ n, exec (.segSetDrained n) s = .next s) ∧ (∀ n, exec (.invalidateDrained n) s = .next s) ∧
    (∀ p e, exec (.descriptorStart p e) s = .next s) ∧ (∀ p e, exec (.tileIssue p e) s = .next s) ∧
    (∀ n, exec (.requestTimeout n) s = .next s) ∧ (∀ n, exec (.routeDrainDone n) s = .next s) ∧
    (∀ k x, exec (.linkDataFlitRx k x) s = .next s) ∧ (∀ k, exec (.flitTx k) s = .next s) ∧
    (∀ m, exec (.write m) s = .next s) ∧ (∀ k, exec (.laneLockLoss k) s = .next s)

/-- CTX_CREATE on a FREE slot; CTX_QUERY and the first word of a FREE slot. -/
def Obligations.ContextsAreMadeAndRead : Prop :=
  (∀ (s : State) (c : Cmd) (weight : Nat) (ff : Bool), s.fab.takes c = true → s.fab.opens c = true → c.len = 16 →
    onlyBits (wd c.pay 0) [(47, 12)] = true → 1 ≤ weight → weight ≤ 8 → wd c.pay 1 = pack [(7, 4, weight), (0, 0, b2n ff)] →
    (s.fab.part (tagPart c.tag)).quietUntil ≤ s.fab.tick → (s.fab.ctx c.tag).state = .free → tagGen c.tag ≠ 0 →
    tagGen c.tag ≠ (s.fab.ctx c.tag).retiredGen →
    Goes (.ctxCreate c) s (s.fab.answers c 0x0100
      (fun f => f.updCtx c.tag fun x =>
        { state := .live, gen := tagGen c.tag, retiredGen := x.retiredGen, weight := weight, faultFail := ff,
          root := (wd c.pay 0).toNat }) stOk c.tag)) ∧
  (∀ (s : State) (c : Cmd), s.fab.takes c = true → s.fab.opens c = true → c.len = 0 →
    Goes (.ctxQuery c) s (s.fab.answers c 0x0102 id stOk 0 (s.fab.ctxWords (tagPart c.tag) (tagSlot c.tag)) 288) ∧
    ((s.fab.ctx c.tag).state = .free →
      wd (s.fab.ctxWords (tagPart c.tag) (tagSlot c.tag)) 0 =
        pack [(42, 38, (s.fab.ctx c.tag).retiredGen), (35, 32, (s.fab.ctx c.tag).weight), (31, 16, (s.fab.ctx c.tag).faultSeq)]))

/-- CTX_DESTROY of a context that is gone, that drains, and that is live; CONTEXT_LINGER_END. -/
def Obligations.ContextsAreTornDown : Prop :=
  (∀ (s : State) (c : Cmd), s.fab.takes c = true → s.fab.opens c = true → c.len = 0 →
    let x := s.fab.ctx c.tag
    let waits := (s.fab.begun c 0x0101).updCtx c.tag fun x => { x with destroyMbx := x.destroyMbx ++ [c.mbx] }
    ((x.state = .free ∨ x.gen ≠ tagGen c.tag) → Goes (.ctxDestroy c) s (s.fab.answers c 0x0101 id stOk 0)) ∧
    (x.state = .draining → x.gen = tagGen c.tag → Goes (.ctxDestroy c) s waits) ∧
    ((x.state = .live ∨ x.state = .switchedOut) → x.gen = tagGen c.tag → Goes (.ctxDestroy c) s (waits.tearDown c.tag)) ∧
    (x.state = .live → x.gen = tagGen c.tag → tagSlot c.tag < 64 →
      (let y := s.fab.part (tagPart c.tag); y.runs = [] ∧ y.colls = [] ∧ y.lists = [] ∧ y.issued = []) →
      Yields (.ctxDestroy c) s fun t => t.fab.ctx c.tag = { x with state := .draining, destroyMbx := x.destroyMbx ++ [c.mbx] } ∧
        t.fab.mbxs = waits.mbxs ∧ t.fab.rtr = s.fab.rtr ∧ t.fab.hdp = s.fab.hdp ∧ t.meter = s.meter)) ∧
  (∀ (s : State) (tag : Nat), s.fab.live = true →
    let c := s.fab.ctx tag
    let lingered := c.lastClose = 0 ∨ c.lastClose + s.fab.rtr.gapTicks ≤ s.fab.tick
    (∀ m, c.state = .draining → c.gen = tagGen tag → s.fab.ctxIdle tag = true → lingered → c.destroyMbx = [m] →
      (s.fab.mbx m).env.opcode = 0x0101 → (s.fab.mbx m).env.own = true → (s.fab.mbx m).accepted = true →
      Goes (.contextLingerEnd tag) s
        (((s.fab.updCtx tag fun _ => { gen := c.gen, retiredGen := c.gen }).updPart (tagPart tag) fun x =>
          { x with journals := x.journals.del (tagSlot tag), emaps := x.emaps.filter fun m => m.tag != tag }).complete m stOk 1 [] 0)) ∧
    ((c.state ≠ .draining ∨ c.gen ≠ tagGen tag ∨ s.fab.ctxIdle tag = false ∨ ¬ lingered) → Goes (.contextLingerEnd tag) s s.fab))

/-- SEG_SET, INVALIDATE, and the drains that complete them. -/
def Obligations.SegmentsAndTranslationsChange : Prop :=
  (∀ (s : State) (c : Cmd) (i : Nat), s.fab.takes c = true → s.fab.opensLive c = true → c.len = 40 → i < 8 → wd c.pay 0 = w64 i →
    let g : Seg := { w0 := wd c.pay 1, w1 := wd c.pay 2, w2 := wd c.pay 3, w3 := wd c.pay 4 }
    let old := (s.fab.ctx c.tag).segs.get i {}
    let d := s.fab.segUses c.mbx c.tag i old
    g.zeroBad = false → (g.valid && segBad g (Map.vals ((s.fab.ctx c.tag).segs.filter fun e => e.1 != i))) = false →
    ((old.valid = false ∨ g = old) →
      Goes (.segSet c) s (s.fab.answers c 0x0103 (fun f => f.updCtx c.tag fun x => { x with segs := x.segs.set i g }) stOk)) ∧
    (old.valid = true → g ≠ old → d.size = 0 →
      Goes (.segSet c) s (s.fab.answers c 0x0103
        (fun f => f.updCtx c.tag fun x => { x with segs := x.segs.set i g, seals := x.seals.del i }) stOk)) ∧
    (old.valid = true → g ≠ old → d.size ≠ 0 →
      Goes (.segSet c) s
        { (s.fab.begun c 0x0103).updCtx c.tag fun x => { x with segs := x.segs.set i g, seals := x.seals.del i } with
          drains := s.fab.drains ++ [{ d with count := d.size }] })) ∧
  (∀ (s : State) (d : Drain), s.fab.live = true → s.fab.drains = [d] → (s.fab.mbx d.mbx).env.own = true →
    (s.fab.mbx d.mbx).accepted = true →
    let i := if d.segSet then Instr.segSetDrained d.mbx else Instr.invalidateDrained d.mbx
    (s.fab.drained d = true →
      Goes i s (({ s.fab with drains := [] } : Fabric).complete d.mbx stOk (w64 (if d.segSet then 0 else d.count)) [] 0)) ∧
    (s.fab.drained d = false → Goes i s s.fab)) ∧
  (∀ (s : State) (c : Cmd), s.fab.takes c = true → s.fab.opensLive c = true → c.len = 24 →
    onlyBits (wd c.pay 0) [(56, 12)] = true → wd c.pay 2 = 0 →
    let p := tagPart c.tag
    let lo := if wn c.pay 1 = 0 then 0 else (wd c.pay 0).toNat
    let hi := if wn c.pay 1 = 0 then 2 ^ 57 else (wd c.pay 0).toNat + 4096 * wn c.pay 1
    let d : Drain := { s.fab.goneUses c.tag lo hi with mbx := c.mbx }
    (d.size = 0 → Goes (.invalidate c) s (s.fab.answers c 0x0104 (fun f => (f.updPart p fun x => x.invalidate c.tag lo hi).pumpColls p) stOk)) ∧
    (d.size ≠ 0 → Goes (.invalidate c) s (Fabric.pumpColls { (s.fab.begun c 0x0104).updPart p fun x => x.invalidate c.tag lo hi with
      drains := s.fab.drains ++ [{ d with count := d.size }] } p)))

/-- CTX_RESUME, PREFETCH_RANGE and ADVISE. -/
def Obligations.ResumeRangeAndAdvice : Prop :=
  ∀ (s : State) (c : Cmd), s.fab.takes c = true → s.fab.opensLive c = true →
    let p := tagPart c.tag
    let w := wd c.pay 0
    let go (f : Fabric) := f.pumpColls p
    let adv := adviseRanges (s.fab.ctx c.tag).advice (w.toNat / 4096) (wn c.pay 1) (fld (wd c.pay 2) 7 0)
    let range (n : Nat) (pin : Bool) (op : Nat) := ((s.fab.begun c op).updPart p fun x =>
      { x with ranges := x.ranges ++ [{ mbx := c.mbx, tag := c.tag, page := w.toNat / 4096, pages := n, pin := pin }] }).pumpRanges p
    (c.len = 8 → onlyBits w [(0, 0), (31, 16)] = true → (s.fab.ctx c.tag).state = .live →
      Goes (.ctxResume c) s (s.fab.answers c 0x0105 go stOk)) ∧
    (c.len = 8 → onlyBits w [(0, 0), (31, 16)] = true → (s.fab.ctx c.tag).state = .switchedOut →
      let fail := bit w 0 = true
      let hit (r : Run) : Bool := r.tag == c.tag && (match r.phase with | .parked q => faultAtMost (fld w 31 16) q | _ => false)
      let hitC (k : Coll) : Bool := k.tag == c.tag && (match k.parked with | some q => faultAtMost (fld w 31 16) q | none => false)
      let colls := (s.fab.part p).colls.filter hitC
      let resume (r : Run) : Run := { r with phase := .held, fin := if fail then some (r.fin.getD (stFaulted, 3)) else r.fin }
      let resumed (f : Fabric) := f.updPart p fun x =>
        { x with runs := updWhere x.runs hit resume, colls := updWhere x.colls hitC fun k => { k with parked := none } }
      let ended (f : Fabric) := if fail then colls.foldl (fun g k => g.endColl p k.id stFaulted 3) f else f
      Goes (.ctxResume c) s (s.fab.answers c 0x0105
        (fun f => go (go (((ended (resumed f)).unpark c.tag).settleAll p))) stOk (((s.fab.part p).runs.filter hit).length + colls.length))) ∧
    (∀ r q, c.len = 8 → w = pack [(31, 16, q)] → q < 65536 → (s.fab.ctx c.tag).state = .switchedOut → (s.fab.part p).runs = [r] →
      (s.fab.part p).colls = [] → r.tag = c.tag → r.phase = .parked q → r.fin = none →
      Yields (.ctxResume c) s fun t => (t.fab.part p).runs = [{ r with phase := .ready }] ∧ (t.fab.ctx c.tag).state = .live ∧
        (t.fab.mbx c.mbx).env.own = false ∧ (t.fab.mbx c.mbx).env.status = stOk ∧ (t.fab.mbx c.mbx).env.result0 = 1 ∧ t.meter = s.meter) ∧
    (c.len = 16 → onlyBits w [(56, 12)] = true → 1 ≤ wn c.pay 1 → wn c.pay 1 ≤ 32256 →
      Goes (.prefetchRange c) s (range (wn c.pay 1) false 0x0106) ∧
      ((s.fab.ctx c.tag).segs = [] → (s.fab.part p).ranges = [] → (s.fab.part p).walks = [] → (s.fab.part p).runs = [] →
        Yields (.prefetchRange c) s fun t => (t.fab.part p).ranges = [] ∧ (t.fab.mbx c.mbx).env.own = false ∧ (t.fab.mbx c.mbx).env.status = stOk ∧
          (t.fab.mbx c.mbx).env.result0 = w64 (wn c.pay 1) ∧ (t.fab.mbx c.mbx).env.respLen = ceilDiv (wn c.pay 1) 8 ∧ t.meter = s.meter)) ∧
    (c.len = 24 → onlyBits w [(56, 12)] = true → 1 ≤ wn c.pay 1 → onlyBits (wd c.pay 2) [(7, 0)] = true → fld (wd c.pay 2) 7 0 ≤ 4 →
      (16 < adv.length → Goes (.advise c) s (s.fab.answers c 0x0107 (fun f => f.pumpRanges p) stBusy)) ∧
      (adv.length ≤ 16 → fld (wd c.pay 2) 7 0 = 3 → Goes (.advise c) s (range (min (wn c.pay 1) (2 ^ 45)) true 0x0107)) ∧
      (adv.length ≤ 16 → fld (wd c.pay 2) 7 0 ≠ 3 →
        Goes (.advise c) s (s.fab.answers c 0x0107
          (fun f => (((f.updPart p fun x => x.noteLater c.tag (fun _ => true) (w.toNat / 4096) (wn c.pay 1) (fld (wd c.pay 2) 7 0)).updCtx c.tag
            fun x => { x with advice := adv }).repin c.tag).pumpRanges p) stOk adv.length) ∧
        ((s.fab.part p).ranges = [] → (s.fab.part p).runs = [] → Yields (.advise c) s fun t => (t.fab.ctx c.tag).advice = adv ∧
          (t.fab.mbx c.mbx).env.own = false ∧ (t.fab.mbx c.mbx).env.status = stOk ∧ (t.fab.mbx c.mbx).env.result0 = w64 adv.length ∧ t.meter = s.meter)))

/-- The five transfer commands. -/
def Obligations.TransferCommandsAreTaken : Prop :=
  ∀ (s : State) (c : Cmd), s.fab.takes c = true →
    let p := tagPart c.tag
    let issue (op : Nat) (ws : List Word) (pm : Bool) := (s.fab.begun c op).updPart p fun x =>
      { x with issued := { mbx := c.mbx, tag := c.tag, words := ws, pageMove := pm } :: x.issued,
               entries := x.entries.set 16 { cmdId := (s.fab.acceptedEnv c op).cmdId.toNat, busy := true } }
    let known := (s.fab.part p).listNamed c.tag (wd c.pay 0)
    (s.fab.opensLive c = true → c.len = 8 → onlyBits (wd c.pay 0) [(47, 6)] = true →
      Goes (.submitList c) s ((s.fab.begun c 0x0200).hdpRead (wn c.pay 0) 1 fun _ => .listHeader c.mbx)) ∧
    (s.fab.opensLive c = true → c.len = 64 → Goes (.xferOne c) s (issue 0x0201 (takePad 8 c.pay) false)) ∧
    (s.fab.opensLive c = true → c.len = 48 → (s.fab.ctx c.tag).state = .live →
      Goes (.pageMove c) s (issue 0x0404 (takePad 6 c.pay) true)) ∧
    (s.fab.opens c = true → c.len = 8 → known = none →
      Goes (.listStatus c) s (s.fab.answers c 0x0202 id stOk 0 [0, 0, 0, 0] 32) ∧
      Goes (.listCancel c) s (s.fab.answers c 0x0203 id stOk)) ∧
    (∀ l, s.fab.opens c = true → c.len = 8 → known = some l →
      Goes (.listStatus c) s (s.fab.answers c 0x0202 id stOk 0
        [w64 l.cmdId, pack [(63, 32, l.lowest + l.ended.length), (4, 0, l.entry)], w64 l.state, 0] 32) ∧
      (l.finished = true → Goes (.listCancel c) s (s.fab.answers c 0x0203 id stOk)) ∧
      (l.finished = false → Goes (.listCancel c) s
        (((s.fab.begun c 0x0203).updList p l.id fun l => { l with cancelMbx := l.cancelMbx ++ [c.mbx] }).cancelList p l)))

/-- DESCRIPTOR_START of a mailbox-issued descriptor, TILE_ISSUE of a local FILL. -/
def Obligations.EngineStartsAndIssues : Prop :=
  (∀ (s : State) (p e sl m : Nat) (x : Ctx) (ws : List Word), s.fab.live = true → e < 6 →
    (s.fab.part p).draining = false → (s.fab.part p).disabled = false → (s.fab.part p).runs = [] → (s.fab.part p).eResets = [] →
    p < 32 → sl < 64 → x.gen < 32 → (s.fab.part p).ctx sl = x → s.fab.candidates p = [(sl, x)] →
    s.fab.startable (mkTag p sl x.gen) = some (.mailbox m, ws, false) → ws ≠ [] → descBad ws = false →
    ({ id := 0, tag := 0, src := .mailbox m, words := ws, phase := .held } : Run).total ≠ 0 →
    Yields (.descriptorStart p e) s fun t => ∃ r, (t.fab.part p).onEngine e = some r ∧ r.words = ws ∧ r.src = .mailbox m ∧
      r.tag = mkTag p sl x.gen ∧ r.nextPos = 0 ∧ r.startTick = s.fab.tick ∧ t.meter = s.meter ∧ t.fab.hdp = s.fab.hdp ∧
      t.fab.mbxs = s.fab.mbxs ∧ t.fab.tick = s.fab.tick) ∧
  (∀ (s : State) (p e size va pa seg : Nat) (r : Run), s.fab.live = true → (s.fab.part p).runs = [r] → r.phase = .running e → r.fin = none →
    (∀ t ∈ r.tiles, t.blocked = false) → (s.fab.part p).stalled = [] → r.pageMove = false → dKind r.words = 4 → dHp r.words = false →
    r.next = .tile size 0 va → s.fab.check r.tag va .write = .ok pa false seg → s.fab.own pa = true →
    0 < size → size ≤ 64 - paLocal pa / 64 % 64 → 0 < s.fab.hdp.crdWr →
    Yields (.tileIssue p e) s fun t => ∃ x, t.fab.hdp.outstanding = s.fab.hdp.outstanding ++ [x] ∧ x.kind = .memWr ∧
      x.addr = paLocal pa ∧ x.units = size ∧ x.data = List.replicate (8 * size) (wd r.words 1) ∧ x.notice = false)

/-- STREAM_PREFETCH, REQUEST_TIMEOUT, PAR_CC_SNAP. -/
def Obligations.PrefetchTimeoutAndSnapshot : Prop :=
  (∀ (s : State) (p e va : Nat) (dst : Bool) (r : Run), s.fab.live = true → (s.fab.part p).onEngine e = some r →
    s.fab.streamMiss r dst = some va →
    Goes (.streamPrefetch p e dst) s (s.fab.startWalk r.tag va (.prefetch e dst))) ∧
  (∀ (s : State) (n : Nat) (q : Request) (r : Run), s.fab.live = true → s.fab.rtr.reqs.find n = some q →
    s.fab.run q.part q.run = some r → (s.fab.ctx r.tag).state ≠ .switchedOut →
    (q.handed = true → q.bound ≤ s.fab.elapsed q r.tag → Goes (.requestTimeout n) s (s.fab.abandon q.part r stTimeout 0)) ∧
    ((q.handed = false ∨ s.fab.elapsed q r.tag < q.bound) → Goes (.requestTimeout n) s s.fab)) ∧
  (∀ (s : State) (src p i : Nat), s.fab.hdpUp = true → p < s.fab.partCount → (s.fab.part p).disabled = false →
    s.fab.parAccess src p = true → i ≤ 16 →
    Goes (.parCcSnap src p (w64 i)) s (s.fab.hdpWrite (s.fab.part p).snapAddr
      (((s.fab.part p).entries.get i {}).words i s.fab.tick (s.fab.confPart p)) fun _ => .ccSnap))

/-- The registers of a notice ring, and a notice that was held for room. -/
def Obligations.NoticeRingRegisters : Prop :=
  (∀ (s : State) (src ring : Nat), s.fab.hdpUp = true → ring ≤ 32 → (ring = 32 ∨ s.fab.partHere ring = true) →
    let r := s.fab.ring ring
    let put (x : Ring) := s.fab.setRing ring x
    (∀ b, (s.fab.mayTouch src (0x400 + 32 * ring)).2 = true → b < 2 ^ 42 → r.enable = false → (ring = 32 → s.fab.ladder.bootHeld = none) →
      Goes (.nringEnable src ring (64 * b)) s
        (put { r with base := 64 * b, enable := true, head := 0, tail := 0, phase := true, lost := 0, nseq := 0, expect := 0 })) ∧
    ((s.fab.mayTouch src (0x400 + 32 * ring)).2 = true → r.enable = true →
      Goes (.nringDisable src ring) s (put { r with enable := false, lost := sat32 (r.lost + r.held.length), held := [] })) ∧
    (∀ i, (s.fab.mayTouch src (0x400 + 32 * ring + 24)).2 = true → i < 65536 →
      (i < 2 ^ r.log2 → Goes (.nringTailWrite src ring i) s (put { r with tail := i })) ∧
      (2 ^ r.log2 ≤ i → Goes (.nringTailWrite src ring i) s s.fab))) ∧
  (∀ (s : State) (ring : Nat) (n : Notice) (rest : List Notice), s.fab.live = true → (s.fab.ring ring).held = n :: rest →
    ((s.fab.ring ring).enable = true → (s.fab.ring ring).room = true →
      Goes (.noticeDeferredWrite ring) s ((s.fab.setRing ring { s.fab.ring ring with held := rest }).writeNotice ring n)) ∧
    ((s.fab.ring ring).room = false → Goes (.noticeDeferredWrite ring) s s.fab))

/-- REGISTER_WRITE. -/
def Obligations.RegisterWritesNeedPrivilege : Prop :=
  ∀ (s : State) (src : Nat) (w : Word), s.fab.hdpUp = true →
    (∀ off, off % 8 = 0 → off < 2 ^ 26 → (s.fab.mayTouch src off).2 = false →
      Goes (.registerWrite src off 8 [w]) s { s.fab with violations := min (s.fab.violations + 1) (2 ^ 64 - 1) }) ∧
    (∀ p, p < 32 → s.fab.partHere p = true → (s.fab.mayTouch src (0x400000 + 65536 * p + 8)).2 = true →
      (fld w 31 0 ≠ 0 → Goes (.registerWrite src (0x400000 + 65536 * p + 8) 8 [w]) s
        (s.fab.updPart p fun x => { x with timeoutDef := fld w 31 0 })) ∧
      (fld w 31 0 = 0 → Goes (.registerWrite src (0x400000 + 65536 * p + 8) 8 [w]) s s.fab)) ∧
    (∀ off, off % 8 = 0 → off < 2 ^ 26 →
      ((s.fab.mayTouch src off).1 = true →
        Goes (.registerWrite src off 8 []) s { s.fab with hdp := { s.fab.hdp with regRsp := some (s.fab.reg off) } }) ∧
      ((s.fab.mayTouch src off).1 = false →
        Goes (.registerWrite src off 8 []) s
          { s.fab with hdp := { s.fab.hdp with regRsp := some 0 }, violations := min (s.fab.violations + 1) (2 ^ 64 - 1) })) ∧
    (∀ m i, m < 32 → i < 512 → s.fab.mbxExists m = true → (s.fab.mbx m).env.own = true →
      (s.fab.mayTouch src (0x2000 + 4096 * m + 8 * i)).2 = true →
      Goes (.registerWrite src (0x2000 + 4096 * m + 8 * i) 8 [w]) s s.fab)

/-- RD_DATA, WR_ACK and ATOMIC_RSP. -/
def Obligations.HdpAnswersServeTheirPurpose : Prop :=
  (∀ (s : State) (tag : Nat) (ws : List Word) (b : Bool) (w : Word), s.fab.hdpUp = true →
    (s.fab.openTx tag .memRd = none → Goes (.hdpRdData tag ws b) s s.fab) ∧
    (s.fab.openTx tag .memWr = none → Goes (.hdpWrAck tag b) s s.fab) ∧
    (s.fab.openTx tag .atomic = none → Goes (.hdpAtomicRsp tag w) s s.fab) ∧
    (∀ t m, s.fab.openTx tag .memRd = some t → t.purpose = .listHeader m →
      Goes (.hdpRdData tag ws b) s (Fabric.listHeader
        { s.fab with hdp := { s.fab.hdp.answered t with rdBytes := (s.fab.hdp.answered t).rdBytes + 64 * t.units } }
        m (if b then zeros (8 * t.units) else takePad (8 * t.units) ws) b t.addr)) ∧
    (∀ t p l i, s.fab.openTx tag .memWr = some t → t.purpose = .record p l i →
      Goes (.hdpWrAck tag b) s (Fabric.recordWritten { s.fab with hdp := s.fab.hdp.answered t } p l)) ∧
    (∀ t o e, s.fab.openTx tag .atomic = some t → t.purpose = .target o e →
      Goes (.hdpAtomicRsp tag w) s (Fabric.targetAnswer { s.fab with hdp := s.fab.hdp.answered t } o e [w] false t.addr))) ∧
  (∀ (s : State) (t : HdpTx) (ws : List Word) (b : Bool) (w : Word), s.fab.hdpUp = true → s.fab.hdp.waiting = [] →
    s.fab.hdp.outstanding = [t] →
    (∀ p r k off, t.kind = .memRd → t.purpose = .tileRd p r k off → s.fab.run p r = none →
      Goes (.hdpRdData t.tag ws b) s
        { s.fab with hdp := { s.fab.hdp with outstanding := [], crdRd := s.fab.hdp.crdRd + 1, rdBytes := s.fab.hdp.rdBytes + 64 * t.units } }) ∧
    (t.kind = .memWr → (t.purpose = .doneWb ∨ t.purpose = .ccSnap ∨ (∃ i, t.purpose = .notice i)) →
      Goes (.hdpWrAck t.tag b) s { s.fab with hdp := { s.fab.hdp with outstanding := [], crdWr := s.fab.hdp.crdWr + 1 } }) ∧
    (∀ p r k e, t.kind = .atomic → t.purpose = .tileAt p r k e → s.fab.run p r = none →
      Goes (.hdpAtomicRsp t.tag w) s { s.fab with hdp := { s.fab.hdp with outstanding := [], crdAt := s.fab.hdp.crdAt + 1 } }))

/-- POWER_ON, RST_N_ASSERT, RST_N_RELEASE, BROWNOUT, BROWNOUT_RECOVERY. -/
def Obligations.PowerAndResetStartOver : Prop :=
  ∀ s : State,
    let f := s.fab
    (f.pins.rstN = false → Yields .powerOn s fun t => t.meter = s.meter ∧ t.pending = s.pending ∧ t.fab.pins.powerGood = true ∧
      t.fab.pins.faults = [1] ∧ t.fab.aon = { stage := 1 } ∧ t.fab.tick = 0 ∧ t.fab.ready = false ∧ t.fab.parts = [] ∧
      t.fab.mbxs = [] ∧ t.fab.rings = [] ∧ t.fab.ports = [] ∧ t.fab.orders = [] ∧ t.fab.hdp = {} ∧
      t.fab.flash = { f.flash with writing := none, held := [] } ∧ t.fab.prc.fuseSvn = f.prc.fuseSvn ∧ t.fab.prc.fusedOff = f.prc.fusedOff) ∧
    (f.pins.powerGood = true → f.pins.rstN = true → Yields .rstNAssert s fun t => t.meter = s.meter ∧ t.fab.pins.rstN = false ∧
      t.fab.aon.stage = 2 ∧ t.fab.aon.cause = 1 ∧ t.fab.aon.dCount = min 65535 (f.aon.dCount + 1) ∧ t.fab.aon.log = f.aon.log ∧
      t.fab.aon.dump = f.aon.dump ∧ t.fab.ready = false ∧ t.fab.parts = [] ∧ t.fab.mbxs = [] ∧ t.fab.orders = [] ∧
      t.fab.flash = { f.flash with writing := none, held := [] }) ∧
    (f.pins.rstN = false → Goes .rstNAssert s f) ∧
    (∀ straps, f.pins.powerGood = true → f.pins.rstN = false →
      let v := strapsOf straps
      let g : Fabric := { f with pins := { f.pins with rstN := true, straps := straps },
                                 rtr := { f.rtr with node := v.node, lx := v.axes.1, ly := v.axes.2.1, lz := v.axes.2.2 } }
      (v.valid = true → Goes (.rstNRelease straps) s { g with aon := { f.aon with stage := 4 } }) ∧
      (v.valid = false → Goes (.rstNRelease straps) s (Fabric.faultOn { g with aon := { f.aon with stage := 3 } } 3))) ∧
    (f.pins.powerGood = true → Yields (.brownout false) s fun t => t.meter = s.meter ∧ t.fab.hdp.stopped = true ∧
      6 ∈ t.fab.pins.faults ∧ (∀ k, k < 8 → (t.fab.port k).state = .off)) ∧
    (f.pins.powerGood = true → f.pins.rstN = false → 6 ∈ f.pins.faults → Yields .brownoutRecovery s fun t => t.fab.pins.faults = [1] ∧
      t.fab.aon.cause = 0 ∧ t.fab.aon.stage = 2 ∧ t.fab.ready = false ∧ t.fab.hdp = {})

/-- CALENDAR_MARK and REFCLK_EDGE_GAP. -/
def Obligations.RefclkIsJudgedByTheCalendar : Prop :=
  ∀ (s : State) (n : Nat), s.fab.pins.powerGood = true → s.fab.pins.rstN = true → 5 ∉ s.fab.pins.faults →
    let f := s.fab
    let pass := 19525391 ≤ n ∧ n ≤ 19537109
    let stopped (t : State) : Prop := t.meter = s.meter ∧ t.fab.clk.state = 2 ∧ 2 ∈ t.fab.pins.faults ∧ t.fab.hdp.stopped = true ∧
      ∀ k, k < 8 → (t.fab.port k).state = .off
    (4 ≤ f.aon.stage → f.clk.windowOpen = true → f.mtl.lost = false →
      (f.clk.state = 0 → pass → Yields (.calendarMark n) s fun t => t.meter = s.meter ∧ t.fab.clk.state = 1 ∧ t.fab.aon.stage = 5 ∧
        1 ∉ t.fab.pins.faults ∧ t.fab.clk.lastCount = n ∧ t.fab.clk.windows = f.clk.windows + 1) ∧
      (f.clk.state = 0 → ¬ pass → Yields (.calendarMark n) s fun t => t.fab.clk.state = 0 ∧ t.fab.aon.stage = f.aon.stage ∧
        t.fab.pins = f.pins ∧ t.fab.clk.lastCount = n ∧ t.fab.clk.winBefore = f.clk.winBefore + 1) ∧
      (f.clk.state = 1 → pass → Yields (.calendarMark n) s fun t => t.fab.clk.state = 1 ∧ t.fab.ports = f.ports ∧
        t.fab.pins = f.pins ∧ t.fab.hdp = f.hdp ∧ t.fab.clk.lastCount = n) ∧
      (f.clk.state = 1 → ¬ pass → Yields (.calendarMark n) s stopped)) ∧
    (f.clk.state = 1 → Yields .refclkEdgeGap s stopped) ∧
    (f.clk.state = 0 → Goes .refclkEdgeGap s { f with clk := { f.clk with windowOpen := false, returning := false } })

/-- PROCTOR_IMAGE_LOADED, HDP_TRAINING_DONE, FIRMWARE_READY, TRIAL_BOOT_TIMEOUT. -/
def Obligations.StartUpReachesReady : Prop :=
  ∀ s : State, s.fab.frozen = false →
    let f := s.fab
    let slot := f.prc.slot
    (∀ ws n, f.aon.stage = 5 → f.prc.measured = false → f.hdp.trained = false →
      (imageForm ((f.flash.slots.find slot).getD { words := ws, len := n }) f.prc.fuseSvn = true →
        Yields (.proctorImageLoaded true ws n) s fun t => t.fab.aon.stage = 7 ∧ t.fab.prc.measured = true ∧
          t.fab.prc.running = (f.flash.slots.find slot).getD { words := ws, len := n } ∧ t.fab.ready = f.ready ∧ t.meter = s.meter) ∧
      (slot < 2 → (1 - slot) ∉ f.flash.failed → Yields (.proctorImageLoaded false ws n) s fun t => t.fab.aon.stage = 5 ∧
        t.fab.prc.slot = 1 - slot ∧ slot ∈ t.fab.flash.failed ∧ t.fab.prc.measured = false ∧ t.fab.ready = false)) ∧
    (∀ o i, f.awake = true → f.aon.stage = 7 → f.hdp.trained = false → f.clk.state = 1 →
      let gone (k : Nat) : Bool := 4 < (failedWires o k).length || 4 < (failedWires i k).length
      let count := ((List.range 64).filter gone).length
      (count ≤ 16 → Yields (.hdpTrainingDone o i) s fun t => t.fab.hdp.trained = true ∧ t.fab.hdp.stopped = false ∧ t.fab.aon.stage = 8 ∧
        t.fab.pins = f.pins ∧ t.fab.hdp.regGrant = 64 ∧ (∀ k < 64, t.fab.hdp.retired.get k false = gone k ∧
          t.fab.hdp.repair.get k 0 = if gone k then 0 else spareFields (failedWires o k) + spareFields (failedWires i k) * 2 ^ 28)) ∧
      (16 < count → Yields (.hdpTrainingDone o i) s fun t => t.fab.hdp.stopped = true ∧ 5 ∈ t.fab.pins.faults ∧ t.fab.aon.stage = 7)) ∧
    (f.aon.stage = 8 → f.ready = false → f.prc.measured = true → f.hdp.trained = true → f.waiting = [] → f.prc.trial = false →
      Yields .firmwareReady s fun t => t.fab.ready = true ∧ t.fab.aon.stage = 10 ∧ t.fab.abi = f.prc.running.version / 2 ^ 24 ∧
        t.fab.mbxs = f.mbxs ∧ t.fab.parts = f.parts ∧ t.meter = s.meter) ∧
    (f.counting = true → f.prc.trial = true → f.ready = false → 5 ≤ f.aon.stage → slot < 2 → (1 - slot) ∉ f.flash.failed →
      (f.ladder.bootAt + 312500000 ≤ f.tick → Yields .trialBootTimeout s fun t => slot ∈ t.fab.flash.failed ∧
        t.fab.prc.slot = 1 - slot ∧ t.fab.prc.trial = false ∧ t.fab.aon.stage = 5) ∧
      (f.tick < f.ladder.bootAt + 312500000 → Goes .trialBootTimeout s f))

/-- HDP_CRC_ERROR and HDP_REPLAY_REQUEST. -/
def Obligations.ReplaysRetireASlice : Prop :=
  (∀ (s : State) (slice : Nat) (b : BeatRx), s.fab.hdpUp = true → b.crc = Beat.crc { header := b.header, data := b.data } →
    Goes (.hdpCrcError slice b) s s.fab) ∧
  ∀ (s : State) (i : Instr) (slice beats : Nat) (asks : Hdp → Hdp), s.fab.hdpUp = true →
    let h := s.fab.hdp
    let b := h.buf.get slice []
    ((∃ x : BeatRx, i = .hdpCrcError slice x ∧ x.beats = beats ∧ x.crc ≠ Beat.crc { header := x.header, data := x.data } ∧
        asks = fun g => { g with asked := h.asked.set slice (min 64 beats) }) ∨
      (i = .hdpReplayRequest slice beats ∧ asks = fun g => { g with again := (b.drop (b.length - beats)).map fun x => (slice, x) })) →
    let start := down s.fab.tick 156250
    let counts : Map Nat := if h.window = start then h.replays else []
    let n := counts.get slice 0 + 1
    (slice < 64 → h.retired.get slice false = false →
      (n ≤ 16 → Goes i s { s.fab with
        hdp := { asks h with window := start, replays := counts.set slice n, replayBeats := h.replayBeats + min 64 beats },
        ladder := { s.fab.ladder with crcSlices := s.fab.ladder.crcSlices.filter (· != slice) } }) ∧
      (16 < n → Yields i s fun t => t.fab.hdp.retired = h.retired.set slice true ∧ t.fab.hdp.replayBeats = h.replayBeats + min 64 beats ∧
        t.fab.hdp.again.map Prod.snd = b ∧ t.meter = s.meter ∧ t.fab.parts = s.fab.parts ∧ t.fab.ports = s.fab.ports ∧
        (16 < (h.retired.set slice true).length → t.fab.hdp.stopped = true ∧ 5 ∈ t.fab.pins.faults) ∧
        ((h.retired.set slice true).length ≤ 16 → t.fab.hdp.stopped = h.stopped))) ∧
    ((63 < slice ∨ h.retired.get slice false = true) → Goes i s s.fab)

/-- WATCHDOG_EXPIRE, MC_RESTART_DONE, D_RESET_READY_TIMEOUT. -/
def Obligations.WatchdogRestartsTheCluster : Prop :=
  ∀ s : State,
    let f := s.fab
    (∀ core, f.counting = true → core < 8 → f.prc.measured = true → 6 ≤ f.aon.stage → f.ladder.restarting = false → f.prc.trial = false →
      (∀ t, f.ladder.lastRestart = some t → t + 156250000 ≤ f.tick) →
      Yields (.watchdogExpire core) s fun t => t.meter = s.meter ∧ t.fab.ladder.restarting = true ∧ t.fab.ladder.lost = f.inProgress ∧
        t.fab.ladder.lastRestart = some f.tick ∧ t.fab.prc.restarts = min 65535 (f.prc.restarts + 1) ∧ t.fab.mbxs = f.mbxs ∧
        t.fab.parts = f.parts ∧ t.fab.ready = f.ready) ∧
    (∀ m, f.live = true → f.ladder.restarting = true → f.ladder.activated = false → f.ladder.lost = [m] → f.waiting = [] →
      (f.mbx m).env.own = true → (f.mbx m).accepted = true →
      Yields .mcRestartDone s fun t => t.fab.ladder.restarting = false ∧ t.fab.ladder.lost = [] ∧ (t.fab.mbx m).env.own = false ∧
        (t.fab.mbx m).env.status = stLost ∧ (t.fab.mbx m).record = (f.mbx m).record) ∧
    (f.ready = false → f.ladder.bootFrom ≠ 0 →
      (468750000 ≤ f.tick → Yields .dResetReadyTimeout s fun t => t.fab.pins = { f.pins with trayReq := true } ∧ t.fab.mbxs = f.mbxs ∧
        t.fab.rings = f.rings ∧ t.fab.ready = false) ∧
      (f.tick < 468750000 → Goes .dResetReadyTimeout s f))

/-- BUBBLE_UPDATE, POWER_RECALIBRATE, CANARY_SAMPLE, FLOOR_REPLAN. -/
def Obligations.PowerManagerReadings : Prop :=
  ∀ s : State, s.fab.powered = true →
    let w := s.fab.pwr
    (∀ read pA pM pL, 0 < pA → let est := read + 120 * (s.fab.lanes.filter fun l => l.2.highBias).length
      Yields (.bubbleUpdate read pA pM pL) s fun t => t.meter = s.meter ∧ t.fab.pwr.est = est ∧
      t.fab.pwr.bubA = max (min (ceilDiv (64 * (est - 1000 * w.capEff)) pA) 56) (w.bubA - 8) ∧
      (est ≤ 1000 * w.capEff → t.fab.pwr.bubM = w.bubM - 8 ∧ t.fab.pwr.bubL = w.bubL - 8 ∧
        { t.fab with pwr := w, free := s.fab.free } = s.fab)) ∧
    (∀ ok p mv amps, s.fab.clk.state = 2 → Goes (.powerRecalibrate ok p mv amps) s s.fab) ∧
    (∀ ok p mv amps, s.fab.clk.state ≠ 2 → Yields (.powerRecalibrate ok p mv amps) s fun t => { t.fab with pwr := w } = s.fab ∧ t.fab.pwr.fabricW = p ∧
      t.fab.pwr.icore = amps ∧ (ok = true → w.pmbusFault = false → t.fab.pwr.vcoreMv = mv ∧ t.fab.pwr.pmbusFails = 0) ∧
      (ok = false → 2 ≤ w.pmbusFails → t.fab.pwr.pmbusFault = true) ∧ (w.pmbusFault = true → t.fab.pwr.pmbusFault = true)) ∧
    (∀ c per fresh, c < 32 → s.fab.prc.fusedOff / 2 ^ c % 2 = 0 → fresh ≠ 0 → Yields (.canarySample [(c, per, fresh)]) s fun t =>
      { t.fab with pwr := w, free := s.fab.free } = s.fab ∧ t.fab.pwr.canary = w.canary.set c (per, fresh)) ∧
    (∀ mv, w.lastPlan + 9375000000 ≤ s.fab.tick → Yields (.floorReplan mv) s fun t => { t.fab with pwr := w } = s.fab ∧
      t.fab.pwr.floor = min 800 (max 650 (5 * ceilDiv mv 5)) ∧ t.fab.pwr.marginOut = decide (800 < 5 * ceilDiv mv 5) ∧
      t.fab.pwr.lastPlan = s.fab.tick) ∧
    (∀ mv, s.fab.tick < w.lastPlan + 9375000000 → w.aged = false → Goes (.floorReplan mv) s s.fab)

/-- TARGET_STEP, THERMAL_SAMPLE, THERMAL_LIMIT_STEP, CURRENT_LIMIT_STEP, DROOP_DETECT, DROOP_RELEASE. -/
def Obligations.LimitsAndDroop : Prop :=
  ∀ s : State, s.fab.powered = true →
    let f := s.fab
    let w := f.pwr
    (let on := w.lastTarget + 156250 ≤ f.tick
     let lowers := on ∧ w.floor < w.target ∧ ∃ t0, w.bubSince = some t0 ∧ t0 + 1562500 ≤ f.tick
     let raises := on ∧ w.target < w.plannedTarget ∧ w.bubSince = none ∧ w.freeSince + 1562500 ≤ f.tick
     (lowers → Yields .targetStep s fun t => { t.fab with pwr := w } = f ∧ t.fab.pwr.target = max w.floor (w.target - 5) ∧
       t.fab.pwr.lastTarget = f.tick ∧ t.fab.pwr.floor = w.floor ∧ t.meter = s.meter) ∧
     (raises → Yields .targetStep s fun t => { t.fab with pwr := w } = f ∧ t.fab.pwr.target = min w.plannedTarget (w.target + 5) ∧
       t.fab.pwr.lastTarget = f.tick ∧ t.fab.pwr.floor = w.floor ∧ t.meter = s.meter) ∧
     (¬ lowers → ¬ raises → Goes .targetStep s f)) ∧
    (∀ tj, (4 * w.tjTrip ≤ tj → Yields (.thermalSample tj) s fun t => t.fab.hdp.stopped = true ∧ 7 ∈ t.fab.pins.faults ∧
        t.fab.pins.trayReq = true ∧ t.fab.pwr.tjMax = tj) ∧
      (tj < 4 * w.tjTrip → Yields (.thermalSample tj) s fun t => { t.fab with pwr := w } = f ∧ t.fab.pwr.tjMax = tj ∧
        t.fab.pwr.hot = decide (4 * w.tjThrottle < tj))) ∧
    (let step (o : Order) (src i old : Nat) (lower : Bool) : Prop := ∃ d v, (d = 5 * w.est / 100000 ∨ d = ceilDiv (5 * w.est) 100000) ∧
       v = (if lower then max 100 (old - d) else min 640 (old + d)) ∧ o.src = src ∧ o.tick = f.tick ∧
       o.sets = [({ block := 16, index := i, field := 0 }, v)]
     let due (last : Option Nat) (n : Nat) : Prop := ∀ t, last = some t → t + n ≤ f.tick
     let calm (since : Option Nat) : Prop := ∃ t, since = some t ∧ t + 1562500 ≤ f.tick
     (∀ lower, due w.lastThermal 156250 → (if lower then w.hot = true else w.hot = false ∧ calm w.coolSince ∧ w.thermal < 640) →
       Yields .thermalLimitStep s fun t => ∃ o, t.fab.orders = f.orders ++ [o] ∧ step o 34 0 w.thermal lower ∧ t.fab.pwr.thermal = w.thermal ∧
         t.fab.pwr.lastThermal = some f.tick ∧ t.fab.mbxs = f.mbxs ∧ t.fab.hdp = f.hdp ∧ t.meter = s.meter) ∧
     (¬ due w.lastThermal 156250 ∨ (w.hot = false ∧ (¬ calm w.coolSince ∨ 640 ≤ w.thermal)) → Goes .thermalLimitStep s f) ∧
     (∀ amps lower, due w.lastCurrent 15625 →
       (if lower then w.iccLimit < amps else amps ≤ w.iccLimit ∧ calm (some (w.easeSince.getD f.tick)) ∧ w.current < 640) →
       Yields (.currentLimitStep amps) s fun t => ∃ o, t.fab.orders = f.orders ++ [o] ∧ step o 35 1 w.current lower ∧ t.fab.pwr.current = w.current ∧
         t.fab.pwr.lastCurrent = some f.tick ∧ t.fab.mbxs = f.mbxs ∧ t.fab.hdp = f.hdp ∧ t.meter = s.meter) ∧
     (∀ amps, ¬ due w.lastCurrent 15625 → Yields (.currentLimitStep amps) s fun t => { t.fab with pwr := w } = f ∧ t.fab.orders = f.orders ∧
       t.fab.pwr.current = w.current)) ∧
    (Yields .droopDetect s fun t => { t.fab with pwr := w } = f ∧ t.fab.pwr.droop = true ∧ t.fab.pwr.droopSince = f.tick ∧
      t.fab.reasons / 8 % 2 = 1) ∧
    (w.droopSince + 16 ≤ f.tick → Yields .droopRelease s fun t => { t.fab with pwr := w } = f ∧ t.fab.pwr.droop = false ∧
      t.fab.reasons / 8 % 2 = 0) ∧
    (f.tick < w.droopSince + 16 → Goes .droopRelease s f)

/-- THROTTLE_NOTICE, SLACK_WINDOW_END, OP_POINT_APPLY. -/
def Obligations.ThrottleSlackAndPoints : Prop :=
  ∀ s : State, s.fab.live = true →
    let f := s.fab
    let w := f.pwr
    (w.changed = true → (∀ t, w.lastNotice = some t → t + 156250 ≤ f.tick) → Yields .throttleNotice s fun t => t.fab.pwr.changed = false ∧
      t.fab.pwr.seen = f.reasons ∧ t.fab.pwr.lastNotice = some f.tick ∧ t.fab.pwr.thrTicks = 0 ∧ t.fab.parts = f.parts ∧
      t.fab.mbxs = f.mbxs ∧ t.meter = s.meter) ∧
    ((w.changed = false ∨ ∃ t, w.lastNotice = some t ∧ f.tick < t + 156250) → Goes .throttleNotice s f) ∧
    (w.winStart + 15625000 ≤ f.tick → Yields .slackWindowEnd s fun t => { t.fab with pwr := w, free := f.free } = f ∧
      t.fab.pwr.winStart = f.tick ∧ t.fab.pwr.estSum = 0 ∧ t.fab.pwr.icSum = 0 ∧ t.fab.pwr.thrSum = 0 ∧ t.fab.pwr.waitSum = 0 ∧
      t.fab.pwr.avgW = w.estSum / (1000 * (f.tick - w.winStart)) ∧ t.fab.pwr.avgA = w.icSum / (f.tick - w.winStart)) ∧
    (f.tick < w.winStart + 15625000 → Goes .slackWindowEnd s f) ∧
    (∀ b i, w.selects = [(b, i)] → b ≤ f.bell → Yields .opPointApply s fun t => t.fab.pwr.point = i ∧ t.fab.pwr.selects = [] ∧
      t.fab.fixedRate = (w.pointAt i).fixed ∧ { t.fab with pwr := w, fixedRate := f.fixedRate } = f) ∧
    ((∀ x ∈ w.selects, f.bell < x.1) → Goes .opPointApply s f)

/-- FW_STAGE, FW_STAGE_VERIFIED, FW_ACTIVATE, BOOT_RECORD_SET. -/
def Obligations.FirmwareSlotsChange : Prop :=
  (∀ (s : State) (c : Cmd), c.mbx = 32 →
    let len := fld (wd c.pay 1) 31 0
    let slot := 1 - s.fab.flash.active
    (s.fab.takes c = true → c.len = 16 → onlyBits (wd c.pay 0) [(47, 6)] = true → onlyBits (wd c.pay 1) [(31, 0)] = true → 1 ≤ len → len ≤ 25165824 →
      Goes (.fwStage c) s (Fabric.hdpRead { s.fab.begun c 0x0702 with flash := { s.fab.flash with
        writing := some { mbx := 32, slot := slot, len := len, pend := pieceCount (wn c.pay 0) (ceilDiv len 64) } } }
        (wn c.pay 0) (ceilDiv len 64) fun o => .cmdRead 32 o)) ∧
    (∀ k, s.fab.takes (force c 0 0 0) = true → c.len = 8 → wd c.pay 0 = 0 → s.fab.flash.staged = some k →
      Yields (.fwActivateAtReset c) s fun t => t.fab.flash = { s.fab.flash with trialNext := true } ∧ (t.fab.mbx 32).env.own = false ∧
        (t.fab.mbx 32).env.status = stOk ∧ (t.fab.mbx 32).env.result0 = w64 k ∧ t.fab.parts = s.fab.parts ∧
        t.fab.prc.running = s.fab.prc.running) ∧
    (∀ k, s.fab.takes (force c 0 0 1) = true → c.len = 8 → wd c.pay 0 = 1 → s.fab.flash.staged = some k →
      (s.fab.flash.slots.get k {}).version / 2 ^ 24 = s.fab.abi → s.fab.prc.claims = [] →
      Yields (.fwActivateRestart c) s fun t => t.fab.flash = { s.fab.flash with active := k, staged := none, trialNext := false } ∧
        t.fab.prc.running = s.fab.flash.slots.get k {} ∧ t.fab.prc.sessions = [] ∧ t.fab.ladder.restarting = true ∧
        (t.fab.mbx 32).env.status = stOk ∧ (t.fab.mbx 32).env.result0 = w64 k ∧ t.fab.parts = s.fab.parts)) ∧
  (∀ (s : State) (c : Cmd), c.mbx ∈ [32, 33] → s.fab.takes c = true → 16 ≤ c.len → c.len ≤ 4032 → leAt (bytesOf c.pay c.len) 4 2 = c.len →
    recordOk (bytesOf c.pay c.len) = true →
    (s.fab.clk.state ≠ 2 → Goes (.bootRecordSet c) s (s.fab.answers c 0x0704
      (fun f => { f with flash := { f.flash with record := bytesOf c.pay c.len } }) stOk (crc32c (bytesOf c.pay c.len)))) ∧
    (s.fab.clk.state = 2 → Goes (.bootRecordSet c) s
      { s.fab.begun c 0x0704 with flash := { s.fab.flash with held := s.fab.flash.held ++ [(c.mbx, bytesOf c.pay c.len)] } })) ∧
  (∀ (s : State) (w : Staging) (ok : Bool), s.fab.live = true → s.fab.flash.writing = some w → w.pend = 0 →
    (s.fab.mbx w.mbx).env.own = true → (s.fab.mbx w.mbx).accepted = true →
    let good := ok && imageForm (s.fab.flash.slots.get w.slot {}) s.fab.prc.fuseSvn
    Yields (.fwStageVerified ok) s fun t => t.fab.flash.writing = none ∧ (t.fab.mbx w.mbx).env.own = false ∧ t.fab.parts = s.fab.parts ∧
      (good = true → t.fab.flash.staged = some w.slot ∧ (t.fab.mbx w.mbx).env.status = stOk ∧ (t.fab.mbx w.mbx).env.result0 = w64 w.slot) ∧
      (good = false → t.fab.flash.staged = s.fab.flash.staged ∧ (t.fab.mbx w.mbx).env.status = stFaulted))

/-- GROUP_SET, EMAP_SET, JOURNAL_SET, JOURNAL_STATUS, BELL_READ. -/
def Obligations.GroupsMapsAndJournals : Prop :=
  ∀ (s : State) (c : Cmd), s.fab.takes c = true →
    let p := tagPart c.tag
    let x := s.fab.part p
    let me := s.fab.rtr.seated
    let unused (slot : Nat) := x.colls.any (fun k => fld (wd k.words 4) 52 48 == slot) = false
    (∀ (axis slot lo : Nat), s.fab.opensLive c = true → c.len = 40 → axis < 3 → slot < 32 → lo < 2 ^ 32 →
      c.pay = [pack [(13, 12, axis), (9, 8, 0), (4, 0, slot)], 0, w64 lo, 0, 0] → unused slot →
      let ms := ((bitsOf lo 32).filter (· < s.fab.rtr.len axis)).map fun k =>
        mkNode (if axis = 0 then k else coord 0 me) (if axis = 1 then k else coord 1 me) (if axis = 2 then k else coord 2 me)
      let g : Group := { kind := 0, axis := axis, ring := false, members := ms }
      (2 ≤ ms.length → me ∈ ms → Goes (.groupSet c) s (s.fab.answers c 0x0301
        (fun f => f.updPart p fun x => { x with groups := x.groups.set slot g }) stOk (crc32c g.layoutBytes))) ∧
      ((ms.length < 2 ∨ me ∉ ms) → Goes (.groupSet c) s (s.fab.answers c 0x0301 id stFaulted))) ∧
    (∀ (n slot : Nat) (addr : Word), s.fab.opensLive c = true → c.len = 40 → 2 ≤ n → n ≤ 32768 → slot < 32 → onlyBits addr [(47, 6)] = true →
      c.pay = [pack [(9, 8, 2), (4, 0, slot)], w64 n, 0, 0, addr] → unused slot →
      Goes (.groupSet c) s ((s.fab.begun c 0x0301).readTable p c addr.toNat (ceilDiv (2 * n) 64) (.groupRead c.mbx))) ∧
    (∀ (n : Nat) (addr : Word), s.fab.opensLive c = true → c.len = 16 → 1 ≤ n → n ≤ 65536 → onlyBits addr [(47, 6)] = true →
      c.pay = [addr, w64 n] → (s.fab.ctx c.tag).state = .live → x.colls.any (fun k => k.tag == c.tag && k.disp) = false →
      (x.emaps.filter fun m => m.tag != c.tag).foldl (fun a m => a + m.nexp) 0 + n ≤ 65536 →
      Goes (.emapSet c) s ((s.fab.begun c 0x0400).readTable p c addr.toNat (ceilDiv (16 * n) 64) (.emapRead c.mbx))) ∧
    (∀ (base : Word) (lg : Nat) (en : Bool), s.fab.opensLive c = true → c.len = 16 → onlyBits base [(47, 6)] = true → lg < 32 →
      (en = true → 16 ≤ lg) → c.pay = [base, pack [(8, 8, b2n en), (4, 0, lg)]] →
      let j := x.journals.get (tagSlot c.tag) {}
      let other (o : Nat × Nat × Nat) : Bool := !(o.1 == base.toNat && o.2.1 == lg) && !(o.1 == j.base && o.2.1 == j.log2)
      let j' : Journal := if j.base = base.toNat ∧ j.log2 = lg then { j with enable := en }
        else { j with enable := en, base := base.toNat, log2 := lg, offset := 0, olds := (j.base, j.log2, j.offset) :: j.olds.filter other }
      Goes (.journalSet c) s (s.fab.answers c 0x0305
        (fun f => f.updPart p fun x => { x with journals := x.journals.set (tagSlot c.tag) j' }) stOk j.jseq)) ∧
    (s.fab.opens c = true → c.len = 0 →
      let j := x.journals.get (tagSlot c.tag) {}
      Goes (.journalStatus c) s (s.fab.answers c 0x0306 id stOk 0
        [pack [(63, 63, b2n j.enable), (47, 6, j.base / 64), (4, 0, j.log2)], w64 j.jseq, w64 j.offset] 24)) ∧
    (c.len = 0 → c.tag = 0 → Goes (.bellRead c) s (s.fab.answers c 0x0304 id stOk 0 s.fab.bellWords 32))

/-- COLL_POST, DISPATCH_POST, COLL_CANCEL, DISPATCH_CANCEL, COLL_STATUS, DISPATCH_STATUS, RED_LOCAL. -/
def Obligations.PostingACollective : Prop :=
  (∀ (s : State) (c : Cmd) (post cancel status : Cmd → Instr) (op : Nat) (disp : Bool),
    (post, cancel, status, op, disp) ∈ [(Instr.collPost, Instr.collCancel, Instr.collStatus, 0x0300, false),
      (Instr.dispatchPost, Instr.dispatchCancel, Instr.dispatchStatus, 0x0401, true)] → s.fab.takes c = true →
    let p := tagPart c.tag
    let x := s.fab.part p
    let found := x.colls.find? fun k => k.tag == c.tag && k.disp == disp && wd k.words 0 == wd c.pay 0
    let cancelOp := if disp then 0x0403 else 0x0302
    let statusOp := if disp then 0x0402 else 0x0303
    let pumped (f : Fabric) := (f.pumpColls p).pumpColls p
    (∀ m cs, s.fab.opensLive c = true → c.len = 128 * m → 1 ≤ m → m ≤ 31 → s.fab.takeDescs p c.tag disp m c.pay [] = some cs →
      x.colls.length + cs.length ≤ 16 → (s.fab.bells.state ≠ 0 ∨ ∀ k ∈ cs, k.launchBell = 0) →
      Goes (post c) s (s.fab.answers c op (fun f => pumped (f.updPart p fun x =>
        { x with colls := x.colls ++ cs.map (fun k => { k with cmdId := (s.fab.acceptedEnv c op).cmdId.toNat, late := k.launchBell != 0 && k.launchBell ≤ s.fab.bell }),
                 nextColl := x.nextColl + cs.length })) stOk m)) ∧
    (∀ m, s.fab.opensLive c = true → c.len = 128 * m → 1 ≤ m → m ≤ 31 → s.fab.takeDescs p c.tag disp m c.pay [] = none →
      Goes (post c) s (s.fab.answers c op (fun f => f.pumpColls p) stFaulted)) ∧
    (s.fab.opens c = true → c.len = 8 →
      (found = none → Goes (cancel c) s (s.fab.answers c cancelOp id stOk 0)) ∧
      (∀ k, found = some k → (k.launched = true ∨ k.fin.isSome = true) → Goes (cancel c) s (s.fab.answers c cancelOp id stOk 0)) ∧
      (∀ k, found = some k → k.launched = false → k.fin = none →
        Goes (cancel c) s (s.fab.answers c cancelOp (fun f => (f.endColl p k.id stSuperseded 6).unpark c.tag) stOk 1)) ∧
      (found = none → (x.collsDone.find? fun k => k.tag == c.tag && k.disp == disp && k.collId == wd c.pay 0) = none →
        Goes (status c) s (s.fab.answers c statusOp id stOk 0 [0, 0, 0] 24)) ∧
      (∀ k, found = some k → k.launched = true → Goes (status c) s (s.fab.answers c statusOp id stOk 0
        [w64 k.cmdId, pack [(63, 32, k.chunksDone), (7, 0, 3)], w64 k.launchTick] 24)))) ∧
  (∀ (s : State) (c : Cmd) (r : Rcw), s.fab.takes c = true → s.fab.opensLive c = true → c.len = 176 →
    let ws := takePad 22 c.pay
    let n := redCount ws
    let k := redSources ws
    let p := tagPart c.tag
    onlyBits (wd ws 3) [(35, 32), (28, 0)] = true → 1 ≤ n → n ≤ 268435456 → vaOk (wd ws 4) = true → wd ws 5 = 0 →
    (∀ i < 16, if i < k then vaOk (wd ws (6 + i)) = true else wd ws (6 + i) = 0) →
    rcwOf (wd ws 0) = some r → r.op ≠ 3 → n % r.granule = 0 → (s.fab.ctx c.tag).state = .live →
    (∀ i < k, spansMeet (wn ws 4, 64 * r.out.span n) (wn ws (6 + i), 64 * r.inp.span n) = false) →
    Goes (.redLocal c) s (((s.fab.begun c 0x0380).updPart p fun x =>
      { x with reds := x.reds ++ [{ id := x.nextColl, mbx := c.mbx, tag := c.tag, words := ws }], nextColl := x.nextColl + 1 }).pumpReds p))

/-- RAW, PARTIAL, RESULT, COUNTS, ROW, ABORT, NACK. -/
def Obligations.CollectiveMessagesArrive : Prop :=
  (∀ (s : State) (m0 : Msg) (mk : Msg → Instr) (kind : MsgKind), s.fab.live = true →
    (mk, kind) ∈ [(Instr.raw, MsgKind.raw), (.partial_, .partialSum), (.result, .result), (.counts, .counts), (.row, .row), (.abort, .abort)] →
    let m : Msg := { m0 with kind := kind }
    let f := (s.fab.takeMsg m).1
    let p := tagPart m.tag
    (s.fab.targetLive m.tag = false → Goes (mk m0) s (f.updPart p fun x => { x with lateDiscard := sat32 (x.lateDiscard + 1) })) ∧
    (s.fab.targetLive m.tag = true → (s.fab.part p).collBy m.tag m.coll = none →
      Goes (mk m0) s (f.sendMsg { kind := .nack, dst := m.src, src := 0, tag := m.tag, cls := 2, coll := m.coll, member := m.member,
                                  chunk := m.chunk, offset := m.offset })) ∧
    (∀ c, s.fab.targetLive m.tag = true → (s.fab.part p).collBy m.tag m.coll = some c →
      let piece := if kind = .row then rowPiece m else (m.chunk, m.offset)
      let again := c.frags.any fun x =>
        x.kind == m.kind && x.chunk == piece.1 && x.offset == piece.2 && x.member == m.member && (m.kind != .row || x.agree == m.agree)
      let differs := kind ≠ .row ∧ m.agree ≠ c.agree ∧ (m.agree ≠ 0 ∨ m.src ∉ c.heard)
      let discarded := f.updColl p c.id fun c => { c with discards := c.discards + 1 }
      (again = true → Goes (mk m0) s (f.updColl p c.id fun c => { c with dups := c.dups + 1 })) ∧
      (again = false → kind = .abort →
        (c.fin = none → c.launched = false → Goes (mk m0) s (f.endColl p c.id stFaulted 0x11)) ∧
        (∀ st d, c.fin = some (st, d) → Goes (mk m0) s (if st = stOk then f else discarded))) ∧
      (again = false → kind ≠ .abort →
        (c.fin.isSome = true → Goes (mk m0) s discarded) ∧
        (c.fin = none → differs → Goes (mk m0) s (f.endColl p c.id stFaulted 0x10)) ∧
        (c.fin = none → ¬ differs → c.laterChunk m = true → Goes (mk m0) s (f.nack m)) ∧
        (c.fin = none → ¬ differs → c.laterChunk m = false → Goes (mk m0) s ((f.updColl p c.id fun c =>
          { c with frags := c.frags ++ [{ kind := m.kind, chunk := piece.1, offset := piece.2, member := m.member, agree := m.agree, data := m.data }],
                   heard := if kind = .row then c.heard else m.src :: c.heard,
                   lastProgress := s.fab.tick, outAt := (s.fab.ctx c.tag).outNow s.fab.tick }).advanceColl p c.id))))) ∧
  (∀ (s : State) (m : Msg) (c : Coll), s.fab.live = true → m.kind = .nack → s.fab.targetLive m.tag = true →
    let f := (s.fab.takeMsg m).1
    let p := tagPart m.tag
    (s.fab.part p).collBy m.tag m.coll = some c → c.fin = none → c.resends = [] →
    ∀ x, c.sent = [x] → x.dst = m.src → x.chunk = m.chunk → x.offset = m.offset → x.member = m.member → x.kind ≠ .row →
      Goes (.nack m) s (f.updColl p c.id fun c => { c with resends := c.resends ++ [{ due := s.fab.tick + 1024, msg := { x with
                cls := 2, dst := m.src, mask := 0, tree := 0, minus := false, hops := 0, agree := c.agree } }] }))

/-- COLL_LAUNCH, COLL_WAIT_TIMEOUT, COLL_RESEND_TIMER, BELL_HOLDOVER. -/
def Obligations.CollectiveTimersAndLaunch : Prop :=
  ∀ s : State, s.fab.live = true →
    let f := s.fab
    (∀ p id c, f.coll p id = some c → c.fin = none → c.parked = none →
      let x := f.part p
      let barred := x.csStalled = true ∨ x.launchesAfter c = true ∨ 4 ≤ (x.colls.filter fun k => k.launched).length ∨
        10485760 < x.reserved + c.reserve ∨ f.bell < c.launchBell
      (c.launched = false → barred → Goes (.collLaunch p id) s f) ∧
      (∀ g, c.launched = false → ¬ barred → f.preColl p c = (g, .ready) →
        let j := (g.part p).journals.get (tagSlot c.tag) {}
        let g' := g.updColl p id fun k =>
          { k with launched := true, launchTick := g.bell, lastProgress := g.tick, outAt := (g.ctx k.tag).outNow g.tick,
                   jring := if j.enable then some j else none,
                   xlat := (g.part p).tlb.filter (fun e => e.colls.contains id), segs := (g.ctx k.tag).segs }
        (∃ k, g'.coll p id = some k ∧ Goes (.collLaunch p id) s ((g'.readInput p k).advanceColl p id))) ∧
      (let ran := (f.tick - c.lastProgress) - ((f.ctx c.tag).outNow f.tick - c.outAt)
       let due := c.launched = true ∧ (f.part p).csStalled = false ∧ (f.ctx c.tag).state ≠ .switchedOut ∧ f.collBound c ≤ ran ∧
         c.waiting (f.mapOf c) (c.me f) = true
       (due → Goes (.collWaitTimeout p id) s (f.endColl p id stTimeout 0)) ∧ (¬ due → Goes (.collWaitTimeout p id) s f)) ∧
      (∀ r, c.resends = [r] → r.due ≤ f.tick → Goes (.collResendTimer p id) s
        ((f.updColl p id fun c => { c with resends := [], early := c.early + 1 }).sendMsg r.msg c.group.uplink))) ∧
    (∀ b, b = f.bells → (b.parent ≠ 7 ∨ b.root ≠ f.rtr.node) →
      (b.lastMsg + 200000 ≤ f.tick → Goes .bellHoldover s { f with bells := { b with state := 2, good := 0 } }) ∧
      (f.tick < b.lastMsg + 200000 → Goes .bellHoldover s f)) ∧
    (f.bells.parent = 7 → f.bells.root = f.rtr.node → Goes .bellHoldover s f)

/-- ROUTE_UPDATE, TIMETABLE_SET, SEAT_SET, FLOW_SET, PORT_CTL, POWER_CAP, OP_POINT: held orders. -/
def Obligations.SettingsAreHeldForAMessageTime : Prop :=
  (∀ (s : State) (c : Cmd), s.fab.takes c = true → c.mbx ∈ [32, 33, 36] →
    let f := s.fab
    (f.routeForm c.len c.pay = false → f.routeLimits f.rtr (f.routeSets c.pay) = false → f.rtr.drains = [] →
      Goes (.routeUpdate c) s (f.holds c 0x0500 (f.routeSets c.pay))) ∧
    (let e := [wd c.pay 1, wd c.pay 2, wd c.pay 3, wd c.pay 4]
     let i := fld (wd c.pay 0) 5 0
     c.len = 40 → onlyBits (wd c.pay 0) [(5, 0)] = true → onlyBits (wd e 2) [(63, 48), (46, 20), (4, 0)] = true → wd e 3 = 0 → f.ttBad i e = false →
      Goes (.timetableSet c) s (f.holds c 0x0501 [(⟨blkTt, i, 0⟩, (wd c.pay 1).toNat), (⟨blkTt, i, 1⟩, (wd c.pay 2).toNat),
        (⟨blkTt, i, 2⟩, (wd c.pay 3).toNat), (⟨blkTt, i, 3⟩, 0)])) ∧
    (c.len = 16 → onlyBits (wd c.pay 0) [(5, 0)] = true → f.seatBad (fld (wd c.pay 0) 5 0) (wd c.pay 1) = false →
      Goes (.seatSet c) s (f.holds c 0x0502 [(⟨blkSeat, fld (wd c.pay 0) 5 0, 0⟩, (wd c.pay 1).toNat)])) ∧
    (c.len = 8 → ccBad (wd c.pay 0) = false →
      Goes (.flowSet c) s (f.holds c 0x0580 (ccFields.zipIdx.map fun (hl, i) => (⟨blkCc, 0, i⟩, fld (wd c.pay 0) hl.1 hl.2)))) ∧
    (∀ v, c.len = 8 → c.pay = [w64 v] → 250 ≤ v → v ≤ 640 → Goes (.powerCap c) s (f.holds c 0x0700 [(⟨blkCap, 0, 0⟩, v)]))) ∧
  (∀ (s : State) (c : Cmd) (mk : Cmd → Instr) (a : Nat),
    (mk, a) ∈ [(Instr.portCtlSet, 0), (Instr.portCtlRetrain, 1), (Instr.portCtlBounce, 2)] →
    let d := force c 10 8 a
    s.fab.takes d = true → c.mbx ∈ [32, 33, 36] → c.len = 16 → onlyBits (wd d.pay 0) [(10, 0)] = true → fld (wd d.pay 0) 10 8 = a → fld (wd d.pay 0) 7 0 ≠ 0 →
    (a ≠ 0 → wd d.pay 1 = 0) →
    (a = 0 → onlyBits (wd d.pay 1) lnFields = true ∧ fld (wd d.pay 1) 59 58 ≠ 3 ∧ fld (wd d.pay 1) 15 0 ≠ 0) →
    Goes (mk c) s (s.fab.holds d 0x0600 (s.fab.portCtlSets (fld (wd d.pay 0) 7 0) a (wd d.pay 1)))) ∧
  (∀ (s : State) (c : Cmd), c.mbx ∈ [32, 33, 36] → c.len = 24 →
    (∀ i mv fixed, s.fab.takes (force c 0 0 0) = true → (force c 0 0 0).pay = [pack [(10, 8, i)], pack [(16, 16, b2n fixed), (15, 0, mv)], 0] →
      i < 8 → 650 ≤ mv → mv ≤ 800 →
      Goes (.opPointDefine c) s (s.fab.holds (force c 0 0 0) 0x0701 [(⟨blkPoint, i, 0⟩, 65536 * b2n fixed + mv)])) ∧
    (∀ i bell, s.fab.takes (force c 0 0 1) = true → (force c 0 0 1).pay = [pack [(10, 8, i), (0, 0, 1)], 0, bell] → i < 8 →
      Goes (.opPointSelect c) s (s.fab.holds (force c 0 0 1) 0x0701 [(⟨blkSelect, 0, 0⟩, i), (⟨blkSelect, 0, 1⟩, bell.toNat)])))

/-- RESET_LEVEL, HANG_SET, ROLLCALL_ADMIT, ROLLCALL_EXPEL, SUBSTITUTE, INJECT_POLICY, INJECT_FAULT: held orders. -/
def Obligations.ResetsAndRollCallAreHeld : Prop :=
  (∀ (s : State) (c : Cmd) (mk : Cmd → Instr) (lv : Nat),
    (mk, lv) ∈ [(Instr.resetLevelC, 0), (Instr.resetLevelE, 1), (Instr.resetLevelP, 2)] →
    let d := force c 1 0 lv
    let p := fld (wd d.pay 0) 12 8
    let e := fld (wd d.pay 0) 18 16
    s.fab.takes d = true → c.len = 8 → onlyBits (wd d.pay 0) [(1, 0), (12, 8), (18, 16)] = true → fld (wd d.pay 0) 1 0 = lv → (c.mbx = p ∨ c.mbx = 32 ∧ s.fab.confPart p = false) → e ≤ 5 →
    (lv = 0 → tagPart c.tag = p) → p < s.fab.partCount → (s.fab.part p).disabled = false → (s.fab.part p).draining = false →
    Goes (mk c) s (s.fab.holds d 0x0800
      [(⟨blkReset, if lv = 2 then 1 + p else if lv = 1 then 256 + 8 * p + e else 65536 + c.tag, 0⟩, 1)])) ∧
  (∀ (s : State) (c : Cmd), let d := force c 1 0 3
    s.fab.takes d = true → c.mbx ∈ [32, 33, 36] → c.len = 8 → onlyBits (wd d.pay 0) [(1, 0), (12, 8), (18, 16)] = true → fld (wd d.pay 0) 1 0 = 3 →
    fld (wd d.pay 0) 18 16 ≤ 5 → Goes (.resetLevelD c) s (s.fab.holds d 0x0800 [(⟨blkReset, 0, 0⟩, 1)])) ∧
  (∀ (s : State) (c : Cmd), s.fab.takes c = true →
    (∀ e p k, c.mbx ∈ [32, 33, 36] → c.len = 16 → c.pay = [pack [(31, 0, e), (63, 32, p)], w64 k] → 46875 ≤ e → e ≤ 3125000 → max e 312500 ≤ p → p ≤ 15625000 →
      15625 ≤ k → k < 2 ^ 64 → k ≤ s.fab.rtr.gapTicks - 31250 →
      Goes (.hangSet c) s (s.fab.holds c 0x0801 [(⟨blkWin, 0, 0⟩, e), (⟨blkWin, 1, 0⟩, p), (⟨blkWin, 2, 0⟩, k)])) ∧
    (∀ n, n < 32768 → c.len = 8 → c.pay = [w64 n] →
      (c.mbx ∈ [32, 33] → Goes (.rollcallAdmit c) s (s.fab.holds c 0x0803 [(⟨blkNode, n, 0⟩, 1)])) ∧
      (c.mbx ∈ [33, 36] → Goes (.rollcallExpel c) s (s.fab.holds c 0x0804 [(⟨blkNode, n, 0⟩, 0)]))) ∧
    (∀ n, n < 256 → c.mbx ∈ [33, 36] → c.len = 8 → c.pay = [w64 n] →
      Goes (.injectPolicy c) s (s.fab.holds c 0x0806 [(⟨blkPolicy, 0, 0⟩, n)]))) ∧
  (∀ (s : State) (c : Cmd) (mk : Cmd → Instr) (ph : Nat),
    (mk, ph) ∈ [(Instr.substituteSeat, 0), (Instr.substituteAnnounce, 1), (Instr.substituteCommit, 2), (Instr.substituteRelease, 3)] →
    let d := force c 2 0 ph
    s.fab.takes d = true → c.mbx ∈ [32, 33] → c.len = 16 → onlyBits (wd d.pay 0) [(2, 0)] = true → fld (wd d.pay 0) 2 0 = ph →
    onlyBits (wd d.pay 1) [(44, 0)] = true →
    Goes (mk c) s (s.fab.holds d 0x0805 [(⟨blkAlias, fld (wd d.pay 1) 14 0, 0⟩, 4 * (wd d.pay 1).toNat + ph)])) ∧
  (∀ (s : State) (c : Cmd) (mk : Cmd → Instr) (cls : Nat),
    (mk, cls) ∈ [(Instr.injectFaultLane, 1), (Instr.injectFaultSramCe, 2), (Instr.injectFaultSramUe, 3), (Instr.injectFaultHdpCrc, 4),
      (Instr.injectFaultEngineStall, 5), (Instr.injectFaultResetStall, 6), (Instr.injectFaultCsStall, 7), (Instr.injectFaultMcStall, 8),
      (Instr.injectFaultHbSilence, 9)] →
    let d := force c 7 0 cls
    s.fab.takes d = true → c.mbx ∈ [32, 33, 36] → injClass d.pay = cls → s.fab.conf = false → s.fab.ladder.policy / 2 ^ injBit cls % 2 = 1 →
    s.fab.injBad d.len d.pay = false →
    Goes (mk c) s (s.fab.holds d 0x0807 [(⟨blkInject, (s.fab.accepts + 1) % 2 ^ 24, 0⟩, 1)]))

/-- The effect of orders at the end of their message time. -/
def Obligations.OrdersTakeEffect : Prop :=
  ∀ (s : State) (o : Order), s.fab.live = true → s.fab.orders = [o] → o.tick + 128 ≤ s.fab.tick → (s.fab.mbx o.mbx).env.own = true →
    (s.fab.mbx o.mbx).accepted = true →
    let f : Fabric := { s.fab with orders := [] }
    let e := Instr.messageTimeEnd o.id
    let w := wd o.pay 0
    (o.opcode = 0x0700 → Yields e s fun t => t.fab.pwr.cap = fld w 15 0 ∧ (t.fab.mbx o.mbx).env.status = stOk ∧ t.fab.orders = [] ∧
      (t.fab.mbx o.mbx).env.result0 = w64 t.fab.pwr.capEff ∧ t.fab.parts = s.fab.parts ∧ t.fab.rtr = s.fab.rtr ∧ t.meter = s.meter) ∧
    (o.opcode = 0x0801 → hangBad o.len o.pay s.fab.rtr.afterDrains.gapTicks = false →
      Goes e s (({ f with win := { eng := fld w 31 0, par := fld w 63 32, port := wn o.pay 1 } } : Fabric).complete o.mbx stOk 0 [] 0)) ∧
    (o.opcode = 0x0806 → Goes e s (({ f with ladder := { f.ladder with policy := w.toNat } } : Fabric).complete o.mbx stOk w [] 0)) ∧
    (o.opcode = 0x0502 → s.fab.seatBad (fld w 5 0) (wd o.pay 1) = false →
      Goes e s (({ f with rtr := { f.rtr with seats := f.rtr.seats.set (fld w 5 0) (wd o.pay 1) } } : Fabric).complete o.mbx stOk 0 [] 0)) ∧
    (o.opcode = 0x0580 → Goes e s (({ f with flow := { f.flow with newCtl := some w } } : Fabric).complete o.mbx stOk 0 [] 0)) ∧
    (o.opcode = 0x0500 → s.fab.routeLimits s.fab.rtr o.sets = false → s.fab.rtr.drains = [] →
      let ports := (List.range 8).filter fun k => o.sets.any fun x => (drainPorts x.1).contains k
      (ports = [] → Goes e s ((({ f with rtr := f.rtr.setObjs o.sets } : Fabric).rechoose.pump).finish o.mbx stOk)) ∧
      (ports ≠ [] → Yields e s fun t => ∃ d, t.fab = { f with rtr := { f.rtr with drains := [d] } } ∧ d.order = o ∧ d.ports = ports ∧ d.start = s.fab.tick)) ∧
    (o.opcode = 0x0701 → bit w 0 = false → s.fab.pwr.point ≠ fld w 10 8 →
      Goes e s (({ f with pwr := { f.pwr with points := f.pwr.points.set (fld w 10 8) { mv := fld (wd o.pay 1) 15 0, fixed := bit (wd o.pay 1) 16 } } } : Fabric).complete
        o.mbx stOk (w64 (fld w 10 8)) [] 0)) ∧
    (o.opcode = 0x0701 → bit w 0 = true → s.fab.bell < wn o.pay 2 →
      Goes e s (({ f with pwr := { f.pwr with selects := f.pwr.selects ++ [(wn o.pay 2, fld w 10 8)] } } : Fabric).complete o.mbx stOk (w64 (fld w 10 8)) [] 0)) ∧
    (o.opcode = 0x0800 → (s.fab.part (fld w 12 8)).disabled = false → (s.fab.part (fld w 12 8)).draining = false →
      (fld w 1 0 = 2 → Goes e s (f.startP (fld w 12 8) 0 false false [o.mbx])) ∧
      (fld w 1 0 = 1 → Goes e s (f.startE (fld w 12 8) (fld w 18 16) false [o.mbx])) ∧
      (fld w 1 0 = 0 → (s.fab.ctx o.tag).state = .free → Goes e s (f.complete o.mbx stOk 0 [] 0)))

/-- ROUTE_DRAIN_DONE, ROUTE_DRAIN_TIMEOUT, TIMETABLE_WINDOW_OPEN, TIMETABLE_WINDOW_CLOSE, ESCAPE_TIMEOUT, RATE_INCREASE, TELEM_SNAP. -/
def Obligations.RoutesCircuitsAndRates : Prop :=
  (∀ s : State, s.fab.live = true →
    let f := s.fab
    let r := f.rtr
    (∀ id d, (r.drains.find? fun d => d.order.id == id) = some d →
      (let g := f.dropDrain id
       let inTime := f.tick ≤ d.start + 15625 * r.drainUnits
       f.drainOver d = true →
        (inTime → g.routeLimits g.rtr d.order.sets = false →
          Goes (.routeDrainDone id) s ((g.applyRoutes d.order).finish d.order.mbx stOk (f.tick - d.start))) ∧
        (inTime → g.routeLimits g.rtr d.order.sets = true → Goes (.routeDrainDone id) s (g.rechoose.finish d.order.mbx stFaulted)) ∧
        (d.order.mbx ≠ 99 → ¬ inTime → Goes (.routeDrainDone id) s (g.rechoose.finish d.order.mbx stTimeout))) ∧
      (f.drainOver d = false → Goes (.routeDrainDone id) s f) ∧
      (d.order.mbx ≠ 99 → d.start + 15625 * r.drainUnits ≤ f.tick →
        Goes (.routeDrainTimeout id) s ((f.dropDrain id).rechoose.finish d.order.mbx stTimeout)) ∧
      (f.tick < d.start + 15625 * r.drainUnits → Goes (.routeDrainTimeout id) s f)) ∧
    (∀ i e, r.timetable.find i = some e →
      (ttValid e = true → wn e 0 ≤ f.bell → f.bell < wn e 1 → Goes (.timetableWindowOpen i) s f.rechoose) ∧
      ((ttValid e = false ∨ f.bell < wn e 0 ∨ wn e 1 ≤ f.bell) → Goes (.timetableWindowOpen i) s f) ∧
      (f.bell < wn e 1 → Goes (.timetableWindowClose i) s f) ∧
      (∀ q, wn e 1 ≤ f.bell → r.queue = [q] → q.circuit = some i → Goes (.timetableWindowClose i) s
        ((({ f with rtr := { r with queue := [] } } : Fabric).place { q with out := none, circuit := none }).bumpHeads r))) ∧
    (∀ n q, (r.queue.find? fun q => q.order == n) = some q →
      let head := !(r.queue.any fun y => y.inPort == q.inPort && y.flit.vc == q.flit.vc && y.order < q.order)
      (q.flit.esc = false → q.flit.cls ≠ 3 → head = true → q.since + r.escWait ≤ f.tick → Yields (.escapeTimeout n) s fun t =>
        t.fab.rtr.escapes = sat32 (r.escapes + 1) ∧ t.fab.parts = f.parts ∧ t.fab.mbxs = f.mbxs ∧ t.fab.hdp = f.hdp ∧ t.meter = s.meter) ∧
      ((q.flit.esc = true ∨ q.flit.cls = 3 ∨ head = false ∨ f.tick < q.since + r.escWait) → Goes (.escapeTimeout n) s f)) ∧
    (∀ key e, key < 32768 → f.flow.rates.find key = some e →
      (let e' : RateEntry := { e with rate := e.rate + f.flow.addStep, timer := e.timer + f.flow.incTicks }
       e.timer + f.flow.incTicks ≤ f.tick → e.rate + f.flow.addStep < e.start →
        Goes (.rateIncrease key) s (({ f with flow := { f.flow with rates := f.flow.rates.set key e' } } : Fabric).pump)) ∧
      (e.timer + f.flow.incTicks ≤ f.tick → e.start ≤ e.rate + f.flow.addStep →
        Goes (.rateIncrease key) s (({ f with flow := { f.flow with rates := f.flow.rates.del key } } : Fabric).pump)) ∧
      (f.tick < e.timer + f.flow.incTicks → Goes (.rateIncrease key) s f))) ∧
  (∀ (s : State) (c : Cmd) (mask : Nat) (clear : Bool), s.fab.takes c = true → c.mbx ∈ [32, 33] → c.len = 8 → 1 ≤ mask → mask < 256 →
    wd c.pay 0 = pack [(8, 8, b2n clear), (7, 0, mask)] →
    Goes (.telemSnap c) s { s.fab.begun c 0x0581 with flow := { s.fab.flow with snaps := s.fab.flow.snaps ++ [(c.mbx, mask, clear)] } }) ∧
  ∀ (f : Fabric) (m mask : Nat), f.flow.snaps = [(m, mask, false)] → (f.mbx m).env.own = true → (f.mbx m).accepted = true →
    let ks := bitsOf mask 8
    f.tickSnaps = ({ f with flow := { f.flow with snaps := [] } } : Fabric).complete m stOk (w64 f.tick)
      ([w64 f.tick, pack [(8, 8, b2n f.conf), (7, 0, mask)], f.ccStat, f.ccHeld] ++ ks.flatMap f.prtRegs) (32 + 104 * ks.length)

/-- WRITE, READ, ATOMIC, FILL, HP_RELEASE. -/
def Obligations.RequestsAreServedAtTheTarget : Prop :=
  (∀ (s : State) (m0 : Msg) (mk : Msg → Instr) (kind : MsgKind), s.fab.live = true →
    (mk, kind) ∈ [(Instr.write, MsgKind.write), (.read, .read), (.atomic, .atomic), (.fill, .fill)] →
    let m : Msg := { m0 with kind := kind }
    let f := (s.fab.takeMsg m).1
    let order := (s.fab.takeMsg m).2
    let n := if kind = .atomic then m.units else pieceCount m.addr m.units
    let window := (s.fab.ctx m.tag).segs.vals.find? fun g => g.landHolds m.addr (reqBytes m)
    (m.hp = false → s.fab.targetLive m.tag = false → Goes (mk m0) s f) ∧
    (m.hp = false → s.fab.targetLive m.tag = true →
      (window = none ∨ ∃ g, window = some g ∧ (g.grants (reqAccess m) && s.fab.rtr.inScope g.scope m.src) = false) →
      Goes (mk m0) s (f.violate.respond (answerTo m (zeros (answerWords m)) false))) ∧
    (∀ g, m.hp = false → s.fab.targetLive m.tag = true → window = some g → g.grants (reqAccess m) = true → s.fab.rtr.inScope g.scope m.src = true →
      Yields (mk m0) s fun t => t.fab.parts = s.fab.parts ∧ t.fab.mbxs = s.fab.mbxs ∧ t.meter = s.meter ∧ t.pending = s.pending ∧
        t.fab.rtr.nextTarget = s.fab.rtr.nextTarget + 1 ∧ t.fab.violations = s.fab.violations ∧
        t.fab.rtr.targets = s.fab.rtr.targets ++ [{ id := s.fab.rtr.nextTarget, order := order, msg := m, pend := n }]) ∧
    (m.hp = true → s.fab.rtr.hpHeld.any (fun a => a.msg == m) = false → Goes (mk m0) s
      { s.fab with rtr := { s.fab.rtr with order := s.fab.rtr.order + 1, hpHeld := s.fab.rtr.hpHeld ++ [{ order := s.fab.rtr.order, msg := m }] } })) ∧
  ∀ (s : State) (a : Arrived), s.fab.live = true → s.fab.rtr.hpHeld = [a] →
    (s.fab.rtr.hpFree a = true → Goes (.hpRelease a.order) s (({ s.fab with rtr := { s.fab.rtr with hpHeld := [] } } : Fabric).serve a.order a.msg)) ∧
    (s.fab.rtr.hpFree a = false → Goes (.hpRelease a.order) s s.fab)

/-- WACK, RDATA, AOLD, CREDIT, GRANT_REQ, CREDIT_FLUSH, GRANT_RECLAIM, GRANT_RELEASE. -/
def Obligations.AnswersCreditsAndGrants : Prop :=
  (∀ (s : State) (m0 : Msg) (mk : Msg → Instr) (kind : MsgKind), s.fab.live = true →
    (mk, kind) ∈ [(Instr.wack, MsgKind.wack), (.rdata, .rdata), (.aold, .aold)] →
    let m : Msg := { m0 with kind := kind }
    let g := (s.fab.takeMsg m).1.takeCredits m
    (g.openFor m = none → Goes (mk m0) s (g.lateArrival m.tag m.reqId)) ∧
    (∀ q, g.openFor m = some q → kind = .wack → Goes (mk m0) s ((g.closeRequest m.reqId).tileAnswer q.part q.run q.tile id)) ∧
    (∀ q, g.openFor m = some q → kind = .rdata → m.poison = false →
      Goes (mk m0) s ((g.closeRequest m.reqId).tileAnswer q.part q.run q.tile fun t => t.put 0 m.data)) ∧
    (∀ q r t, g.openFor m = some q → kind = .rdata → m.poison = true → (g.closeRequest m.reqId).run q.part q.run = some r →
      (r.tiles.find? fun t => t.id == q.tile) = some t →
      Goes (mk m0) s ((g.closeRequest m.reqId).tilePoison q.part q.run q.tile t.readPa)) ∧
    (∀ q r, g.openFor m = some q → kind = .aold → (g.closeRequest m.reqId).run q.part q.run = some r →
      Goes (mk m0) s ((g.closeRequest m.reqId).tileAnswer q.part q.run q.tile fun t =>
        { t with old := t.old.setList 0 ((List.range t.size).map fun i => w64 (elemAt m.data (atopWidth (dAtop r.words)) i)) }))) ∧
  ∀ s : State, s.fab.live = true →
    let f := s.fab
    (∀ m, Goes (.credit m) s ((f.takeMsg { m with kind := .credit }).1.takeCredits { m with kind := .credit })) ∧
    (∀ m, let g := (f.takeMsg { m with kind := .grantReq }).1
      let d := f.dstState m.src
      let n := min m.blocks (min (f.rtr.grantPool / 64) ((f.rtr.maxWin - f.rtr.base) / 64 - d.grant))
      Goes (.grantReq m) s ((g.setDst m.src { d with grant := d.grant + n }).respond { kind := .credit, dst := m.src, src := 0, cls := 1, grant := n })) ∧
    (∀ n, let d := f.dstState n
      let flush := 64 ≤ d.credits ∨ (0 < d.credits ∧ d.creditSince + 128 ≤ f.tick)
      (flush → Goes (.creditFlush n) s (f.respond { kind := .credit, dst := n, src := 0, cls := 1 })) ∧
      (¬ flush → Goes (.creditFlush n) s f) ∧
      (0 < d.grant → d.lastArrival + 2048 ≤ f.tick → Goes (.grantReclaim n) s (f.setDst n { d with grant := 0 })) ∧
      ((d.grant = 0 ∨ f.tick < d.lastArrival + 2048) → Goes (.grantReclaim n) s f)) ∧
    (∀ n, let x := f.srcState n
      (0 < x.grant → x.used = 0 → x.lastSend + 1024 ≤ f.tick → Goes (.grantRelease n) s (f.setSrc n { x with grant := 0 })) ∧
      ((x.grant = 0 ∨ x.used ≠ 0 ∨ f.tick < x.lastSend + 1024) → Goes (.grantRelease n) s f))

/-- GAP_TIMEOUT, MSG_GAP_TIMEOUT, MSG_SETTLE_TIMEOUT. -/
def Obligations.LossIsSettledByTime : Prop :=
  ∀ s : State, s.fab.live = true →
    let f := s.fab
    let r := f.rtr
    (∀ n h, (f.dstState n).held0 = [h] → h.tick + r.gapTicks ≤ f.tick → h.flit.seq = ((f.dstState n).next0 + 1) % 4096 → (f.dstState n).next0 < 4096 →
      Yields (.gapTimeout n 0) s fun t => t.fab.rtr.gapSkips = sat32 (r.gapSkips + 1) ∧ (t.fab.dstState n).held0 = [] ∧
        (t.fab.dstState n).next0 = ((f.dstState n).next0 + 2) % 4096 ∧ (t.fab.dstState n).credits = (f.dstState n).credits + 2 ∧
        t.fab.parts = f.parts ∧ t.fab.mbxs = f.mbxs ∧ t.meter = s.meter) ∧
    (∀ n, (∀ h ∈ (f.dstState n).held0, f.tick < h.tick + r.gapTicks) → Goes (.gapTimeout n 0) s f) ∧
    (∀ n, (∀ h ∈ (f.dstState n).held1, f.tick < h.tick + r.gapTicks) → Goes (.gapTimeout n 1) s f) ∧
    (∀ n msg hs, (f.dstState n).msgs.find msg = some hs →
      ((∀ h ∈ hs, h.tick + r.gapTicks ≤ f.tick) → Yields (.msgGapTimeout n msg) s fun t => t.fab.rtr.gapSkips = sat32 (r.gapSkips + 1) ∧
        (t.fab.dstState n).msgs = (f.dstState n).msgs.del msg ∧ t.fab.parts = f.parts ∧ t.fab.rtr.inbox = r.inbox ∧ t.fab.mbxs = f.mbxs ∧ t.meter = s.meter) ∧
      ((∃ h ∈ hs, f.tick < h.tick + r.gapTicks) → Goes (.msgGapTimeout n msg) s f)) ∧
    (∀ o d, r.openMsgs = [o] → o.receivers = [d] →
      (o.last + 2 * r.gapTicks ≤ f.tick → r.outbox.any (fun y => y.msgNo == some o.msg) = false →
        let x := f.srcState d
        let g := f.setSrc d { x with owed := x.owed.filter fun y => y.1 != some o.msg }
        Goes (.msgSettleTimeout o.msg) s (({ g with rtr := { g.rtr with openMsgs := [] } } : Fabric).pump)) ∧
      (f.tick < o.last + 2 * r.gapTicks → Goes (.msgSettleTimeout o.msg) s f))

/-- QUIET_END, RATE_TRY_TIMEOUT, RATE_FALLBACK, TRAINING_SEQUENCE_RX, LANE_WAIT_EXPIRE, RETRAIN_LIMIT, NAP_ENTRY, TX_WAKE,
WAKE_RELOCK_TIMEOUT, LANE_LOCK_LOSS. -/
def Obligations.LinksComeUpSleepAndRetrain : Prop :=
  ∀ s : State, s.fab.live = true →
    let f := s.fab
    (∀ k, let p := f.port k
      (let due := p.state = .quiet ∧ p.entered + 1563 ≤ f.tick
       let start (p : Port) : Port := { p with
         rate := p.maxRate, rxRate := some 0, trySince := f.tick, fellAt := f.tick, miscable := false, sendReady := false }
       (due → Goes (.quietEnd k) s ((f.updPort k start).toState k .lock)) ∧ (¬ due → Goes (.quietEnd k) s f)) ∧
      (let due := p.state = .lock ∧ p.trySince + 468750 ≤ f.tick
       (due → Goes (.rateTryTimeout k) s (f.updPort k fun p => { p with rxRate := some ((p.rxRate.getD 0 + 1) % 3), trySince := f.tick })) ∧
       (¬ due → Goes (.rateTryTimeout k) s f)) ∧
      (∀ energy, let due := p.state = .lock ∧ 1562500 ≤ energy ∧ p.fellAt + 1562500 ≤ f.tick
       (due → Goes (.rateFallback k energy) s (f.updPort k fun p => { p with rate := min 2 (p.rate + 1), fellAt := f.tick })) ∧
       (¬ due → Goes (.rateFallback k energy) s f)) ∧
      (∀ t good, t.good = false → Goes (.trainingSequenceRx k t good) s f) ∧
      (∀ t good, t.good = true →
       let gd := maskOf ((bitsOf good 12).filter (· < p.count))
       let g := f.updPort k fun p => { p with tsTick := t.tick, tsAt := f.tick }
       let act := bothMask p.rxGood t.rxGood
       (p.state = .lock → Goes (.trainingSequenceRx k t good) s
          (((g.lockQuads k gd).updPort k fun p => { p with rate := max p.rate (min 2 t.rate), rxRate := some t.rate }).toState k .align)) ∧
       (p.state = .align → Goes (.trainingSequenceRx k t good) s
          (((g.lockQuads k gd).updPort k fun p => { p with rxGood := (g.lockQuads k gd).withoutFailed k gd, sendReady := false }).toState k .config)) ∧
       (p.state = .config → f.peerBad k t = true → p.miscable = false → Goes (.trainingSequenceRx k t good) s
          ((g.updPort k fun p => { p with miscable := true, peerKind := t.kind, peer := if t.kind = 2 then 0 else t.node }).linkNotice
            k .config .config 0x09 0 (f.tick - p.entered))) ∧
       (p.state = .config → f.peerBad k t = true → p.miscable = true → Goes (.trainingSequenceRx k t good) s g) ∧
       (p.state = .config → f.peerBad k t = false →
         ((t.rate ≠ p.rate ∨ act = 0) → Goes (.trainingSequenceRx k t good) s
           ((g.updPort k fun p => { p with sendReady := false, trySince := f.tick }).toState k .lock)) ∧
         (t.rate = p.rate → act ≠ 0 → t.phase < 4 → Goes (.trainingSequenceRx k t good) s g) ∧
         (t.rate = p.rate → act ≠ 0 → 4 ≤ t.phase →
           let h := g.updPort k fun p => { p.agree t f.tick act with fec := p.fecReq || t.fecReq }
           Goes (.trainingSequenceRx k t good) s (if t.phase = 5 then h.enterActive k else h)))) ∧
      (let due := p.state = .retrain ∧ p.entered + f.laneWait ≤ f.tick
       (due → Goes (.laneWaitExpire k) s (f.updPort k fun p =>
          { p with rxGood := maskOf ((bitsOf p.rxGood 12).filter fun i => ((f.port k).quadLanes i).all fun l => (f.lane l).locked) })) ∧
       (¬ due → Goes (.laneWaitExpire k) s f)) ∧
      (let due := p.state = .retrain ∧ p.entered + f.retrainTicks ≤ f.tick
       (due → Goes (.retrainLimit k) s (f.leaveUp k .quiet 0x06)) ∧ (¬ due → Goes (.retrainLimit k) s f)) ∧
      (let due := p.state = .active ∧ p.napEn = true ∧ p.retx = [] ∧ f.waitsFor k = false ∧ p.idleSince + p.napTicks ≤ f.tick
       (due → Goes (.napEntry k) s ((((f.abortScans (p.allLanes.drop 1)).updPort k fun p => { p.owe f.tick with owedReq := 1 }).putLcf k none).toState k .nap)) ∧
       (¬ due → Goes (.napEntry k) s f)) ∧
      (let due := p.state = .nap ∧ f.waitsFor k = true
       (due → Goes (.txWake k) s ((f.updPort k fun p => { p.owe f.tick with owedReq := 2, wakeSince := f.tick }).toState k .wake)) ∧
       (¬ due → Goes (.txWake k) s f)) ∧
      (let due := (∃ t, p.rxWake = some t ∧ t + 15625 ≤ f.tick) ∨ (p.state = .wake ∧ p.wakeSince + 15625 ≤ f.tick)
       (due → Goes (.wakeRelockTimeout k) s (f.enterRetrain k 0x04)) ∧ (¬ due → Goes (.wakeRelockTimeout k) s f))) ∧
    (∀ lane k, f.portOf lane = some k → (f.port k).activeLanes.contains lane = true → (f.port k).state.usable = true →
      Goes (.laneLockLoss lane) s ((f.updLane lane fun x => { x with locked := false }).enterRetrain k 0x04) ∧
      Yields (.laneLockLoss lane) s fun t => (t.fab.port k).state = .retrain ∧ (t.fab.port k).retrains = min 65535 ((f.port k).retrains + 1)) ∧
    (∀ lane, f.portOf lane = none → Goes (.laneLockLoss lane) s (f.updLane lane fun x => { x with locked := false }))

/-- LINK_DATA_FLIT_RX, LINK_SLOT_FAILED, NAK_REPEAT, FEC_UNCORRECTABLE, LCF_RX, REPLAY_TIMEOUT, FLIT_TX, LINK_CONTROL_FLIT_SEND. -/
def Obligations.SlotsAreSentReceivedAndRetried : Prop :=
  ∀ s : State, s.fab.live = true → ∀ k,
    let f := s.fab
    let p := f.port k
    let lane := p.slotLane p.rxNap p.rxSlot
    let x := f.lane lane
    let g := (f.updLane lane fun x => { x with rxSlots := x.rxSlots + 1, badSlots := x.badSlots.filter (x.rxSlots < ·) }).updPort k
      fun p => { p with rxSlot := p.rxSlot + 1 }
    let failed (g : Fabric) : Fabric :=
      if p.nakWait then g else g.updPort k fun p => { p.owe f.tick with nakWait := true, nakTick := f.tick, owedNak := true }
    let slots (h : Fabric) (y : Flit) (m : Lcf) (crc : Word) : Prop :=
      Goes (.linkDataFlitRx k ⟨y, crc⟩) s h ∧ Goes (.lcfRx k ⟨m, crc⟩) s h ∧ Goes (.linkSlotFailed k) s h
    (p.state.usable = false → ∀ y m crc, slots f y m crc) ∧
    (p.state.usable = true → codewordsFor p.fec (x.rxSlots + 1) ≤ x.cw →
      (x.badSlots.contains x.rxSlots = true → ∀ y m crc, slots (failed g) y m crc) ∧
      (x.badSlots.contains x.rxSlots = false →
        Goes (.linkSlotFailed k) s (failed g) ∧
        (∀ y crc, p.crcInject = true → Goes (.linkDataFlitRx k ⟨y, crc⟩) s (failed (g.updPort k fun p => { p with crcInject := false }))) ∧
        (∀ y crc, p.crcInject = false → crc ≠ dataCrc p.expLseq y.slotWords → Goes (.linkDataFlitRx k ⟨y, crc⟩) s (failed g)) ∧
        (∀ y, p.crcInject = false → Yields (.linkDataFlitRx k ⟨y, dataCrc p.expLseq y.slotWords⟩) s fun t =>
          (t.fab.port k).expLseq = (p.expLseq + 1) % 65536 ∧ (t.fab.port k).rxFlits = p.rxFlits + 1 ∧
          (t.fab.port k).rxBytes = (p.rxBytes + y.bytes) % 2 ^ 64 ∧ (t.fab.port k).nakWait = false ∧ (t.fab.port k).owed = true ∧
          t.fab.parts = f.parts ∧ t.fab.mbxs = f.mbxs ∧ t.meter = s.meter) ∧
        (∀ m crc, crc ≠ lcfCrc m.words → Goes (.lcfRx k ⟨m, crc⟩) s (failed g)) ∧
        (∀ m : Lcf, p.awaitLcf = false → m.nak = false → m.req = 0 → m.hb = none → m.txeq = none → Yields (.lcfRx k ⟨m, lcfCrc m.words⟩) s fun t =>
          (t.fab.port k).retx = p.retx.drop (p.acked m.ack) ∧
          (∀ i < 6, (t.fab.port k).credits.get i 0 = p.credits.get i 0 + (m.cr.getD i 0 + 65536 - p.lastCr.get i 0) % 65536) ∧
          { t.fab with ports := f.ports, lanes := f.lanes } = f ∧ t.meter = s.meter))) ∧
    (p.state.usable = true → x.cw + 1 = codewordsFor p.fec (x.rxSlots + 1) → x.symErrors = 0 → Yields (.linkSlotFailed k) s fun t =>
      (t.fab.port k).fecCw = p.fecCw + 1 ∧ (t.fab.port k).fecCorr = p.fecCorr ∧ (t.fab.port k).nakWait = true ∧ (t.fab.port k).state = p.state ∧
      { t.fab with ports := f.ports, lanes := f.lanes } = f) ∧
    (let due := p.state.usable = true ∧ p.nakWait = true ∧ p.nakTick + p.replayTicks ≤ f.tick
     (due → Goes (.nakRepeat k) s (f.updPort k fun p => { p.owe f.tick with nakTick := f.tick, owedNak := true })) ∧
     (¬ due → Goes (.nakRepeat k) s f)) ∧
    (∀ l before levels, f.portOf l = some k → p.state.usable = true → p.activeLanes.contains l = true → (f.lane l).unc.length < 31 →
      let found := (f.lane l).withInjected p.fec (codewordErrors p.fec p.rxPre before levels)
      Yields (.fecUncorrectable ⟨l, before, levels⟩) s fun t => (t.fab.port k).fecCw = p.fecCw + 1 ∧ (t.fab.port k).state = p.state ∧
        (t.fab.lane l).cw = (f.lane l).cw + 1 ∧ { t.fab with ports := f.ports, lanes := f.lanes } = f ∧
        (∀ n, found = some n → (t.fab.port k).fecCorr = p.fecCorr + n ∧ (t.fab.port k).fecUnc = p.fecUnc ∧ (t.fab.lane l).badSlots = (f.lane l).badSlots) ∧
        (found = none → (t.fab.port k).fecUnc = p.fecUnc + 1 ∧ (t.fab.port k).fecCorr = p.fecCorr ∧
          ∀ j ∈ slotsUnder p.fec (f.lane l).cw, (f.lane l).rxSlots ≤ j → j ∈ (t.fab.lane l).badSlots)) ∧
    (let due := p.state.usable = true ∧ p.retx ≠ [] ∧ p.ackTick + p.replayTicks ≤ f.tick
     (due → p.noProgress < 7 → Goes (.replayTimeout k) s (f.updPort k fun p =>
        { p with retryEvents := p.retryEvents + 1, noProgress := p.noProgress + 1, ackTick := f.tick, replaying := true, replayAt := 0 })) ∧
     (due → 7 ≤ p.noProgress → Yields (.replayTimeout k) s fun t => (t.fab.port k).state = .retrain) ∧
     (¬ due → Goes (.replayTimeout k) s f)) ∧
    (let may := p.state.usable = true ∧ p.awaitLcf = false ∧ p.lcfSlot = false ∧ p.lcfDue f.tick = false ∧ f.roll.state = 1
     (¬ may → Goes (.flitTx k) s f) ∧
     (∀ r, may → p.replaying = true → p.retx[p.replayAt]? = some r → Goes (.flitTx k) s ((f.putSlot k (r.flit.slot r.lseq)).updPort k fun p =>
        { p with resent := p.resent + 1, replayAt := p.replayAt + 1, replaying := p.replayAt + 1 < p.retx.length, sentNow := true })) ∧
     (may → p.replaying = true → p.retx[p.replayAt]? = none → Goes (.flitTx k) s (f.updPort k fun p => { p with replaying := false })) ∧
     (may → p.replaying = false → 4096 ≤ p.retx.length ∨ f.pickFlit k = none → Goes (.flitTx k) s f) ∧
     (∀ q, may → p.replaying = false → p.retx.length < 4096 → f.pickFlit k = some q → Yields (.flitTx k) s fun t =>
        (t.fab.port k).retx = p.retx ++ [{ lseq := p.nextLseq, flit := q.flit }] ∧ (t.fab.port k).txFlits = p.txFlits + 1 ∧
        (t.fab.port k).txBytes = (p.txBytes + q.flit.bytes) % 2 ^ 64 ∧ (t.fab.port k).nextLseq = (p.nextLseq + 1) % 65536 ∧
        (t.fab.port k).credits = (p.spend q.flit).credits ∧ (t.fab.port k).slot = p.slot + 1 ∧ t.fab.parts = f.parts ∧ t.fab.mbxs = f.mbxs ∧
        t.meter = s.meter)) ∧
    ((f.mayLcf k = false → Goes (.linkControlFlitSend k) s f) ∧
     (f.mayLcf k = true → p.owedHb = false ∨ f.roll.state = 2 ∨ p.silence ≠ 0 → Goes (.linkControlFlitSend k) s
       (if p.lcfDrop then f.updPort k fun p => { p.paid false with lcfDrop := false }
        else (f.putSlot k (p.lcf none).slot).updPort k fun p => { p.paid false with lcfTx := p.lcfTx + 1 })) ∧
     (f.mayLcf k = true → p.owedHb = true → f.roll.state ≠ 2 → p.silence = 0 → Goes (.linkControlFlitSend k) s (f.heartbeatSend k)))

/-- LANE_SCAN_CONTOUR, LANE_SCAN_MAP, SCAN_COMPLETE, BACKGROUND_SCAN, LANE_TEST_START, LANE_TEST_STOP, PRBS_CHECKER_LOCK, LANE_LOSS_END,
PORT_DRAIN_DONE, PORT_DRAIN_TIMEOUT. -/
def Obligations.ScansTestsAndPortDrains : Prop :=
  (∀ (s : State) (c : Cmd), c.mbx ∈ [32, 33] →
    let f := s.fab
    (∀ mask dwell, let d := force c 0 0 0
      let lanes := ((bitsOf mask 8).flatMap fun k => (f.port k).activeLanes).filter f.scannable
      f.takes d = true → c.len = 16 → d.pay = [pack [(12, 8, dwell)], w64 mask] → 16 ≤ dwell → dwell ≤ 30 → mask < 256 →
      (∀ l ∈ lanes, ∀ x, (f.lane l).scan = some x → x.mbx = none) →
      (lanes = [] → Goes (.laneScanContour c) s (f.answers d 0x0601 id stOk)) ∧
      (lanes ≠ [] → Goes (.laneScanContour c) s (lanes.foldl (fun g l => g.updLane l fun x =>
        { x with scan := some { mbx := some c.mbx, map := false, dwell := dwell }, nextScan := if x.scan.isSome then 0 else x.nextScan })
        { f.begun d 0x0601 with scanOps := f.scanOps ++ [{ mbx := c.mbx, map := false, lanes := lanes }] }))) ∧
    (∀ lane dwell, let d := force c 0 0 1
      f.takes d = true → c.len = 16 → d.pay = [pack [(23, 16, lane), (12, 8, dwell), (0, 0, 1)], 0] → 16 ≤ dwell → dwell ≤ 30 → lane ≤ 191 →
      (f.lane lane).scan = none →
      (f.scannable lane = false → Goes (.laneScanMap c) s (f.answers d 0x0601 id stOk 0 (scanRecord lane 1 [] ++ zeros 384) 3088)) ∧
      (f.scannable lane = true → Goes (.laneScanMap c) s (Fabric.updLane { f.begun d 0x0601 with scanOps := f.scanOps ++ [{ mbx := c.mbx, map := true, lanes := [lane] }] }
        lane fun x => { x with scan := some { mbx := some c.mbx, map := true, dwell := dwell } }))) ∧
    (∀ k rate m, let d := force c 7 7 0
      let p := f.port k
      c.mbx = 32 → f.takes d = true → c.len = 24 → d.pay = [pack [(4, 3, rate), (2, 0, k)], w64 m, 0] → k < 8 → rate < 3 → m < 2 ^ (4 * p.count) → m < 2 ^ 48 → p.state = .off →
      p.count ≤ 12 → Yields (.laneTestStart c) s fun t => (t.fab.port k).state = .test ∧ (t.fab.port k).rate = rate ∧ (t.fab.mbx 32).env.status = stOk ∧
        (t.fab.mbx 32).env.result0 = w64 (bitsOf m 48).length ∧ t.fab.parts = f.parts ∧ t.fab.rtr = f.rtr ∧ t.meter = s.meter) ∧
    (∀ k, let d := force c 7 7 1
      c.mbx = 32 → f.takes d = true → c.len = 24 → d.pay = [pack [(7, 7, 1), (2, 0, k)], 0, 0] → k < 8 →
      ((f.port k).state = .off → Goes (.laneTestStop c) s (f.answers d 0x0602 id stOk)) ∧
      ((f.port k).state = .test → Goes (.laneTestStop c) s (f.answers d 0x0602 (fun f => (f.endTest k).toState k .off) stOk)))) ∧
  ∀ s : State, s.fab.live = true →
    let f := s.fab
    (∀ lane m, (f.lane lane).scan = none → Goes (.scanComplete lane m) s f) ∧
    (∀ lane m x mb, (f.lane lane).scan = some x → x.map = true → x.mbx = some mb → Goes (.scanComplete lane m) s
      ((f.updLane lane fun x => { x with scan := none, scanTick := f.tick }).scanRec mb lane (scanRecord lane 0 m.eyes ++ takePad 384 m.maps))) ∧
    (∀ lane m x, (f.lane lane).scan = some x → x.map = false → x.mbx = none → m.eyes ≠ [] → Yields (.scanComplete lane m) s fun t =>
      let y := t.fab.lane lane
      y.scan = none ∧ y.scanTick = f.tick ∧ y.highBias = (y.cls == 1 || y.cls == 2 || (y.cls == 3 && (f.lane lane).highBias)) ∧ t.fab.parts = f.parts ∧ t.fab.rtr = f.rtr ∧ t.fab.mbxs = f.mbxs) ∧
    ((∀ l < 192, f.scannable l = false) → Goes .backgroundScan s f) ∧
    (∀ l, l < 192 → (∀ j < 192, f.scannable j = true ↔ j = l) → (f.lane l).scan = none → (f.lane l).nextScan ≤ f.tick → Yields .backgroundScan s fun t =>
      (t.fab.lane l).scan = some { mbx := none, map := false, dwell := 20 } ∧ { t.fab with lanes := f.lanes } = f) ∧
    (∀ lane errors bits, ((f.lane lane).prbsRun = true → Goes (.prbsCheckerLock lane errors bits) s (f.updLane lane fun x =>
        { x with prbsLock := true, prbsErrors := min (2 ^ 48 - 1) (x.prbsErrors + errors), prbsBits := x.prbsBits + bits })) ∧
      ((f.lane lane).prbsRun = false → Goes (.prbsCheckerLock lane errors bits) s f)) ∧
    (∀ lane t, (f.lane lane).lossUntil = some t → (t ≤ f.tick → Goes (.laneLossEnd lane) s (f.updLane lane fun x => { x with lossUntil := none })) ∧
      (f.tick < t → Goes (.laneLossEnd lane) s f)) ∧
    (∀ k, (f.port k).drainFor = none → Goes (.portDrainDone k) s f ∧ Goes (.portDrainTimeout k) s f) ∧
    (∀ k why, (f.port k).drainFor = some why →
      (f.carries k = false → (f.port k).retx = [] → Goes (.portDrainDone k) s (f.endPortDrain k why)) ∧
      ((f.carries k = true ∨ (f.port k).retx ≠ []) → Goes (.portDrainDone k) s f) ∧
      ((f.port k).drainStart + 15625 * f.rtr.drainUnits ≤ f.tick → Goes (.portDrainTimeout k) s (f.endPortDrain k why)) ∧
      (f.tick < (f.port k).drainStart + 15625 * f.rtr.drainUnits → Goes (.portDrainTimeout k) s f))

/-- ENGINE_PROGRESS_EXPIRE, E_RESET_DONE, E_RESET_HUNG, PARTITION_PROGRESS_EXPIRE, P_RESET_DRAIN_DONE, P_RESET_SCRUB_DONE, P_RESET_HUNG,
P_RESET_QUIET_END, PARTITION_FENCE_DONE, PARTITION_FENCE_HUNG, PORT_PROGRESS_EXPIRE. -/
def Obligations.TheLadderAndItsResets : Prop :=
  ∀ s : State, s.fab.live = true →
    let f := s.fab
    (∀ p,
      let x := f.part p
      (∀ e r, x.onEngine e = some r →
        (f.engCounts p r = true → x.draining = false → r.lastProgress + f.win.eng ≤ f.tick → x.eResetAt.find e = none →
          let h : HangOf := ⟨1, 1, e, p, f.win.eng, r.lastProgress, f.listIdOf p r.src⟩
          Goes (.engineProgressExpire p e) s ((f.hang h).startE p e true [])) ∧
        ((f.engCounts p r = false ∨ x.draining = true ∨ f.tick < r.lastProgress + f.win.eng) → Goes (.engineProgressExpire p e) s f)) ∧
      (∀ e, x.onEngine e = none → Goes (.engineProgressExpire p e) s f) ∧
      (∀ c, (x.colls.find? (·.launched)) = some c →
        let last := x.lastStep
        (x.draining = false → last + f.win.par ≤ f.tick → Goes (.partitionProgressExpire p) s
          (f.ladderP p { trigger := 2, action := 2, part := p, window := f.win.par, last := last, work := wd c.words 0 })) ∧
        ((x.draining = true ∨ f.tick < last + f.win.par) → Goes (.partitionProgressExpire p) s f)) ∧
      (∀ e er, x.eResets = [er] → er.eng = e →
        (er.hang = true → Goes (.eResetDone p e) s f) ∧
        (er.hang = false → er.run = none → er.mbxs = [] → er.ladder = false → Goes (.eResetDone p e) s
          (f.updPart p fun x => { x with eResets := [], stalled := x.stalled.filter (· != e) })) ∧
        (f.tick < er.start + 31250 → Goes (.eResetHung p e) s f) ∧
        (er.start + 31250 ≤ f.tick → er.run = none → Goes (.eResetHung p e) s
          (f.ladderP p { trigger := 5, action := 2, unit := e, part := p, window := 31250, last := er.start }))) ∧
      (∀ r, x.reset = some r →
        let empty := x.runs = [] ∧ x.colls = [] ∧ ∀ l ∈ x.lists, l.finished = true
        (r.cleared = false → empty → Goes (.pResetDrainDone p) s
          ((f.loseCommands p r.mbxs).updPart p fun x => { x with reset := some { r with cleared := true } })) ∧
        ((r.cleared = true ∨ ¬ empty) → Goes (.pResetDrainDone p) s f) ∧
        ((r.cleared = false ∨ r.fence.isSome = true) → Goes (.pResetScrubDone p) s f) ∧
        (p < 32 → r.cleared = true → r.fence = none → x.claimed = false → (∀ m ∈ r.mbxs, m = p) → Yields (.pResetScrubDone p) s fun t =>
          (t.fab.part p).ctxs = [] ∧ (t.fab.part p).quietUntil = f.tick + f.rtr.gapTicks ∧ (t.fab.part p).reset = none ∧ (t.fab.part p).draining = false ∧
          (t.fab.part p).tlb = [] ∧ (t.fab.part p).pResets = min 65535 (x.pResets + 1) ∧ (t.fab.mbx p).env.own = false ∧ t.meter = s.meter) ∧
        ((r.fence.isSome = true ∨ f.tick < r.start + 781250) → Goes (.pResetHung p) s f) ∧
        (r.fence = none → r.start + 781250 ≤ f.tick → f.orders = [] → Goes (.pResetHung p) s
          ((f.hang { trigger := 6, action := 3, part := p, window := 781250, last := r.start }).orderFence p)) ∧
        (r.fence = none → Goes (.partitionFenceDone p) s f ∧ Goes (.partitionFenceHung p) s f) ∧
        (∀ t0, r.fence = some t0 →
          (p < 32 → x.claimed = false → (∀ m ∈ r.mbxs, m = p) → Yields (.partitionFenceDone p) s fun t => (t.fab.part p).disabled = true ∧
            (t.fab.part p).ctxs = [] ∧ (t.fab.part p).reset = none ∧ (t.fab.mbx p).env.own = false ∧ t.meter = s.meter) ∧
          (t0 + 156250 ≤ f.tick → Goes (.partitionFenceHung p) s (f.orderDevice 3 6 156250 t0)) ∧
          (f.tick < t0 + 156250 → Goes (.partitionFenceHung p) s f))) ∧
      (x.reset = none → Goes (.pResetDrainDone p) s f ∧ Goes (.pResetScrubDone p) s f ∧ Goes (.pResetHung p) s f) ∧
      (x.quietUntil ≤ f.tick → Goes (.pResetQuietEnd p) s (f.updPart p fun x => { x with quietUntil := 0 })) ∧
      (f.tick < x.quietUntil → Goes (.pResetQuietEnd p) s f)) ∧
    (∀ k,
      let p := f.port k
      let due := p.state = .active ∧ (∃ q ∈ f.rtr.queue, q.out = some k ∧ q.since + f.win.port ≤ f.tick) ∧ p.progress + f.win.port ≤ f.tick ∧ p.drainFor = none
      (¬ due → Goes (.portProgressExpire k) s f) ∧
      (due → p.expiries = [] → Goes (.portProgressExpire k) s
        (((f.updPort k fun p => { p with expiries := [f.tick], progress := f.tick }).hang
          { trigger := 3, action := 4, unit := k, window := f.win.port, last := p.progress }).inward 36 opRung [w64 k, 0]
            [({ block := blkPort, index := k, field := 0 }, 3)])))

/-- HEARTBEAT_SEND, ROLLCALL_MISS, TALLY_TIMEOUT, ISOLATION_TIMEOUT, INJECT_AT_BELL, SRAM_ERROR, ROLLCALL_STATUS, LOG_READ. -/
def Obligations.RollCallInjectionAndErrors : Prop :=
  (∀ s : State, s.fab.live = true →
    let f := s.fab
    let r := f.roll
    (∀ k,
      let p := f.port k
      (r.state = 2 ∨ f.mayHeartbeat k = false → Goes (.heartbeatSend k) s f) ∧
      (6 ≤ k → r.state ≠ 2 → f.mayHeartbeat k = true → Goes (.heartbeatSend k) s (f.putLcf k (some (f.heartbeatWords k)))) ∧
      (k < 6 → r.state ≠ 2 → f.mayHeartbeat k = true → 0 < p.silence →
        (r.sent.get k 0 + 3125 ≤ f.tick → Goes (.heartbeatSend k) s
          (({ f with roll := { r with sent := r.sent.set k f.tick } } : Fabric).updPort k fun p => { p with silence := p.silence - 1 })) ∧
        (f.tick < r.sent.get k 0 + 3125 → Goes (.heartbeatSend k) s f)) ∧
      (k < 6 → r.state ≠ 2 → f.mayHeartbeat k = true → p.silence = 0 → Yields (.heartbeatSend k) s fun t =>
        t.fab.roll = { r with owed := r.owed.set k ((r.owed.get k []).drop 2), sent := r.sent.set k f.tick } ∧
        t.fab.bells = { f.bells with sent := f.bells.sent.set k ((f.bell :: f.bells.sent.get k []).take 64) } ∧
        (t.fab.port k).lcfTx = p.lcfTx + (if p.lcfDrop then 0 else 1) ∧ (t.fab.port k).slot = p.slot + (if p.lcfDrop then 0 else 1) ∧
        t.fab.parts = f.parts ∧ t.fab.mbxs = f.mbxs ∧ t.fab.rtr = f.rtr ∧ t.meter = s.meter) ∧
      ((6 ≤ k ∨ r.state = 2 ∨ f.tick < r.period.get k 0 + 3125) → Goes (.rollcallMiss k) s f) ∧
      (let due := k < 6 ∧ r.state ≠ 2 ∧ r.period.get k 0 + 3125 ≤ f.tick
       let counted : Roll := { r with misses := r.misses.set k (r.misses.get k 0 + 1), period := r.period.set k (r.period.get k 0 + 3125) }
       due → r.misses.get k 0 < 9 → Goes (.rollcallMiss k) s { f with roll := counted })) ∧
    (∀ n t0, (r.tallies.find? fun t => t.node == n) = some t0 →
      (t0.opened + 250000 ≤ f.tick → Goes (.tallyTimeout n) s (f.closeTally n)) ∧ (f.tick < t0.opened + 250000 → Goes (.tallyTimeout n) s f)) ∧
    (let due := r.state ≠ 2 ∧ f.isSpare = false ∧ r.heard.vals ≠ [] ∧ ∀ t ∈ r.heard.vals, t + 31250 ≤ f.tick
     (due → Goes .isolationTimeout s (f.detain 6)) ∧ (¬ due → Goes .isolationTimeout s f)) ∧
    ((∀ i ∈ f.ladder.injections, f.bell < i.bell) → Goes .injectAtBell s f) ∧
    (∀ i, f.ladder.injections = [i] → i.bell ≤ f.bell → (f.mbx i.mbx).env.own = true → (f.mbx i.mbx).accepted = true →
      Goes .injectAtBell s ((({ f with ladder := { f.ladder with injections := [] } } : Fabric).doInject i.pay).complete i.mbx stOk 1 [] 0))) ∧
  (∀ s : State, s.fab.awake = true →
    let f := s.fab
    (∀ k p hit a y, 1 ≤ k → k ≤ 5 → Goes (.sramError k false p hit a y) s (f.countSram k p false)) ∧
    (∀ p a y, p < f.partCount → (f.part p).disabled = false →
      Goes (.sramError 0 true p .idle a y) s ((f.countSram 0 p true).notify p (faultNotice p 5 0 0 1 a y 0)))) ∧
  ∀ (s : State) (c : Cmd), s.fab.takes c = true → c.len = 8 →
    (∀ first, first < 2 → c.pay = [w64 (16384 * first)] → Yields (.rollcallStatus c) s fun t => (t.fab.mbx c.mbx).env.status = stOk ∧
      (t.fab.mbx c.mbx).env.respLen = 3104 ∧ t.fab.roll = s.fab.roll ∧ t.fab.parts = s.fab.parts ∧ t.fab.rtr = s.fab.rtr ∧ t.meter = s.meter) ∧
    (∀ i n, c.mbx ∈ [32, 33] → i < 65536 → 1 ≤ n → n ≤ 62 → c.pay = [pack [(21, 16, n), (15, 0, i)]] →
      Goes (.logRead c) s (s.fab.answers c 0x0808 id stOk 0 ((List.range n).flatMap fun j => s.fab.logEntry ((i + j) % 65536)) (64 * n)))

/-- GET_VERSION to KEY_EXCHANGE in the clear, the requests of a session in the clear, SPDM_UNSUPPORTED_REQUEST, REPORT_CARD_GET. -/
def Obligations.SpdmConnectionsAreNegotiated : Prop :=
  ∀ (s : State) (c : Cmd), s.fab.takes c = true → c.mbx ≤ 33 → c.tag = 0 → (c.mbx < 32 → (s.fab.part c.mbx).draining = false) →
    (c.len = 32 → Goes (.reportCardGet c) s (s.fab.answers c 0x0901 id stOk 0 (s.fab.card (takePad 4 c.pay)) 720)) ∧
    (frameOk c.len c.pay = true → bit (wd c.pay 0) 0 = false →
      let conn := s.fab.prc.conns.get c.mbx 0
      let req (code : Nat) := withCode (some code) (takePad (ceilDiv (fld (wd c.pay 2) 15 0) 8) (c.pay.drop 4))
      let body (code : Nat) := Config.spdmBody code (req code) (s.fab.cardBody [])
      let respond (change : Fabric → Fabric) (len : Nat) (ws : List Word) :=
        s.fab.answers c 0x0900 change stOk 0 ([0, 0, w64 len, 0] ++ takePad (ceilDiv len 8) ws) (32 + len)
      let full (change : Fabric → Fabric) (code : Nat) := respond change (max 4 (min 3984 (body code).1)) (body code).2
      let refuse (err data : Nat) := respond id (spdmError err data).1 (spdmError err data).2
      req 0x84 ≠ [] →
      Goes (.getVersion c) s (full (fun f => f.setConn c.mbx 1) 0x84) ∧
      (1 ≤ conn → Goes (.getCapabilities c) s (full (fun f => f.setConn c.mbx 2) 0xE1)) ∧
      (conn < 1 → Goes (.getCapabilities c) s (refuse 4 0xE1)) ∧
      (2 ≤ conn → Goes (.negotiateAlgorithms c) s (full (fun f => f.setConn c.mbx 3) 0xE3)) ∧
      (conn < 2 → Goes (.negotiateAlgorithms c) s (refuse 4 0xE3)) ∧
      (∀ mk code, (mk, code) ∈ [(Instr.getDigests, 0x81), (.getCertificate, 0x82), (.challenge, 0x83), (.getMeasurements, 0xE0)] →
        (3 ≤ conn → Goes (mk c) s (full id code)) ∧ (conn < 3 → Goes (mk c) s (refuse 4 code))) ∧
      (s.fab.prc.sessions.find c.mbx = none →
        (3 ≤ conn → Goes (.keyExchange c) s (full (fun f => f.randomBits.1.setSession c.mbx
          { id := fld (wd (req 0xE4) 0) 47 32 + 65536 * fld (wd s.fab.randomBits.2 0) 15 0, last := s.fab.tick,
            secret := Config.exportSecret (req 0xE4) s.fab.randomBits.2 }) 0xE4)) ∧
        (conn < 3 → Goes (.keyExchange c) s (refuse 4 0xE4))) ∧
      (s.fab.prc.sessions.find c.mbx ≠ none → Goes (.keyExchange c) s (refuse 0x0A 0)) ∧
      (∀ mk code, (mk, code) ∈ [(Instr.finish, 0xE5), (.heartbeat, 0xE8), (.keyUpdate, 0xE9), (.endSession, 0xEC)] → Goes (mk c) s (refuse 4 code)) ∧
      (∀ code, code < 256 → code ∉ Sys2Proof.Machine.spdmCodes → Goes (.spdmUnsupportedRequest c code) s (refuse 7 code)))

/-- FINISH, HEARTBEAT, KEY_UPDATE, END_SESSION in a session; SPDM_SESSION_TIMEOUT. -/
def Obligations.SessionsAnswerTheirFrames : Prop :=
  (∀ (s : State) (c : Cmd), s.fab.takes c = true → c.mbx ≤ 33 → c.tag = 0 → (c.mbx < 32 → (s.fab.part c.mbx).draining = false) →
    frameOk c.len c.pay = true → bit (wd c.pay 0) 0 = true →
    let n := fld (wd c.pay 2) 15 0
    let body := takePad (ceilDiv n 8) (c.pay.drop 4)
    let kept (t : State) := t.fab.prc.sessions = s.fab.prc.sessions ∧ t.fab.parts = s.fab.parts ∧ (t.fab.mbx c.mbx).env.status = stOk ∧ (t.fab.mbx c.mbx).env.respLen = 0
    (∀ mk code, (mk, code) ∈ [(Instr.finish, 0xE5), (.heartbeat, 0xE8), (.keyUpdate, 0xE9), (.endSession, 0xEC)] →
      (s.fab.prc.sessions.find c.mbx = none → Yields (mk c) s kept) ∧
      (∀ x, s.fab.prc.sessions.find c.mbx = some x →
        let other := x.id ≠ fld (wd c.pay 0) 63 32 ∨ x.reqSeq ≠ wn c.pay 1 ∨ n < 20
        let stepped : Session := { x with last := s.fab.tick, reqSeq := x.reqSeq + 1, rspSeq := x.rspSeq + 1 }
        (other → Yields (mk c) s kept) ∧
        (¬ other → Yields (mk c) s fun t => (t.fab.mbx c.mbx).env.status = stOk ∧ (t.fab.mbx c.mbx).env.own = false ∧ t.meter = s.meter ∧
          match Config.spdmOpen x.secret x.reqKeys (takePad 4 c.pay) body with
          | none => kept t
          | some [] => t.fab.prc.sessions = s.fab.prc.sessions.set c.mbx stepped
          | some (w :: _) =>
            (code = 0xE5 → x.state = 1 → t.fab.prc.sessions = (s.fab.prc.sessions.set c.mbx stepped).set c.mbx { stepped with state := 2 }) ∧
            (code = 0xE8 → x.state = 2 → t.fab.prc.sessions = (s.fab.prc.sessions.set c.mbx stepped).set c.mbx stepped) ∧
            (code = 0xE9 → x.state = 2 → t.fab.prc.sessions = (s.fab.prc.sessions.set c.mbx stepped).set c.mbx
              { stepped with
                  reqKeys := x.reqKeys + b2n (fld w 23 16 == 1 || fld w 23 16 == 2), rspKeys := x.rspKeys + b2n (fld w 23 16 == 2) }) ∧
            (code = 0xEC → x.state = 2 → s.fab.prc.claims.find c.mbx = none → t.fab.prc.sessions.find c.mbx = none))))) ∧
  ∀ (s : State) (m : Nat) (x : Session), s.fab.live = true → s.fab.prc.sessions.find m = some x →
    (x.last + 18750000000 ≤ s.fab.tick → s.fab.prc.claims.find m = none →
      Goes (.spdmSessionTimeout m) s { s.fab with prc := { s.fab.prc with sessions := s.fab.prc.sessions.del m } }) ∧
    (s.fab.tick < x.last + 18750000000 → Goes (.spdmSessionTimeout m) s s.fab)

/-- KEY_WRAP_LOAD, KEY_ROTATE, KEY_CHANGE_DRAINED, SEAL_BIND, CONF_CLAIM, CLAIM_SCRUB_DONE, CONF_RELEASE, DEVICE_SCRUB_DONE, KEY_STATUS, DEBUG_UNLOCK. -/
def Obligations.KeysAndClaims : Prop :=
  (∀ (s : State) (c : Cmd), c.mbx < 32 → (s.fab.part c.mbx).draining = false →
    let m := c.mbx
    let x := s.fab.part m
    (∀ z slot weight gen, s.fab.takes c = true → c.tag = 0 → s.fab.inSession m = true → s.fab.prc.sessions.find m = some z → c.len = 80 → slot < 16 → gen < 256 →
      wd c.pay 0 = pack [(3, 0, slot), (8, 8, b2n weight), (23, 16, gen)] → wd c.pay 1 = w64 z.id → z.id < 2 ^ 32 → onlyBits (wd c.pay 3) [(31, 0)] = true →
      (x.keys.get slot {}).loaded = false →
      Goes (.keyWrapLoad c) s
        (match Config.gcmOpen (wrapKey z.secret) [wd c.pay 2, wd c.pay 3] [wd c.pay 0, wd c.pay 1, w64 m] (takePad 4 (c.pay.drop 4)) (takePad 2 (c.pay.drop 8)) with
         | none => s.fab.answers c 0x0902 id stFaulted
         | some k =>
           let key := if weight then takePad 4 k else sealKey (takePad 4 k) gen
           let k' : KeySlot := { loaded := true, weight := weight, gen := gen, key := key, secret := if weight then [] else takePad 4 k }
           s.fab.answers c 0x0902 (fun f => (f.keyNotice m 1 slot gen).updPart m fun x => { x with keys := x.keys.set slot k' }) stOk gen)) ∧
    (∀ slot k, let d := force c 9 8 0
      s.fab.takes d = true → c.tag = 0 → s.fab.inSession m = true → c.len = 8 → slot < 16 → wd d.pay 0 = w64 slot → x.keys.find slot = some k → k.loaded = true →
      k.weight = false → k.retiring = none →
      let g := (k.gen + 1) % 256
      let k' : KeySlot := { k with gen := g, key := sealKey k.secret g, retiring := some (k.gen, k.key), sealedPages := 0 }
      Goes (.keyRotateAdvance c) s (s.fab.answers d 0x0903 (fun f => (f.keyNotice m 2 slot g).updPart m fun x => { x with keys := x.keys.set slot k' }) stOk g)) ∧
    (∀ slot k, let d := force c 9 8 1
      s.fab.takes d = true → c.tag = 0 → s.fab.inSession m = true → c.len = 8 → slot < 16 → wd d.pay 0 = pack [(9, 8, 1), (3, 0, slot)] → x.keys.find slot = some k →
      k.loaded = true → k.retiring = none →
      Goes (.keyRotateDropRetiring c) s (s.fab.answers d 0x0903 (fun f => (f.keyNotice m 2 slot k.gen).updPart m fun x => { x with keys := x.keys.set slot k }) stOk k.gen)) ∧
    (∀ slot seg (base : Word), slot < 16 → seg < 8 → onlyBits base [(56, 6)] = true → tagPart c.tag = m → s.fab.inSession m = true → s.fab.tagLive c.tag = true → c.len = 16 →
      (let d := force c 7 7 1
       s.fab.takes d = true → d.pay = [pack [(11, 8, slot), (7, 7, 1), (2, 0, seg)], base] → Goes (.sealBind c) s (s.fab.answers d 0x0904
        (fun f => f.updCtx c.tag fun x => { x with seals := x.seals.set seg { keySlot := slot, tagBase := base.toNat } }) stOk)) ∧
      (let d := force c 7 7 0
       s.fab.takes d = true → d.pay = [pack [(11, 8, slot), (2, 0, seg)], base] → Goes (.sealUnbind c) s (s.fab.answers d 0x0904
        (fun f => f.updCtx c.tag fun x => { x with seals := x.seals.del seg }) stOk))) ∧
    (∀ z, s.fab.takes c = true → c.tag = 0 → s.fab.prc.sessions.find m = some z → c.len = 8 → wd c.pay 0 = w64 z.id → z.id < 2 ^ 32 → x.claimable = true → s.fab.prc.debugNow = false →
      (∀ i < 34, i ≠ m → s.fab.actsOn i m = false) →
      Goes (.confClaim c) s (({ s.fab.begun c 0x0905 with prc := { s.fab.prc with claimOps := s.fab.prc.claimOps ++ [{ mbx := m, part := m, session := z.id }] } } : Fabric).updPart m
        fun x => { x with draining := true })) ∧
    (s.fab.takes c = true → c.tag = 0 → c.len = 8 → c.pay = [w64 m] → m < s.fab.partCount →
      (x.claimed = false → Goes (.confRelease c) s (s.fab.answers c 0x0906 id stOk)) ∧
      (x.claimed = true → Goes (.confRelease c) s ((s.fab.begun c 0x0906).startP m 0 false true [m])) ∧
      (Yields (.keyStatus c) s fun t => (t.fab.mbx m).env.status = stOk ∧ (t.fab.mbx m).env.respLen = 152 ∧ t.fab.parts = s.fab.parts ∧ t.fab.prc = s.fab.prc))) ∧
  (∀ (s : State) (c : Cmd), s.fab.takes c = true → c.mbx = 32 → c.tag = 0 → s.fab.conf = false →
    (s.fab.prc.debugFuse = true → s.fab.prc.debugNow = false → Yields (.debugUnlock c) s fun t => t.fab.prc.debugNow = true ∧ (t.fab.mbx 32).env.status = stOk ∧
      (t.fab.mbx 32).env.result0 = 1 ∧ t.fab.parts = s.fab.parts) ∧
    (s.fab.prc.debugFuse = false → c.len ≠ 96 → Goes (.debugUnlock c) s (s.fab.answers c 0x0908 id stOk (b2n s.fab.prc.debugNow)))) ∧
  ∀ s : State, s.fab.live = true →
    Goes .deviceScrubDone s { s.fab with prc := { s.fab.prc with scrubbing := false } } ∧
    (∀ o, s.fab.prc.keyOps = [o] → (o.tiles = [] → Goes (.keyChangeDrained o.mbx) s (({ s.fab with prc := { s.fab.prc with keyOps := [] } } : Fabric).finish o.mbx stOk o.gen)) ∧
      (∀ t ∈ o.tiles, (∃ u ∈ s.fab.tilesWhere o.part fun _ _ => true, u.2 = t) → Goes (.keyChangeDrained o.mbx) s s.fab)) ∧
    (∀ o z, s.fab.prc.claimOps = [o] → o.part < 32 → s.fab.prc.sessions.find o.part = some z → z.id = o.session → Yields (.claimScrubDone o.part) s fun t =>
      (t.fab.part o.part).claimed = true ∧ (t.fab.part o.part).draining = false ∧ (t.fab.part o.part).ctxs = [] ∧ (t.fab.part o.part).keys = [] ∧
      t.fab.prc.claims.find o.part = some o.session ∧ t.fab.prc.claimOps = [] ∧ t.meter = s.meter)

/-- METER_READ, METER_MARK, METER_LOG_READ, METER_TIME, METER_IDENTITY. -/
def Obligations.MeterCommandsAnswer : Prop :=
  ∀ (s : State) (c : Cmd), s.fab.takes c = true →
    let f := s.fab
    let m := f.mtl
    let shown (unit v : Nat) := if f.conf then v / unit * unit else v
    let sent (g : Fabric) (r : MtlReq) (h : Mtl → Mtl) : Fabric :=
      { g with mtl := h (Mtl.drive { m with seq := (m.seq + 1) % 256, out := some r, sentAt := f.tick, tries := 0, queue := [] }) }
    (c.len = 0 → m.link ≠ 2 →
      Goes (.meterTime c) s (f.answers c 0x0A03 id stBusy) ∧ Goes (.meterIdentity c) s (f.answers c 0x0A04 id stBusy) ∧
      (c.mbx ∈ [32, 33, 36] → Goes (.meterRead c) s (f.answers c 0x0A00 id stBusy))) ∧
    (c.len = 0 → m.link = 2 →
      (c.mbx ∈ [32, 33, 36] → Goes (.meterRead c) s (f.answers c 0x0A00 id stOk 0
        [w64 m.winCal, w64 (shown 1000 m.energy), pack [(63, 32, if f.conf then 0 else m.pMax), (31, 0, shown 10000 m.pAvg)],
         pack [(63, 32, shown 1000 m.iAvg), (31, 0, m.vAvg)], pack [(31, 0, m.latest), (39, 32, m.era), (49, 40, m.eventCount), (57, 50, m.flags)],
         w64 m.winBell] 48)) ∧
      (c.mbx ∉ [32, 33, 36] → Yields (.meterRead c) s fun t => t.fab.violations = min (f.violations + 1) (2 ^ 64 - 1) ∧ (t.fab.mbx c.mbx).env.status = stOk ∧
        t.fab.mtl = m ∧ t.fab.parts = f.parts) ∧
      Goes (.meterTime c) s (f.answers c 0x0A03 id stOk 0 [w64 m.cal, w64 m.calBell, w64 f.bell] 24)) ∧
    (c.mbx ≤ 33 → c.len = 24 → onlyBits (wd c.pay 1) [(33, 0)] = true → fld (wd c.pay 1) 33 32 ≠ 3 → wd c.pay 2 = 0 → m.link = 2 → f.conf = true →
      ∀ t0, m.lastMarkCmd = some t0 → f.tick < t0 + 15625000 → Goes (.meterMark c) s (f.answers c 0x0A01 id stBusy)) ∧
    (m.link = 2 → m.out = none → m.queue = [] → f.clk.state ≠ 2 →
      (c.mbx ≤ 33 → c.len = 24 → onlyBits (wd c.pay 1) [(33, 0)] = true → fld (wd c.pay 1) 33 32 ≠ 3 → wd c.pay 2 = 0 →
        (∀ t0, f.conf = true → m.lastMarkCmd = some t0 → t0 + 15625000 ≤ f.tick) →
        Goes (.meterMark c) s (sent (f.begun c 0x0A01)
          { type := 3, data := [wd c.pay 0, pack [(33, 0, fld (wd c.pay 1) 33 0), (47, 40, c.mbx)], w64 f.bell, 0, 0], why := .mark c.mbx }
          fun x => { x with lastMarkCmd := some f.tick })) ∧
      (∀ first n, c.mbx ≤ 33 → c.len = 8 → first < 2 ^ 32 → 1 ≤ n → n ≤ 31 → wd c.pay 0 = pack [(36, 32, n), (31, 0, first)] →
        Goes (.meterLogRead c) s (sent (f.begun c 0x0A02) { type := 2, data := [w64 first], why := .log c.mbx }
          fun x => { x with logs := m.logs ++ [{ mbx := c.mbx, next := first, left := n }] })) ∧
      (c.len = 0 → Goes (.meterIdentity c) s (sent (f.begun c 0x0A04) { type := 4, data := [], why := .identity c.mbx } id)))

/-- METER_SYNC_RETRY, METER_REQUEST_TIMEOUT, METER_LINK_SILENCE, METER_RESPONSE_RX, METER_TICK_RX. -/
def Obligations.MeterLinkIsKept : Prop :=
  ∀ s : State, s.fab.counting = true →
    let f := s.fab
    let m := f.mtl
    let down (t : State) := t.fab.mtl = { m with link := 0, lost := true, out := none, queue := [], logs := [], tries := 0 } ∧
      t.fab.clk.windowOpen = false ∧ t.fab.parts = f.parts ∧ t.meter = s.meter
    let damaged : Fabric := { f with mtl := { m with crcErrors := min 65535 (m.crcErrors + 1) } }
    (m.link = 0 → m.out = none → f.clk.state ≠ 2 → (m.lastSync = 0 ∨ m.lastSync + 156250 ≤ f.tick) → Goes .meterSyncRetry s
      { f with mtl := Mtl.drive { m with
          link := 1, lastSync := f.tick, seq := (m.seq + 1) % 256, out := some { type := 0, data := [], why := .sync }, sentAt := f.tick, tries := 0 } }) ∧
    (∀ r, m.out = some r →
      (f.tick < m.sentAt + 31250 → Goes .meterRequestTimeout s f) ∧
      (m.sentAt + 31250 ≤ f.tick → m.tries < 8 →
        Goes .meterRequestTimeout s { f with mtl := Mtl.drive { m with tries := m.tries + 1, sentAt := f.tick, resends := min 65535 (m.resends + 1) } }) ∧
      (m.sentAt + 31250 ≤ f.tick → 8 ≤ m.tries → Yields .meterRequestTimeout s down)) ∧
    (f.tick < m.lastMark + 39062500 → Goes .meterLinkSilence s f) ∧
    (m.lastMark + 39062500 ≤ f.tick → Yields .meterLinkSilence s down) ∧
    Goes (.meterResponseRx false) s damaged ∧ (f.powered = true → Goes (.meterTickRx false) s damaged) ∧
    (∀ h b r, s.meter.answer = h :: b → m.out = some r →
      (fld h 15 8 ≠ m.seq ∨ fld h 7 0 ≠ 0x80 + r.type → Goes (.meterResponseRx true) s { f with mtl := { m with frames := sat32 (m.frames + 1) } }) ∧
      (fld h 15 8 = m.seq → fld h 7 0 = 0x80 + r.type → fld h 31 24 = 0 → r.why = .sync → m.queue = [] → Yields (.meterResponseRx true) s fun t =>
        t.fab.mtl = { m with frames := sat32 (m.frames + 1), out := none, link := 2, lost := false, wasUp := true } ∧ t.meter = s.meter)) ∧
    (∀ h cal st, f.powered = true → s.meter.tickFrame = [h, w64 cal, st] → cal < 2 ^ 64 → Yields (.meterTickRx true) s fun t =>
      t.fab.mtl.cal = cal ∧ t.fab.mtl.latest = fld st 31 0 ∧ t.fab.mtl.era = fld st 39 32 ∧ t.fab.mtl.eventCount = fld st 49 40 ∧
      t.fab.mtl.flags = fld st 57 50 ∧ t.fab.mtl.frames = sat32 (m.frames + 1) ∧ t.fab.mtl.link = m.link ∧ t.meter = s.meter)

/-- METER_SAMPLE, METER_CALENDAR_TICK, METER_BACKUP_CHECK. -/
def Obligations.MeterMeasures : Prop :=
  ∀ s : State, s.meter.newTime = none →
    let m := s.meter
    let mark := m.cal + (4096 - m.cal % 4096)
    (m.backup = false → mark < 2 ^ 64 →
      (∀ n (vCode iCode : Int) (p : List Word), m.cal % 4096 + n < 4096 → 0 < m.inForce → m.params[m.inForce - 1]? = some p → p.length = 4 →
        let off (w : Word) : Int := if Config.offsetSubtracted then - signed 32 (fld w 63 32) else signed 32 (fld w 63 32)
        let v : Int := fld (wd p 0) 31 0 * (vCode + off (wd p 0))
        let i : Int := fld (wd p 1) 31 0 * (iCode + off (wd p 1))
        let full := vCode ≥ 2 ^ 23 - 1 ∨ vCode ≤ -(2 ^ 23) ∨ iCode ≥ 2 ^ 23 - 1 ∨ iCode ≤ -(2 ^ 23)
        Yields (.meterSample n vCode iCode) s fun t =>
          t.meter.energy * (18 * 2 ^ 78) + t.meter.residue = m.energy * (18 * 2 ^ 78) + m.residue + (if v * i < 0 then 0 else 5 * (v * i).toNat) ∧
          t.meter.residue < 18 * 2 ^ 78 ∧
          t.meter = { m with cal := m.cal + n, energy := t.meter.energy, residue := t.meter.residue, sumV := m.sumV + v, sumI := m.sumI + i, sumP := m.sumP + v * i,
                             maxP := if m.samples = 0 then v * i else max m.maxP (v * i), samples := m.samples + 1, overNow := m.overNow || decide full }) ∧
      Yields .meterCalendarTick s (fun t =>
        let exact (sum unit field : Int) := ∀ q : Nat, q < 2 ^ 32 → sum = q * (m.samples * unit) → field = q
        t.meter.cal = mark ∧ t.meter.winCal = mark ∧ t.meter.energy = m.energy ∧ t.meter.winEnergy = m.energy ∧
        (m.samples ≠ 0 → exact (m.sumV * 1000000) (2 ^ 32) t.meter.vAvg ∧ exact (m.sumI * 1000) (2 ^ 32) t.meter.iAvg ∧
          exact (m.sumP * 1000) (2 ^ 64) t.meter.pAvg ∧ (∀ q : Nat, q < 2 ^ 32 → m.maxP * 1000 = q * 2 ^ 64 → t.meter.pMax = q)) ∧
        t.meter.lastOver = m.overNow ∧ t.meter.overNow = false ∧ t.meter.samples = 0 ∧ t.meter.sumV = 0 ∧ t.meter.sumI = 0 ∧ t.meter.sumP = 0 ∧
        t.meter.inForce = m.params.length ∧ t.meter.params = m.params ∧ t.meter.era = m.era ∧ t.meter.eventCount = m.eventCount ∧
        t.meter.tickFrame = [pack [(23, 16, 16), (7, 0, 0x90)], w64 mark,
          pack [(31, 0, t.meter.rseq + 2 ^ 32 - 1), (39, 32, m.era), (49, 40, m.eventCount), (57, 50, t.meter.flags)]] ∧
        t.meter.line = m.line.mark.send (frameBits t.meter.tickFrame) ∧
        (m.overNow = true → m.lastOver = false → m.wrote t.meter 9 mark (w64 mark)) ∧
        (m.overNow = false ∨ m.lastOver = true → t.meter.recs = m.recs ∧ t.meter.rseq = m.rseq ∧ t.meter.waiting = m.waiting ∧ t.meter.overflow = m.overflow)) ∧
      ∀ low, Meters (.meterBackupCheck low) s { m with backupLow := low }) ∧
    (m.backup = true → mark < 2 ^ 64 →
      (∀ n v i, m.cal + n < 2 ^ 64 → Meters (.meterSample n v i) s { m with cal := m.cal + n }) ∧
      Meters .meterCalendarTick s { m with cal := mark } ∧ ∀ low, Meters (.meterBackupCheck low) s m)

/-- METER_SEAL_CHANGE, METER_SUPPLY_LOSS, METER_SUPPLY_RETURN, METER_RECORD_SIGNED. -/
def Obligations.SealAndSupplyAreRecorded : Prop :=
  ∀ s : State, s.meter.newTime = none →
    let m := s.meter
    (∀ n, m.backup = false → m.cal % 4096 + n < 4096 → m.cal + n < 2 ^ 64 →
      (∀ o, m.sealOpen ≠ o → Yields (.meterSealChange n o) s fun t =>
        t.meter.sealOpen = o ∧ t.meter.cal = m.cal + n ∧ m.wrote t.meter (if o then 2 else 3) (m.cal + n) 0 ∧ t.meter.eventCount = m.eventCount) ∧
      (∀ o, m.sealOpen = o → Meters (.meterSealChange n o) s { m with cal := m.cal + n }) ∧
      Yields (.meterSupplyLoss n) s (fun t => t.meter.backup = true ∧ t.meter.backupSince = m.cal + n ∧ t.meter.cal = m.cal + n ∧
        m.wrote t.meter 7 (m.cal + n) 0 ∧ t.meter.samples = 0 ∧ t.meter.energy = m.energy ∧ t.meter.eventCount = m.eventCount) ∧
      ∀ good, Meters (.meterSupplyReturn n good) s { m with cal := m.cal + n }) ∧
    (∀ n, m.backup = true → m.cal + n < 2 ^ 64 →
      (∀ o, m.sealOpen ≠ o → Meters (.meterSealChange n o) s { m with cal := m.cal + n, sealOpen := o, latched := m.latched ++ [(o, m.cal + n)] }) ∧
      Meters (.meterSupplyLoss n) s { m with cal := m.cal + n } ∧
      (m.latched = [] → m.backupSince ≤ m.cal + n → Yields (.meterSupplyReturn n true) s fun t => t.meter.backup = false ∧ t.meter.cal = m.cal + n ∧
        m.wrote t.meter 8 (m.cal + n) (w64 (m.cal + n - m.backupSince)) ∧ t.meter.energy = m.energy ∧ t.meter.eventCount = m.eventCount) ∧
      Yields (.meterSupplyReturn n false) s (fun t =>
        t.meter.backup = false ∧ t.meter.era = min 255 (m.era + 1) ∧ t.meter.eraExhausted = (m.eraExhausted || decide (255 ≤ m.era)) ∧ t.meter.cal = 0 ∧
        t.meter.calValid = false ∧ t.meter.energy = 0 ∧ t.meter.rseq = 1 ∧ t.meter.waiting = [0] ∧ t.meter.marks = [] ∧ t.meter.eventCount = m.eventCount ∧
        t.meter.params = m.params ∧ ∃ r, t.meter.recs = [(0, r)] ∧ r.sig = [] ∧ r.words = [pack [(55, 48, t.meter.flags), (47, 40, 6), (39, 32, t.meter.era)], 0, 0,
          pack [(23, 16, m.inForce - 1), (9, 0, m.eventCount)], w64 t.meter.era, 0, 0, 0])) ∧
    (m.backup = true ∨ m.waiting = [] → Meters .meterRecordSigned s m) ∧
    (∀ n rest r q, m.backup = false → m.waiting = (n + 1) :: rest → m.overflow = [] → m.recs.find ((n + 1) % 16384) = some r → m.recs.find (n % 16384) = some q →
      r.words.length = 8 →
      let prev := wd (Config.sha512 (bytesOf q.words 64 ++ bytesOf (takePad 8 q.sig) 64)) 0
      let ws := r.words.take 7 ++ [prev]
      Meters .meterRecordSigned s { m with recs := m.recs.set ((n + 1) % 16384) { words := ws, sig := takePad 8 (Config.meterSign (bytesOf ws 64)) }, waiting := rest })

/-- SYNC, READ_VALUES, READ_RECORD, READ_IDENTITY, READ_STATUS, MTL_UNKNOWN_TYPE. -/
def Obligations.MeterAnswersItsRequests : Prop :=
  ∀ (s : State) (seq type rseq : Nat), seq < 256 → 5 < type → type < 128 → rseq < 2 ^ 32 →
    let m := s.meter
    let all := [Instr.readValues seq, .readRecord seq rseq, .readIdentity seq, .readStatus seq, .mtlUnknownType type seq]
    let head (status len t : Nat) := pack [(31, 24, status), (23, 16, len), (15, 8, seq), (7, 0, 0x80 + t)]
    let keeps (t : Nat) (body : List Word) (g : Meter) : Meter :=
      let r := head 0 (8 * body.length) t :: body
      ({ g with kept := some (seq, r), answer := r } : Meter).drive r
    let status := pack [(31, 0, m.rseq + 2 ^ 32 - 1), (39, 32, m.era), (49, 40, m.eventCount), (57, 50, m.flags)]
    (m.backup = true → ∀ i ∈ Instr.sync seq :: all, Meters i s m) ∧
    (m.backup = false →
      Meters (.sync seq) s (({ m with kept := none, answer := [head 0 0 0] } : Meter).drive [head 0 0 0]) ∧
      (∀ r, m.kept = some (seq, r) → ∀ i ∈ all, Meters i s (({ m with answer := r } : Meter).drive r)) ∧
      (m.kept.map Prod.fst ≠ some seq →
        (∃ bell, Meters (.readValues seq) s (keeps 1 [w64 m.winCal, w64 m.winEnergy, pack [(63, 32, m.pMax), (31, 0, m.pAvg)],
          pack [(63, 32, m.iAvg), (31, 0, m.vAvg)], status, bell] { m with free := m.free + 1 })) ∧
        (∀ r, rseq < m.rseq → m.rseq ≤ rseq + 16384 → m.recs.find (rseq % 16384) = some r → r.words.length = 8 →
          Meters (.readRecord seq rseq) s (keeps 2 (r.words ++ takePad 8 r.sig) m)) ∧
        (m.rseq ≤ rseq ∨ rseq + 16384 < m.rseq → Meters (.readRecord seq rseq) s (keeps 2 (zeros 16) m)) ∧
        (∃ serial key version digest : List Word, serial.length = 2 ∧ key.length = 4 ∧ version.length = 1 ∧ digest.length = 4 ∧ Meters (.readIdentity seq) s (keeps 4
          (serial ++ key ++ version ++ digest ++ takePad 4 (Config.sha512 (bytesOf m.inForceSet 32)) ++ [status] ++ zeros 4) m)) ∧
        Meters (.readStatus seq) s (keeps 5 [w64 m.winCal, status] m) ∧
        (∃ st ∈ [2, 3], Meters (.mtlUnknownType type seq) s (({ m with free := m.free + 1, answer := [head st 0 type] } : Meter).drive [head st 0 type]))))

/-- R504: one MARK record for each WRITE_MARK, none for a repeated one, BUSY with 8 unsigned. -/
def Obligations.MarksAreWrittenOnce : Prop :=
  (∀ (s : State) (n seq : Nat) (ses bell w : Word) (kind no src : Nat), s.meter.newTime = none → s.meter.backup = false → seq < 256 → kind < 3 → no < 2 ^ 32 → src < 256 →
    s.meter.cal % 4096 + n < 4096 → s.meter.cal + n < 2 ^ 64 → s.meter.kept.map Prod.fst ≠ some seq → w = pack [(31, 0, no), (33, 32, kind), (47, 40, src)] →
    let m : Meter := { s.meter with cal := s.meter.cal + n }
    let i := Instr.writeMark n seq [ses, w, bell, 0, 0]
    let same (x : Nat × Nat × Nat × Nat) : Bool := x.1 == ses.toNat && x.2.1 == kind && x.2.2.1 == no
    let ok (r : Nat) : List Word := [pack [(23, 16, 8), (15, 8, seq), (7, 0, 0x83)], pack [(31, 0, r), (39, 32, m.era)]]
    (∀ x, m.marks.find? same = some x → Meters i s (({ m with kept := some (seq, ok x.2.2.2), answer := ok x.2.2.2 } : Meter).drive (ok x.2.2.2))) ∧
    (m.marks.find? same = none → m.overflow ≠ [] ∨ 8 ≤ m.waiting.length → Meters i s (({ m with answer := [pack [(31, 24, 1), (15, 8, seq), (7, 0, 0x83)]] } : Meter).drive [pack [(31, 24, 1), (15, 8, seq), (7, 0, 0x83)]])) ∧
    (m.marks.find? same = none → m.room → Yields i s fun t =>
      t.meter.answer = ok m.rseq ∧ t.meter.kept = some (seq, ok m.rseq) ∧ t.meter.marks = ((ses.toNat, kind, no, m.rseq) :: m.marks).take 64 ∧
      t.meter.rseq = m.rseq + 1 ∧ t.meter.waiting = m.waiting ++ [m.rseq] ∧ t.meter.energy = m.energy ∧ t.meter.eventCount = m.eventCount ∧
      (∀ k, k ≠ m.rseq % 16384 → t.meter.recs.find k = m.recs.find k) ∧
      ∃ r, t.meter.recs.find (m.rseq % 16384) = some r ∧ r.sig = [] ∧ r.words.take 7 =
        [pack [(55, 48, m.flags), (47, 40, 1), (39, 32, m.era), (31, 0, m.rseq)], w64 m.cal, w64 m.energy,
         pack [(39, 32, src), (31, 24, kind), (23, 16, m.inForce - 1), (9, 0, m.eventCount)], ses, w64 no, bell])) ∧
  ∀ (s : State) (h : Word) (b data : List Word) (x : Nat), s.fab.counting = true → s.meter.answer = h :: b → s.fab.mtl.out = some { type := 3, data := data, why := .mark x } →
    s.fab.mtl.queue = [] → h = pack [(31, 24, 1), (15, 8, s.fab.mtl.seq), (7, 0, 0x83)] → s.fab.mtl.seq < 256 → (s.fab.mbx x).env.own = true → (s.fab.mbx x).accepted = true →
    Goes (.meterResponseRx true) s
      (({ s.fab with mtl := { s.fab.mtl with frames := sat32 (s.fab.mtl.frames + 1), out := none } } : Fabric).complete x stBusy 0 [] 0)

/-- PARAM_WRITE, TIME_SET, PARAM_READ. -/
def Obligations.CalibrationNeedsTheSealOpen : Prop :=
  (∀ (s : State) (c : Nat), s.meter.newTime = some c → c + 4096 < 2 ^ 64 → s.meter.cal + 1 < 2 ^ 64 → s.meter.overNow = false → s.meter.lastOver = false →
    Yields .meterCalendarTick s fun t => t.meter.cal = c + (4096 - c % 4096) % 4096 ∧ t.meter.calValid = true ∧ t.meter.newTime = none ∧
      s.meter.wrote t.meter 5 c (w64 (s.meter.cal + 1))) ∧
  ∀ (s : State) (n seq cal : Nat) (p : List Word), s.meter.newTime = none → s.meter.backup = false → seq < 256 → cal < 2 ^ 64 →
    s.meter.cal % 4096 + n < 4096 → s.meter.cal + n < 2 ^ 64 →
    let m : Meter := { s.meter with cal := s.meter.cal + n }
    let head (status len t : Nat) := pack [(31, 24, status), (23, 16, len), (15, 8, seq), (7, 0, 0x80 + t)]
    let closed := m.sealOpen = false ∨ 1023 ≤ m.eventCount
    let gives (g : Meter) (r : List Word) : Meter := { g with calAnswer := r, calLine := g.calLine.send (frameBits r) }
    (∀ r, m.keptCal = some (seq, r) →
      Meters (.paramWrite n seq p) s (gives m r) ∧ Meters (.timeSet n seq cal) s (gives m r) ∧
      Meters (.paramRead seq) s (gives s.meter r)) ∧
    (m.keptCal.map Prod.fst ≠ some seq →
      (closed ∨ 32 ≤ m.params.length → Meters (.paramWrite n seq p) s (gives m [head 2 0 0x40])) ∧
      (¬ closed → m.params.length < 32 → p.length = 4 → onlyBits (wd p 3) [(15, 0)] = false → Meters (.paramWrite n seq p) s (gives m [head 3 0 0x40])) ∧
      (¬ closed → m.params.length < 32 → p.length = 4 → onlyBits (wd p 3) [(15, 0)] = true → Yields (.paramWrite n seq p) s fun t =>
        t.meter.params = m.params ++ [p] ∧ t.meter.inForce = m.inForce ∧ t.meter.eventCount = m.eventCount + 1 ∧ t.meter.calAnswer = [head 0 0 0x40] ∧
        t.meter.keptCal = some (seq, [head 0 0 0x40]) ∧ t.meter.energy = m.energy ∧ m.wrote t.meter 4 m.cal (wd (Config.sha512 (bytesOf p 32)) 0)) ∧
      (closed → Meters (.timeSet n seq cal) s (gives m [head 2 0 0x41])) ∧
      (¬ closed → Meters (.timeSet n seq cal) s
        (gives { m with eventCount := m.eventCount + 1, newTime := some cal, keptCal := some (seq, [head 0 0 0x41]) } [head 0 0 0x41])) ∧
      (m.sealOpen = false → Meters (.paramRead seq) s (gives s.meter [head 2 0 0x42])) ∧
      (m.sealOpen = true → Meters (.paramRead seq) s
        (let r := head 0 40 0x42 :: (m.inForceSet ++ [w64 (m.inForce - 1)]); gives { s.meter with keptCal := some (seq, r) } r)))

/-- R506: the burnt bits of EVENT_COUNT. -/
def Obligations.EventCountBurnsOncePerChange : Prop :=
  ∀ s : State,
    (∀ (i : Instr) (t : State), exec i s = .next t →
      let a := s.meter.eventCount
      let b := t.meter.eventCount
      (b = a ∨ ((∃ n q p, i = .paramWrite n q p) ∨ ∃ n q c, i = .timeSet n q c) ∧ a < 1023 ∧ b = a + 1) ∧
      (a ≤ 1023 → b ≤ 1023) ∧
      (t.meter.params ≠ s.meter.params → (∃ n q p, i = .paramWrite n q p ∧ t.meter.params = s.meter.params ++ [p]) ∧ b = a + 1) ∧
      (s.meter.newTime = none → t.meter.newTime ≠ none → (∃ n q c, i = .timeSet n q c) ∧ b = a + 1)) ∧
    ∀ n q c p, q < 256 → s.meter.backup = false → 1023 ≤ s.meter.eventCount → s.meter.keptCal.map Prod.fst ≠ some q →
      (∃ t, exec (.paramWrite n q p) s = .next t ∧ t.meter.calAnswer = [pack [(31, 24, 2), (15, 8, q), (7, 0, 0xC0)]]) ∧
      (∃ t, exec (.timeSet n q c) s = .next t ∧ t.meter.calAnswer = [pack [(31, 24, 2), (15, 8, q), (7, 0, 0xC1)]])

/-- The log invariant holds at reset. -/
def Obligations.LogIsAChainAtReset : Prop := State.reset.meter.LogInv

/-- The audit log's invariant is kept by every step. -/
def Obligations.AuditLogStaysAChain : Prop :=
  ∀ s t : State, s.meter.LogInv → step s = .next t → t.meter.LogInv

/-- COUNTER_SNAP, TRACE_ARM_RING, TRACE_ARM_ARM, TRACE_ARM_STOP, TRACE_ARM_CLEAR, TRACE_TRIGGER, TRACE_READ, WAITFOR_DUMP. -/
def Obligations.CountersTraceAndWaits : Prop :=
  (∀ (s : State) (c : Cmd) (mask : Nat) (device : Bool), s.fab.takes c = true → c.len = 8 → mask < 2 ^ 32 → wd c.pay 0 = pack [(31, 0, mask), (32, 32, b2n device)] →
    let f := s.fab.begun c 0x0B00
    let foreign := c.mbx < 32 ∧ (device = true ∨ ∃ p < 32, p ≠ c.mbx ∧ mask / 2 ^ p % 2 = 1)
    let waits (g : Fabric) : Fabric := { g with trc := { g.trc with snaps := g.trc.snaps ++ [(c.mbx, wd c.pay 0)] } }
    (¬ foreign → Goes (.counterSnap c) s (waits f)) ∧ (foreign → Goes (.counterSnap c) s (waits f.violate))) ∧
  (∀ (f : Fabric) (m mask : Nat) (device : Bool), mask < 2 ^ 32 → f.trc.snaps = [(m, pack [(31, 0, mask), (32, 32, b2n device)])] →
    (f.mbx m).env.own = true → (f.mbx m).accepted = true →
    let tenant := m < 32
    let coarse := f.conf && !decide tenant
    let mib (n : Nat) := w64 (if coarse then n % 2 ^ 64 / 2 ^ 20 * 2 ^ 20 else n)
    let count (n : Nat) := w64 (if coarse then n / 4096 * 4096 else n)
    let ticks (n : Nat) := w64 (if coarse then n / 15625 * 15625 else n)
    let sram (e : Nat × Nat) := pack [(63, 48, min e.1 65535), (47, 0, min e.2 (2 ^ 48 - 1))]
    let block (p : Nat) := let x := f.part p
      if x.disabled || f.partCount ≤ p then zeros 10
      else [pack [(63, 48, x.pResets)], ticks x.cnt.teBusy, ticks x.cnt.reBusy, ticks x.cnt.csBusy, count x.cnt.tlbHit, count x.cnt.tlbMiss, count x.cnt.walkDem,
            count x.cnt.walkPf, count x.cnt.pfault, sram (x.cnt.smUe, x.cnt.smCe)]
    let dev := if device && !decide tenant then
        [if coarse then 0 else w64 f.violations, mib f.hdp.rdBytes, mib f.hdp.wrBytes, count f.hdp.atoms, count (min f.hdp.replayBeats (2 ^ 64 - 1))] ++
          (List.range 6).map (fun k => sram (f.sram.get k (0, 0))) ++ (List.range 8).map (fun k => ticks (f.mcBusy.get k 0))
      else zeros 19
    f.tickCounts = ({ f with trc := { f.trc with snaps := [] } } : Fabric).complete m stOk (w64 f.tick)
      ([w64 f.tick, pack [(32, 32, b2n (coarse && (mask != 0 || device))), (31, 0, mask)], 0, 0] ++ dev ++
        (List.range 32).flatMap fun p => if mask / 2 ^ p % 2 = 1 ∧ (tenant → p = m) then block p else zeros 10) 2744) ∧
  (∀ (s : State) (c : Cmd) (k kind post : Nat) (v : Word), k < 8 → kind ≤ 5 → c.len = 24 → c.mbx = 32 →
    let t0 := s.fab.core k
    let words (act post : Nat) (v : Word) := [pack [(7, 0, 2 ^ k), (10, 8, act), (15, 12, kind)], w64 post, v]
    let given (mk : Cmd → Instr) (act post : Nat) (v : Word) (held : Bool) (t1 : CoreTrace) := let d := force c 10 8 act
      s.fab.takes d = true → d.pay = words act post v →
      (s.fab.conf = true → Goes (mk c) s (s.fab.answers d 0x0B01 (fun g => g.violate) stOk)) ∧
      (s.fab.conf = false → act ≤ 1 → t0.state = 4 → Goes (mk c) s (s.fab.answers d 0x0B01 id stBusy)) ∧
      (s.fab.conf = false → (act ≤ 1 → t0.state ≠ 4) → Yields (mk c) s fun t =>
        t.fab.core k = (if held then t0 else t1) ∧ (∀ j, j ≠ k → t.fab.core j = s.fab.core j) ∧ (t.fab.mbx 32).env.status = stOk ∧
        (t.fab.mbx 32).env.result0 = (if held then 0 else w64 (2 ^ k)) ∧ t.fab.parts = s.fab.parts ∧ t.meter = s.meter)
    given .traceArmRing 0 0 v (t0.state == 1) { state := 1, needSync := true, syncTick := s.fab.tick } ∧
    (1024 ≤ post → post ≤ 65536 → (kind = 0 → v = 0) → (kind = 2 → v.toNat < 256) → (kind = 3 → v.toNat < 65536) →
      given .traceArmArm 1 post v (t0.state == 2 && t0.post == post && t0.kind == kind && t0.value == v)
        { state := 2, post := post, kind := kind, value := v, needSync := true, syncTick := s.fab.tick }) ∧
    given .traceArmStop 2 0 v (t0.state != 1 && t0.state != 2) { t0 with state := 4 } ∧
    given .traceArmClear 3 0 v (t0 == {}) {}) ∧
  (∀ (s : State) (k : Nat) (v : Word) (a : TraceArm), s.fab.live = true → k < 8 → s.fab.trc.arms = [a] → a.cores = 2 ^ k → a.kind = 1 →
    (a.value = v → (s.fab.core k).state = 2 → 1024 ≤ (s.fab.core k).post → (s.fab.core k).winCount = 0 → Yields (.traceTrigger k v) s fun t => (t.fab.core k).state = 3 ∧ (t.fab.core k).cross = false ∧
      (t.fab.core k).ring = (s.fab.core k).ring ∧ t.fab.trc.origin = k ∧ t.fab.trc.trigTick = s.fab.tick ∧ t.fab.trc.arms = [] ∧ t.fab.parts = s.fab.parts) ∧
    (a.value ≠ v → Goes (.traceTrigger k v) s s.fab)) ∧
  (∀ (s : State) (c : Cmd) (k addr : Nat), s.fab.takes c = true → c.mbx = 32 → c.len = 16 → k < 8 → c.pay = [w64 k, pack [(47, 6, addr)]] → addr < 2 ^ 42 → s.fab.conf = false →
    let t0 := s.fab.core k
    (t0.state ∈ [1, 2, 3] → Goes (.traceRead c) s (s.fab.answers c 0x0B02 id stBusy)) ∧
    (t0.state ∈ [0, 4, 5] → t0.ring = [] → t0.win = [] → Goes (.traceRead c) s (s.fab.answers c 0x0B02 id stOk)) ∧
    (t0.state ∈ [0, 4, 5] → t0.ring ≠ [] ∨ t0.win ≠ [] → Yields (.traceRead c) s fun t => (t.fab.mbx 32).env.own = true ∧
      t.fab.trc.reads = s.fab.trc.reads ++ [{ mbx := 32, pend := (t0.ring.length + t0.win.length + 3) / 4, result := pack [(31, 0, t0.ring.length), (63, 32, t0.win.length)] }])) ∧
  ∀ (s : State) (c : Cmd) (p : Nat) (all : Bool), s.fab.takes c = true → c.mbx ≤ 33 → c.len = 8 → p < s.fab.partCount → p < 32 → c.pay = [pack [(57, 53, p), (48, 48, b2n all)]] →
    (c.mbx < 32 → all = true ∨ p ≠ c.mbx → Goes (.waitforDump c) s (s.fab.answers c 0x0B03 (fun g => g.violate) stOk 0 (zeros 8) 64)) ∧
    (32 ≤ c.mbx ∨ (all = false ∧ p = c.mbx) → Yields (.waitforDump c) s fun t => (t.fab.mbx c.mbx).env.status = stOk ∧ 64 ≤ (t.fab.mbx c.mbx).env.respLen ∧
      (t.fab.mbx c.mbx).env.respLen ≤ 4032 ∧ (t.fab.mbx c.mbx).env.respLen % 16 = 0 ∧ wd (t.fab.mbx c.mbx).pay 0 = w64 s.fab.tick ∧ t.fab.parts = s.fab.parts ∧
      t.fab.violations = s.fab.violations ∧ t.meter = s.meter)

/-- STATUS, REG_READ, MBX_WRITE, MBX_READ, ALERT_CLEAR, ALERT_RESPONSE_READ, SMBUS_BUS_TIMEOUT. -/
def Obligations.SmbusMessagesAnswer : Prop :=
  ∀ (s : State) (w : Word) (off len mask : Nat) (data : List Word),
    let f := s.fab
    let gives (ws : List Word) : Fabric := { f with pins := { f.pins with smbData := ws } }
    let all (pec : Bool) := [Instr.status pec, .regRead pec w, .mbxWrite pec off data, .mbxRead pec off len, .alertClear pec mask]
    (f.pins.powerGood = false → ∀ pec, ∀ i ∈ Instr.alertResponseRead pec :: all pec, Goes i s f) ∧
    Goes .smbusBusTimeout s (gives []) ∧
    (f.pins.powerGood = true →
      (∀ i ∈ all false, Goes i s (gives [])) ∧
      Goes (.status true) s (gives [pack [(55, 48, f.pins.faults.foldl max 0), (45, 45, b2n f.pins.trayReq), (44, 44, b2n (!f.pins.faults.isEmpty)), (43, 40, f.aon.stage),
        (39, 39, b2n (strapsOf f.pins.straps).valid), (38, 36, f.pins.straps / 2 ^ 36), (35, 34, f.pins.straps / 2 ^ 34), (33, 31, f.pins.straps / 2 ^ 31),
        (29, 15, f.pins.straps / 2 ^ 15), (14, 0, f.pins.straps)], w64 f.pins.alerts, f.mbxId]) ∧
      (∀ o, o < 2 ^ 26 → o % 8 = 0 → w = pack [(25, 0, o)] →
        (smbGrants o = true → Goes (.regRead true w) s (gives [f.reg o])) ∧
        (smbGrants o = false → Goes (.regRead true w) s { gives [0] with violations := min (f.violations + 1) (2 ^ 64 - 1) })) ∧
      (onlyBits w [(30, 0)] = false ∨ fld w 2 0 ≠ 0 → Goes (.regRead true w) s (gives [])) ∧
      (off % 8 = 0 → len % 8 = 0 → 8 ≤ len → len ≤ 240 → off + len ≤ 4096 → Goes (.mbxRead true off len) s
        (gives ((List.range (len / 8)).map fun i => (f.mbx 33).word (off / 8 + i)))) ∧
      (off % 8 ≠ 0 ∨ len % 8 ≠ 0 ∨ len < 8 ∨ 240 < len ∨ 4096 < off + len → Goes (.mbxRead true off len) s (gives [])) ∧
      ((f.mbx 33).env.own = true → Goes (.mbxWrite true off data) s (gives [])) ∧
      ((f.mbx 33).env.own = false → 64 ≤ off → off % 8 = 0 → data ≠ [] → data.length ≤ 30 → off + 8 * data.length ≤ 4096 → Yields (.mbxWrite true off data) s fun t =>
        (∀ i, i < data.length → (t.fab.mbx 33).word (off / 8 + i) = wd data i) ∧ (∀ i, i < off / 8 ∨ off / 8 + data.length ≤ i → (t.fab.mbx 33).word i = (f.mbx 33).word i) ∧
        t.fab.pins = { f.pins with smbData := [] } ∧ t.fab.parts = f.parts ∧ t.meter = s.meter) ∧
      (off ≤ 56 → off % 8 = 0 → 7 < off / 8 + data.length → off ≠ 0 ∨ data.length < 8 → bit (wd data (7 - off / 8)) 63 = true → Goes (.mbxWrite true off data) s (gives [])) ∧
      Yields (.alertClear true mask) s (fun t => (∀ i, i < 8 →
          t.fab.pins.alerts / 2 ^ i % 2 = (if mask / 2 ^ i % 2 = 1 then 0 else f.pins.alerts / 2 ^ i % 2) ∧
          t.fab.pins.fresh / 2 ^ i % 2 = (if mask / 2 ^ i % 2 = 1 then 0 else f.pins.fresh / 2 ^ i % 2)) ∧
        t.fab = { f with pins := { f.pins with alerts := t.fab.pins.alerts, fresh := t.fab.pins.fresh, smbData := [] } }) ∧
      (f.pins.fresh = 0 → ∀ won, Goes (.alertResponseRead won) s (gives [])) ∧ Goes (.alertResponseRead false) s (gives []) ∧
      (f.pins.fresh ≠ 0 → Goes (.alertResponseRead true) s
        { f with pins := { f.pins with fresh := 0, smbData := [w64 (2 * (0x58 + f.pins.straps / 2 ^ 36 % 8))] } }))
end

