-- ==== Sys2Proof/Laws/Maps.lean ====
section
/-!
SUPPORT. What a sparse map holds after its operations.
-/
namespace Sys2Proof

@[simp] theorem Map.get_nil {α : Type} (i : Nat) (d : α) : Map.get ([] : Map α) i d = d := rfl

@[simp] theorem Map.find_nil {α : Type} (i : Nat) : Map.find ([] : Map α) i = none := rfl

/-- An index that was set holds its value. -/
@[simp] theorem Map.get_set_same {α : Type} (m : Map α) (i : Nat) (v d : α) : Map.get (Map.set m i v) i d = v := by
  induction m with
  | nil => simp [Map.set, Map.get]
  | cons e m ih =>
    obtain ⟨k, w⟩ := e
    simp only [Map.set]
    split
    · simp [Map.get]
    · split
      · simp [Map.get]
      · simp [Map.get, ih]; intro h; contradiction

/-- Every other index holds what it held. -/
theorem Map.get_set_other {α : Type} (m : Map α) (i j : Nat) (v d : α) (h : i ≠ j) :
    Map.get (Map.set m i v) j d = Map.get m j d := by
  induction m with
  | nil => simp [Map.set, Map.get, h]
  | cons e m ih =>
    obtain ⟨k, w⟩ := e
    simp only [Map.set]
    split
    · rename_i hk; subst hk; simp [Map.get, h]
    · split
      · simp [Map.get, h]
      · simp [Map.get, ih]

/-- An index that was set is found. -/
@[simp] theorem Map.find_set_same {α : Type} (m : Map α) (i : Nat) (v : α) : Map.find (Map.set m i v) i = some v := by
  induction m with
  | nil => simp [Map.set, Map.find]
  | cons e m ih =>
    obtain ⟨k, w⟩ := e
    simp only [Map.set]
    split
    · simp [Map.find]
    · split
      · simp [Map.find]
      · simp [Map.find, ih]; intro h; contradiction

/-- Every other index is found as before. -/
theorem Map.find_set_other {α : Type} (m : Map α) (i j : Nat) (v : α) (h : i ≠ j) :
    Map.find (Map.set m i v) j = Map.find m j := by
  induction m with
  | nil => simp [Map.set, Map.find, h]
  | cons e m ih =>
    obtain ⟨k, w⟩ := e
    simp only [Map.set]
    split
    · rename_i hk; subst hk; simp [Map.find, h]
    · split
      · simp [Map.find, h]
      · simp [Map.find, ih]

/-- The later of two values set at an index stands. -/
@[simp] theorem Map.set_set {α : Type} (m : Map α) (i : Nat) (v w : α) : Map.set (Map.set m i v) i w = Map.set m i w := by
  induction m with
  | nil => simp [Map.set]
  | cons e m ih =>
    obtain ⟨k, x⟩ := e
    by_cases h : k = i
    · simp [Map.set, h]
    · by_cases h' : i < k
      · simp [Map.set, h, h']
      · simp [Map.set, h, h', ih]

end Sys2Proof
end

