-- ==== Sys2Proof/Laws/State.lean ====
section
/-!
SUPPORT. What each shared update of the fabric die leaves: one lemma per field per update, and the field that the update
changes.
-/
namespace Sys2Proof.Machine

/-! ### setMbx -/

@[simp] theorem Fabric.setMbx_tick (f : Fabric) (m : Nat) (b : Mailbox) : (f.setMbx m b).tick = f.tick := rfl
@[simp] theorem Fabric.setMbx_bell (f : Fabric) (m : Nat) (b : Mailbox) : (f.setMbx m b).bell = f.bell := rfl
@[simp] theorem Fabric.setMbx_bells (f : Fabric) (m : Nat) (b : Mailbox) : (f.setMbx m b).bells = f.bells := rfl
@[simp] theorem Fabric.setMbx_hdp (f : Fabric) (m : Nat) (b : Mailbox) : (f.setMbx m b).hdp = f.hdp := rfl
@[simp] theorem Fabric.setMbx_rings (f : Fabric) (m : Nat) (b : Mailbox) : (f.setMbx m b).rings = f.rings := rfl
@[simp] theorem Fabric.setMbx_accepts (f : Fabric) (m : Nat) (b : Mailbox) : (f.setMbx m b).accepts = f.accepts := rfl
@[simp] theorem Fabric.setMbx_waiting (f : Fabric) (m : Nat) (b : Mailbox) : (f.setMbx m b).waiting = f.waiting := rfl
@[simp] theorem Fabric.setMbx_ready (f : Fabric) (m : Nat) (b : Mailbox) : (f.setMbx m b).ready = f.ready := rfl
@[simp] theorem Fabric.setMbx_abi (f : Fabric) (m : Nat) (b : Mailbox) : (f.setMbx m b).abi = f.abi := rfl
@[simp] theorem Fabric.setMbx_major (f : Fabric) (m : Nat) (b : Mailbox) : (f.setMbx m b).major = f.major := rfl
@[simp] theorem Fabric.setMbx_minor (f : Fabric) (m : Nat) (b : Mailbox) : (f.setMbx m b).minor = f.minor := rfl
@[simp] theorem Fabric.setMbx_p28 (f : Fabric) (m : Nat) (b : Mailbox) : (f.setMbx m b).p28 = f.p28 := rfl
@[simp] theorem Fabric.setMbx_orders (f : Fabric) (m : Nat) (b : Mailbox) : (f.setMbx m b).orders = f.orders := rfl
@[simp] theorem Fabric.setMbx_nextOrder (f : Fabric) (m : Nat) (b : Mailbox) : (f.setMbx m b).nextOrder = f.nextOrder := rfl
@[simp] theorem Fabric.setMbx_violations (f : Fabric) (m : Nat) (b : Mailbox) : (f.setMbx m b).violations = f.violations := rfl
@[simp] theorem Fabric.setMbx_conf (f : Fabric) (m : Nat) (b : Mailbox) : (f.setMbx m b).conf = f.conf := rfl
@[simp] theorem Fabric.setMbx_aon (f : Fabric) (m : Nat) (b : Mailbox) : (f.setMbx m b).aon = f.aon := rfl
@[simp] theorem Fabric.setMbx_trc (f : Fabric) (m : Nat) (b : Mailbox) : (f.setMbx m b).trc = f.trc := rfl
@[simp] theorem Fabric.setMbx_pins (f : Fabric) (m : Nat) (b : Mailbox) : (f.setMbx m b).pins = f.pins := rfl
@[simp] theorem Fabric.setMbx_parts (f : Fabric) (m : Nat) (b : Mailbox) : (f.setMbx m b).parts = f.parts := rfl
@[simp] theorem Fabric.setMbx_win (f : Fabric) (m : Nat) (b : Mailbox) : (f.setMbx m b).win = f.win := rfl
@[simp] theorem Fabric.setMbx_drains (f : Fabric) (m : Nat) (b : Mailbox) : (f.setMbx m b).drains = f.drains := rfl
@[simp] theorem Fabric.setMbx_rtr (f : Fabric) (m : Nat) (b : Mailbox) : (f.setMbx m b).rtr = f.rtr := rfl
@[simp] theorem Fabric.setMbx_flow (f : Fabric) (m : Nat) (b : Mailbox) : (f.setMbx m b).flow = f.flow := rfl
@[simp] theorem Fabric.setMbx_ports (f : Fabric) (m : Nat) (b : Mailbox) : (f.setMbx m b).ports = f.ports := rfl
@[simp] theorem Fabric.setMbx_lanes (f : Fabric) (m : Nat) (b : Mailbox) : (f.setMbx m b).lanes = f.lanes := rfl
@[simp] theorem Fabric.setMbx_scanOps (f : Fabric) (m : Nat) (b : Mailbox) : (f.setMbx m b).scanOps = f.scanOps := rfl
@[simp] theorem Fabric.setMbx_portCtls (f : Fabric) (m : Nat) (b : Mailbox) : (f.setMbx m b).portCtls = f.portCtls := rfl
@[simp] theorem Fabric.setMbx_fixedRate (f : Fabric) (m : Nat) (b : Mailbox) : (f.setMbx m b).fixedRate = f.fixedRate := rfl
@[simp] theorem Fabric.setMbx_qmapSource (f : Fabric) (m : Nat) (b : Mailbox) : (f.setMbx m b).qmapSource = f.qmapSource := rfl
@[simp] theorem Fabric.setMbx_clk (f : Fabric) (m : Nat) (b : Mailbox) : (f.setMbx m b).clk = f.clk := rfl
@[simp] theorem Fabric.setMbx_pwr (f : Fabric) (m : Nat) (b : Mailbox) : (f.setMbx m b).pwr = f.pwr := rfl
@[simp] theorem Fabric.setMbx_flash (f : Fabric) (m : Nat) (b : Mailbox) : (f.setMbx m b).flash = f.flash := rfl
@[simp] theorem Fabric.setMbx_roll (f : Fabric) (m : Nat) (b : Mailbox) : (f.setMbx m b).roll = f.roll := rfl
@[simp] theorem Fabric.setMbx_ladder (f : Fabric) (m : Nat) (b : Mailbox) : (f.setMbx m b).ladder = f.ladder := rfl
@[simp] theorem Fabric.setMbx_prc (f : Fabric) (m : Nat) (b : Mailbox) : (f.setMbx m b).prc = f.prc := rfl
@[simp] theorem Fabric.setMbx_mtl (f : Fabric) (m : Nat) (b : Mailbox) : (f.setMbx m b).mtl = f.mtl := rfl
@[simp] theorem Fabric.setMbx_sram (f : Fabric) (m : Nat) (b : Mailbox) : (f.setMbx m b).sram = f.sram := rfl
@[simp] theorem Fabric.setMbx_mcBusy (f : Fabric) (m : Nat) (b : Mailbox) : (f.setMbx m b).mcBusy = f.mcBusy := rfl
@[simp] theorem Fabric.setMbx_wraps (f : Fabric) (m : Nat) (b : Mailbox) : (f.setMbx m b).wraps = f.wraps := rfl
@[simp] theorem Fabric.setMbx_free (f : Fabric) (m : Nat) (b : Mailbox) : (f.setMbx m b).free = f.free := rfl

/-! ### setRing -/

@[simp] theorem Fabric.setRing_tick (f : Fabric) (i : Nat) (r : Ring) : (f.setRing i r).tick = f.tick := rfl
@[simp] theorem Fabric.setRing_bell (f : Fabric) (i : Nat) (r : Ring) : (f.setRing i r).bell = f.bell := rfl
@[simp] theorem Fabric.setRing_bells (f : Fabric) (i : Nat) (r : Ring) : (f.setRing i r).bells = f.bells := rfl
@[simp] theorem Fabric.setRing_hdp (f : Fabric) (i : Nat) (r : Ring) : (f.setRing i r).hdp = f.hdp := rfl
@[simp] theorem Fabric.setRing_mbxs (f : Fabric) (i : Nat) (r : Ring) : (f.setRing i r).mbxs = f.mbxs := rfl
@[simp] theorem Fabric.setRing_accepts (f : Fabric) (i : Nat) (r : Ring) : (f.setRing i r).accepts = f.accepts := rfl
@[simp] theorem Fabric.setRing_waiting (f : Fabric) (i : Nat) (r : Ring) : (f.setRing i r).waiting = f.waiting := rfl
@[simp] theorem Fabric.setRing_ready (f : Fabric) (i : Nat) (r : Ring) : (f.setRing i r).ready = f.ready := rfl
@[simp] theorem Fabric.setRing_abi (f : Fabric) (i : Nat) (r : Ring) : (f.setRing i r).abi = f.abi := rfl
@[simp] theorem Fabric.setRing_major (f : Fabric) (i : Nat) (r : Ring) : (f.setRing i r).major = f.major := rfl
@[simp] theorem Fabric.setRing_minor (f : Fabric) (i : Nat) (r : Ring) : (f.setRing i r).minor = f.minor := rfl
@[simp] theorem Fabric.setRing_p28 (f : Fabric) (i : Nat) (r : Ring) : (f.setRing i r).p28 = f.p28 := rfl
@[simp] theorem Fabric.setRing_orders (f : Fabric) (i : Nat) (r : Ring) : (f.setRing i r).orders = f.orders := rfl
@[simp] theorem Fabric.setRing_nextOrder (f : Fabric) (i : Nat) (r : Ring) : (f.setRing i r).nextOrder = f.nextOrder := rfl
@[simp] theorem Fabric.setRing_violations (f : Fabric) (i : Nat) (r : Ring) : (f.setRing i r).violations = f.violations := rfl
@[simp] theorem Fabric.setRing_conf (f : Fabric) (i : Nat) (r : Ring) : (f.setRing i r).conf = f.conf := rfl
@[simp] theorem Fabric.setRing_aon (f : Fabric) (i : Nat) (r : Ring) : (f.setRing i r).aon = f.aon := rfl
@[simp] theorem Fabric.setRing_trc (f : Fabric) (i : Nat) (r : Ring) : (f.setRing i r).trc = f.trc := rfl
@[simp] theorem Fabric.setRing_pins (f : Fabric) (i : Nat) (r : Ring) : (f.setRing i r).pins = f.pins := rfl
@[simp] theorem Fabric.setRing_parts (f : Fabric) (i : Nat) (r : Ring) : (f.setRing i r).parts = f.parts := rfl
@[simp] theorem Fabric.setRing_win (f : Fabric) (i : Nat) (r : Ring) : (f.setRing i r).win = f.win := rfl
@[simp] theorem Fabric.setRing_drains (f : Fabric) (i : Nat) (r : Ring) : (f.setRing i r).drains = f.drains := rfl
@[simp] theorem Fabric.setRing_rtr (f : Fabric) (i : Nat) (r : Ring) : (f.setRing i r).rtr = f.rtr := rfl
@[simp] theorem Fabric.setRing_flow (f : Fabric) (i : Nat) (r : Ring) : (f.setRing i r).flow = f.flow := rfl
@[simp] theorem Fabric.setRing_ports (f : Fabric) (i : Nat) (r : Ring) : (f.setRing i r).ports = f.ports := rfl
@[simp] theorem Fabric.setRing_lanes (f : Fabric) (i : Nat) (r : Ring) : (f.setRing i r).lanes = f.lanes := rfl
@[simp] theorem Fabric.setRing_scanOps (f : Fabric) (i : Nat) (r : Ring) : (f.setRing i r).scanOps = f.scanOps := rfl
@[simp] theorem Fabric.setRing_portCtls (f : Fabric) (i : Nat) (r : Ring) : (f.setRing i r).portCtls = f.portCtls := rfl
@[simp] theorem Fabric.setRing_fixedRate (f : Fabric) (i : Nat) (r : Ring) : (f.setRing i r).fixedRate = f.fixedRate := rfl
@[simp] theorem Fabric.setRing_qmapSource (f : Fabric) (i : Nat) (r : Ring) : (f.setRing i r).qmapSource = f.qmapSource := rfl
@[simp] theorem Fabric.setRing_clk (f : Fabric) (i : Nat) (r : Ring) : (f.setRing i r).clk = f.clk := rfl
@[simp] theorem Fabric.setRing_pwr (f : Fabric) (i : Nat) (r : Ring) : (f.setRing i r).pwr = f.pwr := rfl
@[simp] theorem Fabric.setRing_flash (f : Fabric) (i : Nat) (r : Ring) : (f.setRing i r).flash = f.flash := rfl
@[simp] theorem Fabric.setRing_roll (f : Fabric) (i : Nat) (r : Ring) : (f.setRing i r).roll = f.roll := rfl
@[simp] theorem Fabric.setRing_ladder (f : Fabric) (i : Nat) (r : Ring) : (f.setRing i r).ladder = f.ladder := rfl
@[simp] theorem Fabric.setRing_prc (f : Fabric) (i : Nat) (r : Ring) : (f.setRing i r).prc = f.prc := rfl
@[simp] theorem Fabric.setRing_mtl (f : Fabric) (i : Nat) (r : Ring) : (f.setRing i r).mtl = f.mtl := rfl
@[simp] theorem Fabric.setRing_sram (f : Fabric) (i : Nat) (r : Ring) : (f.setRing i r).sram = f.sram := rfl
@[simp] theorem Fabric.setRing_mcBusy (f : Fabric) (i : Nat) (r : Ring) : (f.setRing i r).mcBusy = f.mcBusy := rfl
@[simp] theorem Fabric.setRing_wraps (f : Fabric) (i : Nat) (r : Ring) : (f.setRing i r).wraps = f.wraps := rfl
@[simp] theorem Fabric.setRing_free (f : Fabric) (i : Nat) (r : Ring) : (f.setRing i r).free = f.free := rfl

/-! ### setPart -/

@[simp] theorem Fabric.setPart_tick (f : Fabric) (p : Nat) (x : Part) : (f.setPart p x).tick = f.tick := rfl
@[simp] theorem Fabric.setPart_bell (f : Fabric) (p : Nat) (x : Part) : (f.setPart p x).bell = f.bell := rfl
@[simp] theorem Fabric.setPart_bells (f : Fabric) (p : Nat) (x : Part) : (f.setPart p x).bells = f.bells := rfl
@[simp] theorem Fabric.setPart_hdp (f : Fabric) (p : Nat) (x : Part) : (f.setPart p x).hdp = f.hdp := rfl
@[simp] theorem Fabric.setPart_mbxs (f : Fabric) (p : Nat) (x : Part) : (f.setPart p x).mbxs = f.mbxs := rfl
@[simp] theorem Fabric.setPart_rings (f : Fabric) (p : Nat) (x : Part) : (f.setPart p x).rings = f.rings := rfl
@[simp] theorem Fabric.setPart_accepts (f : Fabric) (p : Nat) (x : Part) : (f.setPart p x).accepts = f.accepts := rfl
@[simp] theorem Fabric.setPart_waiting (f : Fabric) (p : Nat) (x : Part) : (f.setPart p x).waiting = f.waiting := rfl
@[simp] theorem Fabric.setPart_ready (f : Fabric) (p : Nat) (x : Part) : (f.setPart p x).ready = f.ready := rfl
@[simp] theorem Fabric.setPart_abi (f : Fabric) (p : Nat) (x : Part) : (f.setPart p x).abi = f.abi := rfl
@[simp] theorem Fabric.setPart_major (f : Fabric) (p : Nat) (x : Part) : (f.setPart p x).major = f.major := rfl
@[simp] theorem Fabric.setPart_minor (f : Fabric) (p : Nat) (x : Part) : (f.setPart p x).minor = f.minor := rfl
@[simp] theorem Fabric.setPart_p28 (f : Fabric) (p : Nat) (x : Part) : (f.setPart p x).p28 = f.p28 := rfl
@[simp] theorem Fabric.setPart_orders (f : Fabric) (p : Nat) (x : Part) : (f.setPart p x).orders = f.orders := rfl
@[simp] theorem Fabric.setPart_nextOrder (f : Fabric) (p : Nat) (x : Part) : (f.setPart p x).nextOrder = f.nextOrder := rfl
@[simp] theorem Fabric.setPart_violations (f : Fabric) (p : Nat) (x : Part) : (f.setPart p x).violations = f.violations := rfl
@[simp] theorem Fabric.setPart_conf (f : Fabric) (p : Nat) (x : Part) : (f.setPart p x).conf = f.conf := rfl
@[simp] theorem Fabric.setPart_aon (f : Fabric) (p : Nat) (x : Part) : (f.setPart p x).aon = f.aon := rfl
@[simp] theorem Fabric.setPart_trc (f : Fabric) (p : Nat) (x : Part) : (f.setPart p x).trc = f.trc := rfl
@[simp] theorem Fabric.setPart_pins (f : Fabric) (p : Nat) (x : Part) : (f.setPart p x).pins = f.pins := rfl
@[simp] theorem Fabric.setPart_win (f : Fabric) (p : Nat) (x : Part) : (f.setPart p x).win = f.win := rfl
@[simp] theorem Fabric.setPart_drains (f : Fabric) (p : Nat) (x : Part) : (f.setPart p x).drains = f.drains := rfl
@[simp] theorem Fabric.setPart_rtr (f : Fabric) (p : Nat) (x : Part) : (f.setPart p x).rtr = f.rtr := rfl
@[simp] theorem Fabric.setPart_flow (f : Fabric) (p : Nat) (x : Part) : (f.setPart p x).flow = f.flow := rfl
@[simp] theorem Fabric.setPart_ports (f : Fabric) (p : Nat) (x : Part) : (f.setPart p x).ports = f.ports := rfl
@[simp] theorem Fabric.setPart_lanes (f : Fabric) (p : Nat) (x : Part) : (f.setPart p x).lanes = f.lanes := rfl
@[simp] theorem Fabric.setPart_scanOps (f : Fabric) (p : Nat) (x : Part) : (f.setPart p x).scanOps = f.scanOps := rfl
@[simp] theorem Fabric.setPart_portCtls (f : Fabric) (p : Nat) (x : Part) : (f.setPart p x).portCtls = f.portCtls := rfl
@[simp] theorem Fabric.setPart_fixedRate (f : Fabric) (p : Nat) (x : Part) : (f.setPart p x).fixedRate = f.fixedRate := rfl
@[simp] theorem Fabric.setPart_qmapSource (f : Fabric) (p : Nat) (x : Part) : (f.setPart p x).qmapSource = f.qmapSource := rfl
@[simp] theorem Fabric.setPart_clk (f : Fabric) (p : Nat) (x : Part) : (f.setPart p x).clk = f.clk := rfl
@[simp] theorem Fabric.setPart_pwr (f : Fabric) (p : Nat) (x : Part) : (f.setPart p x).pwr = f.pwr := rfl
@[simp] theorem Fabric.setPart_flash (f : Fabric) (p : Nat) (x : Part) : (f.setPart p x).flash = f.flash := rfl
@[simp] theorem Fabric.setPart_roll (f : Fabric) (p : Nat) (x : Part) : (f.setPart p x).roll = f.roll := rfl
@[simp] theorem Fabric.setPart_ladder (f : Fabric) (p : Nat) (x : Part) : (f.setPart p x).ladder = f.ladder := rfl
@[simp] theorem Fabric.setPart_prc (f : Fabric) (p : Nat) (x : Part) : (f.setPart p x).prc = f.prc := rfl
@[simp] theorem Fabric.setPart_mtl (f : Fabric) (p : Nat) (x : Part) : (f.setPart p x).mtl = f.mtl := rfl
@[simp] theorem Fabric.setPart_sram (f : Fabric) (p : Nat) (x : Part) : (f.setPart p x).sram = f.sram := rfl
@[simp] theorem Fabric.setPart_mcBusy (f : Fabric) (p : Nat) (x : Part) : (f.setPart p x).mcBusy = f.mcBusy := rfl
@[simp] theorem Fabric.setPart_wraps (f : Fabric) (p : Nat) (x : Part) : (f.setPart p x).wraps = f.wraps := rfl
@[simp] theorem Fabric.setPart_free (f : Fabric) (p : Nat) (x : Part) : (f.setPart p x).free = f.free := rfl

/-! ### updPart -/

@[simp] theorem Fabric.updPart_tick (f : Fabric) (p : Nat) (g : Part → Part) : (f.updPart p g).tick = f.tick := rfl
@[simp] theorem Fabric.updPart_bell (f : Fabric) (p : Nat) (g : Part → Part) : (f.updPart p g).bell = f.bell := rfl
@[simp] theorem Fabric.updPart_bells (f : Fabric) (p : Nat) (g : Part → Part) : (f.updPart p g).bells = f.bells := rfl
@[simp] theorem Fabric.updPart_hdp (f : Fabric) (p : Nat) (g : Part → Part) : (f.updPart p g).hdp = f.hdp := rfl
@[simp] theorem Fabric.updPart_mbxs (f : Fabric) (p : Nat) (g : Part → Part) : (f.updPart p g).mbxs = f.mbxs := rfl
@[simp] theorem Fabric.updPart_rings (f : Fabric) (p : Nat) (g : Part → Part) : (f.updPart p g).rings = f.rings := rfl
@[simp] theorem Fabric.updPart_accepts (f : Fabric) (p : Nat) (g : Part → Part) : (f.updPart p g).accepts = f.accepts := rfl
@[simp] theorem Fabric.updPart_waiting (f : Fabric) (p : Nat) (g : Part → Part) : (f.updPart p g).waiting = f.waiting := rfl
@[simp] theorem Fabric.updPart_ready (f : Fabric) (p : Nat) (g : Part → Part) : (f.updPart p g).ready = f.ready := rfl
@[simp] theorem Fabric.updPart_abi (f : Fabric) (p : Nat) (g : Part → Part) : (f.updPart p g).abi = f.abi := rfl
@[simp] theorem Fabric.updPart_major (f : Fabric) (p : Nat) (g : Part → Part) : (f.updPart p g).major = f.major := rfl
@[simp] theorem Fabric.updPart_minor (f : Fabric) (p : Nat) (g : Part → Part) : (f.updPart p g).minor = f.minor := rfl
@[simp] theorem Fabric.updPart_p28 (f : Fabric) (p : Nat) (g : Part → Part) : (f.updPart p g).p28 = f.p28 := rfl
@[simp] theorem Fabric.updPart_orders (f : Fabric) (p : Nat) (g : Part → Part) : (f.updPart p g).orders = f.orders := rfl
@[simp] theorem Fabric.updPart_nextOrder (f : Fabric) (p : Nat) (g : Part → Part) : (f.updPart p g).nextOrder = f.nextOrder := rfl
@[simp] theorem Fabric.updPart_violations (f : Fabric) (p : Nat) (g : Part → Part) : (f.updPart p g).violations = f.violations := rfl
@[simp] theorem Fabric.updPart_conf (f : Fabric) (p : Nat) (g : Part → Part) : (f.updPart p g).conf = f.conf := rfl
@[simp] theorem Fabric.updPart_aon (f : Fabric) (p : Nat) (g : Part → Part) : (f.updPart p g).aon = f.aon := rfl
@[simp] theorem Fabric.updPart_trc (f : Fabric) (p : Nat) (g : Part → Part) : (f.updPart p g).trc = f.trc := rfl
@[simp] theorem Fabric.updPart_pins (f : Fabric) (p : Nat) (g : Part → Part) : (f.updPart p g).pins = f.pins := rfl
@[simp] theorem Fabric.updPart_win (f : Fabric) (p : Nat) (g : Part → Part) : (f.updPart p g).win = f.win := rfl
@[simp] theorem Fabric.updPart_drains (f : Fabric) (p : Nat) (g : Part → Part) : (f.updPart p g).drains = f.drains := rfl
@[simp] theorem Fabric.updPart_rtr (f : Fabric) (p : Nat) (g : Part → Part) : (f.updPart p g).rtr = f.rtr := rfl
@[simp] theorem Fabric.updPart_flow (f : Fabric) (p : Nat) (g : Part → Part) : (f.updPart p g).flow = f.flow := rfl
@[simp] theorem Fabric.updPart_ports (f : Fabric) (p : Nat) (g : Part → Part) : (f.updPart p g).ports = f.ports := rfl
@[simp] theorem Fabric.updPart_lanes (f : Fabric) (p : Nat) (g : Part → Part) : (f.updPart p g).lanes = f.lanes := rfl
@[simp] theorem Fabric.updPart_scanOps (f : Fabric) (p : Nat) (g : Part → Part) : (f.updPart p g).scanOps = f.scanOps := rfl
@[simp] theorem Fabric.updPart_portCtls (f : Fabric) (p : Nat) (g : Part → Part) : (f.updPart p g).portCtls = f.portCtls := rfl
@[simp] theorem Fabric.updPart_fixedRate (f : Fabric) (p : Nat) (g : Part → Part) : (f.updPart p g).fixedRate = f.fixedRate := rfl
@[simp] theorem Fabric.updPart_qmapSource (f : Fabric) (p : Nat) (g : Part → Part) : (f.updPart p g).qmapSource = f.qmapSource := rfl
@[simp] theorem Fabric.updPart_clk (f : Fabric) (p : Nat) (g : Part → Part) : (f.updPart p g).clk = f.clk := rfl
@[simp] theorem Fabric.updPart_pwr (f : Fabric) (p : Nat) (g : Part → Part) : (f.updPart p g).pwr = f.pwr := rfl
@[simp] theorem Fabric.updPart_flash (f : Fabric) (p : Nat) (g : Part → Part) : (f.updPart p g).flash = f.flash := rfl
@[simp] theorem Fabric.updPart_roll (f : Fabric) (p : Nat) (g : Part → Part) : (f.updPart p g).roll = f.roll := rfl
@[simp] theorem Fabric.updPart_ladder (f : Fabric) (p : Nat) (g : Part → Part) : (f.updPart p g).ladder = f.ladder := rfl
@[simp] theorem Fabric.updPart_prc (f : Fabric) (p : Nat) (g : Part → Part) : (f.updPart p g).prc = f.prc := rfl
@[simp] theorem Fabric.updPart_mtl (f : Fabric) (p : Nat) (g : Part → Part) : (f.updPart p g).mtl = f.mtl := rfl
@[simp] theorem Fabric.updPart_sram (f : Fabric) (p : Nat) (g : Part → Part) : (f.updPart p g).sram = f.sram := rfl
@[simp] theorem Fabric.updPart_mcBusy (f : Fabric) (p : Nat) (g : Part → Part) : (f.updPart p g).mcBusy = f.mcBusy := rfl
@[simp] theorem Fabric.updPart_wraps (f : Fabric) (p : Nat) (g : Part → Part) : (f.updPart p g).wraps = f.wraps := rfl
@[simp] theorem Fabric.updPart_free (f : Fabric) (p : Nat) (g : Part → Part) : (f.updPart p g).free = f.free := rfl

/-! ### count -/

@[simp] theorem Fabric.count_tick (f : Fabric) (p : Nat) (g : PartCnt → PartCnt) : (f.count p g).tick = f.tick := rfl
@[simp] theorem Fabric.count_bell (f : Fabric) (p : Nat) (g : PartCnt → PartCnt) : (f.count p g).bell = f.bell := rfl
@[simp] theorem Fabric.count_bells (f : Fabric) (p : Nat) (g : PartCnt → PartCnt) : (f.count p g).bells = f.bells := rfl
@[simp] theorem Fabric.count_hdp (f : Fabric) (p : Nat) (g : PartCnt → PartCnt) : (f.count p g).hdp = f.hdp := rfl
@[simp] theorem Fabric.count_mbxs (f : Fabric) (p : Nat) (g : PartCnt → PartCnt) : (f.count p g).mbxs = f.mbxs := rfl
@[simp] theorem Fabric.count_rings (f : Fabric) (p : Nat) (g : PartCnt → PartCnt) : (f.count p g).rings = f.rings := rfl
@[simp] theorem Fabric.count_accepts (f : Fabric) (p : Nat) (g : PartCnt → PartCnt) : (f.count p g).accepts = f.accepts := rfl
@[simp] theorem Fabric.count_waiting (f : Fabric) (p : Nat) (g : PartCnt → PartCnt) : (f.count p g).waiting = f.waiting := rfl
@[simp] theorem Fabric.count_ready (f : Fabric) (p : Nat) (g : PartCnt → PartCnt) : (f.count p g).ready = f.ready := rfl
@[simp] theorem Fabric.count_abi (f : Fabric) (p : Nat) (g : PartCnt → PartCnt) : (f.count p g).abi = f.abi := rfl
@[simp] theorem Fabric.count_major (f : Fabric) (p : Nat) (g : PartCnt → PartCnt) : (f.count p g).major = f.major := rfl
@[simp] theorem Fabric.count_minor (f : Fabric) (p : Nat) (g : PartCnt → PartCnt) : (f.count p g).minor = f.minor := rfl
@[simp] theorem Fabric.count_p28 (f : Fabric) (p : Nat) (g : PartCnt → PartCnt) : (f.count p g).p28 = f.p28 := rfl
@[simp] theorem Fabric.count_orders (f : Fabric) (p : Nat) (g : PartCnt → PartCnt) : (f.count p g).orders = f.orders := rfl
@[simp] theorem Fabric.count_nextOrder (f : Fabric) (p : Nat) (g : PartCnt → PartCnt) : (f.count p g).nextOrder = f.nextOrder := rfl
@[simp] theorem Fabric.count_violations (f : Fabric) (p : Nat) (g : PartCnt → PartCnt) : (f.count p g).violations = f.violations := rfl
@[simp] theorem Fabric.count_conf (f : Fabric) (p : Nat) (g : PartCnt → PartCnt) : (f.count p g).conf = f.conf := rfl
@[simp] theorem Fabric.count_aon (f : Fabric) (p : Nat) (g : PartCnt → PartCnt) : (f.count p g).aon = f.aon := rfl
@[simp] theorem Fabric.count_trc (f : Fabric) (p : Nat) (g : PartCnt → PartCnt) : (f.count p g).trc = f.trc := rfl
@[simp] theorem Fabric.count_pins (f : Fabric) (p : Nat) (g : PartCnt → PartCnt) : (f.count p g).pins = f.pins := rfl
@[simp] theorem Fabric.count_win (f : Fabric) (p : Nat) (g : PartCnt → PartCnt) : (f.count p g).win = f.win := rfl
@[simp] theorem Fabric.count_drains (f : Fabric) (p : Nat) (g : PartCnt → PartCnt) : (f.count p g).drains = f.drains := rfl
@[simp] theorem Fabric.count_rtr (f : Fabric) (p : Nat) (g : PartCnt → PartCnt) : (f.count p g).rtr = f.rtr := rfl
@[simp] theorem Fabric.count_flow (f : Fabric) (p : Nat) (g : PartCnt → PartCnt) : (f.count p g).flow = f.flow := rfl
@[simp] theorem Fabric.count_ports (f : Fabric) (p : Nat) (g : PartCnt → PartCnt) : (f.count p g).ports = f.ports := rfl
@[simp] theorem Fabric.count_lanes (f : Fabric) (p : Nat) (g : PartCnt → PartCnt) : (f.count p g).lanes = f.lanes := rfl
@[simp] theorem Fabric.count_scanOps (f : Fabric) (p : Nat) (g : PartCnt → PartCnt) : (f.count p g).scanOps = f.scanOps := rfl
@[simp] theorem Fabric.count_portCtls (f : Fabric) (p : Nat) (g : PartCnt → PartCnt) : (f.count p g).portCtls = f.portCtls := rfl
@[simp] theorem Fabric.count_fixedRate (f : Fabric) (p : Nat) (g : PartCnt → PartCnt) : (f.count p g).fixedRate = f.fixedRate := rfl
@[simp] theorem Fabric.count_qmapSource (f : Fabric) (p : Nat) (g : PartCnt → PartCnt) : (f.count p g).qmapSource = f.qmapSource := rfl
@[simp] theorem Fabric.count_clk (f : Fabric) (p : Nat) (g : PartCnt → PartCnt) : (f.count p g).clk = f.clk := rfl
@[simp] theorem Fabric.count_pwr (f : Fabric) (p : Nat) (g : PartCnt → PartCnt) : (f.count p g).pwr = f.pwr := rfl
@[simp] theorem Fabric.count_flash (f : Fabric) (p : Nat) (g : PartCnt → PartCnt) : (f.count p g).flash = f.flash := rfl
@[simp] theorem Fabric.count_roll (f : Fabric) (p : Nat) (g : PartCnt → PartCnt) : (f.count p g).roll = f.roll := rfl
@[simp] theorem Fabric.count_ladder (f : Fabric) (p : Nat) (g : PartCnt → PartCnt) : (f.count p g).ladder = f.ladder := rfl
@[simp] theorem Fabric.count_prc (f : Fabric) (p : Nat) (g : PartCnt → PartCnt) : (f.count p g).prc = f.prc := rfl
@[simp] theorem Fabric.count_mtl (f : Fabric) (p : Nat) (g : PartCnt → PartCnt) : (f.count p g).mtl = f.mtl := rfl
@[simp] theorem Fabric.count_sram (f : Fabric) (p : Nat) (g : PartCnt → PartCnt) : (f.count p g).sram = f.sram := rfl
@[simp] theorem Fabric.count_mcBusy (f : Fabric) (p : Nat) (g : PartCnt → PartCnt) : (f.count p g).mcBusy = f.mcBusy := rfl
@[simp] theorem Fabric.count_wraps (f : Fabric) (p : Nat) (g : PartCnt → PartCnt) : (f.count p g).wraps = f.wraps := rfl
@[simp] theorem Fabric.count_free (f : Fabric) (p : Nat) (g : PartCnt → PartCnt) : (f.count p g).free = f.free := rfl

/-! ### updCtx -/

@[simp] theorem Fabric.updCtx_tick (f : Fabric) (t : Nat) (g : Ctx → Ctx) : (f.updCtx t g).tick = f.tick := rfl
@[simp] theorem Fabric.updCtx_bell (f : Fabric) (t : Nat) (g : Ctx → Ctx) : (f.updCtx t g).bell = f.bell := rfl
@[simp] theorem Fabric.updCtx_bells (f : Fabric) (t : Nat) (g : Ctx → Ctx) : (f.updCtx t g).bells = f.bells := rfl
@[simp] theorem Fabric.updCtx_hdp (f : Fabric) (t : Nat) (g : Ctx → Ctx) : (f.updCtx t g).hdp = f.hdp := rfl
@[simp] theorem Fabric.updCtx_mbxs (f : Fabric) (t : Nat) (g : Ctx → Ctx) : (f.updCtx t g).mbxs = f.mbxs := rfl
@[simp] theorem Fabric.updCtx_rings (f : Fabric) (t : Nat) (g : Ctx → Ctx) : (f.updCtx t g).rings = f.rings := rfl
@[simp] theorem Fabric.updCtx_accepts (f : Fabric) (t : Nat) (g : Ctx → Ctx) : (f.updCtx t g).accepts = f.accepts := rfl
@[simp] theorem Fabric.updCtx_waiting (f : Fabric) (t : Nat) (g : Ctx → Ctx) : (f.updCtx t g).waiting = f.waiting := rfl
@[simp] theorem Fabric.updCtx_ready (f : Fabric) (t : Nat) (g : Ctx → Ctx) : (f.updCtx t g).ready = f.ready := rfl
@[simp] theorem Fabric.updCtx_abi (f : Fabric) (t : Nat) (g : Ctx → Ctx) : (f.updCtx t g).abi = f.abi := rfl
@[simp] theorem Fabric.updCtx_major (f : Fabric) (t : Nat) (g : Ctx → Ctx) : (f.updCtx t g).major = f.major := rfl
@[simp] theorem Fabric.updCtx_minor (f : Fabric) (t : Nat) (g : Ctx → Ctx) : (f.updCtx t g).minor = f.minor := rfl
@[simp] theorem Fabric.updCtx_p28 (f : Fabric) (t : Nat) (g : Ctx → Ctx) : (f.updCtx t g).p28 = f.p28 := rfl
@[simp] theorem Fabric.updCtx_orders (f : Fabric) (t : Nat) (g : Ctx → Ctx) : (f.updCtx t g).orders = f.orders := rfl
@[simp] theorem Fabric.updCtx_nextOrder (f : Fabric) (t : Nat) (g : Ctx → Ctx) : (f.updCtx t g).nextOrder = f.nextOrder := rfl
@[simp] theorem Fabric.updCtx_violations (f : Fabric) (t : Nat) (g : Ctx → Ctx) : (f.updCtx t g).violations = f.violations := rfl
@[simp] theorem Fabric.updCtx_conf (f : Fabric) (t : Nat) (g : Ctx → Ctx) : (f.updCtx t g).conf = f.conf := rfl
@[simp] theorem Fabric.updCtx_aon (f : Fabric) (t : Nat) (g : Ctx → Ctx) : (f.updCtx t g).aon = f.aon := rfl
@[simp] theorem Fabric.updCtx_trc (f : Fabric) (t : Nat) (g : Ctx → Ctx) : (f.updCtx t g).trc = f.trc := rfl
@[simp] theorem Fabric.updCtx_pins (f : Fabric) (t : Nat) (g : Ctx → Ctx) : (f.updCtx t g).pins = f.pins := rfl
@[simp] theorem Fabric.updCtx_win (f : Fabric) (t : Nat) (g : Ctx → Ctx) : (f.updCtx t g).win = f.win := rfl
@[simp] theorem Fabric.updCtx_drains (f : Fabric) (t : Nat) (g : Ctx → Ctx) : (f.updCtx t g).drains = f.drains := rfl
@[simp] theorem Fabric.updCtx_rtr (f : Fabric) (t : Nat) (g : Ctx → Ctx) : (f.updCtx t g).rtr = f.rtr := rfl
@[simp] theorem Fabric.updCtx_flow (f : Fabric) (t : Nat) (g : Ctx → Ctx) : (f.updCtx t g).flow = f.flow := rfl
@[simp] theorem Fabric.updCtx_ports (f : Fabric) (t : Nat) (g : Ctx → Ctx) : (f.updCtx t g).ports = f.ports := rfl
@[simp] theorem Fabric.updCtx_lanes (f : Fabric) (t : Nat) (g : Ctx → Ctx) : (f.updCtx t g).lanes = f.lanes := rfl
@[simp] theorem Fabric.updCtx_scanOps (f : Fabric) (t : Nat) (g : Ctx → Ctx) : (f.updCtx t g).scanOps = f.scanOps := rfl
@[simp] theorem Fabric.updCtx_portCtls (f : Fabric) (t : Nat) (g : Ctx → Ctx) : (f.updCtx t g).portCtls = f.portCtls := rfl
@[simp] theorem Fabric.updCtx_fixedRate (f : Fabric) (t : Nat) (g : Ctx → Ctx) : (f.updCtx t g).fixedRate = f.fixedRate := rfl
@[simp] theorem Fabric.updCtx_qmapSource (f : Fabric) (t : Nat) (g : Ctx → Ctx) : (f.updCtx t g).qmapSource = f.qmapSource := rfl
@[simp] theorem Fabric.updCtx_clk (f : Fabric) (t : Nat) (g : Ctx → Ctx) : (f.updCtx t g).clk = f.clk := rfl
@[simp] theorem Fabric.updCtx_pwr (f : Fabric) (t : Nat) (g : Ctx → Ctx) : (f.updCtx t g).pwr = f.pwr := rfl
@[simp] theorem Fabric.updCtx_flash (f : Fabric) (t : Nat) (g : Ctx → Ctx) : (f.updCtx t g).flash = f.flash := rfl
@[simp] theorem Fabric.updCtx_roll (f : Fabric) (t : Nat) (g : Ctx → Ctx) : (f.updCtx t g).roll = f.roll := rfl
@[simp] theorem Fabric.updCtx_ladder (f : Fabric) (t : Nat) (g : Ctx → Ctx) : (f.updCtx t g).ladder = f.ladder := rfl
@[simp] theorem Fabric.updCtx_prc (f : Fabric) (t : Nat) (g : Ctx → Ctx) : (f.updCtx t g).prc = f.prc := rfl
@[simp] theorem Fabric.updCtx_mtl (f : Fabric) (t : Nat) (g : Ctx → Ctx) : (f.updCtx t g).mtl = f.mtl := rfl
@[simp] theorem Fabric.updCtx_sram (f : Fabric) (t : Nat) (g : Ctx → Ctx) : (f.updCtx t g).sram = f.sram := rfl
@[simp] theorem Fabric.updCtx_mcBusy (f : Fabric) (t : Nat) (g : Ctx → Ctx) : (f.updCtx t g).mcBusy = f.mcBusy := rfl
@[simp] theorem Fabric.updCtx_wraps (f : Fabric) (t : Nat) (g : Ctx → Ctx) : (f.updCtx t g).wraps = f.wraps := rfl
@[simp] theorem Fabric.updCtx_free (f : Fabric) (t : Nat) (g : Ctx → Ctx) : (f.updCtx t g).free = f.free := rfl

/-! ### updPort -/

@[simp] theorem Fabric.updPort_tick (f : Fabric) (k : Nat) (g : Port → Port) : (f.updPort k g).tick = f.tick := rfl
@[simp] theorem Fabric.updPort_bell (f : Fabric) (k : Nat) (g : Port → Port) : (f.updPort k g).bell = f.bell := rfl
@[simp] theorem Fabric.updPort_bells (f : Fabric) (k : Nat) (g : Port → Port) : (f.updPort k g).bells = f.bells := rfl
@[simp] theorem Fabric.updPort_hdp (f : Fabric) (k : Nat) (g : Port → Port) : (f.updPort k g).hdp = f.hdp := rfl
@[simp] theorem Fabric.updPort_mbxs (f : Fabric) (k : Nat) (g : Port → Port) : (f.updPort k g).mbxs = f.mbxs := rfl
@[simp] theorem Fabric.updPort_rings (f : Fabric) (k : Nat) (g : Port → Port) : (f.updPort k g).rings = f.rings := rfl
@[simp] theorem Fabric.updPort_accepts (f : Fabric) (k : Nat) (g : Port → Port) : (f.updPort k g).accepts = f.accepts := rfl
@[simp] theorem Fabric.updPort_waiting (f : Fabric) (k : Nat) (g : Port → Port) : (f.updPort k g).waiting = f.waiting := rfl
@[simp] theorem Fabric.updPort_ready (f : Fabric) (k : Nat) (g : Port → Port) : (f.updPort k g).ready = f.ready := rfl
@[simp] theorem Fabric.updPort_abi (f : Fabric) (k : Nat) (g : Port → Port) : (f.updPort k g).abi = f.abi := rfl
@[simp] theorem Fabric.updPort_major (f : Fabric) (k : Nat) (g : Port → Port) : (f.updPort k g).major = f.major := rfl
@[simp] theorem Fabric.updPort_minor (f : Fabric) (k : Nat) (g : Port → Port) : (f.updPort k g).minor = f.minor := rfl
@[simp] theorem Fabric.updPort_p28 (f : Fabric) (k : Nat) (g : Port → Port) : (f.updPort k g).p28 = f.p28 := rfl
@[simp] theorem Fabric.updPort_orders (f : Fabric) (k : Nat) (g : Port → Port) : (f.updPort k g).orders = f.orders := rfl
@[simp] theorem Fabric.updPort_nextOrder (f : Fabric) (k : Nat) (g : Port → Port) : (f.updPort k g).nextOrder = f.nextOrder := rfl
@[simp] theorem Fabric.updPort_violations (f : Fabric) (k : Nat) (g : Port → Port) : (f.updPort k g).violations = f.violations := rfl
@[simp] theorem Fabric.updPort_conf (f : Fabric) (k : Nat) (g : Port → Port) : (f.updPort k g).conf = f.conf := rfl
@[simp] theorem Fabric.updPort_aon (f : Fabric) (k : Nat) (g : Port → Port) : (f.updPort k g).aon = f.aon := rfl
@[simp] theorem Fabric.updPort_trc (f : Fabric) (k : Nat) (g : Port → Port) : (f.updPort k g).trc = f.trc := rfl
@[simp] theorem Fabric.updPort_pins (f : Fabric) (k : Nat) (g : Port → Port) : (f.updPort k g).pins = f.pins := rfl
@[simp] theorem Fabric.updPort_parts (f : Fabric) (k : Nat) (g : Port → Port) : (f.updPort k g).parts = f.parts := rfl
@[simp] theorem Fabric.updPort_win (f : Fabric) (k : Nat) (g : Port → Port) : (f.updPort k g).win = f.win := rfl
@[simp] theorem Fabric.updPort_drains (f : Fabric) (k : Nat) (g : Port → Port) : (f.updPort k g).drains = f.drains := rfl
@[simp] theorem Fabric.updPort_rtr (f : Fabric) (k : Nat) (g : Port → Port) : (f.updPort k g).rtr = f.rtr := rfl
@[simp] theorem Fabric.updPort_flow (f : Fabric) (k : Nat) (g : Port → Port) : (f.updPort k g).flow = f.flow := rfl
@[simp] theorem Fabric.updPort_lanes (f : Fabric) (k : Nat) (g : Port → Port) : (f.updPort k g).lanes = f.lanes := rfl
@[simp] theorem Fabric.updPort_scanOps (f : Fabric) (k : Nat) (g : Port → Port) : (f.updPort k g).scanOps = f.scanOps := rfl
@[simp] theorem Fabric.updPort_portCtls (f : Fabric) (k : Nat) (g : Port → Port) : (f.updPort k g).portCtls = f.portCtls := rfl
@[simp] theorem Fabric.updPort_fixedRate (f : Fabric) (k : Nat) (g : Port → Port) : (f.updPort k g).fixedRate = f.fixedRate := rfl
@[simp] theorem Fabric.updPort_qmapSource (f : Fabric) (k : Nat) (g : Port → Port) : (f.updPort k g).qmapSource = f.qmapSource := rfl
@[simp] theorem Fabric.updPort_clk (f : Fabric) (k : Nat) (g : Port → Port) : (f.updPort k g).clk = f.clk := rfl
@[simp] theorem Fabric.updPort_pwr (f : Fabric) (k : Nat) (g : Port → Port) : (f.updPort k g).pwr = f.pwr := rfl
@[simp] theorem Fabric.updPort_flash (f : Fabric) (k : Nat) (g : Port → Port) : (f.updPort k g).flash = f.flash := rfl
@[simp] theorem Fabric.updPort_roll (f : Fabric) (k : Nat) (g : Port → Port) : (f.updPort k g).roll = f.roll := rfl
@[simp] theorem Fabric.updPort_ladder (f : Fabric) (k : Nat) (g : Port → Port) : (f.updPort k g).ladder = f.ladder := rfl
@[simp] theorem Fabric.updPort_prc (f : Fabric) (k : Nat) (g : Port → Port) : (f.updPort k g).prc = f.prc := rfl
@[simp] theorem Fabric.updPort_mtl (f : Fabric) (k : Nat) (g : Port → Port) : (f.updPort k g).mtl = f.mtl := rfl
@[simp] theorem Fabric.updPort_sram (f : Fabric) (k : Nat) (g : Port → Port) : (f.updPort k g).sram = f.sram := rfl
@[simp] theorem Fabric.updPort_mcBusy (f : Fabric) (k : Nat) (g : Port → Port) : (f.updPort k g).mcBusy = f.mcBusy := rfl
@[simp] theorem Fabric.updPort_wraps (f : Fabric) (k : Nat) (g : Port → Port) : (f.updPort k g).wraps = f.wraps := rfl
@[simp] theorem Fabric.updPort_free (f : Fabric) (k : Nat) (g : Port → Port) : (f.updPort k g).free = f.free := rfl

/-! ### updLane -/

@[simp] theorem Fabric.updLane_tick (f : Fabric) (l : Nat) (g : Lane → Lane) : (f.updLane l g).tick = f.tick := rfl
@[simp] theorem Fabric.updLane_bell (f : Fabric) (l : Nat) (g : Lane → Lane) : (f.updLane l g).bell = f.bell := rfl
@[simp] theorem Fabric.updLane_bells (f : Fabric) (l : Nat) (g : Lane → Lane) : (f.updLane l g).bells = f.bells := rfl
@[simp] theorem Fabric.updLane_hdp (f : Fabric) (l : Nat) (g : Lane → Lane) : (f.updLane l g).hdp = f.hdp := rfl
@[simp] theorem Fabric.updLane_mbxs (f : Fabric) (l : Nat) (g : Lane → Lane) : (f.updLane l g).mbxs = f.mbxs := rfl
@[simp] theorem Fabric.updLane_rings (f : Fabric) (l : Nat) (g : Lane → Lane) : (f.updLane l g).rings = f.rings := rfl
@[simp] theorem Fabric.updLane_accepts (f : Fabric) (l : Nat) (g : Lane → Lane) : (f.updLane l g).accepts = f.accepts := rfl
@[simp] theorem Fabric.updLane_waiting (f : Fabric) (l : Nat) (g : Lane → Lane) : (f.updLane l g).waiting = f.waiting := rfl
@[simp] theorem Fabric.updLane_ready (f : Fabric) (l : Nat) (g : Lane → Lane) : (f.updLane l g).ready = f.ready := rfl
@[simp] theorem Fabric.updLane_abi (f : Fabric) (l : Nat) (g : Lane → Lane) : (f.updLane l g).abi = f.abi := rfl
@[simp] theorem Fabric.updLane_major (f : Fabric) (l : Nat) (g : Lane → Lane) : (f.updLane l g).major = f.major := rfl
@[simp] theorem Fabric.updLane_minor (f : Fabric) (l : Nat) (g : Lane → Lane) : (f.updLane l g).minor = f.minor := rfl
@[simp] theorem Fabric.updLane_p28 (f : Fabric) (l : Nat) (g : Lane → Lane) : (f.updLane l g).p28 = f.p28 := rfl
@[simp] theorem Fabric.updLane_orders (f : Fabric) (l : Nat) (g : Lane → Lane) : (f.updLane l g).orders = f.orders := rfl
@[simp] theorem Fabric.updLane_nextOrder (f : Fabric) (l : Nat) (g : Lane → Lane) : (f.updLane l g).nextOrder = f.nextOrder := rfl
@[simp] theorem Fabric.updLane_violations (f : Fabric) (l : Nat) (g : Lane → Lane) : (f.updLane l g).violations = f.violations := rfl
@[simp] theorem Fabric.updLane_conf (f : Fabric) (l : Nat) (g : Lane → Lane) : (f.updLane l g).conf = f.conf := rfl
@[simp] theorem Fabric.updLane_aon (f : Fabric) (l : Nat) (g : Lane → Lane) : (f.updLane l g).aon = f.aon := rfl
@[simp] theorem Fabric.updLane_trc (f : Fabric) (l : Nat) (g : Lane → Lane) : (f.updLane l g).trc = f.trc := rfl
@[simp] theorem Fabric.updLane_pins (f : Fabric) (l : Nat) (g : Lane → Lane) : (f.updLane l g).pins = f.pins := rfl
@[simp] theorem Fabric.updLane_parts (f : Fabric) (l : Nat) (g : Lane → Lane) : (f.updLane l g).parts = f.parts := rfl
@[simp] theorem Fabric.updLane_win (f : Fabric) (l : Nat) (g : Lane → Lane) : (f.updLane l g).win = f.win := rfl
@[simp] theorem Fabric.updLane_drains (f : Fabric) (l : Nat) (g : Lane → Lane) : (f.updLane l g).drains = f.drains := rfl
@[simp] theorem Fabric.updLane_rtr (f : Fabric) (l : Nat) (g : Lane → Lane) : (f.updLane l g).rtr = f.rtr := rfl
@[simp] theorem Fabric.updLane_flow (f : Fabric) (l : Nat) (g : Lane → Lane) : (f.updLane l g).flow = f.flow := rfl
@[simp] theorem Fabric.updLane_ports (f : Fabric) (l : Nat) (g : Lane → Lane) : (f.updLane l g).ports = f.ports := rfl
@[simp] theorem Fabric.updLane_scanOps (f : Fabric) (l : Nat) (g : Lane → Lane) : (f.updLane l g).scanOps = f.scanOps := rfl
@[simp] theorem Fabric.updLane_portCtls (f : Fabric) (l : Nat) (g : Lane → Lane) : (f.updLane l g).portCtls = f.portCtls := rfl
@[simp] theorem Fabric.updLane_fixedRate (f : Fabric) (l : Nat) (g : Lane → Lane) : (f.updLane l g).fixedRate = f.fixedRate := rfl
@[simp] theorem Fabric.updLane_qmapSource (f : Fabric) (l : Nat) (g : Lane → Lane) : (f.updLane l g).qmapSource = f.qmapSource := rfl
@[simp] theorem Fabric.updLane_clk (f : Fabric) (l : Nat) (g : Lane → Lane) : (f.updLane l g).clk = f.clk := rfl
@[simp] theorem Fabric.updLane_pwr (f : Fabric) (l : Nat) (g : Lane → Lane) : (f.updLane l g).pwr = f.pwr := rfl
@[simp] theorem Fabric.updLane_flash (f : Fabric) (l : Nat) (g : Lane → Lane) : (f.updLane l g).flash = f.flash := rfl
@[simp] theorem Fabric.updLane_roll (f : Fabric) (l : Nat) (g : Lane → Lane) : (f.updLane l g).roll = f.roll := rfl
@[simp] theorem Fabric.updLane_ladder (f : Fabric) (l : Nat) (g : Lane → Lane) : (f.updLane l g).ladder = f.ladder := rfl
@[simp] theorem Fabric.updLane_prc (f : Fabric) (l : Nat) (g : Lane → Lane) : (f.updLane l g).prc = f.prc := rfl
@[simp] theorem Fabric.updLane_mtl (f : Fabric) (l : Nat) (g : Lane → Lane) : (f.updLane l g).mtl = f.mtl := rfl
@[simp] theorem Fabric.updLane_sram (f : Fabric) (l : Nat) (g : Lane → Lane) : (f.updLane l g).sram = f.sram := rfl
@[simp] theorem Fabric.updLane_mcBusy (f : Fabric) (l : Nat) (g : Lane → Lane) : (f.updLane l g).mcBusy = f.mcBusy := rfl
@[simp] theorem Fabric.updLane_wraps (f : Fabric) (l : Nat) (g : Lane → Lane) : (f.updLane l g).wraps = f.wraps := rfl
@[simp] theorem Fabric.updLane_free (f : Fabric) (l : Nat) (g : Lane → Lane) : (f.updLane l g).free = f.free := rfl

/-! ### updEntry -/

@[simp] theorem Fabric.updEntry_tick (f : Fabric) (p e : Nat) (g : CounterEntry → CounterEntry) : (f.updEntry p e g).tick = f.tick := rfl
@[simp] theorem Fabric.updEntry_bell (f : Fabric) (p e : Nat) (g : CounterEntry → CounterEntry) : (f.updEntry p e g).bell = f.bell := rfl
@[simp] theorem Fabric.updEntry_bells (f : Fabric) (p e : Nat) (g : CounterEntry → CounterEntry) : (f.updEntry p e g).bells = f.bells := rfl
@[simp] theorem Fabric.updEntry_hdp (f : Fabric) (p e : Nat) (g : CounterEntry → CounterEntry) : (f.updEntry p e g).hdp = f.hdp := rfl
@[simp] theorem Fabric.updEntry_mbxs (f : Fabric) (p e : Nat) (g : CounterEntry → CounterEntry) : (f.updEntry p e g).mbxs = f.mbxs := rfl
@[simp] theorem Fabric.updEntry_rings (f : Fabric) (p e : Nat) (g : CounterEntry → CounterEntry) : (f.updEntry p e g).rings = f.rings := rfl
@[simp] theorem Fabric.updEntry_accepts (f : Fabric) (p e : Nat) (g : CounterEntry → CounterEntry) : (f.updEntry p e g).accepts = f.accepts := rfl
@[simp] theorem Fabric.updEntry_waiting (f : Fabric) (p e : Nat) (g : CounterEntry → CounterEntry) : (f.updEntry p e g).waiting = f.waiting := rfl
@[simp] theorem Fabric.updEntry_ready (f : Fabric) (p e : Nat) (g : CounterEntry → CounterEntry) : (f.updEntry p e g).ready = f.ready := rfl
@[simp] theorem Fabric.updEntry_abi (f : Fabric) (p e : Nat) (g : CounterEntry → CounterEntry) : (f.updEntry p e g).abi = f.abi := rfl
@[simp] theorem Fabric.updEntry_major (f : Fabric) (p e : Nat) (g : CounterEntry → CounterEntry) : (f.updEntry p e g).major = f.major := rfl
@[simp] theorem Fabric.updEntry_minor (f : Fabric) (p e : Nat) (g : CounterEntry → CounterEntry) : (f.updEntry p e g).minor = f.minor := rfl
@[simp] theorem Fabric.updEntry_p28 (f : Fabric) (p e : Nat) (g : CounterEntry → CounterEntry) : (f.updEntry p e g).p28 = f.p28 := rfl
@[simp] theorem Fabric.updEntry_orders (f : Fabric) (p e : Nat) (g : CounterEntry → CounterEntry) : (f.updEntry p e g).orders = f.orders := rfl
@[simp] theorem Fabric.updEntry_nextOrder (f : Fabric) (p e : Nat) (g : CounterEntry → CounterEntry) : (f.updEntry p e g).nextOrder = f.nextOrder := rfl
@[simp] theorem Fabric.updEntry_violations (f : Fabric) (p e : Nat) (g : CounterEntry → CounterEntry) : (f.updEntry p e g).violations = f.violations := rfl
@[simp] theorem Fabric.updEntry_conf (f : Fabric) (p e : Nat) (g : CounterEntry → CounterEntry) : (f.updEntry p e g).conf = f.conf := rfl
@[simp] theorem Fabric.updEntry_aon (f : Fabric) (p e : Nat) (g : CounterEntry → CounterEntry) : (f.updEntry p e g).aon = f.aon := rfl
@[simp] theorem Fabric.updEntry_trc (f : Fabric) (p e : Nat) (g : CounterEntry → CounterEntry) : (f.updEntry p e g).trc = f.trc := rfl
@[simp] theorem Fabric.updEntry_pins (f : Fabric) (p e : Nat) (g : CounterEntry → CounterEntry) : (f.updEntry p e g).pins = f.pins := rfl
@[simp] theorem Fabric.updEntry_win (f : Fabric) (p e : Nat) (g : CounterEntry → CounterEntry) : (f.updEntry p e g).win = f.win := rfl
@[simp] theorem Fabric.updEntry_drains (f : Fabric) (p e : Nat) (g : CounterEntry → CounterEntry) : (f.updEntry p e g).drains = f.drains := rfl
@[simp] theorem Fabric.updEntry_rtr (f : Fabric) (p e : Nat) (g : CounterEntry → CounterEntry) : (f.updEntry p e g).rtr = f.rtr := rfl
@[simp] theorem Fabric.updEntry_flow (f : Fabric) (p e : Nat) (g : CounterEntry → CounterEntry) : (f.updEntry p e g).flow = f.flow := rfl
@[simp] theorem Fabric.updEntry_ports (f : Fabric) (p e : Nat) (g : CounterEntry → CounterEntry) : (f.updEntry p e g).ports = f.ports := rfl
@[simp] theorem Fabric.updEntry_lanes (f : Fabric) (p e : Nat) (g : CounterEntry → CounterEntry) : (f.updEntry p e g).lanes = f.lanes := rfl
@[simp] theorem Fabric.updEntry_scanOps (f : Fabric) (p e : Nat) (g : CounterEntry → CounterEntry) : (f.updEntry p e g).scanOps = f.scanOps := rfl
@[simp] theorem Fabric.updEntry_portCtls (f : Fabric) (p e : Nat) (g : CounterEntry → CounterEntry) : (f.updEntry p e g).portCtls = f.portCtls := rfl
@[simp] theorem Fabric.updEntry_fixedRate (f : Fabric) (p e : Nat) (g : CounterEntry → CounterEntry) : (f.updEntry p e g).fixedRate = f.fixedRate := rfl
@[simp] theorem Fabric.updEntry_qmapSource (f : Fabric) (p e : Nat) (g : CounterEntry → CounterEntry) : (f.updEntry p e g).qmapSource = f.qmapSource := rfl
@[simp] theorem Fabric.updEntry_clk (f : Fabric) (p e : Nat) (g : CounterEntry → CounterEntry) : (f.updEntry p e g).clk = f.clk := rfl
@[simp] theorem Fabric.updEntry_pwr (f : Fabric) (p e : Nat) (g : CounterEntry → CounterEntry) : (f.updEntry p e g).pwr = f.pwr := rfl
@[simp] theorem Fabric.updEntry_flash (f : Fabric) (p e : Nat) (g : CounterEntry → CounterEntry) : (f.updEntry p e g).flash = f.flash := rfl
@[simp] theorem Fabric.updEntry_roll (f : Fabric) (p e : Nat) (g : CounterEntry → CounterEntry) : (f.updEntry p e g).roll = f.roll := rfl
@[simp] theorem Fabric.updEntry_ladder (f : Fabric) (p e : Nat) (g : CounterEntry → CounterEntry) : (f.updEntry p e g).ladder = f.ladder := rfl
@[simp] theorem Fabric.updEntry_prc (f : Fabric) (p e : Nat) (g : CounterEntry → CounterEntry) : (f.updEntry p e g).prc = f.prc := rfl
@[simp] theorem Fabric.updEntry_mtl (f : Fabric) (p e : Nat) (g : CounterEntry → CounterEntry) : (f.updEntry p e g).mtl = f.mtl := rfl
@[simp] theorem Fabric.updEntry_sram (f : Fabric) (p e : Nat) (g : CounterEntry → CounterEntry) : (f.updEntry p e g).sram = f.sram := rfl
@[simp] theorem Fabric.updEntry_mcBusy (f : Fabric) (p e : Nat) (g : CounterEntry → CounterEntry) : (f.updEntry p e g).mcBusy = f.mcBusy := rfl
@[simp] theorem Fabric.updEntry_wraps (f : Fabric) (p e : Nat) (g : CounterEntry → CounterEntry) : (f.updEntry p e g).wraps = f.wraps := rfl
@[simp] theorem Fabric.updEntry_free (f : Fabric) (p e : Nat) (g : CounterEntry → CounterEntry) : (f.updEntry p e g).free = f.free := rfl

/-! ### violate -/

@[simp] theorem Fabric.violate_tick (f : Fabric) : f.violate.tick = f.tick := rfl
@[simp] theorem Fabric.violate_bell (f : Fabric) : f.violate.bell = f.bell := rfl
@[simp] theorem Fabric.violate_bells (f : Fabric) : f.violate.bells = f.bells := rfl
@[simp] theorem Fabric.violate_hdp (f : Fabric) : f.violate.hdp = f.hdp := rfl
@[simp] theorem Fabric.violate_mbxs (f : Fabric) : f.violate.mbxs = f.mbxs := rfl
@[simp] theorem Fabric.violate_rings (f : Fabric) : f.violate.rings = f.rings := rfl
@[simp] theorem Fabric.violate_accepts (f : Fabric) : f.violate.accepts = f.accepts := rfl
@[simp] theorem Fabric.violate_waiting (f : Fabric) : f.violate.waiting = f.waiting := rfl
@[simp] theorem Fabric.violate_ready (f : Fabric) : f.violate.ready = f.ready := rfl
@[simp] theorem Fabric.violate_abi (f : Fabric) : f.violate.abi = f.abi := rfl
@[simp] theorem Fabric.violate_major (f : Fabric) : f.violate.major = f.major := rfl
@[simp] theorem Fabric.violate_minor (f : Fabric) : f.violate.minor = f.minor := rfl
@[simp] theorem Fabric.violate_p28 (f : Fabric) : f.violate.p28 = f.p28 := rfl
@[simp] theorem Fabric.violate_orders (f : Fabric) : f.violate.orders = f.orders := rfl
@[simp] theorem Fabric.violate_nextOrder (f : Fabric) : f.violate.nextOrder = f.nextOrder := rfl
@[simp] theorem Fabric.violate_conf (f : Fabric) : f.violate.conf = f.conf := rfl
@[simp] theorem Fabric.violate_aon (f : Fabric) : f.violate.aon = f.aon := rfl
@[simp] theorem Fabric.violate_trc (f : Fabric) : f.violate.trc = f.trc := rfl
@[simp] theorem Fabric.violate_pins (f : Fabric) : f.violate.pins = f.pins := rfl
@[simp] theorem Fabric.violate_parts (f : Fabric) : f.violate.parts = f.parts := rfl
@[simp] theorem Fabric.violate_win (f : Fabric) : f.violate.win = f.win := rfl
@[simp] theorem Fabric.violate_drains (f : Fabric) : f.violate.drains = f.drains := rfl
@[simp] theorem Fabric.violate_rtr (f : Fabric) : f.violate.rtr = f.rtr := rfl
@[simp] theorem Fabric.violate_flow (f : Fabric) : f.violate.flow = f.flow := rfl
@[simp] theorem Fabric.violate_ports (f : Fabric) : f.violate.ports = f.ports := rfl
@[simp] theorem Fabric.violate_lanes (f : Fabric) : f.violate.lanes = f.lanes := rfl
@[simp] theorem Fabric.violate_scanOps (f : Fabric) : f.violate.scanOps = f.scanOps := rfl
@[simp] theorem Fabric.violate_portCtls (f : Fabric) : f.violate.portCtls = f.portCtls := rfl
@[simp] theorem Fabric.violate_fixedRate (f : Fabric) : f.violate.fixedRate = f.fixedRate := rfl
@[simp] theorem Fabric.violate_qmapSource (f : Fabric) : f.violate.qmapSource = f.qmapSource := rfl
@[simp] theorem Fabric.violate_clk (f : Fabric) : f.violate.clk = f.clk := rfl
@[simp] theorem Fabric.violate_pwr (f : Fabric) : f.violate.pwr = f.pwr := rfl
@[simp] theorem Fabric.violate_flash (f : Fabric) : f.violate.flash = f.flash := rfl
@[simp] theorem Fabric.violate_roll (f : Fabric) : f.violate.roll = f.roll := rfl
@[simp] theorem Fabric.violate_ladder (f : Fabric) : f.violate.ladder = f.ladder := rfl
@[simp] theorem Fabric.violate_prc (f : Fabric) : f.violate.prc = f.prc := rfl
@[simp] theorem Fabric.violate_mtl (f : Fabric) : f.violate.mtl = f.mtl := rfl
@[simp] theorem Fabric.violate_sram (f : Fabric) : f.violate.sram = f.sram := rfl
@[simp] theorem Fabric.violate_mcBusy (f : Fabric) : f.violate.mcBusy = f.mcBusy := rfl
@[simp] theorem Fabric.violate_wraps (f : Fabric) : f.violate.wraps = f.wraps := rfl
@[simp] theorem Fabric.violate_free (f : Fabric) : f.violate.free = f.free := rfl

/-! ### logAppend -/

@[simp] theorem Fabric.logAppend_tick (f : Fabric) (ws : List Word) : (f.logAppend ws).tick = f.tick := rfl
@[simp] theorem Fabric.logAppend_bell (f : Fabric) (ws : List Word) : (f.logAppend ws).bell = f.bell := rfl
@[simp] theorem Fabric.logAppend_bells (f : Fabric) (ws : List Word) : (f.logAppend ws).bells = f.bells := rfl
@[simp] theorem Fabric.logAppend_hdp (f : Fabric) (ws : List Word) : (f.logAppend ws).hdp = f.hdp := rfl
@[simp] theorem Fabric.logAppend_mbxs (f : Fabric) (ws : List Word) : (f.logAppend ws).mbxs = f.mbxs := rfl
@[simp] theorem Fabric.logAppend_rings (f : Fabric) (ws : List Word) : (f.logAppend ws).rings = f.rings := rfl
@[simp] theorem Fabric.logAppend_accepts (f : Fabric) (ws : List Word) : (f.logAppend ws).accepts = f.accepts := rfl
@[simp] theorem Fabric.logAppend_waiting (f : Fabric) (ws : List Word) : (f.logAppend ws).waiting = f.waiting := rfl
@[simp] theorem Fabric.logAppend_ready (f : Fabric) (ws : List Word) : (f.logAppend ws).ready = f.ready := rfl
@[simp] theorem Fabric.logAppend_abi (f : Fabric) (ws : List Word) : (f.logAppend ws).abi = f.abi := rfl
@[simp] theorem Fabric.logAppend_major (f : Fabric) (ws : List Word) : (f.logAppend ws).major = f.major := rfl
@[simp] theorem Fabric.logAppend_minor (f : Fabric) (ws : List Word) : (f.logAppend ws).minor = f.minor := rfl
@[simp] theorem Fabric.logAppend_p28 (f : Fabric) (ws : List Word) : (f.logAppend ws).p28 = f.p28 := rfl
@[simp] theorem Fabric.logAppend_orders (f : Fabric) (ws : List Word) : (f.logAppend ws).orders = f.orders := rfl
@[simp] theorem Fabric.logAppend_nextOrder (f : Fabric) (ws : List Word) : (f.logAppend ws).nextOrder = f.nextOrder := rfl
@[simp] theorem Fabric.logAppend_violations (f : Fabric) (ws : List Word) : (f.logAppend ws).violations = f.violations := rfl
@[simp] theorem Fabric.logAppend_conf (f : Fabric) (ws : List Word) : (f.logAppend ws).conf = f.conf := rfl
@[simp] theorem Fabric.logAppend_trc (f : Fabric) (ws : List Word) : (f.logAppend ws).trc = f.trc := rfl
@[simp] theorem Fabric.logAppend_pins (f : Fabric) (ws : List Word) : (f.logAppend ws).pins = f.pins := rfl
@[simp] theorem Fabric.logAppend_parts (f : Fabric) (ws : List Word) : (f.logAppend ws).parts = f.parts := rfl
@[simp] theorem Fabric.logAppend_win (f : Fabric) (ws : List Word) : (f.logAppend ws).win = f.win := rfl
@[simp] theorem Fabric.logAppend_drains (f : Fabric) (ws : List Word) : (f.logAppend ws).drains = f.drains := rfl
@[simp] theorem Fabric.logAppend_rtr (f : Fabric) (ws : List Word) : (f.logAppend ws).rtr = f.rtr := rfl
@[simp] theorem Fabric.logAppend_flow (f : Fabric) (ws : List Word) : (f.logAppend ws).flow = f.flow := rfl
@[simp] theorem Fabric.logAppend_ports (f : Fabric) (ws : List Word) : (f.logAppend ws).ports = f.ports := rfl
@[simp] theorem Fabric.logAppend_lanes (f : Fabric) (ws : List Word) : (f.logAppend ws).lanes = f.lanes := rfl
@[simp] theorem Fabric.logAppend_scanOps (f : Fabric) (ws : List Word) : (f.logAppend ws).scanOps = f.scanOps := rfl
@[simp] theorem Fabric.logAppend_portCtls (f : Fabric) (ws : List Word) : (f.logAppend ws).portCtls = f.portCtls := rfl
@[simp] theorem Fabric.logAppend_fixedRate (f : Fabric) (ws : List Word) : (f.logAppend ws).fixedRate = f.fixedRate := rfl
@[simp] theorem Fabric.logAppend_qmapSource (f : Fabric) (ws : List Word) : (f.logAppend ws).qmapSource = f.qmapSource := rfl
@[simp] theorem Fabric.logAppend_clk (f : Fabric) (ws : List Word) : (f.logAppend ws).clk = f.clk := rfl
@[simp] theorem Fabric.logAppend_pwr (f : Fabric) (ws : List Word) : (f.logAppend ws).pwr = f.pwr := rfl
@[simp] theorem Fabric.logAppend_flash (f : Fabric) (ws : List Word) : (f.logAppend ws).flash = f.flash := rfl
@[simp] theorem Fabric.logAppend_roll (f : Fabric) (ws : List Word) : (f.logAppend ws).roll = f.roll := rfl
@[simp] theorem Fabric.logAppend_ladder (f : Fabric) (ws : List Word) : (f.logAppend ws).ladder = f.ladder := rfl
@[simp] theorem Fabric.logAppend_prc (f : Fabric) (ws : List Word) : (f.logAppend ws).prc = f.prc := rfl
@[simp] theorem Fabric.logAppend_mtl (f : Fabric) (ws : List Word) : (f.logAppend ws).mtl = f.mtl := rfl
@[simp] theorem Fabric.logAppend_sram (f : Fabric) (ws : List Word) : (f.logAppend ws).sram = f.sram := rfl
@[simp] theorem Fabric.logAppend_mcBusy (f : Fabric) (ws : List Word) : (f.logAppend ws).mcBusy = f.mcBusy := rfl
@[simp] theorem Fabric.logAppend_wraps (f : Fabric) (ws : List Word) : (f.logAppend ws).wraps = f.wraps := rfl
@[simp] theorem Fabric.logAppend_free (f : Fabric) (ws : List Word) : (f.logAppend ws).free = f.free := rfl

/-! ### hdpSend -/

@[simp] theorem Fabric.hdpSend_tick (f : Fabric) (t : HdpTx) : (f.hdpSend t).tick = f.tick := rfl
@[simp] theorem Fabric.hdpSend_bell (f : Fabric) (t : HdpTx) : (f.hdpSend t).bell = f.bell := rfl
@[simp] theorem Fabric.hdpSend_bells (f : Fabric) (t : HdpTx) : (f.hdpSend t).bells = f.bells := rfl
@[simp] theorem Fabric.hdpSend_mbxs (f : Fabric) (t : HdpTx) : (f.hdpSend t).mbxs = f.mbxs := rfl
@[simp] theorem Fabric.hdpSend_rings (f : Fabric) (t : HdpTx) : (f.hdpSend t).rings = f.rings := rfl
@[simp] theorem Fabric.hdpSend_accepts (f : Fabric) (t : HdpTx) : (f.hdpSend t).accepts = f.accepts := rfl
@[simp] theorem Fabric.hdpSend_waiting (f : Fabric) (t : HdpTx) : (f.hdpSend t).waiting = f.waiting := rfl
@[simp] theorem Fabric.hdpSend_ready (f : Fabric) (t : HdpTx) : (f.hdpSend t).ready = f.ready := rfl
@[simp] theorem Fabric.hdpSend_abi (f : Fabric) (t : HdpTx) : (f.hdpSend t).abi = f.abi := rfl
@[simp] theorem Fabric.hdpSend_major (f : Fabric) (t : HdpTx) : (f.hdpSend t).major = f.major := rfl
@[simp] theorem Fabric.hdpSend_minor (f : Fabric) (t : HdpTx) : (f.hdpSend t).minor = f.minor := rfl
@[simp] theorem Fabric.hdpSend_p28 (f : Fabric) (t : HdpTx) : (f.hdpSend t).p28 = f.p28 := rfl
@[simp] theorem Fabric.hdpSend_orders (f : Fabric) (t : HdpTx) : (f.hdpSend t).orders = f.orders := rfl
@[simp] theorem Fabric.hdpSend_nextOrder (f : Fabric) (t : HdpTx) : (f.hdpSend t).nextOrder = f.nextOrder := rfl
@[simp] theorem Fabric.hdpSend_violations (f : Fabric) (t : HdpTx) : (f.hdpSend t).violations = f.violations := rfl
@[simp] theorem Fabric.hdpSend_conf (f : Fabric) (t : HdpTx) : (f.hdpSend t).conf = f.conf := rfl
@[simp] theorem Fabric.hdpSend_aon (f : Fabric) (t : HdpTx) : (f.hdpSend t).aon = f.aon := rfl
@[simp] theorem Fabric.hdpSend_trc (f : Fabric) (t : HdpTx) : (f.hdpSend t).trc = f.trc := rfl
@[simp] theorem Fabric.hdpSend_pins (f : Fabric) (t : HdpTx) : (f.hdpSend t).pins = f.pins := rfl
@[simp] theorem Fabric.hdpSend_parts (f : Fabric) (t : HdpTx) : (f.hdpSend t).parts = f.parts := rfl
@[simp] theorem Fabric.hdpSend_win (f : Fabric) (t : HdpTx) : (f.hdpSend t).win = f.win := rfl
@[simp] theorem Fabric.hdpSend_drains (f : Fabric) (t : HdpTx) : (f.hdpSend t).drains = f.drains := rfl
@[simp] theorem Fabric.hdpSend_rtr (f : Fabric) (t : HdpTx) : (f.hdpSend t).rtr = f.rtr := rfl
@[simp] theorem Fabric.hdpSend_flow (f : Fabric) (t : HdpTx) : (f.hdpSend t).flow = f.flow := rfl
@[simp] theorem Fabric.hdpSend_ports (f : Fabric) (t : HdpTx) : (f.hdpSend t).ports = f.ports := rfl
@[simp] theorem Fabric.hdpSend_lanes (f : Fabric) (t : HdpTx) : (f.hdpSend t).lanes = f.lanes := rfl
@[simp] theorem Fabric.hdpSend_scanOps (f : Fabric) (t : HdpTx) : (f.hdpSend t).scanOps = f.scanOps := rfl
@[simp] theorem Fabric.hdpSend_portCtls (f : Fabric) (t : HdpTx) : (f.hdpSend t).portCtls = f.portCtls := rfl
@[simp] theorem Fabric.hdpSend_fixedRate (f : Fabric) (t : HdpTx) : (f.hdpSend t).fixedRate = f.fixedRate := rfl
@[simp] theorem Fabric.hdpSend_qmapSource (f : Fabric) (t : HdpTx) : (f.hdpSend t).qmapSource = f.qmapSource := rfl
@[simp] theorem Fabric.hdpSend_clk (f : Fabric) (t : HdpTx) : (f.hdpSend t).clk = f.clk := rfl
@[simp] theorem Fabric.hdpSend_pwr (f : Fabric) (t : HdpTx) : (f.hdpSend t).pwr = f.pwr := rfl
@[simp] theorem Fabric.hdpSend_flash (f : Fabric) (t : HdpTx) : (f.hdpSend t).flash = f.flash := rfl
@[simp] theorem Fabric.hdpSend_roll (f : Fabric) (t : HdpTx) : (f.hdpSend t).roll = f.roll := rfl
@[simp] theorem Fabric.hdpSend_ladder (f : Fabric) (t : HdpTx) : (f.hdpSend t).ladder = f.ladder := rfl
@[simp] theorem Fabric.hdpSend_prc (f : Fabric) (t : HdpTx) : (f.hdpSend t).prc = f.prc := rfl
@[simp] theorem Fabric.hdpSend_mtl (f : Fabric) (t : HdpTx) : (f.hdpSend t).mtl = f.mtl := rfl
@[simp] theorem Fabric.hdpSend_sram (f : Fabric) (t : HdpTx) : (f.hdpSend t).sram = f.sram := rfl
@[simp] theorem Fabric.hdpSend_mcBusy (f : Fabric) (t : HdpTx) : (f.hdpSend t).mcBusy = f.mcBusy := rfl
@[simp] theorem Fabric.hdpSend_wraps (f : Fabric) (t : HdpTx) : (f.hdpSend t).wraps = f.wraps := rfl
@[simp] theorem Fabric.hdpSend_free (f : Fabric) (t : HdpTx) : (f.hdpSend t).free = f.free := rfl

/-! ### alert -/

@[simp] theorem Fabric.alert_tick (f : Fabric) (i : Nat) : (f.alert i).tick = f.tick := rfl
@[simp] theorem Fabric.alert_bell (f : Fabric) (i : Nat) : (f.alert i).bell = f.bell := rfl
@[simp] theorem Fabric.alert_bells (f : Fabric) (i : Nat) : (f.alert i).bells = f.bells := rfl
@[simp] theorem Fabric.alert_hdp (f : Fabric) (i : Nat) : (f.alert i).hdp = f.hdp := rfl
@[simp] theorem Fabric.alert_mbxs (f : Fabric) (i : Nat) : (f.alert i).mbxs = f.mbxs := rfl
@[simp] theorem Fabric.alert_rings (f : Fabric) (i : Nat) : (f.alert i).rings = f.rings := rfl
@[simp] theorem Fabric.alert_accepts (f : Fabric) (i : Nat) : (f.alert i).accepts = f.accepts := rfl
@[simp] theorem Fabric.alert_waiting (f : Fabric) (i : Nat) : (f.alert i).waiting = f.waiting := rfl
@[simp] theorem Fabric.alert_ready (f : Fabric) (i : Nat) : (f.alert i).ready = f.ready := rfl
@[simp] theorem Fabric.alert_abi (f : Fabric) (i : Nat) : (f.alert i).abi = f.abi := rfl
@[simp] theorem Fabric.alert_major (f : Fabric) (i : Nat) : (f.alert i).major = f.major := rfl
@[simp] theorem Fabric.alert_minor (f : Fabric) (i : Nat) : (f.alert i).minor = f.minor := rfl
@[simp] theorem Fabric.alert_p28 (f : Fabric) (i : Nat) : (f.alert i).p28 = f.p28 := rfl
@[simp] theorem Fabric.alert_orders (f : Fabric) (i : Nat) : (f.alert i).orders = f.orders := rfl
@[simp] theorem Fabric.alert_nextOrder (f : Fabric) (i : Nat) : (f.alert i).nextOrder = f.nextOrder := rfl
@[simp] theorem Fabric.alert_violations (f : Fabric) (i : Nat) : (f.alert i).violations = f.violations := rfl
@[simp] theorem Fabric.alert_conf (f : Fabric) (i : Nat) : (f.alert i).conf = f.conf := rfl
@[simp] theorem Fabric.alert_aon (f : Fabric) (i : Nat) : (f.alert i).aon = f.aon := rfl
@[simp] theorem Fabric.alert_trc (f : Fabric) (i : Nat) : (f.alert i).trc = f.trc := rfl
@[simp] theorem Fabric.alert_parts (f : Fabric) (i : Nat) : (f.alert i).parts = f.parts := rfl
@[simp] theorem Fabric.alert_win (f : Fabric) (i : Nat) : (f.alert i).win = f.win := rfl
@[simp] theorem Fabric.alert_drains (f : Fabric) (i : Nat) : (f.alert i).drains = f.drains := rfl
@[simp] theorem Fabric.alert_rtr (f : Fabric) (i : Nat) : (f.alert i).rtr = f.rtr := rfl
@[simp] theorem Fabric.alert_flow (f : Fabric) (i : Nat) : (f.alert i).flow = f.flow := rfl
@[simp] theorem Fabric.alert_ports (f : Fabric) (i : Nat) : (f.alert i).ports = f.ports := rfl
@[simp] theorem Fabric.alert_lanes (f : Fabric) (i : Nat) : (f.alert i).lanes = f.lanes := rfl
@[simp] theorem Fabric.alert_scanOps (f : Fabric) (i : Nat) : (f.alert i).scanOps = f.scanOps := rfl
@[simp] theorem Fabric.alert_portCtls (f : Fabric) (i : Nat) : (f.alert i).portCtls = f.portCtls := rfl
@[simp] theorem Fabric.alert_fixedRate (f : Fabric) (i : Nat) : (f.alert i).fixedRate = f.fixedRate := rfl
@[simp] theorem Fabric.alert_qmapSource (f : Fabric) (i : Nat) : (f.alert i).qmapSource = f.qmapSource := rfl
@[simp] theorem Fabric.alert_clk (f : Fabric) (i : Nat) : (f.alert i).clk = f.clk := rfl
@[simp] theorem Fabric.alert_pwr (f : Fabric) (i : Nat) : (f.alert i).pwr = f.pwr := rfl
@[simp] theorem Fabric.alert_flash (f : Fabric) (i : Nat) : (f.alert i).flash = f.flash := rfl
@[simp] theorem Fabric.alert_roll (f : Fabric) (i : Nat) : (f.alert i).roll = f.roll := rfl
@[simp] theorem Fabric.alert_ladder (f : Fabric) (i : Nat) : (f.alert i).ladder = f.ladder := rfl
@[simp] theorem Fabric.alert_prc (f : Fabric) (i : Nat) : (f.alert i).prc = f.prc := rfl
@[simp] theorem Fabric.alert_mtl (f : Fabric) (i : Nat) : (f.alert i).mtl = f.mtl := rfl
@[simp] theorem Fabric.alert_sram (f : Fabric) (i : Nat) : (f.alert i).sram = f.sram := rfl
@[simp] theorem Fabric.alert_mcBusy (f : Fabric) (i : Nat) : (f.alert i).mcBusy = f.mcBusy := rfl
@[simp] theorem Fabric.alert_wraps (f : Fabric) (i : Nat) : (f.alert i).wraps = f.wraps := rfl
@[simp] theorem Fabric.alert_free (f : Fabric) (i : Nat) : (f.alert i).free = f.free := rfl

/-! ### faultOff -/

@[simp] theorem Fabric.faultOff_tick (f : Fabric) (c : Nat) : (f.faultOff c).tick = f.tick := rfl
@[simp] theorem Fabric.faultOff_bell (f : Fabric) (c : Nat) : (f.faultOff c).bell = f.bell := rfl
@[simp] theorem Fabric.faultOff_bells (f : Fabric) (c : Nat) : (f.faultOff c).bells = f.bells := rfl
@[simp] theorem Fabric.faultOff_hdp (f : Fabric) (c : Nat) : (f.faultOff c).hdp = f.hdp := rfl
@[simp] theorem Fabric.faultOff_mbxs (f : Fabric) (c : Nat) : (f.faultOff c).mbxs = f.mbxs := rfl
@[simp] theorem Fabric.faultOff_rings (f : Fabric) (c : Nat) : (f.faultOff c).rings = f.rings := rfl
@[simp] theorem Fabric.faultOff_accepts (f : Fabric) (c : Nat) : (f.faultOff c).accepts = f.accepts := rfl
@[simp] theorem Fabric.faultOff_waiting (f : Fabric) (c : Nat) : (f.faultOff c).waiting = f.waiting := rfl
@[simp] theorem Fabric.faultOff_ready (f : Fabric) (c : Nat) : (f.faultOff c).ready = f.ready := rfl
@[simp] theorem Fabric.faultOff_abi (f : Fabric) (c : Nat) : (f.faultOff c).abi = f.abi := rfl
@[simp] theorem Fabric.faultOff_major (f : Fabric) (c : Nat) : (f.faultOff c).major = f.major := rfl
@[simp] theorem Fabric.faultOff_minor (f : Fabric) (c : Nat) : (f.faultOff c).minor = f.minor := rfl
@[simp] theorem Fabric.faultOff_p28 (f : Fabric) (c : Nat) : (f.faultOff c).p28 = f.p28 := rfl
@[simp] theorem Fabric.faultOff_orders (f : Fabric) (c : Nat) : (f.faultOff c).orders = f.orders := rfl
@[simp] theorem Fabric.faultOff_nextOrder (f : Fabric) (c : Nat) : (f.faultOff c).nextOrder = f.nextOrder := rfl
@[simp] theorem Fabric.faultOff_violations (f : Fabric) (c : Nat) : (f.faultOff c).violations = f.violations := rfl
@[simp] theorem Fabric.faultOff_conf (f : Fabric) (c : Nat) : (f.faultOff c).conf = f.conf := rfl
@[simp] theorem Fabric.faultOff_aon (f : Fabric) (c : Nat) : (f.faultOff c).aon = f.aon := rfl
@[simp] theorem Fabric.faultOff_trc (f : Fabric) (c : Nat) : (f.faultOff c).trc = f.trc := rfl
@[simp] theorem Fabric.faultOff_parts (f : Fabric) (c : Nat) : (f.faultOff c).parts = f.parts := rfl
@[simp] theorem Fabric.faultOff_win (f : Fabric) (c : Nat) : (f.faultOff c).win = f.win := rfl
@[simp] theorem Fabric.faultOff_drains (f : Fabric) (c : Nat) : (f.faultOff c).drains = f.drains := rfl
@[simp] theorem Fabric.faultOff_rtr (f : Fabric) (c : Nat) : (f.faultOff c).rtr = f.rtr := rfl
@[simp] theorem Fabric.faultOff_flow (f : Fabric) (c : Nat) : (f.faultOff c).flow = f.flow := rfl
@[simp] theorem Fabric.faultOff_ports (f : Fabric) (c : Nat) : (f.faultOff c).ports = f.ports := rfl
@[simp] theorem Fabric.faultOff_lanes (f : Fabric) (c : Nat) : (f.faultOff c).lanes = f.lanes := rfl
@[simp] theorem Fabric.faultOff_scanOps (f : Fabric) (c : Nat) : (f.faultOff c).scanOps = f.scanOps := rfl
@[simp] theorem Fabric.faultOff_portCtls (f : Fabric) (c : Nat) : (f.faultOff c).portCtls = f.portCtls := rfl
@[simp] theorem Fabric.faultOff_fixedRate (f : Fabric) (c : Nat) : (f.faultOff c).fixedRate = f.fixedRate := rfl
@[simp] theorem Fabric.faultOff_qmapSource (f : Fabric) (c : Nat) : (f.faultOff c).qmapSource = f.qmapSource := rfl
@[simp] theorem Fabric.faultOff_clk (f : Fabric) (c : Nat) : (f.faultOff c).clk = f.clk := rfl
@[simp] theorem Fabric.faultOff_pwr (f : Fabric) (c : Nat) : (f.faultOff c).pwr = f.pwr := rfl
@[simp] theorem Fabric.faultOff_flash (f : Fabric) (c : Nat) : (f.faultOff c).flash = f.flash := rfl
@[simp] theorem Fabric.faultOff_roll (f : Fabric) (c : Nat) : (f.faultOff c).roll = f.roll := rfl
@[simp] theorem Fabric.faultOff_ladder (f : Fabric) (c : Nat) : (f.faultOff c).ladder = f.ladder := rfl
@[simp] theorem Fabric.faultOff_prc (f : Fabric) (c : Nat) : (f.faultOff c).prc = f.prc := rfl
@[simp] theorem Fabric.faultOff_mtl (f : Fabric) (c : Nat) : (f.faultOff c).mtl = f.mtl := rfl
@[simp] theorem Fabric.faultOff_sram (f : Fabric) (c : Nat) : (f.faultOff c).sram = f.sram := rfl
@[simp] theorem Fabric.faultOff_mcBusy (f : Fabric) (c : Nat) : (f.faultOff c).mcBusy = f.mcBusy := rfl
@[simp] theorem Fabric.faultOff_wraps (f : Fabric) (c : Nat) : (f.faultOff c).wraps = f.wraps := rfl
@[simp] theorem Fabric.faultOff_free (f : Fabric) (c : Nat) : (f.faultOff c).free = f.free := rfl

/-! ### dropNotice -/

@[simp] theorem Fabric.dropNotice_tick (f : Fabric) (i : Nat) : (f.dropNotice i).tick = f.tick := rfl
@[simp] theorem Fabric.dropNotice_bell (f : Fabric) (i : Nat) : (f.dropNotice i).bell = f.bell := rfl
@[simp] theorem Fabric.dropNotice_bells (f : Fabric) (i : Nat) : (f.dropNotice i).bells = f.bells := rfl
@[simp] theorem Fabric.dropNotice_hdp (f : Fabric) (i : Nat) : (f.dropNotice i).hdp = f.hdp := rfl
@[simp] theorem Fabric.dropNotice_mbxs (f : Fabric) (i : Nat) : (f.dropNotice i).mbxs = f.mbxs := rfl
@[simp] theorem Fabric.dropNotice_accepts (f : Fabric) (i : Nat) : (f.dropNotice i).accepts = f.accepts := rfl
@[simp] theorem Fabric.dropNotice_waiting (f : Fabric) (i : Nat) : (f.dropNotice i).waiting = f.waiting := rfl
@[simp] theorem Fabric.dropNotice_ready (f : Fabric) (i : Nat) : (f.dropNotice i).ready = f.ready := rfl
@[simp] theorem Fabric.dropNotice_abi (f : Fabric) (i : Nat) : (f.dropNotice i).abi = f.abi := rfl
@[simp] theorem Fabric.dropNotice_major (f : Fabric) (i : Nat) : (f.dropNotice i).major = f.major := rfl
@[simp] theorem Fabric.dropNotice_minor (f : Fabric) (i : Nat) : (f.dropNotice i).minor = f.minor := rfl
@[simp] theorem Fabric.dropNotice_p28 (f : Fabric) (i : Nat) : (f.dropNotice i).p28 = f.p28 := rfl
@[simp] theorem Fabric.dropNotice_orders (f : Fabric) (i : Nat) : (f.dropNotice i).orders = f.orders := rfl
@[simp] theorem Fabric.dropNotice_nextOrder (f : Fabric) (i : Nat) : (f.dropNotice i).nextOrder = f.nextOrder := rfl
@[simp] theorem Fabric.dropNotice_violations (f : Fabric) (i : Nat) : (f.dropNotice i).violations = f.violations := rfl
@[simp] theorem Fabric.dropNotice_conf (f : Fabric) (i : Nat) : (f.dropNotice i).conf = f.conf := rfl
@[simp] theorem Fabric.dropNotice_aon (f : Fabric) (i : Nat) : (f.dropNotice i).aon = f.aon := rfl
@[simp] theorem Fabric.dropNotice_trc (f : Fabric) (i : Nat) : (f.dropNotice i).trc = f.trc := rfl
@[simp] theorem Fabric.dropNotice_pins (f : Fabric) (i : Nat) : (f.dropNotice i).pins = f.pins := rfl
@[simp] theorem Fabric.dropNotice_parts (f : Fabric) (i : Nat) : (f.dropNotice i).parts = f.parts := rfl
@[simp] theorem Fabric.dropNotice_win (f : Fabric) (i : Nat) : (f.dropNotice i).win = f.win := rfl
@[simp] theorem Fabric.dropNotice_drains (f : Fabric) (i : Nat) : (f.dropNotice i).drains = f.drains := rfl
@[simp] theorem Fabric.dropNotice_rtr (f : Fabric) (i : Nat) : (f.dropNotice i).rtr = f.rtr := rfl
@[simp] theorem Fabric.dropNotice_flow (f : Fabric) (i : Nat) : (f.dropNotice i).flow = f.flow := rfl
@[simp] theorem Fabric.dropNotice_ports (f : Fabric) (i : Nat) : (f.dropNotice i).ports = f.ports := rfl
@[simp] theorem Fabric.dropNotice_lanes (f : Fabric) (i : Nat) : (f.dropNotice i).lanes = f.lanes := rfl
@[simp] theorem Fabric.dropNotice_scanOps (f : Fabric) (i : Nat) : (f.dropNotice i).scanOps = f.scanOps := rfl
@[simp] theorem Fabric.dropNotice_portCtls (f : Fabric) (i : Nat) : (f.dropNotice i).portCtls = f.portCtls := rfl
@[simp] theorem Fabric.dropNotice_fixedRate (f : Fabric) (i : Nat) : (f.dropNotice i).fixedRate = f.fixedRate := rfl
@[simp] theorem Fabric.dropNotice_qmapSource (f : Fabric) (i : Nat) : (f.dropNotice i).qmapSource = f.qmapSource := rfl
@[simp] theorem Fabric.dropNotice_clk (f : Fabric) (i : Nat) : (f.dropNotice i).clk = f.clk := rfl
@[simp] theorem Fabric.dropNotice_pwr (f : Fabric) (i : Nat) : (f.dropNotice i).pwr = f.pwr := rfl
@[simp] theorem Fabric.dropNotice_flash (f : Fabric) (i : Nat) : (f.dropNotice i).flash = f.flash := rfl
@[simp] theorem Fabric.dropNotice_roll (f : Fabric) (i : Nat) : (f.dropNotice i).roll = f.roll := rfl
@[simp] theorem Fabric.dropNotice_ladder (f : Fabric) (i : Nat) : (f.dropNotice i).ladder = f.ladder := rfl
@[simp] theorem Fabric.dropNotice_prc (f : Fabric) (i : Nat) : (f.dropNotice i).prc = f.prc := rfl
@[simp] theorem Fabric.dropNotice_mtl (f : Fabric) (i : Nat) : (f.dropNotice i).mtl = f.mtl := rfl
@[simp] theorem Fabric.dropNotice_sram (f : Fabric) (i : Nat) : (f.dropNotice i).sram = f.sram := rfl
@[simp] theorem Fabric.dropNotice_mcBusy (f : Fabric) (i : Nat) : (f.dropNotice i).mcBusy = f.mcBusy := rfl
@[simp] theorem Fabric.dropNotice_wraps (f : Fabric) (i : Nat) : (f.dropNotice i).wraps = f.wraps := rfl
@[simp] theorem Fabric.dropNotice_free (f : Fabric) (i : Nat) : (f.dropNotice i).free = f.free := rfl

/-! ### begun -/

@[simp] theorem Fabric.begun_tick (f : Fabric) (c : Cmd) (op : Nat) : (f.begun c op).tick = f.tick := rfl
@[simp] theorem Fabric.begun_bell (f : Fabric) (c : Cmd) (op : Nat) : (f.begun c op).bell = f.bell := rfl
@[simp] theorem Fabric.begun_bells (f : Fabric) (c : Cmd) (op : Nat) : (f.begun c op).bells = f.bells := rfl
@[simp] theorem Fabric.begun_hdp (f : Fabric) (c : Cmd) (op : Nat) : (f.begun c op).hdp = f.hdp := rfl
@[simp] theorem Fabric.begun_rings (f : Fabric) (c : Cmd) (op : Nat) : (f.begun c op).rings = f.rings := rfl
@[simp] theorem Fabric.begun_waiting (f : Fabric) (c : Cmd) (op : Nat) : (f.begun c op).waiting = f.waiting := rfl
@[simp] theorem Fabric.begun_ready (f : Fabric) (c : Cmd) (op : Nat) : (f.begun c op).ready = f.ready := rfl
@[simp] theorem Fabric.begun_abi (f : Fabric) (c : Cmd) (op : Nat) : (f.begun c op).abi = f.abi := rfl
@[simp] theorem Fabric.begun_major (f : Fabric) (c : Cmd) (op : Nat) : (f.begun c op).major = f.major := rfl
@[simp] theorem Fabric.begun_minor (f : Fabric) (c : Cmd) (op : Nat) : (f.begun c op).minor = f.minor := rfl
@[simp] theorem Fabric.begun_p28 (f : Fabric) (c : Cmd) (op : Nat) : (f.begun c op).p28 = f.p28 := rfl
@[simp] theorem Fabric.begun_orders (f : Fabric) (c : Cmd) (op : Nat) : (f.begun c op).orders = f.orders := rfl
@[simp] theorem Fabric.begun_nextOrder (f : Fabric) (c : Cmd) (op : Nat) : (f.begun c op).nextOrder = f.nextOrder := rfl
@[simp] theorem Fabric.begun_violations (f : Fabric) (c : Cmd) (op : Nat) : (f.begun c op).violations = f.violations := rfl
@[simp] theorem Fabric.begun_conf (f : Fabric) (c : Cmd) (op : Nat) : (f.begun c op).conf = f.conf := rfl
@[simp] theorem Fabric.begun_aon (f : Fabric) (c : Cmd) (op : Nat) : (f.begun c op).aon = f.aon := rfl
@[simp] theorem Fabric.begun_pins (f : Fabric) (c : Cmd) (op : Nat) : (f.begun c op).pins = f.pins := rfl
@[simp] theorem Fabric.begun_parts (f : Fabric) (c : Cmd) (op : Nat) : (f.begun c op).parts = f.parts := rfl
@[simp] theorem Fabric.begun_win (f : Fabric) (c : Cmd) (op : Nat) : (f.begun c op).win = f.win := rfl
@[simp] theorem Fabric.begun_drains (f : Fabric) (c : Cmd) (op : Nat) : (f.begun c op).drains = f.drains := rfl
@[simp] theorem Fabric.begun_rtr (f : Fabric) (c : Cmd) (op : Nat) : (f.begun c op).rtr = f.rtr := rfl
@[simp] theorem Fabric.begun_flow (f : Fabric) (c : Cmd) (op : Nat) : (f.begun c op).flow = f.flow := rfl
@[simp] theorem Fabric.begun_ports (f : Fabric) (c : Cmd) (op : Nat) : (f.begun c op).ports = f.ports := rfl
@[simp] theorem Fabric.begun_lanes (f : Fabric) (c : Cmd) (op : Nat) : (f.begun c op).lanes = f.lanes := rfl
@[simp] theorem Fabric.begun_scanOps (f : Fabric) (c : Cmd) (op : Nat) : (f.begun c op).scanOps = f.scanOps := rfl
@[simp] theorem Fabric.begun_portCtls (f : Fabric) (c : Cmd) (op : Nat) : (f.begun c op).portCtls = f.portCtls := rfl
@[simp] theorem Fabric.begun_fixedRate (f : Fabric) (c : Cmd) (op : Nat) : (f.begun c op).fixedRate = f.fixedRate := rfl
@[simp] theorem Fabric.begun_qmapSource (f : Fabric) (c : Cmd) (op : Nat) : (f.begun c op).qmapSource = f.qmapSource := rfl
@[simp] theorem Fabric.begun_clk (f : Fabric) (c : Cmd) (op : Nat) : (f.begun c op).clk = f.clk := rfl
@[simp] theorem Fabric.begun_pwr (f : Fabric) (c : Cmd) (op : Nat) : (f.begun c op).pwr = f.pwr := rfl
@[simp] theorem Fabric.begun_flash (f : Fabric) (c : Cmd) (op : Nat) : (f.begun c op).flash = f.flash := rfl
@[simp] theorem Fabric.begun_roll (f : Fabric) (c : Cmd) (op : Nat) : (f.begun c op).roll = f.roll := rfl
@[simp] theorem Fabric.begun_ladder (f : Fabric) (c : Cmd) (op : Nat) : (f.begun c op).ladder = f.ladder := rfl
@[simp] theorem Fabric.begun_prc (f : Fabric) (c : Cmd) (op : Nat) : (f.begun c op).prc = f.prc := rfl
@[simp] theorem Fabric.begun_mtl (f : Fabric) (c : Cmd) (op : Nat) : (f.begun c op).mtl = f.mtl := rfl
@[simp] theorem Fabric.begun_sram (f : Fabric) (c : Cmd) (op : Nat) : (f.begun c op).sram = f.sram := rfl
@[simp] theorem Fabric.begun_mcBusy (f : Fabric) (c : Cmd) (op : Nat) : (f.begun c op).mcBusy = f.mcBusy := rfl
@[simp] theorem Fabric.begun_wraps (f : Fabric) (c : Cmd) (op : Nat) : (f.begun c op).wraps = f.wraps := rfl
@[simp] theorem Fabric.begun_free (f : Fabric) (c : Cmd) (op : Nat) : (f.begun c op).free = f.free := rfl

/-! ### What the updates change -/

@[simp] theorem Fabric.setMbx_mbxs (f : Fabric) (m : Nat) (b : Mailbox) : (f.setMbx m b).mbxs = f.mbxs.set m b := rfl
@[simp] theorem Fabric.setRing_rings (f : Fabric) (i : Nat) (r : Ring) : (f.setRing i r).rings = f.rings.set i r := rfl
@[simp] theorem Fabric.setPart_parts (f : Fabric) (p : Nat) (x : Part) : (f.setPart p x).parts = f.parts.set p x := rfl
@[simp] theorem Fabric.hdpSend_hdp (f : Fabric) (t : HdpTx) : (f.hdpSend t).hdp = f.hdp.send t := rfl
@[simp] theorem Fabric.begun_accepts (f : Fabric) (c : Cmd) (op : Nat) : (f.begun c op).accepts = f.accepts + 1 := rfl
@[simp] theorem Fabric.begun_trc (f : Fabric) (c : Cmd) (op : Nat) : 
    (f.begun c op).trc = f.trc.sawOpcode op (f.acceptedEnv c op).cmdId := rfl

/-! ### What acceptance leaves to the readers -/

@[simp] theorem Fabric.begun_part (f : Fabric) (c : Cmd) (op p : Nat) : (f.begun c op).part p = f.part p := rfl
@[simp] theorem Fabric.begun_ctx (f : Fabric) (c : Cmd) (op t : Nat) : (f.begun c op).ctx t = f.ctx t := rfl
@[simp] theorem Fabric.begun_partCount (f : Fabric) (c : Cmd) (op : Nat) : (f.begun c op).partCount = f.partCount := rfl
@[simp] theorem Fabric.begun_confPart (f : Fabric) (c : Cmd) (op p : Nat) : (f.begun c op).confPart p = f.confPart p := rfl
@[simp] theorem Fabric.begun_mbxExists (f : Fabric) (c : Cmd) (op m : Nat) : (f.begun c op).mbxExists m = f.mbxExists m := rfl
@[simp] theorem Fabric.begun_tagLive (f : Fabric) (c : Cmd) (op t : Nat) : (f.begun c op).tagLive t = f.tagLive t := rfl
@[simp] theorem Fabric.begun_live (f : Fabric) (c : Cmd) (op : Nat) : (f.begun c op).live = f.live := rfl
@[simp] theorem Fabric.begun_ring (f : Fabric) (c : Cmd) (op r : Nat) : (f.begun c op).ring r = f.ring r := rfl
@[simp] theorem Fabric.begun_port (f : Fabric) (c : Cmd) (op k : Nat) : (f.begun c op).port k = f.port k := rfl
@[simp] theorem Fabric.begun_lane (f : Fabric) (c : Cmd) (op l : Nat) : (f.begun c op).lane l = f.lane l := rfl
@[simp] theorem Fabric.begun_run (f : Fabric) (c : Cmd) (op p r : Nat) : (f.begun c op).run p r = f.run p r := rfl

end Sys2Proof.Machine
end

