-- ==== Sys2Proof/Laws/Mailbox.lean ====
section
/-!
SUPPORT. What the mailbox protocol does: a command that its mailbox takes runs its body on the begun device; completion
changes the mailbox, the Host Die Port and the alerts, and nothing else.
-/
namespace Sys2Proof.Machine

variable {f : Fabric} {s : State} {c : Cmd} {op : Nat} {body : Body}

@[simp] theorem Fabric.setMbx_same (f : Fabric) (m : Nat) (a b : Mailbox) : (f.setMbx m a).setMbx m b = f.setMbx m b := by
  simp [Fabric.setMbx]

@[simp] theorem Fabric.mbx_setMbx_same (f : Fabric) (m : Nat) (b : Mailbox) : (f.setMbx m b).mbx m = b := by
  simp [Fabric.mbx]

theorem Fabric.mbx_setMbx_other (f : Fabric) (m n : Nat) (b : Mailbox) (h : m ≠ n) : (f.setMbx m b).mbx n = f.mbx n := by
  simp [Fabric.mbx, Map.get_set_other, h]

@[simp] theorem Fabric.begun_mbx (f : Fabric) (c : Cmd) (op : Nat) :
    (f.begun c op).mbx c.mbx =
      { f.mbx c.mbx with env := f.acceptedEnv c op, pay := c.pay ++ (f.mbx c.mbx).pay.drop c.pay.length,
                         src := c.src, accepted := true } := by
  simp [Fabric.begun, Fabric.mbx]

theorem Fabric.begun_mbx_other (f : Fabric) (c : Cmd) (op n : Nat) (h : c.mbx ≠ n) : (f.begun c op).mbx n = f.mbx n := by
  simp [Fabric.begun, Fabric.mbx, Map.get_set_other, h]

/-- The device after a body has run for a mailbox. -/
def Fabric.ended (m : Nat) : Fabric × Reply → Fabric
  | (g, .done st r0 resp len) => g.complete m st r0 resp len
  | (g, .wait) => g

/-- The command ID that acceptance gives the command a mailbox holds (Table 2.14). -/
def Fabric.acceptId (f : Fabric) (m : Nat) : Word :=
  Env.cmdId { (f.mbx m).env with mbx := m, accept := (f.accepts + 1) % 2 ^ 24, seqEcho := (f.mbx m).env.seq }

/-- Acceptance of a command whose envelope the mailbox holds, where no record has its SEQ. -/
theorem Fabric.accept_fresh (f : Fabric) (c : Cmd) (op : Nat) (body : Body)
    (h : ∀ r, (f.mbx c.mbx).record = some r → r.env.seq ≠ (f.mbx c.mbx).env.seq) :
    f.accept c op body = Fabric.ended c.mbx (body c
      { f.setMbx c.mbx { f.mbx c.mbx with
          env := { (f.mbx c.mbx).env with mbx := c.mbx, accept := (f.accepts + 1) % 2 ^ 24,
                                          seqEcho := (f.mbx c.mbx).env.seq, issueTick := f.tick }, accepted := true } with
        accepts := f.accepts + 1, trc := f.trc.sawOpcode op (f.acceptId c.mbx) }) := by
  unfold Fabric.accept
  cases hr : (f.mbx c.mbx).record with
  | none => simp only [hr]; rfl
  | some r => simp only [hr, h r hr, if_false]; rfl

/-- Acceptance of a command whose SEQ the record has: the record answers. -/
theorem Fabric.accept_replay (f : Fabric) (c : Cmd) (op : Nat) (body : Body) (r : CmdRecord)
    (h : (f.mbx c.mbx).record = some r) (hs : r.env.seq = (f.mbx c.mbx).env.seq) :
    f.accept c op body = Fabric.complete
      { f.setMbx c.mbx { f.mbx c.mbx with
          env := { (f.mbx c.mbx).env with mbx := c.mbx, accept := (f.accepts + 1) % 2 ^ 24,
                                          seqEcho := (f.mbx c.mbx).env.seq, issueTick := f.tick }, accepted := true } with
        accepts := f.accepts + 1, trc := f.trc.sawOpcode op (f.acceptId c.mbx) } c.mbx r.env.status r.env.result0 r.resp r.env.respLen := by
  unfold Fabric.accept
  simp only [h, hs, if_true]
  rfl

/-- A command that its mailbox takes runs its body on the begun device. -/
theorem Fabric.issue_takes (h : f.takes c = true) : f.issue c op body = Fabric.ended c.mbx (body c (f.begun c op)) := by
  simp only [Fabric.takes, Bool.and_eq_true, Bool.not_eq_true'] at h
  obtain ⟨⟨⟨⟨⟨⟨-, h2⟩, h3⟩, h4⟩, h5⟩, h6⟩, h7⟩ := h
  unfold Fabric.issue
  simp only [h2, h3, h4, Bool.not_true, Bool.false_eq_true, if_false, Fabric.setMbx_ready, Fabric.setMbx_ladder,
    h5, h6, Bool.not_false, Bool.and_self, if_true]
  rw [Fabric.accept_fresh]
  · simp only [Fabric.acceptId, Fabric.mbx_setMbx_same, Fabric.setMbx_same]; rfl
  · intro r hr
    simp only [Fabric.mbx_setMbx_same] at hr ⊢
    rw [hr] at h7
    simpa using h7

/-- A taken command's step: the body's device, with the meter die and the queue as they were. -/
theorem State.command_takes (h : s.fab.takes c = true) :
    s.command c op body = .next { s with fab := Fabric.ended c.mbx (body c (s.fab.begun c op)) } := by
  have h1 : s.fab.canSend c.src = true := by
    simp only [Fabric.takes, Bool.and_eq_true] at h; exact h.1.1.1.1.1.1
  simp only [State.command, State.onFabric, h1, if_true, Fabric.issue_takes h]

@[simp] theorem Fabric.ended_done (m : Nat) (g : Fabric) (st : Nat) (r0 : Word) (resp : List Word) (len : Nat) :
    Fabric.ended m (g, .done st r0 resp len) = g.complete m st r0 resp len := rfl

@[simp] theorem Fabric.ended_wait (m : Nat) (g : Fabric) : Fabric.ended m (g, .wait) = g := rfl

/-! ### Writes through the HDP change the HDP only -/

theorem foldl_hdp {α : Type} (l : List α) (f : Fabric) (t : α → HdpTx) :
    ∃ h, l.foldl (fun g x => g.hdpSend (t x)) f = { f with hdp := h } := by
  induction l generalizing f with
  | nil => exact ⟨f.hdp, rfl⟩
  | cons x l ih => obtain ⟨h, e⟩ := ih (f.hdpSend (t x)); exact ⟨h, by rw [List.foldl_cons, e]; rfl⟩

theorem Fabric.hdpWrite_eq (f : Fabric) (a : Nat) (d : List Word) (w : Nat → Purpose) (b n : Bool) :
    ∃ h, f.hdpWrite a d w b n = { f with hdp := h } := foldl_hdp _ _ _

theorem Fabric.hdpRead_eq (f : Fabric) (a u : Nat) (w : Nat → Purpose) : ∃ h, f.hdpRead a u w = { f with hdp := h } :=
  foldl_hdp _ _ _

/-- Everything that completion can change: the mailbox, the HDP and the alerts. -/
theorem Fabric.complete_eq (f : Fabric) (m st : Nat) (r0 : Word) (resp : List Word) (len : Nat) :
    ∃ b h p, f.complete m st r0 resp len = { f with mbxs := f.mbxs.set m b, hdp := h, pins := p } := by
  have key (g : Fabric) (e : Env) : ∃ h, (if e.doneWb = true then g.hdpWrite (down e.doneAddr 64) e.words (fun _ => .doneWb) else g) =
      { g with hdp := h } := by
    split
    · exact Fabric.hdpWrite_eq _ _ _ _ _ _
    · exact ⟨g.hdp, rfl⟩
  unfold Fabric.complete
  obtain ⟨h, e⟩ := key (f.setMbx m
    { f.mbx m with
        env := { (f.mbx m).env with respLen := len, doneTick := f.tick, result0 := r0, own := false, status := st },
        pay := takePad (ceilDiv len 8) resp ++ (f.mbx m).pay.drop (takePad (ceilDiv len 8) resp).length, accepted := false,
        last := ((f.mbx m).env.seq, st),
        record := if st = stLost then (f.mbx m).record else
          some { env := { (f.mbx m).env with respLen := len, doneTick := f.tick, result0 := r0, own := false, status := st },
                 resp := takePad (ceilDiv len 8) resp } })
    { (f.mbx m).env with respLen := len, doneTick := f.tick, result0 := r0, own := false, status := st }
  simp only [] at e ⊢
  rw [e]
  split
  · exact ⟨_, h, _, rfl⟩
  · exact ⟨_, h, f.pins, rfl⟩

end Sys2Proof.Machine
end

