-- ==== Sys2Proof/Laws/Dispatch.lean ====
section
/-!
SUPPORT. What `exec` can be, said once for all commands: a mailbox command, an event of the fabric die behind its gate, or
an event of the meter die.
-/
namespace Sys2Proof.Machine

-- Proofs are checked one after another here: run side by side, many would wait for a long one, each on a thread of its own.
set_option Elab.async false

/-- A row that a mailbox carries is that command with its body. -/
theorem exec_mailbox {i : Instr} {c : Cmd} {op : Nat} (h : mailboxOf i = some (c, op)) :
    ∃ body, ∀ s, exec i s = s.command c op body := by
  cases i <;> simp only [mailboxOf, Option.some.injEq, Prod.mk.injEq, reduceCtorEq] at h <;>
    (obtain ⟨rfl, rfl⟩ := h; exact ⟨_, fun _ => rfl⟩)

/-- A command of the meter die. -/
theorem exec_meter {i : Instr} (h : onMeterDie i = true) : ∃ g, ∀ s, exec i s = s.onMeter g := by
  cases i <;> first | (dsimp only [exec]; exact ⟨_, fun _ => rfl⟩) | (simp [onMeterDie] at h; done)

/-- A command of the fabric die: a mailbox command, an event, or an answer of the meter die that the link brings. -/
theorem exec_fabric {i : Instr} (h : onMeterDie i = false) (s : State) : ∃ gate g, exec i s = s.onFabric gate g := by
  cases hm : mailboxOf i with
  | some x => obtain ⟨b, e⟩ := exec_mailbox (c := x.1) (op := x.2) hm; exact ⟨_, _, e s⟩
  | none =>
    cases i <;> first | (dsimp only [exec]; exact ⟨_, _, rfl⟩) | (simp [onMeterDie] at h; done) | (simp [mailboxOf] at hm; done)

end Sys2Proof.Machine
end

