-- ==== Sys2Proof/Laws/Gates.lean ====
section
/-!
SUPPORT. The gates that commands and events pass.
-/
namespace Sys2Proof.Machine

@[simp] theorem Fabric.begun_opens (f : Fabric) (c d : Cmd) (op : Nat) : (f.begun c op).opens d = f.opens d := rfl
@[simp] theorem Fabric.begun_opensLive (f : Fabric) (c d : Cmd) (op : Nat) : (f.begun c op).opensLive d = f.opensLive d := rfl

/-- A command whose partition is open passes the common checks (Table 3.11). -/
theorem ctxGate_opens {c : Cmd} {f : Fabric} (h : f.opens c = true) (len : Nat) (k : Fabric → Fabric × Reply) :
    ctxGate false len c f k = k f := by
  simp only [Fabric.opens, Bool.and_eq_true, decide_eq_true_eq, Bool.not_eq_true'] at h
  obtain ⟨⟨⟨h1, h2⟩, h3⟩, h4⟩ := h
  unfold ctxGate
  simp only [h1, h3, h4, Bool.false_eq_true, if_false, Bool.not_true, Bool.or_false, ge_iff_le, decide_eq_true_eq, Nat.not_le.mpr h2]

/-- A command whose context is live passes the checks of a live context. -/
theorem liveGate_opens {c : Cmd} {f : Fabric} (h : f.opensLive c = true) (len : Nat) (k : Fabric → Fabric × Reply) :
    liveGate false len c f k = k f := by
  simp only [Fabric.opensLive, Bool.and_eq_true] at h
  unfold liveGate
  rw [ctxGate_opens h.1]
  simp only [h.2, if_true]

/-- An event whose gate holds changes the fabric die by its meaning. -/
theorem State.onFabric_gate {s : State} {gate : Fabric → Bool} (h : gate s.fab = true) (g : Fabric → Fabric) :
    s.onFabric gate g = .next { s with fab := g s.fab } := by
  simp only [State.onFabric, h, if_true]

/-- An event whose gate does not hold changes nothing. -/
theorem State.onFabric_shut {s : State} {gate : Fabric → Bool} (h : gate s.fab = false) (g : Fabric → Fabric) :
    s.onFabric gate g = .next s := by
  simp [State.onFabric, h]

end Sys2Proof.Machine
end

