-- ==== Sys2Proof/Laws/PerInstr.lean ====
section
/-!
SUPPORT. Laws of the syntax, one per command: a well-formed command that a mailbox carries names a source of Table 2.6, a
mailbox, a Context Tag and an opcode that fit their fields (Table 2.13).
-/
namespace Sys2Proof.Laws
open Sys2Proof.Machine

-- Proofs are checked one after another here: run side by side, many would wait for a long one, each on a thread of its own.
set_option Elab.async false

/-- The operands of a well-formed mailbox command fit the envelope. -/
def MailboxOperands.Statement (i : Instr) : Prop :=
  ∀ c op, mailboxOf i = some (c, op) → i.wf = true → srcWf c.src = true ∧ c.mbx < 256 ∧ c.seq < 2 ^ 32 ∧ c.tag < 65536 ∧ op < 65536

theorem cmd_operands {c : Cmd} (h : c.wf = true) : srcWf c.src = true ∧ c.mbx < 256 ∧ c.seq < 2 ^ 32 ∧ c.tag < 65536 := by
  simp only [Cmd.wf, Bool.and_eq_true, decide_eq_true_eq] at h
  exact ⟨h.1.1.1.1.1.1, h.1.1.1.1.1.2, h.1.1.1.1.2, h.1.1.1.2⟩

theorem mailbox_operands {c d : Cmd} {p q : Nat} (h : c.wf = true) (hp : p < 65536) (hs : c.src = d.src) (hm : c.mbx = d.mbx)
    (hq : c.seq = d.seq) (ht : c.tag = d.tag) (e : p = q) :
    srcWf d.src = true ∧ d.mbx < 256 ∧ d.seq < 2 ^ 32 ∧ d.tag < 65536 ∧ q < 65536 := by
  obtain ⟨a, b, k, l⟩ := cmd_operands h
  subst e
  rw [← hs, ← hm, ← hq, ← ht]
  exact ⟨a, b, k, l, hp⟩

theorem MailboxOperands.nop (c : Cmd) : Statement (.nop c) := by
  intro d p h w; injection h with h; injection h with h e; subst h
  exact mailbox_operands (c := c) w (by decide) rfl rfl rfl rfl e
theorem MailboxOperands.seqQuery (c : Cmd) : Statement (.seqQuery c) := by
  intro d p h w; injection h with h; injection h with h e; subst h
  exact mailbox_operands (c := c) w (by decide) rfl rfl rfl rfl e
theorem MailboxOperands.cmdAbort (c : Cmd) : Statement (.cmdAbort c) := by
  intro d p h w; injection h with h; injection h with h e; subst h
  exact mailbox_operands (c := c) w (by decide) rfl rfl rfl rfl e
theorem MailboxOperands.undefinedOpcode (c : Cmd) (op : Nat) : Statement (.undefinedOpcode c op) := by
  intro d p h w; injection h with h; injection h with h e; subst h
  simp only [Instr.wf, Bool.and_eq_true, decide_eq_true_eq] at w; exact mailbox_operands w.1.1 w.1.2 rfl rfl rfl rfl e
theorem MailboxOperands.messageTimeEnd (order : Nat) : Statement (.messageTimeEnd order) := by
  intro d p h; exact nomatch h
theorem MailboxOperands.ctxCreate (c : Cmd) : Statement (.ctxCreate c) := by
  intro d p h w; injection h with h; injection h with h e; subst h
  exact mailbox_operands (c := c) w (by decide) rfl rfl rfl rfl e
theorem MailboxOperands.ctxDestroy (c : Cmd) : Statement (.ctxDestroy c) := by
  intro d p h w; injection h with h; injection h with h e; subst h
  exact mailbox_operands (c := c) w (by decide) rfl rfl rfl rfl e
theorem MailboxOperands.contextLingerEnd (tag : Nat) : Statement (.contextLingerEnd tag) := by
  intro d p h; exact nomatch h
theorem MailboxOperands.ctxQuery (c : Cmd) : Statement (.ctxQuery c) := by
  intro d p h w; injection h with h; injection h with h e; subst h
  exact mailbox_operands (c := c) w (by decide) rfl rfl rfl rfl e
theorem MailboxOperands.segSet (c : Cmd) : Statement (.segSet c) := by
  intro d p h w; injection h with h; injection h with h e; subst h
  exact mailbox_operands (c := c) w (by decide) rfl rfl rfl rfl e
theorem MailboxOperands.segSetDrained (mbx : Nat) : Statement (.segSetDrained mbx) := by
  intro d p h; exact nomatch h
theorem MailboxOperands.invalidate (c : Cmd) : Statement (.invalidate c) := by
  intro d p h w; injection h with h; injection h with h e; subst h
  exact mailbox_operands (c := c) w (by decide) rfl rfl rfl rfl e
theorem MailboxOperands.invalidateDrained (mbx : Nat) : Statement (.invalidateDrained mbx) := by
  intro d p h; exact nomatch h
theorem MailboxOperands.ctxResume (c : Cmd) : Statement (.ctxResume c) := by
  intro d p h w; injection h with h; injection h with h e; subst h
  exact mailbox_operands (c := c) w (by decide) rfl rfl rfl rfl e
theorem MailboxOperands.prefetchRange (c : Cmd) : Statement (.prefetchRange c) := by
  intro d p h w; injection h with h; injection h with h e; subst h
  exact mailbox_operands (c := c) w (by decide) rfl rfl rfl rfl e
theorem MailboxOperands.advise (c : Cmd) : Statement (.advise c) := by
  intro d p h w; injection h with h; injection h with h e; subst h
  exact mailbox_operands (c := c) w (by decide) rfl rfl rfl rfl e
theorem MailboxOperands.submitList (c : Cmd) : Statement (.submitList c) := by
  intro d p h w; injection h with h; injection h with h e; subst h
  exact mailbox_operands (c := c) w (by decide) rfl rfl rfl rfl e
theorem MailboxOperands.xferOne (c : Cmd) : Statement (.xferOne c) := by
  intro d p h w; injection h with h; injection h with h e; subst h
  exact mailbox_operands (c := c) w (by decide) rfl rfl rfl rfl e
theorem MailboxOperands.listStatus (c : Cmd) : Statement (.listStatus c) := by
  intro d p h w; injection h with h; injection h with h e; subst h
  exact mailbox_operands (c := c) w (by decide) rfl rfl rfl rfl e
theorem MailboxOperands.listCancel (c : Cmd) : Statement (.listCancel c) := by
  intro d p h w; injection h with h; injection h with h e; subst h
  exact mailbox_operands (c := c) w (by decide) rfl rfl rfl rfl e
theorem MailboxOperands.descriptorStart (p : Nat) (e : Nat) : Statement (.descriptorStart p e) := by
  intro d p h; exact nomatch h
theorem MailboxOperands.tileIssue (p : Nat) (e : Nat) : Statement (.tileIssue p e) := by
  intro d p h; exact nomatch h
theorem MailboxOperands.streamPrefetch (p : Nat) (e : Nat) (dst : Bool) : Statement (.streamPrefetch p e dst) := by
  intro d p h; exact nomatch h
theorem MailboxOperands.requestTimeout (reqId : Nat) : Statement (.requestTimeout reqId) := by
  intro d p h; exact nomatch h
theorem MailboxOperands.parCcSnap (src : Nat) (p : Nat) (w : Word) : Statement (.parCcSnap src p w) := by
  intro d p h; exact nomatch h
theorem MailboxOperands.nringEnable (src : Nat) (ring : Nat) (base : Nat) : Statement (.nringEnable src ring base) := by
  intro d p h; exact nomatch h
theorem MailboxOperands.nringDisable (src : Nat) (ring : Nat) : Statement (.nringDisable src ring) := by
  intro d p h; exact nomatch h
theorem MailboxOperands.nringTailWrite (src : Nat) (ring : Nat) (index : Nat) : Statement (.nringTailWrite src ring index) := by
  intro d p h; exact nomatch h
theorem MailboxOperands.noticeDeferredWrite (ring : Nat) : Statement (.noticeDeferredWrite ring) := by
  intro d p h; exact nomatch h
theorem MailboxOperands.registerWrite (src : Nat) (off : Nat) (size : Nat) (data : List Word) : Statement (.registerWrite src off size data) := by
  intro d p h; exact nomatch h
theorem MailboxOperands.hdpRdData (tag : Nat) (data : List Word) (poison : Bool) : Statement (.hdpRdData tag data poison) := by
  intro d p h; exact nomatch h
theorem MailboxOperands.hdpWrAck (tag : Nat) (nack : Bool) : Statement (.hdpWrAck tag nack) := by
  intro d p h; exact nomatch h
theorem MailboxOperands.hdpAtomicRsp (tag : Nat) (old : Word) : Statement (.hdpAtomicRsp tag old) := by
  intro d p h; exact nomatch h
theorem MailboxOperands.hdpCrcError (slice : Nat) (beats : BeatRx) : Statement (.hdpCrcError slice beats) := by
  intro d p h; exact nomatch h
theorem MailboxOperands.hdpReplayRequest (slice : Nat) (beats : Nat) : Statement (.hdpReplayRequest slice beats) := by
  intro d p h; exact nomatch h
theorem MailboxOperands.powerOn : Statement .powerOn := by
  intro d p h; exact nomatch h
theorem MailboxOperands.rstNAssert : Statement .rstNAssert := by
  intro d p h; exact nomatch h
theorem MailboxOperands.rstNRelease (straps : Nat) : Statement (.rstNRelease straps) := by
  intro d p h; exact nomatch h
theorem MailboxOperands.calendarMark (count : Nat) : Statement (.calendarMark count) := by
  intro d p h; exact nomatch h
theorem MailboxOperands.refclkEdgeGap : Statement .refclkEdgeGap := by
  intro d p h; exact nomatch h
theorem MailboxOperands.proctorImageLoaded (ok : Bool) (words : List Word) (len : Nat) : Statement (.proctorImageLoaded ok words len) := by
  intro d p h; exact nomatch h
theorem MailboxOperands.firmwareReady : Statement .firmwareReady := by
  intro d p h; exact nomatch h
theorem MailboxOperands.trialBootTimeout : Statement .trialBootTimeout := by
  intro d p h; exact nomatch h
theorem MailboxOperands.brownout (retention : Bool) : Statement (.brownout retention) := by
  intro d p h; exact nomatch h
theorem MailboxOperands.brownoutRecovery : Statement .brownoutRecovery := by
  intro d p h; exact nomatch h
theorem MailboxOperands.bubbleUpdate (est : Nat) (pA : Nat) (pM : Nat) (pL : Nat) : Statement (.bubbleUpdate est pA pM pL) := by
  intro d p h; exact nomatch h
theorem MailboxOperands.powerRecalibrate (ok : Bool) (w : Nat) (mv : Nat) (amps : Nat) : Statement (.powerRecalibrate ok w mv amps) := by
  intro d p h; exact nomatch h
theorem MailboxOperands.canarySample (samples : List (Nat × Nat × Nat)) : Statement (.canarySample samples) := by
  intro d p h; exact nomatch h
theorem MailboxOperands.floorReplan (mv : Nat) : Statement (.floorReplan mv) := by
  intro d p h; exact nomatch h
theorem MailboxOperands.targetStep : Statement .targetStep := by
  intro d p h; exact nomatch h
theorem MailboxOperands.thermalSample (tj : Nat) : Statement (.thermalSample tj) := by
  intro d p h; exact nomatch h
theorem MailboxOperands.thermalLimitStep : Statement .thermalLimitStep := by
  intro d p h; exact nomatch h
theorem MailboxOperands.currentLimitStep (amps : Nat) : Statement (.currentLimitStep amps) := by
  intro d p h; exact nomatch h
theorem MailboxOperands.droopDetect : Statement .droopDetect := by
  intro d p h; exact nomatch h
theorem MailboxOperands.droopRelease : Statement .droopRelease := by
  intro d p h; exact nomatch h
theorem MailboxOperands.throttleNotice : Statement .throttleNotice := by
  intro d p h; exact nomatch h
theorem MailboxOperands.slackWindowEnd : Statement .slackWindowEnd := by
  intro d p h; exact nomatch h
theorem MailboxOperands.opPointApply : Statement .opPointApply := by
  intro d p h; exact nomatch h
theorem MailboxOperands.powerCap (c : Cmd) : Statement (.powerCap c) := by
  intro d p h w; injection h with h; injection h with h e; subst h
  exact mailbox_operands (c := c) w (by decide) rfl rfl rfl rfl e
theorem MailboxOperands.opPointDefine (c : Cmd) : Statement (.opPointDefine c) := by
  intro d p h w; injection h with h; injection h with h e; subst h
  exact mailbox_operands (c := c) w (by decide) rfl rfl rfl rfl e
theorem MailboxOperands.opPointSelect (c : Cmd) : Statement (.opPointSelect c) := by
  intro d p h w; injection h with h; injection h with h e; subst h
  exact mailbox_operands (c := c) w (by decide) rfl rfl rfl rfl e
theorem MailboxOperands.fwStage (c : Cmd) : Statement (.fwStage c) := by
  intro d p h w; injection h with h; injection h with h e; subst h
  exact mailbox_operands (c := c) w (by decide) rfl rfl rfl rfl e
theorem MailboxOperands.fwStageVerified (ok : Bool) : Statement (.fwStageVerified ok) := by
  intro d p h; exact nomatch h
theorem MailboxOperands.fwActivateAtReset (c : Cmd) : Statement (.fwActivateAtReset c) := by
  intro d p h w; injection h with h; injection h with h e; subst h
  exact mailbox_operands (c := c) w (by decide) rfl rfl rfl rfl e
theorem MailboxOperands.fwActivateRestart (c : Cmd) : Statement (.fwActivateRestart c) := by
  intro d p h w; injection h with h; injection h with h e; subst h
  exact mailbox_operands (c := c) w (by decide) rfl rfl rfl rfl e
theorem MailboxOperands.bootRecordSet (c : Cmd) : Statement (.bootRecordSet c) := by
  intro d p h w; injection h with h; injection h with h e; subst h
  exact mailbox_operands (c := c) w (by decide) rfl rfl rfl rfl e
theorem MailboxOperands.collPost (c : Cmd) : Statement (.collPost c) := by
  intro d p h w; injection h with h; injection h with h e; subst h
  exact mailbox_operands (c := c) w (by decide) rfl rfl rfl rfl e
theorem MailboxOperands.groupSet (c : Cmd) : Statement (.groupSet c) := by
  intro d p h w; injection h with h; injection h with h e; subst h
  exact mailbox_operands (c := c) w (by decide) rfl rfl rfl rfl e
theorem MailboxOperands.collCancel (c : Cmd) : Statement (.collCancel c) := by
  intro d p h w; injection h with h; injection h with h e; subst h
  exact mailbox_operands (c := c) w (by decide) rfl rfl rfl rfl e
theorem MailboxOperands.collStatus (c : Cmd) : Statement (.collStatus c) := by
  intro d p h w; injection h with h; injection h with h e; subst h
  exact mailbox_operands (c := c) w (by decide) rfl rfl rfl rfl e
theorem MailboxOperands.bellRead (c : Cmd) : Statement (.bellRead c) := by
  intro d p h w; injection h with h; injection h with h e; subst h
  exact mailbox_operands (c := c) w (by decide) rfl rfl rfl rfl e
theorem MailboxOperands.journalSet (c : Cmd) : Statement (.journalSet c) := by
  intro d p h w; injection h with h; injection h with h e; subst h
  exact mailbox_operands (c := c) w (by decide) rfl rfl rfl rfl e
theorem MailboxOperands.journalStatus (c : Cmd) : Statement (.journalStatus c) := by
  intro d p h w; injection h with h; injection h with h e; subst h
  exact mailbox_operands (c := c) w (by decide) rfl rfl rfl rfl e
theorem MailboxOperands.redLocal (c : Cmd) : Statement (.redLocal c) := by
  intro d p h w; injection h with h; injection h with h e; subst h
  exact mailbox_operands (c := c) w (by decide) rfl rfl rfl rfl e
theorem MailboxOperands.collLaunch (p : Nat) (id : Nat) : Statement (.collLaunch p id) := by
  intro d p h; exact nomatch h
theorem MailboxOperands.collWaitTimeout (p : Nat) (id : Nat) : Statement (.collWaitTimeout p id) := by
  intro d p h; exact nomatch h
theorem MailboxOperands.collResendTimer (p : Nat) (id : Nat) : Statement (.collResendTimer p id) := by
  intro d p h; exact nomatch h
theorem MailboxOperands.bellHoldover : Statement .bellHoldover := by
  intro d p h; exact nomatch h
theorem MailboxOperands.emapSet (c : Cmd) : Statement (.emapSet c) := by
  intro d p h w; injection h with h; injection h with h e; subst h
  exact mailbox_operands (c := c) w (by decide) rfl rfl rfl rfl e
theorem MailboxOperands.dispatchPost (c : Cmd) : Statement (.dispatchPost c) := by
  intro d p h w; injection h with h; injection h with h e; subst h
  exact mailbox_operands (c := c) w (by decide) rfl rfl rfl rfl e
theorem MailboxOperands.dispatchStatus (c : Cmd) : Statement (.dispatchStatus c) := by
  intro d p h w; injection h with h; injection h with h e; subst h
  exact mailbox_operands (c := c) w (by decide) rfl rfl rfl rfl e
theorem MailboxOperands.dispatchCancel (c : Cmd) : Statement (.dispatchCancel c) := by
  intro d p h w; injection h with h; injection h with h e; subst h
  exact mailbox_operands (c := c) w (by decide) rfl rfl rfl rfl e
theorem MailboxOperands.pageMove (c : Cmd) : Statement (.pageMove c) := by
  intro d p h w; injection h with h; injection h with h e; subst h
  exact mailbox_operands (c := c) w (by decide) rfl rfl rfl rfl e
theorem MailboxOperands.routeUpdate (c : Cmd) : Statement (.routeUpdate c) := by
  intro d p h w; injection h with h; injection h with h e; subst h
  exact mailbox_operands (c := c) w (by decide) rfl rfl rfl rfl e
theorem MailboxOperands.routeDrainDone (order : Nat) : Statement (.routeDrainDone order) := by
  intro d p h; exact nomatch h
theorem MailboxOperands.routeDrainTimeout (order : Nat) : Statement (.routeDrainTimeout order) := by
  intro d p h; exact nomatch h
theorem MailboxOperands.timetableSet (c : Cmd) : Statement (.timetableSet c) := by
  intro d p h w; injection h with h; injection h with h e; subst h
  exact mailbox_operands (c := c) w (by decide) rfl rfl rfl rfl e
theorem MailboxOperands.timetableWindowOpen (n : Nat) : Statement (.timetableWindowOpen n) := by
  intro d p h; exact nomatch h
theorem MailboxOperands.timetableWindowClose (n : Nat) : Statement (.timetableWindowClose n) := by
  intro d p h; exact nomatch h
theorem MailboxOperands.seatSet (c : Cmd) : Statement (.seatSet c) := by
  intro d p h w; injection h with h; injection h with h e; subst h
  exact mailbox_operands (c := c) w (by decide) rfl rfl rfl rfl e
theorem MailboxOperands.flowSet (c : Cmd) : Statement (.flowSet c) := by
  intro d p h w; injection h with h; injection h with h e; subst h
  exact mailbox_operands (c := c) w (by decide) rfl rfl rfl rfl e
theorem MailboxOperands.telemSnap (c : Cmd) : Statement (.telemSnap c) := by
  intro d p h w; injection h with h; injection h with h e; subst h
  exact mailbox_operands (c := c) w (by decide) rfl rfl rfl rfl e
theorem MailboxOperands.portCtlSet (c : Cmd) : Statement (.portCtlSet c) := by
  intro d p h w; injection h with h; injection h with h e; subst h
  exact mailbox_operands (c := c) w (by decide) rfl rfl rfl rfl e
theorem MailboxOperands.portCtlRetrain (c : Cmd) : Statement (.portCtlRetrain c) := by
  intro d p h w; injection h with h; injection h with h e; subst h
  exact mailbox_operands (c := c) w (by decide) rfl rfl rfl rfl e
theorem MailboxOperands.portCtlBounce (c : Cmd) : Statement (.portCtlBounce c) := by
  intro d p h w; injection h with h; injection h with h e; subst h
  exact mailbox_operands (c := c) w (by decide) rfl rfl rfl rfl e
theorem MailboxOperands.laneScanContour (c : Cmd) : Statement (.laneScanContour c) := by
  intro d p h w; injection h with h; injection h with h e; subst h
  exact mailbox_operands (c := c) w (by decide) rfl rfl rfl rfl e
theorem MailboxOperands.laneScanMap (c : Cmd) : Statement (.laneScanMap c) := by
  intro d p h w; injection h with h; injection h with h e; subst h
  exact mailbox_operands (c := c) w (by decide) rfl rfl rfl rfl e
theorem MailboxOperands.scanComplete (lane : Nat) (m : ScanRes) : Statement (.scanComplete lane m) := by
  intro d p h; exact nomatch h
theorem MailboxOperands.backgroundScan : Statement .backgroundScan := by
  intro d p h; exact nomatch h
theorem MailboxOperands.laneTestStart (c : Cmd) : Statement (.laneTestStart c) := by
  intro d p h w; injection h with h; injection h with h e; subst h
  exact mailbox_operands (c := c) w (by decide) rfl rfl rfl rfl e
theorem MailboxOperands.laneTestStop (c : Cmd) : Statement (.laneTestStop c) := by
  intro d p h w; injection h with h; injection h with h e; subst h
  exact mailbox_operands (c := c) w (by decide) rfl rfl rfl rfl e
theorem MailboxOperands.linkDataFlitRx (k : Nat) (x : FlitRx) : Statement (.linkDataFlitRx k x) := by
  intro d p h; exact nomatch h
theorem MailboxOperands.linkSlotFailed (k : Nat) : Statement (.linkSlotFailed k) := by
  intro d p h; exact nomatch h
theorem MailboxOperands.fecUncorrectable (lane : CodewordRx) : Statement (.fecUncorrectable lane) := by
  intro d p h; exact nomatch h
theorem MailboxOperands.lcfRx (k : Nat) (m : LcfRx) : Statement (.lcfRx k m) := by
  intro d p h; exact nomatch h
theorem MailboxOperands.replayTimeout (k : Nat) : Statement (.replayTimeout k) := by
  intro d p h; exact nomatch h
theorem MailboxOperands.laneLockLoss (lane : Nat) : Statement (.laneLockLoss lane) := by
  intro d p h; exact nomatch h
theorem MailboxOperands.trainingSequenceRx (k : Nat) (t : Ts) (good : Nat) : Statement (.trainingSequenceRx k t good) := by
  intro d p h; exact nomatch h
theorem MailboxOperands.quietEnd (k : Nat) : Statement (.quietEnd k) := by
  intro d p h; exact nomatch h
theorem MailboxOperands.rateTryTimeout (k : Nat) : Statement (.rateTryTimeout k) := by
  intro d p h; exact nomatch h
theorem MailboxOperands.rateFallback (k : Nat) (energy : Nat) : Statement (.rateFallback k energy) := by
  intro d p h; exact nomatch h
theorem MailboxOperands.laneWaitExpire (k : Nat) : Statement (.laneWaitExpire k) := by
  intro d p h; exact nomatch h
theorem MailboxOperands.retrainLimit (k : Nat) : Statement (.retrainLimit k) := by
  intro d p h; exact nomatch h
theorem MailboxOperands.napEntry (k : Nat) : Statement (.napEntry k) := by
  intro d p h; exact nomatch h
theorem MailboxOperands.txWake (k : Nat) : Statement (.txWake k) := by
  intro d p h; exact nomatch h
theorem MailboxOperands.wakeRelockTimeout (k : Nat) : Statement (.wakeRelockTimeout k) := by
  intro d p h; exact nomatch h
theorem MailboxOperands.flitTx (k : Nat) : Statement (.flitTx k) := by
  intro d p h; exact nomatch h
theorem MailboxOperands.escapeTimeout (order : Nat) : Statement (.escapeTimeout order) := by
  intro d p h; exact nomatch h
theorem MailboxOperands.gapTimeout (src : Nat) (cls : Nat) : Statement (.gapTimeout src cls) := by
  intro d p h; exact nomatch h
theorem MailboxOperands.msgGapTimeout (src : Nat) (msg : Nat) : Statement (.msgGapTimeout src msg) := by
  intro d p h; exact nomatch h
theorem MailboxOperands.msgSettleTimeout (msg : Nat) : Statement (.msgSettleTimeout msg) := by
  intro d p h; exact nomatch h
theorem MailboxOperands.creditFlush (src : Nat) : Statement (.creditFlush src) := by
  intro d p h; exact nomatch h
theorem MailboxOperands.grantReclaim (src : Nat) : Statement (.grantReclaim src) := by
  intro d p h; exact nomatch h
theorem MailboxOperands.grantRelease (dst : Nat) : Statement (.grantRelease dst) := by
  intro d p h; exact nomatch h
theorem MailboxOperands.grantReq (m : Msg) : Statement (.grantReq m) := by
  intro d p h; exact nomatch h
theorem MailboxOperands.credit (m : Msg) : Statement (.credit m) := by
  intro d p h; exact nomatch h
theorem MailboxOperands.write (m : Msg) : Statement (.write m) := by
  intro d p h; exact nomatch h
theorem MailboxOperands.read (m : Msg) : Statement (.read m) := by
  intro d p h; exact nomatch h
theorem MailboxOperands.atomic (m : Msg) : Statement (.atomic m) := by
  intro d p h; exact nomatch h
theorem MailboxOperands.fill (m : Msg) : Statement (.fill m) := by
  intro d p h; exact nomatch h
theorem MailboxOperands.hpRelease (order : Nat) : Statement (.hpRelease order) := by
  intro d p h; exact nomatch h
theorem MailboxOperands.wack (m : Msg) : Statement (.wack m) := by
  intro d p h; exact nomatch h
theorem MailboxOperands.rdata (m : Msg) : Statement (.rdata m) := by
  intro d p h; exact nomatch h
theorem MailboxOperands.aold (m : Msg) : Statement (.aold m) := by
  intro d p h; exact nomatch h
theorem MailboxOperands.rateIncrease (key : Nat) : Statement (.rateIncrease key) := by
  intro d p h; exact nomatch h
theorem MailboxOperands.raw (m : Msg) : Statement (.raw m) := by
  intro d p h; exact nomatch h
theorem MailboxOperands.partial_ (m : Msg) : Statement (.partial_ m) := by
  intro d p h; exact nomatch h
theorem MailboxOperands.result (m : Msg) : Statement (.result m) := by
  intro d p h; exact nomatch h
theorem MailboxOperands.counts (m : Msg) : Statement (.counts m) := by
  intro d p h; exact nomatch h
theorem MailboxOperands.row (m : Msg) : Statement (.row m) := by
  intro d p h; exact nomatch h
theorem MailboxOperands.abort (m : Msg) : Statement (.abort m) := by
  intro d p h; exact nomatch h
theorem MailboxOperands.nack (m : Msg) : Statement (.nack m) := by
  intro d p h; exact nomatch h
theorem MailboxOperands.sramError (unit : Nat) (ue : Bool) (p : Nat) (hit : SramHit) (addr : Word) (syndrome : Word) : Statement (.sramError unit ue p hit addr syndrome) := by
  intro d p h; exact nomatch h
theorem MailboxOperands.heartbeatSend (k : Nat) : Statement (.heartbeatSend k) := by
  intro d p h; exact nomatch h
theorem MailboxOperands.rollcallMiss (k : Nat) : Statement (.rollcallMiss k) := by
  intro d p h; exact nomatch h
theorem MailboxOperands.tallyTimeout (node : Nat) : Statement (.tallyTimeout node) := by
  intro d p h; exact nomatch h
theorem MailboxOperands.isolationTimeout : Statement .isolationTimeout := by
  intro d p h; exact nomatch h
theorem MailboxOperands.engineProgressExpire (p : Nat) (e : Nat) : Statement (.engineProgressExpire p e) := by
  intro d p h; exact nomatch h
theorem MailboxOperands.eResetDone (p : Nat) (e : Nat) : Statement (.eResetDone p e) := by
  intro d p h; exact nomatch h
theorem MailboxOperands.eResetHung (p : Nat) (e : Nat) : Statement (.eResetHung p e) := by
  intro d p h; exact nomatch h
theorem MailboxOperands.partitionProgressExpire (p : Nat) : Statement (.partitionProgressExpire p) := by
  intro d p h; exact nomatch h
theorem MailboxOperands.pResetDrainDone (p : Nat) : Statement (.pResetDrainDone p) := by
  intro d p h; exact nomatch h
theorem MailboxOperands.pResetScrubDone (p : Nat) : Statement (.pResetScrubDone p) := by
  intro d p h; exact nomatch h
theorem MailboxOperands.pResetHung (p : Nat) : Statement (.pResetHung p) := by
  intro d p h; exact nomatch h
theorem MailboxOperands.pResetQuietEnd (p : Nat) : Statement (.pResetQuietEnd p) := by
  intro d p h; exact nomatch h
theorem MailboxOperands.portProgressExpire (k : Nat) : Statement (.portProgressExpire k) := by
  intro d p h; exact nomatch h
theorem MailboxOperands.watchdogExpire (core : Nat) : Statement (.watchdogExpire core) := by
  intro d p h; exact nomatch h
theorem MailboxOperands.mcRestartDone : Statement .mcRestartDone := by
  intro d p h; exact nomatch h
theorem MailboxOperands.dResetReadyTimeout : Statement .dResetReadyTimeout := by
  intro d p h; exact nomatch h
theorem MailboxOperands.resetLevelC (c : Cmd) : Statement (.resetLevelC c) := by
  intro d p h w; injection h with h; injection h with h e; subst h
  exact mailbox_operands (c := c) w (by decide) rfl rfl rfl rfl e
theorem MailboxOperands.resetLevelE (c : Cmd) : Statement (.resetLevelE c) := by
  intro d p h w; injection h with h; injection h with h e; subst h
  exact mailbox_operands (c := c) w (by decide) rfl rfl rfl rfl e
theorem MailboxOperands.resetLevelP (c : Cmd) : Statement (.resetLevelP c) := by
  intro d p h w; injection h with h; injection h with h e; subst h
  exact mailbox_operands (c := c) w (by decide) rfl rfl rfl rfl e
theorem MailboxOperands.resetLevelD (c : Cmd) : Statement (.resetLevelD c) := by
  intro d p h w; injection h with h; injection h with h e; subst h
  exact mailbox_operands (c := c) w (by decide) rfl rfl rfl rfl e
theorem MailboxOperands.hangSet (c : Cmd) : Statement (.hangSet c) := by
  intro d p h w; injection h with h; injection h with h e; subst h
  exact mailbox_operands (c := c) w (by decide) rfl rfl rfl rfl e
theorem MailboxOperands.rollcallStatus (c : Cmd) : Statement (.rollcallStatus c) := by
  intro d p h w; injection h with h; injection h with h e; subst h
  exact mailbox_operands (c := c) w (by decide) rfl rfl rfl rfl e
theorem MailboxOperands.rollcallAdmit (c : Cmd) : Statement (.rollcallAdmit c) := by
  intro d p h w; injection h with h; injection h with h e; subst h
  exact mailbox_operands (c := c) w (by decide) rfl rfl rfl rfl e
theorem MailboxOperands.rollcallExpel (c : Cmd) : Statement (.rollcallExpel c) := by
  intro d p h w; injection h with h; injection h with h e; subst h
  exact mailbox_operands (c := c) w (by decide) rfl rfl rfl rfl e
theorem MailboxOperands.substituteSeat (c : Cmd) : Statement (.substituteSeat c) := by
  intro d p h w; injection h with h; injection h with h e; subst h
  exact mailbox_operands (c := c) w (by decide) rfl rfl rfl rfl e
theorem MailboxOperands.substituteAnnounce (c : Cmd) : Statement (.substituteAnnounce c) := by
  intro d p h w; injection h with h; injection h with h e; subst h
  exact mailbox_operands (c := c) w (by decide) rfl rfl rfl rfl e
theorem MailboxOperands.substituteCommit (c : Cmd) : Statement (.substituteCommit c) := by
  intro d p h w; injection h with h; injection h with h e; subst h
  exact mailbox_operands (c := c) w (by decide) rfl rfl rfl rfl e
theorem MailboxOperands.substituteRelease (c : Cmd) : Statement (.substituteRelease c) := by
  intro d p h w; injection h with h; injection h with h e; subst h
  exact mailbox_operands (c := c) w (by decide) rfl rfl rfl rfl e
theorem MailboxOperands.injectPolicy (c : Cmd) : Statement (.injectPolicy c) := by
  intro d p h w; injection h with h; injection h with h e; subst h
  exact mailbox_operands (c := c) w (by decide) rfl rfl rfl rfl e
theorem MailboxOperands.injectFaultLane (c : Cmd) : Statement (.injectFaultLane c) := by
  intro d p h w; injection h with h; injection h with h e; subst h
  exact mailbox_operands (c := c) w (by decide) rfl rfl rfl rfl e
theorem MailboxOperands.injectFaultSramCe (c : Cmd) : Statement (.injectFaultSramCe c) := by
  intro d p h w; injection h with h; injection h with h e; subst h
  exact mailbox_operands (c := c) w (by decide) rfl rfl rfl rfl e
theorem MailboxOperands.injectFaultSramUe (c : Cmd) : Statement (.injectFaultSramUe c) := by
  intro d p h w; injection h with h; injection h with h e; subst h
  exact mailbox_operands (c := c) w (by decide) rfl rfl rfl rfl e
theorem MailboxOperands.injectFaultHdpCrc (c : Cmd) : Statement (.injectFaultHdpCrc c) := by
  intro d p h w; injection h with h; injection h with h e; subst h
  exact mailbox_operands (c := c) w (by decide) rfl rfl rfl rfl e
theorem MailboxOperands.injectFaultEngineStall (c : Cmd) : Statement (.injectFaultEngineStall c) := by
  intro d p h w; injection h with h; injection h with h e; subst h
  exact mailbox_operands (c := c) w (by decide) rfl rfl rfl rfl e
theorem MailboxOperands.injectFaultResetStall (c : Cmd) : Statement (.injectFaultResetStall c) := by
  intro d p h w; injection h with h; injection h with h e; subst h
  exact mailbox_operands (c := c) w (by decide) rfl rfl rfl rfl e
theorem MailboxOperands.injectFaultCsStall (c : Cmd) : Statement (.injectFaultCsStall c) := by
  intro d p h w; injection h with h; injection h with h e; subst h
  exact mailbox_operands (c := c) w (by decide) rfl rfl rfl rfl e
theorem MailboxOperands.injectFaultMcStall (c : Cmd) : Statement (.injectFaultMcStall c) := by
  intro d p h w; injection h with h; injection h with h e; subst h
  exact mailbox_operands (c := c) w (by decide) rfl rfl rfl rfl e
theorem MailboxOperands.injectFaultHbSilence (c : Cmd) : Statement (.injectFaultHbSilence c) := by
  intro d p h w; injection h with h; injection h with h e; subst h
  exact mailbox_operands (c := c) w (by decide) rfl rfl rfl rfl e
theorem MailboxOperands.injectAtBell : Statement .injectAtBell := by
  intro d p h; exact nomatch h
theorem MailboxOperands.logRead (c : Cmd) : Statement (.logRead c) := by
  intro d p h w; injection h with h; injection h with h e; subst h
  exact mailbox_operands (c := c) w (by decide) rfl rfl rfl rfl e
theorem MailboxOperands.getVersion (c : Cmd) : Statement (.getVersion c) := by
  intro d p h w; injection h with h; injection h with h e; subst h
  exact mailbox_operands (c := c) w (by decide) rfl rfl rfl rfl e
theorem MailboxOperands.getCapabilities (c : Cmd) : Statement (.getCapabilities c) := by
  intro d p h w; injection h with h; injection h with h e; subst h
  exact mailbox_operands (c := c) w (by decide) rfl rfl rfl rfl e
theorem MailboxOperands.negotiateAlgorithms (c : Cmd) : Statement (.negotiateAlgorithms c) := by
  intro d p h w; injection h with h; injection h with h e; subst h
  exact mailbox_operands (c := c) w (by decide) rfl rfl rfl rfl e
theorem MailboxOperands.getDigests (c : Cmd) : Statement (.getDigests c) := by
  intro d p h w; injection h with h; injection h with h e; subst h
  exact mailbox_operands (c := c) w (by decide) rfl rfl rfl rfl e
theorem MailboxOperands.getCertificate (c : Cmd) : Statement (.getCertificate c) := by
  intro d p h w; injection h with h; injection h with h e; subst h
  exact mailbox_operands (c := c) w (by decide) rfl rfl rfl rfl e
theorem MailboxOperands.challenge (c : Cmd) : Statement (.challenge c) := by
  intro d p h w; injection h with h; injection h with h e; subst h
  exact mailbox_operands (c := c) w (by decide) rfl rfl rfl rfl e
theorem MailboxOperands.getMeasurements (c : Cmd) : Statement (.getMeasurements c) := by
  intro d p h w; injection h with h; injection h with h e; subst h
  exact mailbox_operands (c := c) w (by decide) rfl rfl rfl rfl e
theorem MailboxOperands.keyExchange (c : Cmd) : Statement (.keyExchange c) := by
  intro d p h w; injection h with h; injection h with h e; subst h
  exact mailbox_operands (c := c) w (by decide) rfl rfl rfl rfl e
theorem MailboxOperands.finish (c : Cmd) : Statement (.finish c) := by
  intro d p h w; injection h with h; injection h with h e; subst h
  exact mailbox_operands (c := c) w (by decide) rfl rfl rfl rfl e
theorem MailboxOperands.heartbeat (c : Cmd) : Statement (.heartbeat c) := by
  intro d p h w; injection h with h; injection h with h e; subst h
  exact mailbox_operands (c := c) w (by decide) rfl rfl rfl rfl e
theorem MailboxOperands.keyUpdate (c : Cmd) : Statement (.keyUpdate c) := by
  intro d p h w; injection h with h; injection h with h e; subst h
  exact mailbox_operands (c := c) w (by decide) rfl rfl rfl rfl e
theorem MailboxOperands.endSession (c : Cmd) : Statement (.endSession c) := by
  intro d p h w; injection h with h; injection h with h e; subst h
  exact mailbox_operands (c := c) w (by decide) rfl rfl rfl rfl e
theorem MailboxOperands.spdmSessionTimeout (mbx : Nat) : Statement (.spdmSessionTimeout mbx) := by
  intro d p h; exact nomatch h
theorem MailboxOperands.reportCardGet (c : Cmd) : Statement (.reportCardGet c) := by
  intro d p h w; injection h with h; injection h with h e; subst h
  exact mailbox_operands (c := c) w (by decide) rfl rfl rfl rfl e
theorem MailboxOperands.keyWrapLoad (c : Cmd) : Statement (.keyWrapLoad c) := by
  intro d p h w; injection h with h; injection h with h e; subst h
  exact mailbox_operands (c := c) w (by decide) rfl rfl rfl rfl e
theorem MailboxOperands.keyRotateAdvance (c : Cmd) : Statement (.keyRotateAdvance c) := by
  intro d p h w; injection h with h; injection h with h e; subst h
  exact mailbox_operands (c := c) w (by decide) rfl rfl rfl rfl e
theorem MailboxOperands.keyRotateDropRetiring (c : Cmd) : Statement (.keyRotateDropRetiring c) := by
  intro d p h w; injection h with h; injection h with h e; subst h
  exact mailbox_operands (c := c) w (by decide) rfl rfl rfl rfl e
theorem MailboxOperands.keyChangeDrained (mbx : Nat) : Statement (.keyChangeDrained mbx) := by
  intro d p h; exact nomatch h
theorem MailboxOperands.sealBind (c : Cmd) : Statement (.sealBind c) := by
  intro d p h w; injection h with h; injection h with h e; subst h
  exact mailbox_operands (c := c) w (by decide) rfl rfl rfl rfl e
theorem MailboxOperands.sealUnbind (c : Cmd) : Statement (.sealUnbind c) := by
  intro d p h w; injection h with h; injection h with h e; subst h
  exact mailbox_operands (c := c) w (by decide) rfl rfl rfl rfl e
theorem MailboxOperands.confClaim (c : Cmd) : Statement (.confClaim c) := by
  intro d p h w; injection h with h; injection h with h e; subst h
  exact mailbox_operands (c := c) w (by decide) rfl rfl rfl rfl e
theorem MailboxOperands.claimScrubDone (p : Nat) : Statement (.claimScrubDone p) := by
  intro d p h; exact nomatch h
theorem MailboxOperands.confRelease (c : Cmd) : Statement (.confRelease c) := by
  intro d p h w; injection h with h; injection h with h e; subst h
  exact mailbox_operands (c := c) w (by decide) rfl rfl rfl rfl e
theorem MailboxOperands.deviceScrubDone : Statement .deviceScrubDone := by
  intro d p h; exact nomatch h
theorem MailboxOperands.keyStatus (c : Cmd) : Statement (.keyStatus c) := by
  intro d p h w; injection h with h; injection h with h e; subst h
  exact mailbox_operands (c := c) w (by decide) rfl rfl rfl rfl e
theorem MailboxOperands.debugUnlock (c : Cmd) : Statement (.debugUnlock c) := by
  intro d p h w; injection h with h; injection h with h e; subst h
  exact mailbox_operands (c := c) w (by decide) rfl rfl rfl rfl e
theorem MailboxOperands.meterRead (c : Cmd) : Statement (.meterRead c) := by
  intro d p h w; injection h with h; injection h with h e; subst h
  exact mailbox_operands (c := c) w (by decide) rfl rfl rfl rfl e
theorem MailboxOperands.meterMark (c : Cmd) : Statement (.meterMark c) := by
  intro d p h w; injection h with h; injection h with h e; subst h
  exact mailbox_operands (c := c) w (by decide) rfl rfl rfl rfl e
theorem MailboxOperands.meterLogRead (c : Cmd) : Statement (.meterLogRead c) := by
  intro d p h w; injection h with h; injection h with h e; subst h
  exact mailbox_operands (c := c) w (by decide) rfl rfl rfl rfl e
theorem MailboxOperands.meterTime (c : Cmd) : Statement (.meterTime c) := by
  intro d p h w; injection h with h; injection h with h e; subst h
  exact mailbox_operands (c := c) w (by decide) rfl rfl rfl rfl e
theorem MailboxOperands.meterIdentity (c : Cmd) : Statement (.meterIdentity c) := by
  intro d p h w; injection h with h; injection h with h e; subst h
  exact mailbox_operands (c := c) w (by decide) rfl rfl rfl rfl e
theorem MailboxOperands.meterResponseRx (good : Bool) : Statement (.meterResponseRx good) := by
  intro d p h; exact nomatch h
theorem MailboxOperands.meterTickRx (good : Bool) : Statement (.meterTickRx good) := by
  intro d p h; exact nomatch h
theorem MailboxOperands.meterRequestTimeout : Statement .meterRequestTimeout := by
  intro d p h; exact nomatch h
theorem MailboxOperands.meterLinkSilence : Statement .meterLinkSilence := by
  intro d p h; exact nomatch h
theorem MailboxOperands.meterSyncRetry : Statement .meterSyncRetry := by
  intro d p h; exact nomatch h
theorem MailboxOperands.meterCalendarTick : Statement .meterCalendarTick := by
  intro d p h; exact nomatch h
theorem MailboxOperands.meterSample (n : Nat) (vCode : Int) (iCode : Int) : Statement (.meterSample n vCode iCode) := by
  intro d p h; exact nomatch h
theorem MailboxOperands.meterSealChange (n : Nat) (opened : Bool) : Statement (.meterSealChange n opened) := by
  intro d p h; exact nomatch h
theorem MailboxOperands.meterSupplyLoss (n : Nat) : Statement (.meterSupplyLoss n) := by
  intro d p h; exact nomatch h
theorem MailboxOperands.meterSupplyReturn (n : Nat) (good : Bool) : Statement (.meterSupplyReturn n good) := by
  intro d p h; exact nomatch h
theorem MailboxOperands.meterBackupCheck (low : Bool) : Statement (.meterBackupCheck low) := by
  intro d p h; exact nomatch h
theorem MailboxOperands.meterRecordSigned : Statement .meterRecordSigned := by
  intro d p h; exact nomatch h
theorem MailboxOperands.sync (seq : Nat) : Statement (.sync seq) := by
  intro d p h; exact nomatch h
theorem MailboxOperands.readValues (seq : Nat) : Statement (.readValues seq) := by
  intro d p h; exact nomatch h
theorem MailboxOperands.readRecord (seq : Nat) (rseq : Nat) : Statement (.readRecord seq rseq) := by
  intro d p h; exact nomatch h
theorem MailboxOperands.writeMark (n : Nat) (seq : Nat) (data : List Word) : Statement (.writeMark n seq data) := by
  intro d p h; exact nomatch h
theorem MailboxOperands.readIdentity (seq : Nat) : Statement (.readIdentity seq) := by
  intro d p h; exact nomatch h
theorem MailboxOperands.readStatus (seq : Nat) : Statement (.readStatus seq) := by
  intro d p h; exact nomatch h
theorem MailboxOperands.mtlUnknownType (type : Nat) (seq : Nat) : Statement (.mtlUnknownType type seq) := by
  intro d p h; exact nomatch h
theorem MailboxOperands.paramWrite (n : Nat) (seq : Nat) (params : List Word) : Statement (.paramWrite n seq params) := by
  intro d p h; exact nomatch h
theorem MailboxOperands.timeSet (n : Nat) (seq : Nat) (cal : Nat) : Statement (.timeSet n seq cal) := by
  intro d p h; exact nomatch h
theorem MailboxOperands.paramRead (seq : Nat) : Statement (.paramRead seq) := by
  intro d p h; exact nomatch h
theorem MailboxOperands.counterSnap (c : Cmd) : Statement (.counterSnap c) := by
  intro d p h w; injection h with h; injection h with h e; subst h
  exact mailbox_operands (c := c) w (by decide) rfl rfl rfl rfl e
theorem MailboxOperands.traceArmRing (c : Cmd) : Statement (.traceArmRing c) := by
  intro d p h w; injection h with h; injection h with h e; subst h
  exact mailbox_operands (c := c) w (by decide) rfl rfl rfl rfl e
theorem MailboxOperands.traceArmArm (c : Cmd) : Statement (.traceArmArm c) := by
  intro d p h w; injection h with h; injection h with h e; subst h
  exact mailbox_operands (c := c) w (by decide) rfl rfl rfl rfl e
theorem MailboxOperands.traceArmStop (c : Cmd) : Statement (.traceArmStop c) := by
  intro d p h w; injection h with h; injection h with h e; subst h
  exact mailbox_operands (c := c) w (by decide) rfl rfl rfl rfl e
theorem MailboxOperands.traceArmClear (c : Cmd) : Statement (.traceArmClear c) := by
  intro d p h w; injection h with h; injection h with h e; subst h
  exact mailbox_operands (c := c) w (by decide) rfl rfl rfl rfl e
theorem MailboxOperands.traceTrigger (core : Nat) (value : Word) : Statement (.traceTrigger core value) := by
  intro d p h; exact nomatch h
theorem MailboxOperands.traceRead (c : Cmd) : Statement (.traceRead c) := by
  intro d p h w; injection h with h; injection h with h e; subst h
  exact mailbox_operands (c := c) w (by decide) rfl rfl rfl rfl e
theorem MailboxOperands.waitforDump (c : Cmd) : Statement (.waitforDump c) := by
  intro d p h w; injection h with h; injection h with h e; subst h
  exact mailbox_operands (c := c) w (by decide) rfl rfl rfl rfl e
theorem MailboxOperands.status (pec : Bool) : Statement (.status pec) := by
  intro d p h; exact nomatch h
theorem MailboxOperands.regRead (pec : Bool) (w : Word) : Statement (.regRead pec w) := by
  intro d p h; exact nomatch h
theorem MailboxOperands.mbxWrite (pec : Bool) (off : Nat) (data : List Word) : Statement (.mbxWrite pec off data) := by
  intro d p h; exact nomatch h
theorem MailboxOperands.mbxRead (pec : Bool) (off : Nat) (len : Nat) : Statement (.mbxRead pec off len) := by
  intro d p h; exact nomatch h
theorem MailboxOperands.alertClear (pec : Bool) (mask : Nat) : Statement (.alertClear pec mask) := by
  intro d p h; exact nomatch h
theorem MailboxOperands.alertResponseRead (won : Bool) : Statement (.alertResponseRead won) := by
  intro d p h; exact nomatch h
theorem MailboxOperands.smbusBusTimeout : Statement .smbusBusTimeout := by
  intro d p h; exact nomatch h
theorem MailboxOperands.spdmUnsupportedRequest (c : Cmd) (code : Nat) : Statement (.spdmUnsupportedRequest c code) := by
  intro d p h w; injection h with h; injection h with h e; subst h
  simp only [Instr.wf, Bool.and_eq_true] at w; exact mailbox_operands w.1.1 (by decide) rfl rfl rfl rfl e
theorem MailboxOperands.partitionFenceDone (p : Nat) : Statement (.partitionFenceDone p) := by
  intro d p h; exact nomatch h
theorem MailboxOperands.partitionFenceHung (p : Nat) : Statement (.partitionFenceHung p) := by
  intro d p h; exact nomatch h
theorem MailboxOperands.portDrainDone (k : Nat) : Statement (.portDrainDone k) := by
  intro d p h; exact nomatch h
theorem MailboxOperands.portDrainTimeout (k : Nat) : Statement (.portDrainTimeout k) := by
  intro d p h; exact nomatch h
theorem MailboxOperands.nakRepeat (k : Nat) : Statement (.nakRepeat k) := by
  intro d p h; exact nomatch h
theorem MailboxOperands.linkControlFlitSend (k : Nat) : Statement (.linkControlFlitSend k) := by
  intro d p h; exact nomatch h
theorem MailboxOperands.prbsCheckerLock (lane : Nat) (errors : Nat) (bits : Nat) : Statement (.prbsCheckerLock lane errors bits) := by
  intro d p h; exact nomatch h
theorem MailboxOperands.laneLossEnd (lane : Nat) : Statement (.laneLossEnd lane) := by
  intro d p h; exact nomatch h
theorem MailboxOperands.hdpTrainingDone (outFailed inFailed : List (Nat × List Nat)) :
    Statement (.hdpTrainingDone outFailed inFailed) := by
  intro d p h; exact nomatch h

end Sys2Proof.Laws
end

