-- ==== Sys2Proof/Tests/Slice0.lean ====
section
/-!
SUPPORT. The model's own tests: for each statement, states and operands that meet its hypotheses; ill-formed commands that
the checks refuse; small steps with results read from the spec's text.
-/
namespace Sys2Proof.Tests
open Sys2Proof.Machine

-- Proofs are checked one after another here: run side by side, many would wait for a long one, each on a thread of its own.
set_option Elab.async false

/-- A fabric die that is up: powered, out of RST_N, start-up done, HDP trained, READY = 1. -/
def up : Fabric :=
  { ready := true, hdp := { trained := true }, pins := { powerGood := true, rstN := true }, aon := { stage := 8 } }

/-- A device with a fabric die and an empty queue. -/
def dev (f : Fabric) : State := { fab := f }

/-- A command of a source in its own mailbox. -/
def cm (src : Nat) (pay : List Word := []) (tag : Nat := 0) : Cmd :=
  { src := src, mbx := src, seq := 1, tag := tag, len := 8 * pay.length, pay := pay }

/-- A live context: slot 0, generation 1, of partition 0 (Context Tag 1), with a segment of 2 MiB at 0. -/
def seg0 : Seg := { w0 := 0, w1 := 1, w2 := 0, w3 := 0x8F }
def withCtx (f : Fabric) : Fabric := f.updCtx 1 fun c => { c with state := .live, gen := 1, weight := 1, segs := [(0, seg0)] }

/-! ### Ill-formed commands: each check refuses one -/

def okMsg : Msg := { kind := .write, dst := 1, src := 2, cls := 0 }
theorem test_wf_cmd : (Instr.nop (cm 0)).wf = true ∧ (Instr.nop { cm 0 with src := 34 }).wf = false ∧ (Instr.seqQuery { cm 0 with mbx := 256 }).wf = false ∧
    (Instr.cmdAbort { cm 0 with seq := 2 ^ 32 }).wf = false ∧ (Instr.ctxCreate { cm 0 with tag := 65536 }).wf = false ∧
    (Instr.segSet { cm 0 with len := 65536 }).wf = false ∧ (Instr.xferOne { cm 0 with pay := zeros 505 }).wf = false ∧
    (Instr.meterRead { cm 0 with doneAddr := 2 ^ 48 }).wf = false := by decide +kernel
theorem test_wf_opcodes : (Instr.undefinedOpcode (cm 0) 0x100).wf = false ∧ (Instr.undefinedOpcode (cm 0) 65536).wf = false ∧ (Instr.undefinedOpcode (cm 0) 3).wf = true ∧
    (Instr.spdmUnsupportedRequest (cm 0) 0x84).wf = false ∧ (Instr.mtlUnknownType 5 0).wf = false ∧ (Instr.mtlUnknownType 6 0).wf = true := by decide +kernel
theorem test_wf_units : (Instr.contextLingerEnd 65536).wf = false ∧ (Instr.segSetDrained 256).wf = false ∧ (Instr.descriptorStart 32 0).wf = false ∧
    (Instr.tileIssue 0 6).wf = false ∧ (Instr.requestTimeout 4096).wf = false ∧ (Instr.nringEnable 0 33 0).wf = false ∧ (Instr.nringEnable 0 0 32).wf = false ∧
    (Instr.registerWrite 0 (2 ^ 26) 8 [0]).wf = false ∧ (Instr.registerWrite 0 0 8 [0, 0]).wf = false ∧ (Instr.registerWrite 0 0 8 []).wf = true ∧ (Instr.hdpRdData 4096 [] false).wf = false ∧
    (Instr.hdpCrcError 64 ⟨1, false, zeros 8, 0⟩).wf = false ∧ (Instr.hdpCrcError 63 ⟨1, false, zeros 7, 0⟩).wf = false ∧ (Instr.hdpReplayRequest 0 0).wf = false ∧ (Instr.rstNRelease (2 ^ 39)).wf = false := by decide +kernel
theorem test_wf_links : (Instr.quietEnd 8).wf = false ∧ (Instr.laneLockLoss 192).wf = false ∧ (Instr.lcfRx 0 ⟨{ ack := 65536 }, 0⟩).wf = false ∧
    (Instr.lcfRx 0 ⟨{ ack := 0, cr := [65536] }, 0⟩).wf = false ∧ (Instr.trainingSequenceRx 0 { kind := 8 } 0).wf = false ∧
    (Instr.trainingSequenceRx 0 { kind := 0, node := 32768 } 0).wf = false ∧ (Instr.linkDataFlitRx 0 ⟨{ dst := 0, src := 0, cls := 4 }, 0⟩).wf = false ∧
    (Instr.linkDataFlitRx 0 ⟨{ dst := 0, src := 0, cls := 3, data := zeros 31 }, 0⟩).wf = false ∧ (Instr.timetableWindowOpen 64).wf = false ∧
    (Instr.prbsCheckerLock 0 5 4).wf = false ∧ (Instr.hdpTrainingDone [(64, [])] []).wf = false ∧
    (Instr.fecUncorrectable ⟨0, 0, [4]⟩).wf = false := by decide +kernel
theorem test_wf_messages : (Instr.write okMsg).wf = true ∧ (Instr.write { okMsg with dst := 32768 }).wf = false ∧ (Instr.read { okMsg with reqId := 4096 }).wf = false ∧
    (Instr.atomic { okMsg with atop := 256 }).wf = false ∧ (Instr.credit { okMsg with cred := 4096 }).wf = false ∧ (Instr.raw { okMsg with coll := 2 ^ 24 }).wf = false ∧
    (Instr.fill { okMsg with blocks := 33 }).wf = false ∧ (Instr.gapTimeout 0 2).wf = false ∧ (Instr.msgGapTimeout 0 128).wf = false ∧
    (Instr.creditFlush 32768).wf = false := by decide +kernel
theorem test_wf_rest : (Instr.watchdogExpire 8).wf = false ∧ (Instr.engineProgressExpire 0 6).wf = false ∧ (Instr.sync 256).wf = false ∧ (Instr.readRecord 0 (2 ^ 32)).wf = false ∧
    (Instr.writeMark 0 0 (zeros 25)).wf = false ∧ (Instr.mbxWrite true 4 [0]).wf = false ∧ (Instr.mbxRead true 0 241).wf = false ∧ (Instr.alertClear true 256).wf = false ∧
    (Instr.traceTrigger 8 0).wf = false ∧ (Instr.heartbeatSend 8).wf = false ∧ (Instr.tallyTimeout 32768).wf = false := by decide +kernel

/-! StepTakesTheFrontCommand -/

theorem witness_front : ({ dev up with pending := [.powerOn, .rstNAssert] } : State).pending = .powerOn :: [.rstNAssert] := rfl

/-! IdleStepIsOneRefTick -/

theorem witness_idle_counting : (dev up).pending = [] ∧ (dev up).fab.counting = true := by decide
theorem witness_idle_stopped : State.reset.pending = [] ∧ State.reset.fab.counting = false := by decide

/-! DiesAreSeparate -/

theorem witness_separate_meter : exec .meterCalendarTick (dev up) = .next { dev up with meter := (dev up).meter.calendarTick } ∧
    onMeterDie .meterCalendarTick = true := ⟨rfl, rfl⟩
theorem witness_separate_fabric : exec .refclkEdgeGap (dev up) = .next { dev up with fab := up.edgeGap } ∧
    onMeterDie .refclkEdgeGap = false := ⟨rfl, rfl⟩

/-! MailboxCommandWithoutAccess -/

theorem witness_no_access : mailboxOf (.nop { cm 1 with mbx := 0 }) = some ({ cm 1 with mbx := 0 }, 0) ∧
    up.canSend 1 = true ∧ up.mbxExists 0 = true ∧ up.mbxAccess 1 0 = false := by decide

/-! MailboxBusyWithACommand -/

def upOwn : Fabric := up.setMbx 0 { env := { own := true } }
theorem witness_busy : mailboxOf (.seqQuery (cm 0)) = some (cm 0, 1) ∧ upOwn.canSend 0 = true ∧ upOwn.mbxExists 0 = true ∧
    upOwn.mbxAccess 0 0 = true ∧ (upOwn.mbx 0).env.own = true := by decide

/-! MailboxReplaysItsRecord -/

def upRec : Fabric := up.setMbx 0 { record := some { env := { seq := 1, status := 1, result0 := 7, respLen := 8 }, resp := [5] } }
theorem witness_replay : mailboxOf (.ctxCreate (cm 0)) = some (cm 0, 0x100) ∧ upRec.canSend 0 = true ∧ upRec.mbxExists 0 = true ∧
    upRec.mbxAccess 0 0 = true ∧ (upRec.mbx 0).env.own = false ∧ upRec.ready = true ∧ upRec.ladder.restarting = false ∧
    (upRec.mbx 0).record = some { env := { seq := 1, status := 1, result0 := 7, respLen := 8 }, resp := [5] } := by decide

/-! MailboxWaitsForReady -/

def upWait : Fabric := { up with ready := false }
theorem witness_wait : mailboxOf (.bellRead (cm 0)) = some (cm 0, 0x304) ∧ upWait.canSend 0 = true ∧ upWait.mbxExists 0 = true ∧
    upWait.mbxAccess 0 0 = true ∧ (upWait.mbx 0).env.own = false ∧ upWait.ready = false := by decide

/-! NopAnswersItsPayload -/

theorem witness_nop : up.takes (cm 0 [5]) = true ∧ (cm 0 [5]).len ≤ 4032 := by decide
/-- NOP echoes its payload (Table 2.17). -/
theorem test_nop_echo : ((up.issue (cm 0 [5]) 0 nopBody).mbx 0).record.map (fun r => (r.env.status, r.env.respLen, r.resp)) =
    some (1, 8, [5]) := by decide

/-! SeqQueryReadsAMailbox -/

theorem witness_seq_query : ∀ x ∈ [(32, 3), (32, 32), (31, 31), (33, 33)], up.takes { cm x.1 [w64 x.2] with len := 8 } = true ∧
    up.noMailbox x.2 = false ∧ up.mbxAccess x.1 x.2 = true := by decide +kernel

/-! CmdAbortStopsAHeldOrder -/

def upOrder : Fabric :=
  { up.setMbx 2 { env := { own := true, seq := 9, opcode := 0x580 }, accepted := true } with
    orders := [{ id := 0, mbx := 2, rank := 5, tick := 0, src := 2, opcode := 0x580, tag := 0, pay := [], len := 0, sets := [] }] }
theorem witness_abort : upOrder.takes { cm 32 [pack [(7, 0, 2), (63, 32, 9)]] with len := 8 } = true ∧ upOrder.mbxExists 2 = true ∧
    upOrder.confPart 2 = false ∧ (upOrder.mbx 2).env.own = true ∧ (upOrder.mbx 2).accepted = true ∧
    (upOrder.mbx 2).env.seq = 9 ∧ (upOrder.orders.any fun o => o.mbx == 2) = true ∧ (upOrder.part 0).issued = [] := by decide
/-- Mailbox 2 has issued a descriptor that has not started, or neither it nor an order of it is left. -/
def upUnstarted (issued : Bool) : Fabric :=
  (up.setMbx 2 { env := { own := true, seq := 9, opcode := 0x201, tag := mkTag 2 0 1 }, accepted := true }).updPart 2 fun x =>
    { x with issued := if issued then [{ mbx := 2, tag := mkTag 2 0 1, words := zeros 8 }] else [] }
theorem witness_abort_descriptor : ∀ b ∈ [false, true], (upUnstarted b).takes { cm 32 [pack [(7, 0, 2), (63, 32, 9)]] with len := 8 } = true ∧
    ((upUnstarted b).mbx 2).accepted = true ∧ ((upUnstarted b).orders.any fun o => o.mbx == 2) = false ∧ tagPart ((upUnstarted b).mbx 2).env.tag = 2 ∧
    (((upUnstarted b).part 2).issued.find? fun d => d.mbx == 2).isSome = b := by decide +kernel

/-! UndefinedOpcodeFaults -/

theorem witness_undefined : up.takes (cm 0) = true ∧ 3 ∉ definedOpcodes := by decide
theorem test_undefined_faults : ((up.issue (cm 0) 3 (bodyOf 3)).mbx 0).env.status = 3 := by decide

/-! MessageTimeEndAppliesAStandingOrder -/

def lone : Order := { id := 0, mbx := 32, rank := 4, tick := 0, src := 32, opcode := 0x700, tag := 0, pay := [], len := 0, sets := [] }
theorem witness_time_over : ({ up with orders := [lone], tick := 128 } : Fabric).live = true ∧ lone.tick + 128 ≤ 128 := by decide
theorem witness_order_fails : ({ up with tick := 128 } : Fabric).orderFails lone = false ∧
    (up.setMbx 32 { env := { own := true }, accepted := true }).orderFails { lone with opcode := 0x801, len := 16, pay := [0, 0] } = true := by decide +kernel
theorem witness_time_left : ({ up with orders := [lone], tick := 127 } : Fabric).live = true ∧ 127 < lone.tick + 128 := by decide

/-! ContradictedOrderIsSuperseded -/

def oa : Order := { id := 0, mbx := 33, rank := 3, tick := 5, src := 33, opcode := 0x700, tag := 0, pay := [], len := 0, sets := [(⟨6, 2, 0⟩, 400)] }
def ob : Order := { id := 1, mbx := 32, rank := 4, tick := 6, src := 32, opcode := 0x700, tag := 0, pay := [], len := 0, sets := [(⟨6, 2, 0⟩, 500)] }
theorem witness_contradiction : ({ up with orders := [oa, ob], tick := 133 } : Fabric).live = true ∧ oa.contradicts ob = true ∧
    oa.ahead ob = true ∧ ob.ahead oa = false ∧ oa.id ≠ ob.id ∧ ({ up with orders := [], tick := 133 } : Fabric).orderFails oa = false ∧ max oa.tick ob.tick < min oa.tick ob.tick + 128 ∧ min oa.tick ob.tick + 128 ≤ 133 ∧
    ((({ up with orders := [oa, ob], tick := 133 } : Fabric).mbx oa.mbx).env.own &&
      (({ up with orders := [], tick := 133 } : Fabric).applyOrder oa).limitsFailed oa) = false := by decide +kernel

/-! ClosedGateLeavesTheState -/

theorem witness_closed_mailbox : mailboxOf (.nop (cm 0)) = some (cm 0, 0) ∧ State.reset.fab.canSend 0 = false := by decide
theorem witness_closed_event : State.reset.fab.live = false ∧ State.reset.fab.counting = false := by decide

/-! CtxCreateMakesAContext -/

theorem witness_ctx_create : up.takes (cm 0 [0x1000, 0x11] 1) = true ∧ up.opens (cm 0 [0x1000, 0x11] 1) = true ∧
    onlyBits (wd (cm 0 [0x1000, 0x11] 1).pay 0) [(47, 12)] = true ∧ wd (cm 0 [0x1000, 0x11] 1).pay 1 = pack [(7, 4, 1), (0, 0, b2n true)] ∧
    (up.part 0).quietUntil ≤ up.tick ∧ (up.ctx 1).state = .free ∧ tagGen 1 ≠ (up.ctx 1).retiredGen := by decide
theorem test_ctx_create : ((up.issue (cm 0 [0x1000, 0x11] 1) 0x100 ctxCreateBody).ctx 1).state = .live := by decide

/-! CtxDestroyTearsDown -/

theorem witness_destroy_free : up.takes (cm 0 [] 1) = true ∧ up.opens (cm 0 [] 1) = true ∧ (up.ctx 1).state = .free := by decide
theorem witness_destroy_live : (withCtx up).takes (cm 0 [] 1) = true ∧ (withCtx up).opens (cm 0 [] 1) = true ∧
    ((withCtx up).ctx 1).state = .live ∧ ((withCtx up).ctx 1).gen = tagGen 1 ∧ ((withCtx up).part 0).runs = [] ∧ ((withCtx up).part 0).colls = [] ∧
    ((withCtx up).part 0).lists = [] ∧ ((withCtx up).part 0).issued = [] := by decide
def upDrain : Fabric := (withCtx up).updCtx 1 fun c => { c with state := .draining, destroyMbx := [32] }
theorem witness_destroy_draining : upDrain.takes (cm 0 [] 1) = true ∧ upDrain.opens (cm 0 [] 1) = true ∧
    (upDrain.ctx 1).state = .draining ∧ (upDrain.ctx 1).gen = tagGen 1 := by decide
theorem test_destroy_drains : (((withCtx up).issue (cm 0 [] 1) 0x101 ctxDestroyBody).ctx 1).state = .draining := by decide +kernel

/-! LingerEndFreesTheSlot -/

def upLinger : Fabric :=
  (upDrain.updCtx 1 fun c => { c with destroyMbx := [0] }).setMbx 0 { env := { own := true, opcode := 0x101, tag := 1 }, accepted := true }
theorem witness_linger : upLinger.live = true ∧ (upLinger.ctx 1).state = .draining ∧ (upLinger.ctx 1).gen = tagGen 1 ∧
    upLinger.ctxIdle 1 = true ∧ (upLinger.ctx 1).lastClose = 0 ∧ (upLinger.ctx 1).destroyMbx = [0] ∧
    (upLinger.mbx 0).env.opcode = 0x101 ∧ (upLinger.mbx 0).env.own = true ∧ (upLinger.mbx 0).accepted = true := by decide +kernel
theorem witness_linger_live : (withCtx up).live = true ∧ ((withCtx up).ctx 1).state ≠ .draining := by decide
theorem witness_linger_gap : (upLinger.updCtx 1 fun c => { c with lastClose := 5 }).live = true ∧
    ¬ ((((upLinger.updCtx 1 fun c => { c with lastClose := 5 }).ctx 1).lastClose = 0) ∨
      ((upLinger.updCtx 1 fun c => { c with lastClose := 5 }).ctx 1).lastClose + 312500 ≤ upLinger.tick) := by decide +kernel

/-! CtxQueryReadsTheSlot -/

theorem witness_query : up.takes (cm 0) = true ∧ up.opens (cm 0) = true ∧ (up.ctx 0).state = .free := by decide
theorem test_query_live : wd ((withCtx up).ctxWords 0 0) 0 = 0x0001001100000000 := by decide +kernel

/-! SegSetReplacesASegment -/

def segPay : List Word := [1, 0x200000, 1, 0, 0x8F]
theorem witness_seg_new : (withCtx up).takes (cm 0 segPay 1) = true ∧ (withCtx up).opensLive (cm 0 segPay 1) = true ∧
    wd segPay 0 = w64 1 ∧ ({ w0 := 0x200000, w1 := 1, w2 := 0, w3 := 0x8F } : Seg).zeroBad = false ∧
    segBad { w0 := 0x200000, w1 := 1, w2 := 0, w3 := 0x8F } (Map.vals (((withCtx up).ctx 1).segs.filter fun e => e.1 != 1)) = false ∧
    (((withCtx up).ctx 1).segs.get 1 {}).valid = false := by decide +kernel
theorem witness_seg_replaced : (withCtx up).takes (cm 0 [0, 0, 0, 0, 0] 1) = true ∧ (withCtx up).opensLive (cm 0 [0, 0, 0, 0, 0] 1) = true ∧
    ({} : Seg).zeroBad = false ∧ (((withCtx up).ctx 1).segs.get 0 {}).valid = true ∧ ({} : Seg) ≠ ((withCtx up).ctx 1).segs.get 0 {} ∧
    ((withCtx up).segUses 0 1 0 seg0).size = 0 := by decide +kernel
/-- The context with a running fill whose tile uses segment 0. -/
def upTile : Fabric := (withCtx up).updPart 0 fun x =>
  { x with runs := [{ id := 0, tag := 1, src := .mailbox 0, words := [pack [(63, 60, 4)], 0, 0, 2], phase := .running 0, nextPos := 2, nextTile := 1, tiles := [{ id := 0, pos := 0, size := 2, phase := .write, dstVa := 0x40, pend := 1, uses := [(0, 0x40, 128)] }] }], nextRun := 1 }
theorem witness_seg_used : upTile.takes (cm 0 [0, 0, 0, 0, 0] 1) = true ∧ upTile.opensLive (cm 0 [0, 0, 0, 0, 0] 1) = true ∧
    ((upTile.ctx 1).segs.get 0 {}).valid = true ∧ (upTile.segUses 0 1 0 seg0).size = 1 := by decide +kernel

/-! DrainedUsesCompleteTheCommand -/

def upDrained (seg : Bool) (uses : List (Nat × Nat × Nat)) : Fabric :=
  { upTile.setMbx 0 { env := { own := true, opcode := 0x103, tag := 1 }, accepted := true } with
    drains := [{ mbx := 0, uses := uses, colls := [], count := 1, segSet := seg }] }
theorem witness_drained : ∀ b, (upDrained b [(0, 0, 7)]).live = true ∧ ((upDrained b [(0, 0, 7)]).mbx 0).env.own = true ∧
    ((upDrained b [(0, 0, 7)]).mbx 0).accepted = true ∧
    (upDrained b [(0, 0, 7)]).drained { mbx := 0, uses := [(0, 0, 7)], colls := [], count := 1, segSet := b } = true := by decide +kernel
theorem witness_not_drained : ∀ b,
    (upDrained b [(0, 0, 0)]).drained { mbx := 0, uses := [(0, 0, 0)], colls := [], count := 1, segSet := b } = false := by decide +kernel

/-! InvalidateRemovesTranslations -/

theorem witness_invalidate : (withCtx up).takes (cm 0 [0, 0, 0] 1) = true ∧ (withCtx up).opensLive (cm 0 [0, 0, 0] 1) = true ∧
    ((withCtx up).goneUses 1 0 (2 ^ 57)).size = 0 := by decide +kernel
theorem witness_invalidate_used : upTile.takes (cm 0 [0, 1, 0] 1) = true ∧ upTile.opensLive (cm 0 [0, 1, 0] 1) = true ∧
    (upTile.goneUses 1 0 4096).size = 1 := by decide +kernel
def upTlb : Fabric := (withCtx up).updPart 0 fun x =>
  { x with tlb := [{ tag := 1, level := 1, vpn := 0, pte := 0x17 }, { tag := 1, level := 1, vpn := 1, pte := 0x1017 }, { tag := 2, level := 1, vpn := 0, pte := 0x17 }] }
theorem test_invalidate_page : ((upTlb.issue (cm 0 [0, 1, 0] 1) 0x104 (withColls invalidateBody)).part 0).tlb.map (fun e => (e.tag, e.vpn)) =
    [(1, 1), (2, 0)] := by decide +kernel

/-! ResumeRangeAndAdvice -/

theorem witness_resume_live : (withCtx up).takes (cm 0 [0] 1) = true ∧ (withCtx up).opensLive (cm 0 [0] 1) = true ∧ onlyBits 0 [(0, 0), (31, 16)] = true ∧
    ((withCtx up).ctx 1).state = .live := by decide
def upOut : Fabric := (withCtx up).updCtx 1 fun c => { c with state := .switchedOut, faultSeq := 1 }
theorem witness_resume_out : upOut.takes (cm 0 [0x10000] 1) = true ∧ upOut.opensLive (cm 0 [0x10000] 1) = true ∧
    onlyBits 0x10000 [(0, 0), (31, 16)] = true ∧ (upOut.ctx 1).state = .switchedOut ∧ bit 0x10000 0 = false := by decide
/-- The switched-out context with a descriptor parked on fault 1. -/
def upParked : Fabric := upOut.updPart 0 fun x =>
  { x with runs := [{ id := 0, tag := 1, src := .mailbox 0, words := zeros 8, phase := .parked 1 }], nextRun := 1 }
theorem witness_resume_parked : (∀ n ∈ [0x10000, 0x10001], upParked.takes (cm 0 [w64 n] 1) = true ∧ upParked.opensLive (cm 0 [w64 n] 1) = true ∧
    onlyBits (w64 n) [(0, 0), (31, 16)] = true) ∧ (upParked.ctx 1).state = .switchedOut ∧ (upParked.part 0).runs.map (fun r => (r.tag, r.phase, r.fin)) = [(1, .parked 1, none)] ∧
    (upParked.part 0).colls = [] := by decide +kernel
theorem test_resume_fail : ((upParked.issue (cm 0 [0x10001] 1) 0x105 (withColls ctxResumeBody)).mbx 0).env.result0 = 1 := by decide +kernel
/-- The context without a segment. -/
def upBare : Fabric := (withCtx up).updCtx 1 fun c => { c with segs := [] }
theorem witness_prefetch_outside : upBare.takes (cm 0 [0, 32256] 1) = true ∧ upBare.opensLive (cm 0 [0, 32256] 1) = true ∧ (upBare.ctx 1).segs = [] ∧
    (upBare.part 0).ranges = [] ∧ (upBare.part 0).walks = [] ∧ (upBare.part 0).runs = [] := by decide +kernel
theorem witness_prefetch : (withCtx up).takes (cm 0 [0, 32256] 1) = true ∧ (withCtx up).opensLive (cm 0 [0, 32256] 1) = true ∧
    onlyBits 0 [(56, 12)] = true ∧ wn (cm 0 [0, 32256] 1).pay 1 = 32256 := by decide
theorem witness_advise : (withCtx up).takes (cm 0 [0, 1, 1] 1) = true ∧ (adviseRanges ((withCtx up).ctx 1).advice 0 1 1).length ≤ 16 := by decide
theorem witness_advise_pin : (withCtx up).takes (cm 0 [0, 1, 3] 1) = true ∧ (adviseRanges ((withCtx up).ctx 1).advice 0 1 3).length ≤ 16 := by decide
def upAdvised : Fabric := (withCtx up).updCtx 1 fun c =>
  { c with advice := (List.range 16).map fun i => { page := 100 + i, pages := 1, depth := 32, pin := false } }
theorem witness_advise_full : upAdvised.takes (cm 0 [0, 1, 1] 1) = true ∧ upAdvised.opensLive (cm 0 [0, 1, 1] 1) = true ∧
    16 < (adviseRanges (upAdvised.ctx 1).advice 0 1 1).length := by decide +kernel

/-! TransferCommandsAreTaken -/

theorem witness_submit : (withCtx up).takes (cm 0 [0x1000] 1) = true ∧ (withCtx up).opensLive (cm 0 [0x1000] 1) = true ∧
    onlyBits 0x1000 [(47, 6)] = true := by decide
theorem witness_xfer : (withCtx up).takes (cm 0 (zeros 8) 1) = true ∧ (withCtx up).opensLive (cm 0 (zeros 8) 1) = true ∧ (cm 0 (zeros 8) 1).len = 64 := by decide
theorem witness_page_move : (withCtx up).takes (cm 0 (zeros 6) 1) = true ∧ (cm 0 (zeros 6) 1).len = 48 ∧ ((withCtx up).ctx 1).state = .live := by decide
theorem witness_list_unknown : (withCtx up).takes (cm 0 [7] 1) = true ∧ (withCtx up).opens (cm 0 [7] 1) = true ∧
    ((withCtx up).part 0).listNamed 1 7 = none := by decide
def upList (fin : Bool) : Fabric := (withCtx up).updPart 0 fun x =>
  { x with lists := [{ id := 0, cmdId := 5, tag := 1, listId := 7, descBase := 0, count := 4, cplBase := 0, halt := false, entry := 0, finished := fin }] }
theorem witness_list_known : ∀ b, (upList b).takes (cm 0 [7] 1) = true ∧ (upList b).opens (cm 0 [7] 1) = true ∧
    (((upList b).part 0).listNamed 1 7).map (fun l => l.finished) = some b := by decide +kernel

/-! EngineStartsAndIssues -/

def fillWords : List Word := [pack [(63, 60, 4)], 0xAB, 0, 2, 0, 0, 0, 0]
def upIssued : Fabric := (withCtx up).updPart 0 fun x => { x with issued := [{ mbx := 0, tag := 1, words := fillWords }] }
theorem witness_start : upIssued.live = true ∧ (upIssued.part 0).runs = [] ∧ (upIssued.part 0).eResets = [] ∧
    upIssued.candidates 0 = [(0, (upIssued.part 0).ctx 0)] ∧ upIssued.startable (mkTag 0 0 1) = some (.mailbox 0, fillWords, false) ∧
    descBad fillWords = false ∧ ({ id := 0, tag := 0, src := .mailbox 0, words := fillWords, phase := .held } : Run).total = 2 ∧
    ((upIssued.part 0).ctx 0).gen = 1 := by decide +kernel
def fillRun : Run := { id := 0, tag := 1, src := .mailbox 0, words := fillWords, phase := .running 0 }
def upFill : Fabric := (upTlb.updPart 0 fun x => { x with runs := [fillRun], nextRun := 1 })
theorem witness_tile : upFill.live = true ∧ (upFill.part 0).runs = [fillRun] ∧ (upFill.part 0).stalled = [] ∧
    dKind fillRun.words = 4 ∧ dHp fillRun.words = false ∧ fillRun.next = .tile 2 0 0 ∧ upFill.check 1 0 .write = .ok 0 false 0 ∧
    upFill.own 0 = true ∧ 2 ≤ 64 - paLocal 0 / 64 % 64 ∧ 0 < upFill.hdp.crdWr := by decide +kernel
theorem test_start : ((upIssued.startDescriptor 0 2).part 0).onEngine 2 |>.isSome := by decide +kernel
theorem test_tile : (upFill.issueTile 0 0).hdp.outstanding.map (fun x => (x.addr, x.units, x.data.length, wd x.data 15)) =
    [(0, 2, 16, 0xAB)] := by decide +kernel

/-! PrefetchTimeoutAndSnapshot -/

def upFillMiss : Fabric := (withCtx up).updPart 0 fun x => { x with runs := [fillRun], nextRun := 1 }
theorem witness_stream : upFillMiss.live = true ∧ (upFillMiss.part 0).onEngine 0 = some fillRun ∧
    upFillMiss.streamMiss fillRun true = some 0 := by decide +kernel
def upReq (bound : Nat) : Fabric :=
  { upFill with tick := 100, rtr := { upFill.rtr with reqs := [(3, { part := 0, run := 0, tile := 0, handed := bound != 7, bound := bound })] } }
theorem witness_timeout : (upReq 100).live = true ∧ (upReq 100).run 0 0 = some fillRun ∧ ((upReq 100).ctx 1).state ≠ .switchedOut ∧
    ((upReq 100).rtr.reqs.find 3).map (fun q => (q.handed, decide (q.bound ≤ (upReq 100).elapsed q 1))) = some (true, true) ∧
    ((upReq 101).rtr.reqs.find 3).map (fun q => (q.handed, decide ((upReq 101).elapsed q 1 < q.bound))) = some (true, true) ∧
    ((upReq 7).rtr.reqs.find 3).map Request.handed = some false := by decide +kernel
theorem witness_snap : up.hdpUp = true ∧ 31 < up.partCount ∧ (up.part 31).disabled = false ∧ up.parAccess 31 31 = true ∧
    up.parAccess 32 31 = true := by decide

/-! NoticeRingRegisters -/

theorem witness_ring_enable : up.hdpUp = true ∧ up.partHere 31 = true ∧ (up.mayTouch 31 (0x400 + 32 * 31)).2 = true ∧
    (up.ring 31).enable = false ∧ (up.mayTouch 32 (0x400 + 32 * 32)).2 = true ∧ up.ladder.bootHeld = none := by decide
def upRing : Fabric := up.setRing 3 { enable := true, held := [{ code := 1 }] }
theorem witness_ring_disable : upRing.hdpUp = true ∧ upRing.partHere 3 = true ∧ (upRing.mayTouch 3 (0x400 + 32 * 3)).2 = true ∧
    (upRing.ring 3).enable = true ∧ (upRing.mayTouch 3 (0x400 + 32 * 3 + 24)).2 = true ∧ 63 < 2 ^ (upRing.ring 3).log2 := by decide
theorem witness_deferred : upRing.live = true ∧ (upRing.ring 3).held = { code := 1 } :: [] ∧ (upRing.ring 3).room = true := by decide
theorem witness_no_room : (up.setRing 3 { enable := true, head := 63, held := [{ code := 1 }] }).live = true ∧
    ((up.setRing 3 { enable := true, head := 63, held := [{ code := 1 }] }).ring 3).room = false := by decide
theorem test_ring_enable : ((up.ringReg 5 5 0 (pack [(63, 63, 1), (47, 6, 0x40)])).ring 5).base = 0x1000 := by decide

/-! RegisterWritesNeedPrivilege -/

theorem witness_reg_denied : up.hdpUp = true ∧ (up.mayTouch 1 0x400008).2 = false := by decide
theorem witness_reg_timeout : up.partHere 31 = true ∧ (up.mayTouch 31 (0x400000 + 65536 * 31 + 8)).2 = true ∧ fld 0x5 31 0 ≠ 0 := by decide
theorem witness_reg_busy : upOwn.hdpUp = true ∧ upOwn.mbxExists 0 = true ∧ (upOwn.mbx 0).env.own = true ∧
    (upOwn.mayTouch 0 (0x2000 + 8 * 511)).2 = true := by decide
theorem witness_reg_read : (up.mayTouch 1 0x400008).1 = false ∧ (up.mayTouch 1 0).1 = true := by decide
theorem test_reg_timeout : ((up.regWrite 31 0x5F0008 8 [5]).part 31).timeoutDef = 5 := by decide

/-! HdpAnswersServeTheirPurpose -/

def upTx (k : HdpKind) (why : Purpose) : Fabric := { up with hdp := { up.hdp with outstanding := [{ tag := 9, kind := k, purpose := why }] } }
theorem witness_tx_none : up.hdpUp = true ∧ up.openTx 9 .memRd = none ∧ up.openTx 9 .memWr = none ∧ up.openTx 9 .atomic = none := by decide
theorem witness_tx_serves : (upTx .memRd (.listHeader 0)).openTx 9 .memRd = some { tag := 9, kind := .memRd, purpose := .listHeader 0 } ∧
    (upTx .memWr (.record 0 0 0)).openTx 9 .memWr = some { tag := 9, kind := .memWr, purpose := .record 0 0 0 } ∧
    (upTx .atomic (.target 0 0)).openTx 9 .atomic = some { tag := 9, kind := .atomic, purpose := .target 0 0 } := by decide
theorem witness_tx_open : (upTx .memRd (.tileRd 0 0 0 0)).hdpUp = true ∧ (upTx .memRd (.tileRd 0 0 0 0)).hdp.waiting = [] ∧
    (upTx .memRd (.tileRd 0 0 0 0)).run 0 0 = none ∧ (upTx .memWr .doneWb).hdpUp = true ∧ (upTx .atomic (.tileAt 0 0 0 0)).run 0 0 = none := by decide

/-! PowerAndResetStartOver -/

theorem witness_power_on : State.reset.fab.pins.rstN = false := by decide
theorem witness_reset_assert : up.pins.powerGood = true ∧ up.pins.rstN = true := by decide
def held : Fabric := { up with pins := { powerGood := true } }
/-- Straps of node (1,2,3) in a 4 × 4 × 8 machine: odd parity in both groups. -/
def goodStraps : Nat := 0x443 + 0xC67 * 2 ^ 15 + 1 * 2 ^ 34
theorem witness_release : held.pins.powerGood = true ∧ held.pins.rstN = false ∧ (strapsOf goodStraps).valid = true ∧
    (strapsOf 0).valid = false := by decide
theorem witness_recovery : 6 ∈ ({ held with pins := { powerGood := true, faults := [6] } } : Fabric).pins.faults := by decide

/-! RefclkIsJudgedByTheCalendar -/

def upClk (st : Nat) : Fabric := { up with clk := { state := st, windowOpen := true } }
theorem witness_clk : (upClk 1).pins.powerGood = true ∧ (upClk 1).pins.rstN = true ∧ 4 ≤ (upClk 1).aon.stage ∧
    (upClk 1).clk.windowOpen = true ∧ (upClk 1).mtl.lost = false ∧ (upClk 1).clk.state = 1 ∧ (upClk 0).clk.state = 0 := by decide
theorem test_window_low : ((upClk 1).calendarMark 19525390).clk.state = 2 := by decide +kernel
theorem test_window_lowest : ((upClk 1).calendarMark 19525391).clk.state = 1 := by decide +kernel

/-! StartUpReachesReady -/

def booting : Fabric := { held with ready := false, hdp := {}, pins := { powerGood := true, rstN := true }, aon := { stage := 5 }, clk := { state := 1 } }
def goodImage : List Word := [0x10041444E54, 0x100000001, 1]
theorem witness_image : booting.frozen = false ∧ booting.prc.measured = false ∧ booting.hdp.trained = false ∧
    imageForm ((booting.flash.slots.find 0).getD { words := goodImage, len := 257 }) 0 = true ∧ (1 - booting.prc.slot) ∉ booting.flash.failed := by decide
/-- The training results in which five outgoing wires of each of the first `n` slices failed. -/
def broken (n : Nat) : List (Nat × List Nat) := (List.range n).map fun i => (i, [0, 1, 2, 3, 4])
def training : Fabric := { booting with aon := { stage := 7 } }
theorem witness_training : training.frozen = false ∧ training.awake = true ∧ training.hdp.trained = false ∧ training.clk.state = 1 ∧
    (∀ n ∈ [16, 17], ((List.range 64).filter fun i => decide (4 < (failedWires (broken n) i).length) ||
      decide (4 < (failedWires [] i).length)).length = n) := by decide +kernel
def almost : Fabric := { booting with aon := { stage := 8 }, prc := { measured := true }, hdp := { trained := true } }
theorem witness_ready : almost.frozen = false ∧ almost.aon.stage = 8 ∧ almost.ready = false ∧ almost.prc.measured = true ∧
    almost.hdp.trained = true ∧ almost.waiting = [] ∧ almost.prc.trial = false := by decide
def trial (tick : Nat) : Fabric := { booting with tick := tick, prc := { trial := true, slot := 1 } }
theorem witness_trial : (trial 312500000).frozen = false ∧ (trial 312500000).counting = true ∧ (trial 312500000).prc.trial = true ∧
    (trial 312500000).ready = false ∧ (trial 312500000).prc.slot = 1 ∧ (trial 312500000).ladder.bootAt = 0 ∧ (trial 312499999).frozen = false ∧
    (trial 312499999).counting = true := by decide
theorem test_training_48 : (training.hdpTrained (broken 16) []).aon.stage = 8 := by decide +kernel
theorem test_training_47 : (training.hdpTrained (broken 17) []).hdp.stopped = true := by decide +kernel

/-! ReplaysRetireASlice -/

theorem witness_replay_first : up.hdpUp = true ∧ up.hdp.retired.get 63 false = false ∧ Map.get ([] : Map Nat) 63 0 + 1 ≤ 16 := by decide
theorem witness_replay_crc : Beat.crc { header := true, data := zeros 8 } ≠ Beat.crc { header := false, data := zeros 8 } := by decide +kernel
def upReplays (gone : Nat) : Fabric := { up with hdp := { trained := true, replays := [(5, 16)], retired := (List.range gone).map fun i => (i + 10, true) } }
theorem witness_replay_17 : (upReplays 15).hdpUp = true ∧ (upReplays 15).hdp.retired.get 5 false = false ∧
    16 < Map.get (upReplays 15).hdp.replays 5 0 + 1 ∧ ((upReplays 15).hdp.retired.set 5 true).length = 16 ∧
    (upReplays 16).hdpUp = true ∧ ((upReplays 16).hdp.retired.set 5 true).length = 17 ∧ (upReplays 15).hdp.retired.get 10 false = true := by decide +kernel

/-! WatchdogRestartsTheCluster -/

def upMc : Fabric := { up with prc := { measured := true } }
theorem witness_watchdog : upMc.counting = true ∧ upMc.prc.measured = true ∧ 6 ≤ upMc.aon.stage ∧ upMc.ladder.restarting = false ∧
    upMc.prc.trial = false ∧ upMc.ladder.lastRestart = none := by decide
def upRestart : Fabric :=
  { up.setMbx 4 { env := { own := true, opcode := 0x200, tag := 0x2001 }, accepted := true } with ladder := { restarting := true, lost := [4] } }
theorem witness_restart_done : upRestart.live = true ∧ upRestart.ladder.lost = [4] ∧ upRestart.waiting = [] ∧
    (upRestart.mbx 4).env.own = true ∧ (upRestart.mbx 4).accepted = true := by decide
def upNever (n : Nat) : Fabric := { up with ready := false, tick := n, ladder := { bootFrom := 1 } }
theorem witness_never_ready : (upNever 468750000).ready = false ∧ (upNever 468750000).ladder.bootFrom ≠ 0 ∧ (upNever 468749999).ready = false := by decide
theorem test_restart_lost : ((upRestart.restartDone Fabric.take).mbx 4).env.status = 0 := by decide +kernel

/-! PowerManagerReadings -/

theorem witness_powered : up.powered = true ∧ up.prc.fusedOff / 2 ^ 31 % 2 = 0 ∧ up.pwr.aged = false ∧ up.tick < up.pwr.lastPlan + 9375000000 := by decide
theorem witness_replan : ({ up with tick := 9375000000 } : Fabric).powered = true ∧
    ({ up with tick := 9375000000 } : Fabric).pwr.lastPlan + 9375000000 ≤ 9375000000 := by decide
theorem witness_recalibrate : up.clk.state ≠ 2 ∧ ({ up with clk := { state := 2 } } : Fabric).powered = true := by decide
theorem test_floor : (({ up with tick := 9375000000 } : Fabric).floorReplan 701).pwr.floor = 705 := by decide

/-! LimitsAndDroop -/

def upHot : Fabric := { up with tick := 1562500, pwr := { hot := true, bubSince := some 0, bubA := 5 } }
theorem witness_hot : upHot.powered = true ∧ upHot.pwr.lastTarget + 156250 ≤ upHot.tick ∧ upHot.pwr.bubSince = some 0 ∧
    0 + 1562500 ≤ upHot.tick ∧ upHot.pwr.floor < upHot.pwr.target ∧ upHot.pwr.hot = true ∧ upHot.pwr.lastThermal = none ∧
    upHot.pwr.iccLimit < 451 ∧ upHot.pwr.lastCurrent = none ∧ 4 * upHot.pwr.tjTrip = 480 := by decide
theorem witness_droop : upHot.pwr.droopSince + 16 ≤ upHot.tick ∧ up.powered = true ∧ up.tick < up.pwr.droopSince + 16 := by decide
theorem witness_target_raise : ∀ t0 ∈ [none, some 0], let f : Fabric := { up with tick := 1562500, pwr := { lowered := 7, bubSince := t0 } }
    f.powered = true ∧ f.pwr.lastTarget + 156250 ≤ f.tick ∧ f.pwr.floor < f.pwr.target ∧ f.pwr.target < f.pwr.plannedTarget ∧ f.pwr.freeSince + 1562500 ≤ f.tick := by decide +kernel
theorem witness_limits_raise : let f : Fabric := { up with tick := 1562500, pwr := { hot := false, coolSince := some 0, easeSince := some 0, thermal := 300, current := 300 } }
    f.powered = true ∧ f.pwr.lastThermal = none ∧ f.pwr.lastCurrent = none ∧ 0 + 1562500 ≤ f.tick ∧ 450 ≤ f.pwr.iccLimit ∧ f.pwr.thermal < 640 ∧ f.pwr.current < 640 := by decide +kernel
theorem test_trip : (up.thermalSample 480).pins.faults = [7] ∧ (up.thermalSample 479).pins.faults = [] := by decide +kernel

/-! ThrottleSlackAndPoints -/

def upThr (last : Option Nat) : Fabric := { up with tick := 15625000, pwr := { changed := true, lastNotice := last, selects := [(5, 3)] } }
theorem witness_throttle : (upThr (some 15468750)).live = true ∧ (upThr (some 15468750)).pwr.changed = true ∧
    15468750 + 156250 ≤ (upThr (some 15468750)).tick ∧ (upThr (some 15468751)).tick < 15468751 + 156250 ∧
    (upThr none).pwr.winStart + 15625000 ≤ (upThr none).tick ∧ up.tick < up.pwr.winStart + 15625000 := by decide
theorem witness_select : ({ upThr none with bell := 5 } : Fabric).live = true ∧ (upThr none).pwr.selects = [(5, 3)] ∧
    (∀ x ∈ (upThr none).pwr.selects, (upThr none).bell < x.1) := by decide

/-! FirmwareSlotsChange -/

theorem witness_stage : up.takes (cm 32 [0x1000, 25165824]) = true ∧ onlyBits 0x1000 [(47, 6)] = true ∧ onlyBits 25165824 [(31, 0)] = true := by decide
def upStaged : Fabric := { up with flash := { staged := some 1 } }
theorem witness_activate : upStaged.takes (force (cm 32 [0]) 0 0 0) = true ∧ upStaged.takes (force (cm 32 [1]) 0 0 1) = true ∧
    (upStaged.flash.slots.get 1 {}).version / 2 ^ 24 = upStaged.abi ∧ upStaged.prc.claims = [] := by decide
def okRecord : List Word := [0x0001001043464243, 0x00000000]
theorem witness_record : recordOk (bytesOf okRecord 16) = true ∧ leAt (bytesOf okRecord 16) 4 2 = 16 ∧ up.takes (cm 32 okRecord) = true := by decide +kernel
/-- REFCLK has failed: the rack manager alone reaches the device. -/
def upLost : Fabric := { up with clk := { state := 2 }, pins := { up.pins with faults := [2] } }
theorem witness_record_held : upLost.takes (cm 33 okRecord) = true ∧ upLost.clk.state = 2 ∧ up.clk.state ≠ 2 ∧ up.takes (cm 33 okRecord) = true := by decide +kernel
def upVerify : Fabric := { up.setMbx 32 { env := { own := true, opcode := 0x702 }, accepted := true } with
  flash := { writing := some { mbx := 32, slot := 1, len := 257, pend := 0 }, slots := [(1, { words := goodImage, len := 257 })] } }
theorem witness_verify : upVerify.live = true ∧ (upVerify.mbx 32).env.own = true ∧ (upVerify.mbx 32).accepted = true ∧
    imageForm (upVerify.flash.slots.get 1 {}) upVerify.prc.fuseSvn = true := by decide +kernel

/-! GroupsMapsAndJournals -/

theorem witness_group : (withCtx up).takes (cm 0 [pack [(13, 12, 1), (9, 8, 0), (4, 0, 3)], 0, 3, 0, 0] 1) = true ∧
    (withCtx up).opensLive (cm 0 [pack [(13, 12, 1), (9, 8, 0), (4, 0, 3)], 0, 3, 0, 0] 1) = true ∧
    (bitsOf 3 32).filter (· < up.rtr.len 1) = [0] ∧ (bitsOf 3 32).filter (· < ({ up with rtr := { ly := 2 } } : Fabric).rtr.len 1) = [0, 1] ∧ up.rtr.seated = mkNode 0 0 0 ∧
    ((withCtx up).part 0).colls = [] := by decide +kernel
theorem witness_group_small : ((bitsOf 1 32).map (fun k => mkNode 0 k 0)).length < 2 := by decide
theorem witness_group_list : (withCtx up).takes (cm 0 [pack [(9, 8, 2), (4, 0, 3)], 2, 0, 0, 0x1000] 1) = true ∧
    onlyBits 0x1000 [(47, 6)] = true ∧ (withCtx up).takes (cm 0 [0x1000, 4] 1) = true ∧ ((withCtx up).ctx 1).state = .live ∧
    ((withCtx up).part 0).emaps = [] := by decide +kernel
theorem witness_journal : (withCtx up).takes (cm 0 [0x10000, pack [(8, 8, b2n true), (4, 0, 16)]] 1) = true ∧ onlyBits 0x10000 [(47, 6)] = true ∧
    (withCtx up).takes (cm 0 [] 1) = true ∧ (withCtx up).opens (cm 0 [] 1) = true := by decide +kernel

/-! PostingACollective -/

/-- A device whose context has group 0: this chip and the next one of the rack. -/
def upGroup : Fabric := (withCtx up).updPart 0 fun x => { x with groups := [(0, { kind := 1, members := [mkNode 0 0 0, mkNode 1 0 0] })] }
/-- A sound ALL_REDUCE of 256 elements of INT8 into INT8, ONESHOT. -/
def rcwI8 : Word := 0x0
def descAr : List Word := [0x123456, rcwI8, 0, 0, pack [(63, 60, 0), (59, 56, 1), (52, 48, 0)], 256, 0, 0x100000, 0x110000, 0x2000, 0, 0, 0, 0, 0, 0x77]
theorem witness_post : upGroup.takes (cm 0 descAr 1) = true ∧ upGroup.opensLive (cm 0 descAr 1) = true ∧ (cm 0 descAr 1).len = 128 * 1 ∧
    (upGroup.takeDescs 0 1 false 1 descAr []).map (fun l => (l.length, l.map Coll.launchBell)) = some (1, [0]) := by decide +kernel
theorem witness_post_bad : upGroup.takes (cm 0 (zeros 16) 1) = true ∧ (upGroup.takeDescs 0 1 false 1 (zeros 16) []) = none ∧
    (upGroup.takeDescs 0 1 true 1 (zeros 16) []) = none := by decide +kernel
def upColl (l : Bool) (d : Bool := false) : Fabric := upGroup.updPart 0 fun x =>
  { x with colls := [{ id := 0, cmdId := 9, tag := 1, words := descAr, algo := 1, agree := 5, order := 0, launched := l, disp := d,
                       group := { kind := 1, members := [mkNode 0 0 0, mkNode 1 0 0] } }], nextColl := 1 }
theorem witness_coll_found : ∀ l d, (upColl l d).takes (cm 0 [0x123456] 1) = true ∧ (upColl l d).opens (cm 0 [0x123456] 1) = true ∧
    ((((upColl l d).part 0).colls.find? fun k => k.tag == 1 && k.disp == d && wd k.words 0 == 0x123456).map fun k => (k.launched, k.fin)) = some (l, none) := by decide +kernel
theorem witness_coll_unknown : up.takes (cm 0 [5] 1) = true ∧ up.opens (cm 0 [5] 1) = true ∧ (up.part 0).colls = [] ∧ (up.part 0).collsDone = [] := by decide
def redWs : List Word := [rcwI8, 0, 0, pack [(35, 32, 0), (28, 0, 16)], 0x10000, 0, 0x20000] ++ zeros 15
theorem witness_red : (withCtx up).takes (cm 0 redWs 1) = true ∧ (withCtx up).opensLive (cm 0 redWs 1) = true ∧ (cm 0 redWs 1).len = 176 ∧
    redCount redWs = 16 ∧ redSources redWs = 1 ∧ onlyBits (wd redWs 3) [(35, 32), (28, 0)] = true ∧
    (rcwOf (wd redWs 0)).map (fun r => (r.op != 3, 16 % r.granule, spansMeet (wn redWs 4, 64 * r.out.span 16) (wn redWs 6, 64 * r.inp.span 16))) = some (true, 0, false) ∧
    (∀ i < 16, if i < redSources redWs then vaOk (wd redWs (6 + i)) = true else wd redWs (6 + i) = 0) := by decide +kernel

/-! CollectiveMessagesArrive -/

def frag (agree : Nat := 0) (coll : Nat := 0x123456) (tag : Nat := 1) : Msg :=
  { kind := .raw, dst := 0, src := 1, tag := tag, cls := 2, coll := coll, member := 1, agree := agree, data := zeros 8 }
theorem witness_late : up.live = true ∧ up.tagLive (frag 0 0 1).tag = false := by decide
theorem witness_unposted : (withCtx up).live = true ∧ (withCtx up).tagLive 1 = true ∧ ((withCtx up).part 0).collBy 1 5 = none := by decide
theorem witness_fragment : (upColl true).live = true ∧ (upColl true).tagLive 1 = true ∧
    (((upColl true).part 0).collBy 1 0x123456).map (fun c => (c.fin, c.agree, c.frags, c.laterChunk (frag 5))) = some (none, 5, [], false) := by decide +kernel
def upCollX (g : Coll → Coll) : Fabric := (upColl false).updColl 0 0 g
theorem witness_ended : (((upCollX fun c => { c with fin := some (2, 0) }).part 0).collBy 1 0x123456).map (fun c => c.fin.isSome) = some true ∧
    (((upColl false).part 0).collBy 1 0x123456).map (fun c => (c.fin, c.launched)) = some (none, false) ∧ (upColl false).tagLive 1 = true ∧
    (upColl false).live = true := by decide +kernel
theorem witness_again : (((upCollX fun c => { c with frags := [{ kind := .raw, chunk := 0, offset := 0, member := 1, agree := 0, data := [] }] }).part 0).collBy 1 0x123456).map
    (fun c => c.frags.any fun x => x.kind == .raw && x.chunk == 0 && x.offset == 0 && x.member == 1) = some true := by decide +kernel
theorem witness_resend : (((upCollX fun c => { c with sent := [{ kind := .raw, dst := 1, src := 0, tag := 1, cls := 2, coll := 0x123456 }] }).part 0).collBy 1 0x123456).map
    (fun c => (c.fin, c.resends, c.sent.map Msg.dst)) = some (none, [], [1]) := by decide +kernel
theorem witness_heard : (((upCollX fun c => { c with heard := [1] }).part 0).collBy 1 0x123456).map (fun c => (c.agree, c.heard)) = some (5, [1]) ∧
    (((upCollX fun c => { c with fin := some (1, 0) }).part 0).collBy 1 0x123456).map Coll.fin = some (some (stOk, 0)) := by decide +kernel
theorem test_late_discard : ((up.collMsg (frag 0 0 1)).part 0).lateDiscard = 1 := by decide +kernel

/-! CollectiveTimersAndLaunch -/

theorem witness_barred : ((upCollX fun c => { c with words := c.words.set 3 7 }).coll 0 0).map (fun c => (c.fin, c.parked, c.launched, c.launchBell)) =
    some (none, none, false, 7) ∧ (upCollX fun c => { c with words := c.words.set 3 7 }).bell = 0 ∧ (upColl false).live = true := by decide +kernel
/-- A collective whose input and output pages are held. -/
def upLaunch : Fabric := (upColl false).updPart 0 fun x =>
  { x with tlb := [{ tag := 1, level := 2, vpn := 0, pte := 0x7, colls := [0] }] }
theorem witness_launch : upLaunch.live = true ∧ (upLaunch.coll 0 0).map (fun c => (c.launched, c.fin, c.parked, c.launchBell, (upLaunch.part 0).launchesAfter c,
    (upLaunch.preColl 0 c).2 == Pre.ready)) = some (false, none, none, 0, false, true) := by decide +kernel
theorem witness_coll_timeout : (({ upColl true with tick := 5000000 } : Fabric).coll 0 0).map (fun c =>
    (c.fin, c.launched, c.waiting (({ upColl true with tick := 5000000 } : Fabric).mapOf c) (c.me (upColl true)),
      decide ((upColl true).collBound c ≤ 5000000))) = some (none, true, true, true) := by decide +kernel
theorem witness_resend_due : ((upCollX fun c => { c with resends := [{ due := 0, msg := frag 0 }] }).coll 0 0).map (fun c => (c.fin, c.parked, c.resends.map Resend.due)) =
    some (none, none, [0]) := by decide +kernel
theorem witness_holdover : ({ up with tick := 200000, bells := { parent := 2 } } : Fabric).live = true ∧
    ({ up with tick := 200000, bells := { parent := 2 } } : Fabric).bells.parent ≠ 7 ∧
    ({ up with tick := 200000, bells := { parent := 2 } } : Fabric).bells.lastMsg + 200000 ≤ 200000 ∧
    ({ up with bells := { parent := 7, root := up.rtr.node } } : Fabric).live = true := by decide +kernel

/-! SettingsAreHeldForAMessageTime -/

def upBase : Fabric := { up with rtr := { base := 64 } }
theorem witness_route : upBase.takes (cm 32 [0, 0, 0, 0]) = true ∧ upBase.routeForm 32 [0, 0, 0, 0] = false ∧
    upBase.routeLimits upBase.rtr (upBase.routeSets [0, 0, 0, 0]) = false ∧ upBase.rtr.drains = [] := by decide +kernel
/-- A four-chip line whose port 0 has one quad; the timetable entry leads to its next chip. -/
def upLine : Fabric := { up with rtr := { lx := 4 }, ports := [(0, { count := 1, inSlots := 512, active := 1 })] }
theorem witness_timetable : upLine.takes (cm 32 [3, 10, 20, pack [(46, 32, mkNode 1 0 0), (2, 0, 0)], 0]) = true ∧
    upLine.ttBad 3 [10, 20, pack [(46, 32, mkNode 1 0 0), (2, 0, 0)], 0] = false ∧
    onlyBits (pack [(46, 32, mkNode 1 0 0), (2, 0, 0)]) [(63, 48), (46, 20), (4, 0)] = true := by decide +kernel
theorem witness_seat : up.takes (cm 32 [3, 0]) = true ∧ up.seatBad 3 0 = false := by decide +kernel
def ccWord : Word := pack [(63, 63, 1), (62, 62, 1), (59, 48, 5), (47, 40, 7), (39, 32, 9), (29, 28, 1), (27, 14, 11), (13, 0, 13)]
theorem witness_flow : up.takes (cm 32 [ccWord]) = true ∧ ccBad ccWord = false := by decide +kernel
theorem witness_cap : up.takes (cm 32 [w64 250]) = true ∧ up.takes (cm 32 [w64 640]) = true := by decide +kernel
theorem witness_port_ctl : ∀ a ∈ [0, 1, 2], let d := force (cm 32 [0x3F, if a = 0 then pack [(59, 58, 2), (15, 0, 1)] else 0]) 10 8 a
    up.takes d = true ∧ onlyBits (wd d.pay 0) [(10, 0)] = true ∧ fld (wd d.pay 0) 10 8 = a ∧ fld (wd d.pay 0) 7 0 ≠ 0 ∧ (a ≠ 0 → wd d.pay 1 = 0) ∧
    (a = 0 → onlyBits (wd d.pay 1) lnFields = true ∧ fld (wd d.pay 1) 59 58 ≠ 3 ∧ fld (wd d.pay 1) 15 0 ≠ 0) := by decide +kernel
theorem witness_op_point : up.takes (force (cm 32 [pack [(10, 8, 7)], pack [(16, 16, 1), (15, 0, 650)], 0]) 0 0 0) = true ∧
    (force (cm 32 [pack [(10, 8, 7)], pack [(16, 16, 1), (15, 0, 650)], 0]) 0 0 0).pay = [pack [(10, 8, 7)], pack [(16, 16, b2n true), (15, 0, 650)], 0] ∧
    up.takes (force (cm 32 [pack [(10, 8, 7)], 0, 5]) 0 0 1) = true ∧
    (force (cm 32 [pack [(10, 8, 7)], 0, 5]) 0 0 1).pay = [pack [(10, 8, 7), (0, 0, 1)], 0, 5] := by decide +kernel

/-! ResetsAndRollCallAreHeld -/

theorem witness_reset : ∀ lv ∈ [0, 1, 2], let d := force (cm 31 [pack [(12, 8, 31), (18, 16, 5)]] (2 ^ 11 * 31)) 1 0 lv
    onlyBits (wd d.pay 0) [(1, 0), (12, 8), (18, 16)] = true ∧ fld (wd d.pay 0) 1 0 = lv ∧ fld (wd d.pay 0) 12 8 = 31 ∧ fld (wd d.pay 0) 18 16 = 5 := by decide +kernel
theorem witness_sources : (∀ m ∈ [32, 33, 36], upBase.takes (cm m [w64 300]) = true) ∧ up.takes (cm 32 [pack [(12, 8, 31)]] (2 ^ 11 * 31)) = true ∧
    up.confPart 31 = false := by decide +kernel
theorem witness_reset0 : ∀ lv ∈ [0, 1, 2, 3], let d := force (cm (if lv = 3 then 32 else 0) [0]) 1 0 lv
    up.takes d = true ∧ fld (wd d.pay 0) 1 0 = lv ∧ tagPart 0 = 0 ∧ 0 < up.partCount ∧ (up.part 0).disabled = false ∧ (up.part 0).draining = false := by decide +kernel
theorem witness_hang : up.takes (cm 32 [pack [(31, 0, 46875), (63, 32, 312500)], w64 15625]) = true ∧ 15625 ≤ up.rtr.gapTicks - 31250 := by decide +kernel
theorem witness_roll : up.takes (cm 32 [w64 32767]) = true ∧ up.takes (cm 33 [w64 32767]) = true ∧ up.takes (cm 33 [w64 255]) = true := by decide +kernel
theorem witness_substitute : ∀ ph ∈ [0, 1, 2, 3], let d := force (cm 32 [0, pack [(44, 30, 32767), (29, 15, 1), (14, 0, 9)]]) 2 0 ph
    up.takes d = true ∧ onlyBits (wd d.pay 0) [(2, 0)] = true ∧ fld (wd d.pay 0) 2 0 = ph ∧ onlyBits (wd d.pay 1) [(44, 0)] = true := by decide +kernel
def upInj : Fabric := { up with ladder := { policy := 255 } }
theorem witness_inject : ∀ cls ∈ [1, 2, 3, 4, 5, 6, 7, 8, 9],
    let d := force (cm 32 [if cls = 1 then 0x2000100 else if cls = 9 then 0x10000000100 else 0, 0, 0, 0]) 7 0 cls
    upInj.takes d = true ∧ injClass d.pay = cls ∧ upInj.conf = false ∧ upInj.ladder.policy / 2 ^ injBit cls % 2 = 1 ∧ upInj.injBad d.len d.pay = false := by decide +kernel

/-! OrdersTakeEffect -/

def upOrd (op : Nat) (pay : List Word) (sets : List (Obj × Nat) := []) : Fabric :=
  { up.setMbx 32 { env := { own := true, opcode := op }, accepted := true } with
    tick := 128, orders := [{ id := 0, mbx := 32, rank := 4, tick := 0, src := 32, opcode := op, tag := 1, pay := pay, len := 8 * pay.length, sets := sets }] }
theorem witness_order : (upOrd 0x700 [300]).live = true ∧ ((upOrd 0x700 [300]).mbx 32).env.own = true ∧ ((upOrd 0x700 [300]).mbx 32).accepted = true ∧
    hangBad 16 [pack [(31, 0, 46875), (63, 32, 312500)], 15625] up.rtr.gapTicks = false ∧ upBase.routeLimits upBase.rtr [] = false ∧
    upBase.routeLimits upBase.rtr [(⟨blkRtr, 0, 6⟩, 2048)] = false ∧ drainPorts ⟨blkRtr, 0, 6⟩ = List.range 8 ∧ up.pwr.point ≠ 7 ∧ up.bell < 5 ∧ (up.ctx 1).state = .free := by decide +kernel
theorem test_cap : ((upOrd 0x700 [300]).messageTimeEnd 0).pwr.cap = 300 := by decide +kernel

/-! RoutesCircuitsAndRates -/

def someOrder : Order := { id := 4, mbx := 32, rank := 4, tick := 0, src := 32, opcode := 0x500, tag := 0, pay := [], len := 0, sets := [] }
def upRoute (port : Nat) (tick : Nat := 156250) : Fabric :=
  { up with tick := tick, rtr := { drains := [{ order := someOrder, ports := [port], start := 0 }], queue := [{ flit := { dst := 9, src := 1, cls := 0 }, out := some 3, circuit := some 2 }] } }
theorem witness_drain : (upRoute 0).live = true ∧ (upRoute 0).drainOver { order := someOrder, ports := [0], start := 0 } = true ∧
    (upRoute 3).drainOver { order := someOrder, ports := [3], start := 0 } = false ∧ 0 + 15625 * (upRoute 0).rtr.drainUnits ≤ (upRoute 0).tick ∧
    (upRoute 0 156249).tick < 0 + 15625 * (upRoute 0).rtr.drainUnits := by decide +kernel
theorem witness_drain_late : (upRoute 0 156251).drainOver { order := someOrder, ports := [0], start := 0 } = true ∧ ¬ (upRoute 0 156251).tick ≤ 0 + 15625 * (upRoute 0 156251).rtr.drainUnits ∧
    someOrder.mbx ≠ 99 ∧ (upRoute 0).routeLimits (upRoute 0).rtr [] = true ∧ upBase.routeLimits upBase.rtr [(⟨blkRtr, 0, 6⟩, 2048)] = false := by decide +kernel
def upTt (bell : Nat) : Fabric := { upRoute 0 with bell := bell, rtr := { (upRoute 0).rtr with timetable := [(2, [10, 20, 8, 0])] } }
theorem witness_window : (upTt 10).live = true ∧ (upTt 10).rtr.timetable.find 2 = some [10, 20, 8, 0] ∧ ttValid [10, 20, 8, 0] = true ∧
    wn [10, 20, 8, 0] 0 ≤ (upTt 10).bell ∧ (upTt 19).bell < wn [10, 20, 8, 0] 1 ∧ wn [10, 20, 8, 0] 1 ≤ (upTt 20).bell ∧
    (upTt 20).rtr.queue.map QFlit.circuit = [some 2] := by decide +kernel
theorem witness_escape : ((upRoute 0).rtr.queue.find? fun q => q.order == 0).map (fun q => (q.flit.esc, q.flit.cls, decide (q.since + (upRoute 0).rtr.escWait ≤ (upRoute 0).tick))) =
    some (false, 0, true) ∧ up.live = true ∧ ¬ 64 ≤ up.tick := by decide +kernel
def upRate (r : Nat) : Fabric := { up with tick := 156, flow := { rates := [(5, { rate := r, start := 100, lastCut := 0, timer := 0, allow := 0 })] } }
theorem witness_rate : (upRate 8).live = true ∧ ((upRate 8).flow.rates.find 5).map (fun e => (decide (e.timer + 156 ≤ 156), decide (e.rate + 32 < e.start))) = some (true, true) ∧
    ((upRate 68).flow.rates.find 5).map (fun e => decide (e.start ≤ e.rate + 32)) = some true := by decide +kernel
theorem witness_telem : (∀ m ∈ [32, 33], up.takes (cm m [w64 255]) = true) ∧ up.takes (cm 32 [w64 1]) = true := by decide
def upSnap : Fabric := { up.setMbx 33 { env := { own := true }, accepted := true } with flow := { snaps := [(33, 255, false)] }, trc := { snaps := [(33, pack [(31, 0, 5)])] } }
theorem witness_tick_snaps : upSnap.flow.snaps = [(33, 255, false)] ∧ (upSnap.mbx 33).env.own = true ∧ (upSnap.mbx 33).accepted = true ∧
    upSnap.trc.snaps = [(33, pack [(31, 0, 5), (32, 32, b2n false)])] := by decide +kernel
theorem test_telem_snap : (upSnap.tickSnaps.mbx 33).env.respLen = 32 + 104 * 8 := by decide +kernel

/-! RequestsAreServedAtTheTarget -/

/-- A segment with an open landing window of 2 MiB at the local address 0. -/
def landSeg : Seg := { w0 := 0, w1 := 1, w2 := 0, w3 := pack [(7, 7, 1), (6, 5, 0), (4, 4, 1), (3, 0, 15)] }
def upLand : Fabric := (withCtx up).updCtx 1 fun c => { c with segs := [(0, landSeg)] }
def req (k : MsgKind) (addr : Nat := 64) : Msg := { kind := k, dst := 0, src := up.rtr.seated, tag := 1, cls := 0, addr := addr, units := 1, data := zeros 8 }
theorem witness_request : upLand.live = true ∧ upLand.targetLive 1 = true ∧ up.targetLive 1 = false ∧
    (∀ k ∈ [MsgKind.write, .read, .atomic, .fill], ((upLand.ctx 1).segs.vals.find? fun g => g.landHolds 64 (reqBytes (req k))) = some landSeg ∧
      landSeg.grants (reqAccess (req k)) = true ∧ upLand.rtr.inScope landSeg.scope (req k).src = true ∧
      ((upLand.ctx 1).segs.vals.find? fun g => g.landHolds (2 ^ 21) (reqBytes (req k))) = none) := by decide +kernel
def heldHp : Arrived := { order := 3, msg := { req .write with hp := true } }
theorem witness_hall_pass : ({ up with rtr := { hpHeld := [heldHp] } } : Fabric).live = true ∧
    ({ up with rtr := { hpHeld := [heldHp] } } : Fabric).rtr.hpFree heldHp = true ∧
    ({ up with rtr := { hpHeld := [heldHp], inbox := [{ order := 2, msg := req .write }] } } : Fabric).rtr.hpFree heldHp = false := by decide +kernel

/-! AnswersCreditsAndGrants -/

def answer (k : MsgKind) : Msg := { kind := k, dst := 0, src := 1, tag := 1, cls := 1, reqId := 6, units := 1, data := zeros 8 }
theorem witness_late_answer : up.live = true ∧ (((up.takeMsg (answer .wack)).1.takeCredits (answer .wack)).openFor (answer .wack)) = none := by decide +kernel
def aRun : Run := { id := 7, tag := 1, src := .mailbox 0, words := zeros 8, phase := .held, tiles := [{ id := 2, pos := 0, size := 1, phase := .read, pend := 1 }] }
def upOpen : Fabric := { (withCtx up).updPart 0 fun x => { x with runs := [aRun] } with
  rtr := { reqs := [(6, { part := 0, run := 7, tile := 2, start := 0, outAt := 0, bound := 100 })] } }
theorem witness_open_answer : ∀ k ∈ [MsgKind.wack, .rdata, .aold], upOpen.live = true ∧
    (((upOpen.takeMsg (answer k)).1.takeCredits (answer k)).openFor (answer k)).map Request.tile = some 2 ∧
    ((((upOpen.takeMsg (answer k)).1.takeCredits (answer k)).closeRequest 6).run 0 7).map (fun r => (r.tiles.find? fun t => t.id == 2).isSome) = some true := by decide +kernel
def upCred (d : DstState) (x : SrcState) (tick : Nat) : Fabric := { up with tick := tick, rtr := { dsts := [(5, d)], srcs := [(5, x)] } }
theorem witness_credits : (upCred {} {} 0).live = true ∧ 64 ≤ ((upCred { credits := 64 } {} 0).dstState 5).credits ∧
    ((upCred { grant := 1 } {} 2048).dstState 5).lastArrival + 2048 ≤ 2048 ∧ 0 < ((upCred { grant := 1 } {} 2048).dstState 5).grant ∧
    ((upCred { grant := 1 } {} 2047).dstState 5).lastArrival + 2048 > (upCred { grant := 1 } {} 2047).tick ∧
    0 < ((upCred {} { grant := 1 } 1024).srcState 5).grant ∧ ((upCred {} { grant := 1 } 1024).srcState 5).used = 0 ∧
    ((upCred {} { grant := 1 } 1024).srcState 5).lastSend + 1024 ≤ 1024 := by decide +kernel

/-! LossIsSettledByTime -/

def upGap (tick : Nat) : Fabric := { up with tick := tick, rtr := { dsts := [(5, { held0 := [{ flit := { dst := 0, src := 5, seq := 1, cls := 0 }, port := 0, tick := 0 }], msgs := [(3, [{ flit := { dst := 0, src := 5, seq := 97, cls := 2 }, port := 0, tick := 0 }])] })], openMsgs := [{ msg := 9, receivers := [5], last := 0 }] } }
theorem witness_gap : (upGap 312500).live = true ∧ ((upGap 312500).dstState 5).held0.map (fun h => (h.tick + 312500, h.flit.seq)) = [(312500, 1)] ∧
    ((upGap 312500).dstState 5).next0 = 0 ∧ (upGap 312500).rtr.gapTicks = 312500 ∧ (((upGap 312500).dstState 5).msgs.find 3).map List.length = some 1 := by decide +kernel
theorem witness_settle : (upGap 625000).live = true ∧ (upGap 625000).rtr.openMsgs.map (fun o => (o.receivers, o.last + 2 * 312500)) = [([5], 625000)] ∧
    (upGap 625000).rtr.outbox = [] := by decide +kernel
theorem test_gap_skip : ((upGap 312500).gapTimeout 5 0).rtr.gapSkips = 1 ∧ (((upGap 312500).gapTimeout 5 0).dstState 5).next0 = 2 := by decide +kernel

/-! LinksComeUpSleepAndRetrain -/

/-- Port 0 with one quad (lanes 0 to 3), in a given state. -/
def upPort (g : Port → Port) (tick : Nat := 0) : Fabric := { up with tick := tick, ports := [(0, g { count := 1, inSlots := 512, active := 1 })] }
theorem witness_bring_up : (upPort (fun p => { p with state := .quiet }) 1563).live = true ∧
    ((upPort (fun p => { p with state := .quiet }) 1563).port 0).state = .quiet ∧
    ((upPort (fun p => { p with state := .lock }) 468750).port 0).trySince + 468750 ≤ 468750 ∧
    ((upPort (fun p => { p with state := .lock }) 1562500).port 0).fellAt + 1562500 ≤ 1562500 ∧
    ((upPort (fun p => { p with state := .align }) 0).port 0).state = .align ∧
    (upPort (fun p => { p with state := .config }) 0).peerBad 0 { kind := 1 } = true ∧
    ((upPort (fun p => { p with state := .config }) 0).port 0).miscable = false := by decide +kernel
/-- A training sequence of the next chip's port 1, in a phase, with its CRC. -/
def goodTs (phase : Nat) : Ts := let t : Ts := { kind := 0, port := 1, rxGood := 1, phase := phase }; { t with crc := t.goodCrc }
theorem witness_training_sequence : (∀ n ∈ [2, 4, 5], (goodTs n).good = true ∧ (upPort (fun p => { p with state := .config, rxGood := 1 }) 0).peerBad 0 (goodTs n) = false) ∧
    ({ kind := 0 } : Ts).good = false ∧ bothMask 1 (goodTs 4).rxGood = 1 ∧ bothMask 0 (goodTs 4).rxGood = 0 := by decide +kernel
theorem witness_retrain : ((upPort (fun p => { p with state := .retrain }) 281250).port 0).state = .retrain ∧
    (upPort (fun p => { p with state := .retrain }) 281250).retrainTicks = 281250 ∧ (upPort (fun p => { p with state := .retrain }) 281250).laneWait = 140625 := by decide +kernel
theorem witness_sleep : ((upPort (fun p => { p with state := .active }) 1563).port 0).napEn = true ∧ (upPort (fun p => { p with state := .active }) 1563).waitsFor 0 = false ∧
    ((upPort (fun p => { p with state := .active }) 1563).port 0).idleSince + 1563 ≤ 1563 ∧
    ({ upPort (fun p => { p with state := .nap }) 0 with rtr := { queue := [{ flit := { dst := 9, src := 1, cls := 0 }, out := some 0 }] } } : Fabric).waitsFor 0 = true ∧
    ((upPort (fun p => { p with state := .wake }) 15625).port 0).wakeSince + 15625 ≤ 15625 := by decide +kernel
theorem witness_lock_loss : (upPort (fun p => { p with state := .active }) 0).live = true ∧ (upPort (fun p => { p with state := .active }) 0).portOf 2 = some 0 ∧
    ((upPort (fun p => { p with state := .active }) 0).port 0).activeLanes.contains 2 = true ∧ up.portOf 2 = none := by decide +kernel
theorem test_quiet_end : (((upPort (fun p => { p with state := .quiet }) 1563).quietEnd 0).port 0).state = .lock ∧
    (((upPort (fun p => { p with state := .quiet }) 1562).quietEnd 0).port 0).state = .quiet := by decide +kernel

/-! SlotsAreSentReceivedAndRetried -/

def upAct (g : Port → Port := id) (tick : Nat := 0) : Fabric := upPort (fun p => g { p with state := .active }) tick
/-- Port 0 with codewords decoded for the first slot of lane 0, and with a slot there that the decoder has marked. -/
def upDecoded (bad : List Nat) (inject : Bool) : Fabric :=
  { upAct (fun p => { p with crcInject := inject }) with lanes := [(0, { cw := 1, badSlots := bad })] }
theorem witness_slot : (upAct).live = true ∧ ((upAct).port 0).state.usable = true ∧ ((upAct).port 0).awaitLcf = false ∧ (up.port 7).state.usable = false ∧
    (∀ bad ∈ [[], [0]], ∀ inj ∈ [false, true], let f := upDecoded bad inj
      let x := f.lane ((f.port 0).slotLane (f.port 0).rxNap (f.port 0).rxSlot)
      f.live = true ∧ (f.port 0).state.usable = true ∧ codewordsFor (f.port 0).fec (x.rxSlots + 1) ≤ x.cw ∧ x.badSlots.contains x.rxSlots = (bad == [0]) ∧
      (f.port 0).crcInject = inj) ∧
    (let x := (upAct).lane 0
     x.cw + 1 = codewordsFor ((upAct).port 0).fec (x.rxSlots + 1) ∧ x.symErrors = 0) := by decide +kernel
theorem witness_codeword : (upAct).portOf 3 = some 0 ∧ ((upAct).port 0).activeLanes.contains 3 = true ∧ ((upAct).lane 3).unc.length < 31 ∧
    ((upAct).lane 3).withInjected false (some 8) = some 8 ∧ ((upAct).lane 3).withInjected false (some 9) = none := by decide +kernel
def dat : Flit := { dst := 9, src := 1, cls := 0 }
theorem witness_crc : dataCrc 0 dat.slotWords ≠ dataCrc 1 dat.slotWords ∧ lcfCrc ({ ack := 5 } : Lcf).words ≠ lcfCrc ({ ack := 6 } : Lcf).words := by decide +kernel
theorem witness_retry : ∀ n ∈ [0, 7], let f := upAct (fun p => { p with retx := [{ lseq := 0, flit := { dst := 9, src := 1, cls := 0 } }], noProgress := n, nakWait := true })
    (f.port 0).state.usable = true ∧ (f.port 0).retx.length = 1 ∧ (f.port 0).ackTick + (f.port 0).replayTicks ≤ f.tick ∧
    (f.port 0).nakTick + (f.port 0).replayTicks ≤ f.tick ∧ (f.port 0).noProgress = n := by decide +kernel
/-- Port 0 resends: one flit is left, or none. -/
def upResend (n : Nat) : Fabric :=
  { upAct (fun p => { p with retx := [{ lseq := 0, flit := dat }], replaying := true, replayAt := n }) with roll := { state := 1 } }
theorem witness_resend_flit : ∀ n ∈ [0, 1], ((upResend n).port 0).replaying = true ∧ (((upResend n).port 0).retx[((upResend n).port 0).replayAt]?).map Retx.lseq = (if n = 0 then some 0 else none) ∧
    ((upResend n).port 0).lcfSlot = false ∧ ((upResend n).port 0).lcfDue (upResend n).tick = false ∧ (upResend n).roll.state = 1 := by decide +kernel
/-- Port 0 owes a heartbeat, inside detention or an injected silence or not. -/
def upOwes (detained : Bool) (n : Nat) : Fabric := { upAct (fun p => { p with owedHb := true, silence := n }) with roll := { state := if detained then 2 else 1 } }
theorem witness_owed_heartbeat : (∀ d ∈ [false, true], ∀ n ∈ [0, 1], (upOwes d n).mayLcf 0 = true ∧ ((upOwes d n).port 0).owedHb = true) := by decide +kernel
def upSend : Fabric := { upAct (fun p => { p with credits := [(0, 1)] }) with roll := { state := 1 }, rtr := { queue := [{ flit := { dst := 9, src := 1, cls := 0 }, out := some 0 }] } }
theorem witness_tx : upSend.live = true ∧ (upSend.port 0).state.usable = true ∧ (upSend.port 0).awaitLcf = false ∧ (upSend.port 0).retx.length < 4096 ∧
    (upSend.port 0).lcfSlot = false ∧ (upSend.port 0).lcfDue upSend.tick = false ∧ (upSend.port 0).replaying = false ∧ upSend.mayLcf 0 = false ∧ upAct.mayLcf 0 = true ∧ upSend.roll.state = 1 ∧ (upSend.pickFlit 0).map QFlit.inPort = some 8 ∧
    upAct.pickFlit 0 = none ∧ (upAct.port 0).lcfDrop = false := by decide +kernel
/-- The published check value of CRC-64/XZ, whose parameters are those of R338. -/
theorem test_crc64 : crc64 [0x31, 0x32, 0x33, 0x34, 0x35, 0x36, 0x37, 0x38, 0x39] = 0x995DC9BBDF1939FA := by decide +kernel
/-- R332: 00, 01, 11 and 10 are the levels 0 to 3. -/
theorem test_gray : [grayLevel 0 0, grayLevel 0 1, grayLevel 1 1, grayLevel 1 0] = [0, 1, 2, 3] := by decide
/-- R333: the receiver recovers the Gray levels. -/
theorem test_precode : unprecode 0 (precode 0 [3, 0, 2, 1, 1]) = [3, 0, 2, 1, 1] ∧ precode 0 [3, 0, 2] = [3, 1, 1] := by decide
/-- R336: α is a root of x¹⁰ + x³ + 1. -/
theorem test_field : gfMul 512 2 = 9 := by decide
theorem test_tx : ((upSend.flitTx 0).port 0).txFlits = 1 ∧ ((upSend.flitTx 0).port 0).credits.get 0 9 = 0 := by decide +kernel

/-! ScansTestsAndPortDrains -/

theorem witness_scan : up.takes (force (cm 32 [pack [(12, 8, 30)], 1]) 0 0 0) = true ∧ (force (cm 32 [pack [(12, 8, 30)], 1]) 0 0 0).pay = [pack [(12, 8, 30)], w64 1] ∧
    (((bitsOf 1 8).flatMap fun k => (up.port k).activeLanes).filter up.scannable) = [] ∧
    (((bitsOf 1 8).flatMap fun k => (upAct.port k).activeLanes).filter upAct.scannable) = [0, 1, 2, 3] ∧ (∀ l ∈ [0, 1, 2, 3], (upAct.lane l).scan = none) := by decide +kernel
theorem witness_map : up.takes (force (cm 32 [pack [(23, 16, 191), (12, 8, 16)], 0]) 0 0 1) = true ∧
    (force (cm 32 [pack [(23, 16, 191), (12, 8, 16)], 0]) 0 0 1).pay = [pack [(23, 16, 191), (12, 8, 16), (0, 0, 1)], 0] ∧ up.scannable 191 = false ∧
    upAct.scannable 0 = true := by decide +kernel
def upTest : Fabric := upPort fun p => { p with state := .test }
theorem witness_lane_test : (upPort id).takes (force (cm 32 [pack [(4, 3, 2), (2, 0, 0)], 15, 0]) 7 7 0) = true ∧
    (force (cm 32 [pack [(4, 3, 2), (2, 0, 0)], 15, 0]) 7 7 0).pay = [pack [(4, 3, 2), (2, 0, 0)], w64 15, 0] ∧ ((upPort id).port 0).state = .off ∧ ((upPort id).port 0).count = 1 ∧
    (force (cm 32 [pack [(2, 0, 0)], 0, 0]) 7 7 1).pay = [pack [(7, 7, 1), (2, 0, 0)], 0, 0] ∧ (upTest.port 0).state = .test ∧
    upTest.takes (force (cm 32 [pack [(2, 0, 0)], 0, 0]) 7 7 1) = true := by decide +kernel
def upLane (g : Lane → Lane) : Fabric := { up with lanes := [(5, g {})], ports := [(0, { drainFor := some .bounce, retx := [] })] }
theorem witness_lanes : (upLane id).live = true ∧ ((upLane fun x => { x with scan := some { mbx := some 32, map := true, dwell := 16 } }).lane 5).scan.isSome = true ∧
    ((upLane fun x => { x with scan := some { mbx := none, map := false, dwell := 20 } }).lane 5).scan.isSome = true ∧
    ((upLane fun x => { x with prbsRun := true }).lane 5).prbsRun = true ∧ ((upLane fun x => { x with lossUntil := some 0 }).lane 5).lossUntil = some 0 ∧
    ((upLane fun x => { x with lossUntil := some 1 }).lane 5).lossUntil = some 1 ∧ ((upLane id).port 0).drainFor = some .bounce ∧ (upLane id).waitsFor 0 = false ∧
    ({ upLane id with tick := 156250 } : Fabric).tick = ((upLane id).port 0).drainStart + 15625 * (upLane id).rtr.drainUnits ∧ up.scannable 3 = false := by decide +kernel
/-- Port 0 naps: its first lane alone can be scanned. -/
def upNap : Fabric := upPort fun p => { p with state := .nap }
theorem witness_scan_margins : (∀ m ∈ [32, 33], up.takes (force (cm m [pack [(12, 8, 30)], 1]) 0 0 0) = true) ∧
    ((upLane fun x => { x with scan := some { mbx := none, map := false, dwell := 20 } }).lane 5).scan.map (fun x => (x.map, x.mbx)) = some (false, none) := by decide +kernel
/-- R393: a lane whose scan leaves class WATCH is in the high-bias mode. -/
theorem test_high_bias : (((upLane fun x => { x with scan := some { mbx := none, map := false, dwell := 20 } }).scanComplete 5 { eyes := [⟨13, 10, 0, 0⟩, ⟨13, 10, 0, 0⟩, ⟨13, 10, 0, 0⟩] }).lane 5).highBias = true := by decide +kernel
theorem witness_carries : (upLane id).carries 0 = false ∧
    ({ upLane id with ports := [(0, { state := .active })], rtr := { branches := [{ port := 1, src := 5, msg := 0, outs := [0] }] } } : Fabric).carries 0 = true := by decide +kernel
theorem witness_background : ∀ j ∈ [0, 1, 2, 3, 4], upNap.scannable j = (j == 0) := by decide +kernel

/-! TheLadderAndItsResets -/

def upPart (g : Part → Part) (tick : Nat := 0) : Fabric := { withCtx up with tick := tick }.updPart 0 g
def stuck : Run := { aRun with phase := .running 2, tiles := [] }
theorem witness_engine : let f := upPart (fun x => { x with runs := [stuck] }) 781250
    f.live = true ∧ (f.part 0).onEngine 2 = some stuck ∧ f.engCounts 0 stuck = true ∧ (f.part 0).draining = false ∧
    stuck.lastProgress + f.win.eng ≤ f.tick ∧ (f.part 0).eResetAt.find 2 = none ∧ (f.part 0).onEngine 3 = none := by decide +kernel
theorem witness_partition : ((({ upColl true with tick := 4687500 } : Fabric).part 0).colls.find? (·.launched)).isSome = true ∧
    Sys2Proof.Machine.Part.lastStep ((upColl true).part 0) + up.win.par ≤ 4687500 := by decide +kernel
theorem witness_e_reset : ∀ h ∈ [false, true], let er : EReset := { eng := 2, start := 0, hang := h, ladder := false, run := none, mbxs := [] }
    ((upPart (fun x => { x with eResets := [er] }) 31250).part 0).eResets = [er] ∧ er.start + 31250 ≤ 31250 := by decide +kernel
def someReset (cleared : Bool) (fence : Option Nat) : PReset :=
  { start := 0, trigger := 0, ladder := false, release := false, mbxs := [0], lists := 0, colls := 0, descs := 0, contexts := 0, cleared := cleared, fence := fence }
theorem witness_p_reset : ∀ cl ∈ [false, true], ∀ fe ∈ [none, some 0], let f := upPart (fun x => { x with reset := some (someReset cl fe) }) 781250
    f.live = true ∧ (f.part 0).reset = some (someReset cl fe) ∧ (f.part 0).runs = [] ∧ (f.part 0).colls = [] ∧ (f.part 0).lists = [] ∧
    (f.part 0).claimed = false ∧ f.orders = [] ∧ (f.part 0).quietUntil ≤ f.tick ∧ (∀ m ∈ (someReset cl fe).mbxs, m = 0) := by decide +kernel
theorem witness_port_expire : let f : Fabric := { upAct id 156250 with rtr := { queue := [{ flit := { dst := 9, src := 1, cls := 0 }, out := some 0 }] } }
    f.live = true ∧ (f.port 0).state = .active ∧ (∃ q ∈ f.rtr.queue, q.out = some 0 ∧ q.since + f.win.port ≤ f.tick) ∧ (f.port 0).progress + f.win.port ≤ f.tick ∧
    (f.port 0).drainFor = none ∧ (f.port 0).expiries = [] := by decide +kernel

/-! RollCallInjectionAndErrors -/

theorem witness_silent_heartbeat : ∀ tk ∈ [3124, 3125], let f := upAct (fun p => { p with silence := 2 }) tk
    f.mayHeartbeat 0 = true ∧ 0 < (f.port 0).silence ∧ (3125 ≤ f.tick ↔ tk = 3125) := by decide +kernel
theorem witness_uplink_heartbeat : ({ upAct with ports := [(6, { count := 1, inSlots := 512, active := 1, state := .active })] } : Fabric).mayHeartbeat 6 = true := by decide +kernel
theorem witness_sram : up.awake = true ∧ ({ up with aon := { stage := 4 } } : Fabric).awake = true := by decide
theorem witness_heartbeat : upAct.live = true ∧ upAct.roll.state ≠ 2 ∧ upAct.mayHeartbeat 0 = true ∧ up.mayHeartbeat 0 = false ∧ (upAct.port 0).silence = 0 ∧
    upAct.roll.period.get 5 0 + 3125 ≤ 3125 ∧ upAct.roll.misses.get 5 0 < 9 := by decide +kernel
def upRoll (tick : Nat) : Fabric := { up with tick := tick, bell := 7, roll := { tallies := [{ node := 9, opened := 0 }], heard := [(0, 0)] }, ladder := { injections := [{ mbx := 32, bell := 7, pay := zeros 4 }] }, mbxs := [(32, { env := { own := true, opcode := 0x807 }, accepted := true })] }
theorem witness_tally : (upRoll 250000).live = true ∧ ((upRoll 250000).roll.tallies.find? fun t => t.node == 9).map (fun t => t.opened + 250000) = some 250000 ∧
    (upRoll 31250).roll.heard.vals = [0] ∧ (upRoll 31250).isSpare = false ∧ (upRoll 0).ladder.injections.map Injection.bell = [7] ∧
    ((upRoll 0).mbx 32).env.own = true ∧ ((upRoll 0).mbx 32).accepted = true ∧ 0 < up.partCount ∧ (up.part 0).disabled = false := by decide +kernel
theorem witness_reads : up.takes (cm 32 [w64 (16384 * 1)]) = true ∧ up.takes (cm 32 [pack [(21, 16, 62), (15, 0, 65535)]]) = true := by decide +kernel
theorem test_miss : (({ up with tick := 3125 } : Fabric).rollcallMiss 5).roll.misses.get 5 0 = 1 ∧ (({ up with tick := 3124 } : Fabric).rollcallMiss 5).roll.misses.get 5 0 = 0 := by decide +kernel

/-! SpdmConnectionsAreNegotiated -/

/-- A plain frame of 8 bytes, with the state of the connection. -/
def upConn (n : Nat) : Fabric := { up with prc := { conns := [(3, n)] } }
theorem witness_frame : ∀ n ∈ [0, 1, 2, 3], (upConn n).takes (cm 3 [0, 0, 8, 0, 0x10]) = true ∧ frameOk (cm 3 [0, 0, 8, 0, 0x10]).len [0, 0, 8, 0, 0x10] = true ∧
    bit (wd [0, 0, 8, 0, 0x10] 0) 0 = false ∧ ((upConn n).part 3).draining = false ∧ (upConn n).prc.conns.get 3 0 = n ∧ (upConn n).prc.sessions.find 3 = none ∧
    withCode (some 0x84) (takePad 1 [0x10]) ≠ [] := by decide +kernel
theorem witness_card : up.takes (cm 33 (zeros 4)) = true ∧ (cm 33 (zeros 4)).len = 32 ∧ 0 ∉ Sys2Proof.Machine.spdmCodes ∧
    ({ up with prc := { sessions := [(3, { id := 1, last := 0, secret := [] })] } } : Fabric).prc.sessions.find 3 ≠ none := by decide +kernel

/-! SessionsAnswerTheirFrames -/

def upSess (st : Nat) (tick : Nat := 0) : Fabric := { up with tick := tick, prc := { sessions := [(3, { id := 7, last := 0, secret := [], state := st })] } }
def secured (id n : Nat) : Cmd := { cm 3 ([pack [(0, 0, 1), (63, 32, id)], 0, w64 n, 0] ++ zeros (n / 8)) with len := 32 + n }
theorem witness_secured : ∀ st ∈ [1, 2], (upSess st).takes (secured 7 24) = true ∧ frameOk (secured 7 24).len (secured 7 24).pay = true ∧ bit (wd (secured 7 24).pay 0) 0 = true ∧
    ((upSess st).part 3).draining = false ∧ ((upSess st).prc.sessions.find 3).map (fun x => (x.id, x.reqSeq, x.state)) = some (7, 0, st) ∧
    fld (wd (secured 7 24).pay 0) 63 32 = 7 ∧ wn (secured 7 24).pay 1 = 0 ∧ fld (wd (secured 7 24).pay 2) 15 0 = 24 ∧ (upSess st).prc.claims.find 3 = none := by decide +kernel
theorem witness_other_frame : fld (wd (secured 8 24).pay 0) 63 32 = 8 ∧ (upSess 2).takes (secured 8 24) = true ∧ frameOk (secured 8 24).len (secured 8 24).pay = true ∧
    up.takes (secured 7 24) = true ∧ up.prc.sessions.find 3 = none := by decide +kernel
theorem witness_silence : (upSess 2 18750000000).live = true ∧ ((upSess 2).prc.sessions.find 3).map (fun x => x.last + 18750000000) = some (upSess 2 18750000000).tick := by decide +kernel

/-! KeysAndClaims -/

def slotK (w : Bool) : KeySlot := { loaded := true, weight := w, gen := 5, key := zeros 4, secret := zeros 4 }
def upKey : Fabric := { withCtx up with prc := { sessions := [(0, { id := 7, last := 0, secret := [], state := 2 })], claims := [(0, 7)] } }.updPart 0 fun x =>
  { x with claimed := true, keys := [(15, slotK false)] }
theorem witness_load : upKey.takes (cm 0 ([pack [(3, 0, 3), (8, 8, b2n true), (23, 16, 255)], 7] ++ zeros 8)) = true ∧ upKey.inSession 0 = true ∧
    (upKey.prc.sessions.find 0).map Session.id = some 7 ∧ ((upKey.part 0).keys.get 3 {}).loaded = false ∧ (upKey.part 0).draining = false := by decide +kernel
theorem witness_rotate : (∀ a ∈ [0, 1], upKey.takes (force (cm 0 [15]) 9 8 a) = true) ∧ wd (force (cm 0 [15]) 9 8 0).pay 0 = w64 15 ∧
    wd (force (cm 0 [15]) 9 8 1).pay 0 = pack [(9, 8, 1), (3, 0, 15)] ∧ (upKey.part 0).keys.find 15 = some (slotK false) ∧ (slotK false).retiring = none := by decide +kernel
theorem witness_bind : upKey.takes (force (cm 0 [pack [(11, 8, 15), (2, 0, 7)], 0x40] 1) 7 7 1) = true ∧ upKey.tagLive 1 = true ∧ tagPart 1 = 0 ∧ onlyBits 0x40 [(56, 6)] = true ∧
    (force (cm 0 [pack [(11, 8, 15), (2, 0, 7)], 0x40] 1) 7 7 1).pay = [pack [(11, 8, 15), (7, 7, 1), (2, 0, 7)], 0x40] ∧
    (force (cm 0 [pack [(11, 8, 15), (2, 0, 7)], 0x40] 1) 7 7 0).pay = [pack [(11, 8, 15), (2, 0, 7)], 0x40] ∧
    upKey.takes (force (cm 0 [pack [(11, 8, 15), (2, 0, 7)], 0x40] 1) 7 7 0) = true := by decide +kernel
theorem witness_claim : (upSess 2).takes (cm 3 [7]) = true ∧ ((upSess 2).part 3).claimable = true ∧ (upSess 2).prc.debugNow = false ∧ ((upSess 2).part 3).draining = false ∧
    (∀ i < 34, i ≠ 3 → (upSess 2).actsOn i 3 = false) := by decide +kernel
theorem witness_conf_release : up.takes (cm 0 [w64 0]) = true ∧ 0 < up.partCount ∧ (up.part 0).claimed = false ∧ upKey.takes (cm 0 [w64 0]) = true ∧ (upKey.part 0).claimed = true := by decide +kernel
theorem witness_debug : (cm 32 []).tag = 0 ∧ ∀ b ∈ [false, true], ({ up with prc := { debugFuse := b } } : Fabric).takes (cm 32 []) = true ∧ ({ up with prc := { debugFuse := b } } : Fabric).conf = false ∧
    ({ up with prc := { debugFuse := b } } : Fabric).prc.debugNow = false := by decide +kernel
def upClaimOp : Fabric := { upSess 2 with prc := { sessions := [(3, { id := 7, last := 0, secret := [], state := 2 })], claimOps := [{ mbx := 3, part := 3, session := 7 }], keyOps := [{ mbx := 3, part := 3, gen := 5, tiles := [] }] } }
theorem witness_claim_op : upClaimOp.live = true ∧ upClaimOp.prc.claimOps.map ClaimOp.part = [3] ∧ (upClaimOp.prc.sessions.find 3).map Session.id = some 7 ∧
    upClaimOp.prc.keyOps.map KeyOp.tiles = [[]] := by decide +kernel
def upKeyTile : Fabric := (upPart fun x => { x with runs := [{ stuck with tiles := [{ id := 2, pos := 0, size := 1, phase := .read, pend := 1 }] }] })
theorem witness_key_tile : (upKeyTile.tilesWhere 0 fun _ _ => true).length = 1 ∧ upKeyTile.live = true := by decide +kernel

/-! MeterCommandsAnswer -/

def upMtl (conf : Bool) : Fabric := { up with conf := conf, tick := 15625000, mtl := { link := 2, lastMarkCmd := some 1 } }
theorem witness_meter_reads : ∀ b ∈ [false, true], (upMtl b).takes (cm 33) = true ∧ (cm 33).len = 0 ∧ (upMtl b).mtl.link = 2 ∧ (cm 33).mbx ∈ [32, 33, 36] ∧
    (upMtl b).takes (cm 1) = true ∧ (cm 1).mbx ∉ [32, 33, 36] ∧ up.takes (cm 33) = true ∧ up.mtl.link ≠ 2 ∧
    (upMtl b).mtl.out = none ∧ (upMtl b).mtl.queue = [] ∧ (upMtl b).clk.state ≠ 2 ∧ (upMtl b).conf = b := by decide +kernel
theorem witness_mark : ∀ b ∈ [false, true], (upMtl b).takes (cm 1 [9, pack [(33, 32, 2), (31, 0, 2 ^ 32 - 1)], 0]) = true ∧
    onlyBits (pack [(33, 32, 2), (31, 0, 2 ^ 32 - 1)]) [(33, 0)] = true ∧ fld (pack [(33, 32, 2), (31, 0, 2 ^ 32 - 1)]) 33 32 = 2 ∧
    (upMtl b).tick < 1 + 15625000 ∧ 1 + 15625000 ≤ (upMtl b).tick + 1 := by decide +kernel
theorem witness_log : (upMtl true).takes (cm 1 [pack [(36, 32, 31), (31, 0, 2 ^ 32 - 1)]]) = true := by decide +kernel

/-! MeterLinkIsKept -/

def upMtlOut (tries tick : Nat) : Fabric := { up with tick := tick, mtl := { link := 2, seq := 255, out := some { type := 0, data := [], why := .sync }, tries := tries } }
theorem witness_resends : (∀ n ∈ [7, 8], (upMtlOut n 31250).counting = true ∧ (upMtlOut n 31250).mtl.out = some { type := 0, data := [], why := .sync } ∧
    (upMtlOut n 31250).mtl.sentAt + 31250 ≤ (upMtlOut n 31250).tick ∧ (upMtlOut n 31250).mtl.tries = n) ∧ (upMtlOut 0 31249).tick < (upMtlOut 0 31249).mtl.sentAt + 31250 ∧
    (upMtlOut 0 31249).counting = true ∧ (upMtlOut 0 0).mtl.queue = [] := by decide +kernel
theorem witness_meter_tick : up.powered = true ∧ up.counting = true := by decide
theorem witness_silent_link : up.mtl.lastMark + 39062500 ≤ (upMtlOut 0 39062500).tick ∧ (upMtlOut 0 39062500).counting = true ∧ up.mtl.link = 0 ∧ up.mtl.out = none ∧
    up.clk.state ≠ 2 ∧ up.mtl.lastSync = 0 ∧ (upMtlOut 0 156250).mtl.lastSync + 156250 ≤ (upMtlOut 0 156250).tick := by decide +kernel
theorem witness_frames : fld (frameHeader 0 0 255 0x80) 15 8 = (upMtlOut 0 0).mtl.seq ∧ fld (frameHeader 0 0 255 0x80) 7 0 = 0x80 + 0 ∧
    fld (frameHeader 0 0 255 0x80) 31 24 = 0 ∧ fld (frameHeader 0 0 1 0x80) 15 8 ≠ (upMtlOut 0 0).mtl.seq ∧
    ({ tickFrame := [0, w64 4096, 5] } : Meter).tickFrame = [0, w64 4096, 5] := by decide +kernel

/-! MeterMeasures -/

def gauge : Meter := { params := [[0x100000001, 2, 0, 0]], inForce := 1, overNow := true, cal := 4090 }
theorem witness_gauge : gauge.newTime = none ∧ gauge.backup = false ∧ gauge.cal + (4096 - gauge.cal % 4096) < 2 ^ 64 ∧ gauge.cal % 4096 + 5 < 4096 ∧ 0 < gauge.inForce ∧
    gauge.params[gauge.inForce - 1]? = some [0x100000001, 2, 0, 0] ∧ gauge.lastOver = false := by decide +kernel
theorem witness_on_backup : ({ gauge with backup := true } : Meter).backup = true ∧ ({ gauge with backup := true } : Meter).newTime = none ∧ gauge.cal + 9000 < 2 ^ 64 := by
  decide +kernel

/-! SealAndSupplyAreRecorded -/

theorem witness_seal : gauge.sealOpen ≠ true ∧ gauge.sealOpen = false ∧ gauge.room ∧ ¬ ({ gauge with waiting := List.range 8 } : Meter).room := by
  simp [gauge, Meter.room]
theorem witness_return : ({ gauge with backup := true, backupSince := 4000 } : Meter).latched = [] ∧ (4000 : Nat) ≤ gauge.cal + 0 := by decide +kernel
def pairLog : Meter := { waiting := [1], rseq := 2, recs := [(0, { words := zeros 8, sig := zeros 8 }), (1, { words := zeros 8 })] }
theorem witness_signed : pairLog.waiting = 1 :: [] ∧ pairLog.overflow = [] ∧ pairLog.backup = false ∧ pairLog.recs.find ((0 + 1) % 16384) = some { words := zeros 8 } ∧
    pairLog.recs.find (0 % 16384) = some { words := zeros 8, sig := zeros 8 } ∧ pairLog.newTime = none := by decide +kernel

/-! MeterAnswersItsRequests -/

theorem witness_requests : ∀ k ∈ [none, some (9, [5])], ({ kept := k } : Meter).backup = false ∧ k.map Prod.fst ≠ some 8 ∧
    ({ backup := true } : Meter).backup = true := by decide +kernel
theorem witness_records : ({} : Meter).rseq ≤ 1 ∧ 0 < ({} : Meter).rseq ∧ ({} : Meter).rseq ≤ 0 + 16384 ∧
    (({} : Meter).recs.find (0 % 16384)).map (fun r => r.words.length) = some 8 ∧ ({ kept := some (8, [5]) } : Meter).kept = some (8, [5]) := by decide +kernel

/-! MarksAreWrittenOnce -/

theorem witness_write_mark : gauge.backup = false ∧ gauge.newTime = none ∧ gauge.kept.map Prod.fst ≠ some 255 ∧ gauge.marks = [] ∧ gauge.cal % 4096 + 5 < 4096 ∧
    ({ gauge with marks := [(7, 2, 1, 0)] } : Meter).marks.find? (fun x => x.1 == (7 : Word).toNat && x.2.1 == 2 && x.2.2.1 == 1) = some (7, 2, 1, 0) ∧
    ({ gauge with waiting := List.range 8 } : Meter).waiting.length = 8 := by decide +kernel
def upAsked : Fabric := { up with mtl := { link := 2, seq := 255, out := some { type := 3, data := [], why := .mark 3 } } }.setMbx 3 { env := { own := true }, accepted := true }
theorem witness_mark_busy : upAsked.counting = true ∧ upAsked.mtl.queue = [] ∧ (upAsked.mbx 3).env.own = true ∧ (upAsked.mbx 3).accepted = true ∧ upAsked.mtl.seq < 256 ∧
    upAsked.mtl.out = some { type := 3, data := [], why := .mark 3 } := by decide +kernel

/-! CalibrationNeedsTheSealOpen -/

def openGauge (e : Nat) : Meter := { gauge with sealOpen := true, eventCount := e }
theorem witness_open : (openGauge 1022).sealOpen = true ∧ ¬ (1023 ≤ (openGauge 1022).eventCount) ∧ 1023 ≤ (openGauge 1023).eventCount ∧ gauge.sealOpen = false ∧
    (openGauge 0).params.length < 32 ∧ onlyBits (wd (zeros 4) 3) [(15, 0)] = true ∧ onlyBits (wd [0, 0, 0, 0x10000] 3) [(15, 0)] = false ∧
    ({ newTime := some 8192 } : Meter).newTime = some 8192 ∧ ({ newTime := some 8192 } : Meter).overNow = false ∧ ({} : Meter).lastOver = false ∧
    (openGauge 0).keptCal.map Prod.fst ≠ some 255 ∧ ({ keptCal := some (9, [5]) } : Meter).keptCal = some (9, [5]) := by decide +kernel

/-! EventCountBurnsOncePerChange -/

theorem witness_burns : (openGauge 1023).backup = false ∧ 1023 ≤ (openGauge 1023).eventCount ∧ (openGauge 1023).keptCal.map Prod.fst ≠ some 255 ∧
    exec .meterCalendarTick { State.reset with meter := openGauge 1022 } = .next { State.reset with meter := (openGauge 1022).calendarTick } :=
  ⟨rfl, by decide +kernel, by decide +kernel, rfl⟩

/-! AuditLogStaysAChain -/

theorem witness_chain_step : ∃ t, step { State.reset with pending := [.meterRecordSigned] } = .next t ∧ t.meter.waiting = [] := ⟨_, rfl, by decide +kernel⟩

/-! CountersTraceAndWaits -/

theorem test_counter_snap : (upSnap.tickCounts.mbx 33).env.respLen = 2744 := by decide +kernel
theorem witness_counter_foreign : ∀ n ∈ [9, 2 ^ 32 + 8], up.takes (cm 3 [w64 n]) = true ∧ (cm 3 [w64 n]).len = 8 := by decide +kernel
theorem witness_counter_snap : ∀ m ∈ [3, 33], up.takes (cm m [pack [(31, 0, 2 ^ 32 - 1), (32, 32, b2n true)]]) = true ∧ (cm m [0]).len = 8 := by decide +kernel
def upTrace (st : Nat) (conf : Bool) : Fabric := { up with conf := conf, trc := { cores := [(7, { state := st, kind := 1, value := 5, post := 1024 })], arms := [{ cores := 128, kind := 1, value := 5, post := 1024 }] } }
theorem witness_arm : (∀ st ∈ [0, 1, 2, 4], ∀ b ∈ [false, true], ∀ a ∈ [0, 1, 2, 3], (upTrace st b).takes (force (cm 32 [pack [(7, 0, 2 ^ 7), (15, 12, 3)], 65536, 65535]) 10 8 a) = true ∧
    (force (cm 32 [pack [(7, 0, 2 ^ 7), (15, 12, 3)], 65536, 65535]) 10 8 a).pay = [pack [(7, 0, 2 ^ 7), (10, 8, a), (15, 12, 3)], w64 65536, 65535] ∧
    ((upTrace st b).core 7).state = st) := by decide +kernel
theorem witness_trigger : (upTrace 2 false).live = true ∧ ((upTrace 2 false).core 7).state = 2 ∧ 1024 ≤ ((upTrace 2 false).core 7).post ∧ ((upTrace 2 false).core 7).winCount = 0 ∧
    (upTrace 2 false).trc.arms = [{ cores := 2 ^ 7, kind := 1, value := 5, post := 1024 }] := by decide +kernel
theorem witness_trace_read : ∀ st ∈ [0, 1, 4], (upTrace st false).takes (cm 32 [w64 7, pack [(47, 6, 2 ^ 42 - 1)]]) = true ∧ ((upTrace st false).core 7).ring = [] ∧
    ({ (upTrace 4 false).core 7 with ring := [(0, 0)] } : CoreTrace).ring ≠ [] := by decide +kernel
theorem witness_dump : (∀ m ∈ [3, 32, 33], up.takes (cm m [pack [(57, 53, 31), (48, 48, b2n true)]]) = true) ∧ up.takes (cm 31 [pack [(57, 53, 31), (48, 48, b2n false)]]) = true ∧
    31 < up.partCount := by decide +kernel

/-! SmbusMessagesAnswer -/

theorem witness_smbus : up.pins.powerGood = true ∧ smbGrants 0 = true ∧ smbGrants 0x100000 = false ∧ (up.mbx 33).env.own = false ∧ up.pins.fresh = 0 ∧
    ({} : Fabric).pins.powerGood = false ∧ onlyBits (pack [(31, 31, 1)]) [(30, 0)] = false ∧ pack [(25, 0, 0x100000)] = 0x100000 := by decide +kernel
def upAlert : Fabric := { up with pins := { up.pins with alerts := 130, fresh := 2 } }.setMbx 33 { env := { own := true } }
theorem witness_alert : upAlert.pins.powerGood = true ∧ upAlert.pins.fresh ≠ 0 ∧ (upAlert.mbx 33).env.own = true := by decide +kernel
theorem witness_smbus_fragment : bit (wd (zeros 7 ++ [pack [(63, 63, 1)]]) (7 - 0 / 8)) 63 = true ∧ bit (wd [pack [(63, 63, 1)]] (7 - 56 / 8)) 63 = true ∧
    4032 + 8 * (zeros 8).length ≤ 4096 ∧ (zeros 8) ≠ [] := by decide +kernel

end Sys2Proof.Tests
end

section
/-!
SUPPORT. The tick count through one ref tick. Of everything that `Fabric.tickOnce` runs, only the step `tick := f.tick + 1`
moves the tick count (R11): one lemma per function says that it keeps the count, in the order of the model's definitions.
-/
namespace Sys2Proof.Machine

/-- A fold keeps the tick count where each of its steps does. -/
theorem Fabric.foldl_tick {α : Type} {step : Fabric → α → Fabric} (h : ∀ g x, (step g x).tick = g.tick)
    (l : List α) (f : Fabric) : (l.foldl step f).tick = f.tick :=
  List.foldlRecOn (motive := fun g => g.tick = f.tick) l step rfl fun g hg x _ => (h g x).trans hg

/-! ### The Host Die Port, notices and completions -/

@[simp] theorem Fabric.hdpWrite_tick (f : Fabric) (addr : Nat) (data : List Word) (why : Nat → Purpose) (conf notice : Bool) :
    (f.hdpWrite addr data why conf notice).tick = f.tick := by
  obtain ⟨h, e⟩ := f.hdpWrite_eq addr data why conf notice
  rw [e]

@[simp] theorem Fabric.complete_tick (f : Fabric) (m st : Nat) (r0 : Word) (resp : List Word) (len : Nat) :
    (f.complete m st r0 resp len).tick = f.tick := by
  obtain ⟨b, h, p, e⟩ := f.complete_eq m st r0 resp len
  rw [e]

@[simp] theorem Fabric.finish_tick (f : Fabric) (m st r0 : Nat) (resp : List Word) (len : Nat) :
    (f.finish m st r0 resp len).tick = f.tick := by
  unfold Fabric.finish
  split
  · exact f.complete_tick m st (w64 r0) resp len
  · rfl

@[simp] theorem Fabric.writeNotice_tick (f : Fabric) (i : Nat) (n : Notice) : (f.writeNotice i n).tick = f.tick := by
  simp [Fabric.writeNotice]

@[simp] theorem Fabric.notify_tick (f : Fabric) (i : Nat) (n : Notice) : (f.notify i n).tick = f.tick := by
  unfold Fabric.notify
  extract_lets r n f₁ f₂ f₃ f₄ f₅
  have h₁ : f₁.tick = f.tick := by unfold f₁; split <;> simp
  have h₂ : f₂.tick = f₁.tick := by unfold f₂; split <;> simp
  have h₅ : f₅.tick = f₂.tick := by unfold f₅; split <;> simp [f₄, f₃]
  have h : f₅.tick = f.tick := h₅.trans (h₂.trans h₁)
  split
  · simp [h]
  · split
    · simp [h]
    · split <;> simp [h]

@[simp] theorem Fabric.counterWrap_tick (f : Fabric) (reg unit idx : Nat) : (f.counterWrap reg unit idx).tick = f.tick := by
  simp [Fabric.counterWrap]

@[simp] theorem Fabric.draw_tick (f : Fabric) : f.draw.1.tick = f.tick := rfl

/-! ### Queues and ports of the router -/

@[simp] theorem Fabric.noteDepth_tick (f : Fabric) (k : Nat) : (f.noteDepth k).tick = f.tick := rfl
@[simp] theorem Fabric.freeReorder_tick (f : Fabric) (port n : Nat) : (f.freeReorder port n).tick = f.tick := rfl
@[simp] theorem Fabric.setDst_tick (f : Fabric) (n : Nat) (d : DstState) : (f.setDst n d).tick = f.tick := rfl
@[simp] theorem Fabric.setSrc_tick (f : Fabric) (n : Nat) (s : SrcState) : (f.setSrc n s).tick = f.tick := rfl

@[simp] theorem Fabric.freeSlot_tick (f : Fabric) (port cls : Nat) : (f.freeSlot port cls).tick = f.tick := by
  unfold Fabric.freeSlot
  split <;> rfl

@[simp] theorem Fabric.leaveQueue_tick (f : Fabric) (q : QFlit) (cls : Nat) : (f.leaveQueue q cls).tick = f.tick := by
  unfold Fabric.leaveQueue
  split
  · exact f.freeSlot_tick q.inPort cls
  · rfl

@[simp] theorem Fabric.assign_tick (f : Fabric) (q : QFlit) (entering : Bool) : (f.assign q entering).tick = f.tick := by
  unfold Fabric.assign
  split
  case h_1 => rfl
  case h_2 => rfl
  case h_3 =>
    extract_lets mark y r r' f₁ f₂
    have h₂ : f₂.tick = f.tick := by unfold f₂; split <;> rfl
    exact (f₂.noteDepth_tick _).trans h₂

@[simp] theorem Fabric.place_tick (f : Fabric) (q : QFlit) (entering : Bool) : (f.place q entering).tick = f.tick := by
  simp [Fabric.place]

/-! ### Arrival of flits and messages -/

@[simp] theorem Fabric.echo_tick (f : Fabric) (node : Nat) : (f.echo node).tick = f.tick := by
  unfold Fabric.echo
  extract_lets key w
  split
  · rfl
  · split
    · rfl
    · rfl
    · dsimp only [Fabric.draw]
      split
      · rfl
      · split <;> rfl

@[simp] theorem Fabric.arrive_tick (f : Fabric) (m : Msg) : (f.arrive m).tick = f.tick := by
  unfold Fabric.arrive
  split <;> rfl

@[simp] theorem Fabric.releaseSeq_tick (fuel : Nat) (f : Fabric) (src cls : Nat) :
    (Fabric.releaseSeq fuel f src cls).tick = f.tick := by
  induction fuel generalizing f with
  | zero => rfl
  | succ fuel ih =>
    unfold Fabric.releaseSeq
    extract_lets d held next
    split
    · rfl
    · dsimp only
      rw [ih]
      split <;> simp

@[simp] theorem Fabric.deliver_tick (f : Fabric) (x : Flit) (port : Nat) : (f.deliver x port).tick = f.tick := by
  unfold Fabric.deliver
  extract_lets f₁ _ _ _ _ _ f₂ _ _ _ _ _ _ _ out _ _ _ f₃ f₄
  have h₁ : f₁.tick = f.tick := by unfold f₁; split <;> simp
  have h₄ : f₄.tick = f.tick := (Fabric.foldl_tick (fun g y => g.freeReorder_tick y.port 1) out f₃).trans h₁
  split
  · split
    · exact (Fabric.releaseSeq_tick 2049 f₂ x.src x.cls).trans h₁
    · exact h₁
  · split
    · split
      · exact (f₄.arrive_tick _).trans h₄
      · exact h₄
    · exact h₄

/-! ### Multicast -/

@[simp] theorem Fabric.mcFlit_tick (f : Fabric) (x : Flit) (inPort group inCls : Nat) (b : Branch) (first : Bool) (hops : Nat) :
    (f.mcFlit x inPort group inCls b first hops).tick = f.tick := by
  unfold Fabric.mcFlit
  extract_lets _ _ _ f₁ f₂ _ f₃
  have h₁ : f₁.tick = f.tick := Fabric.foldl_tick (fun _ _ => by rfl) _ _
  have h₂ : f₂.tick = f₁.tick := Fabric.foldl_tick (fun _ _ => by rfl) _ _
  have h₃ : f₃.tick = f₂.tick := Fabric.foldl_tick (fun _ _ => by simp) _ _
  split
  · rw [Fabric.deliver_tick, h₃, h₂, h₁]
  · rw [h₃, h₂, h₁]

theorem Fabric.mcTry_tick {f g : Fabric} {x : Flit} {inPort group inCls : Nat} (h : f.mcTry x inPort group inCls = some g) :
    g.tick = f.tick := by
  unfold Fabric.mcTry at h
  extract_lets key others at h
  split at h
  · split at h
    · contradiction
    · dsimp only at h
      obtain rfl := Option.some.inj h
      simp
  · obtain ⟨b, -, rfl⟩ := Option.map_eq_some_iff.mp h
    dsimp only
    split <;> simp

@[simp] theorem Fabric.mcDone_tick (f : Fabric) (inPort group inCls : Nat) : (f.mcDone inPort group inCls).tick = f.tick := by
  unfold Fabric.mcDone
  split <;> simp

@[simp] theorem Fabric.mcRetry_tick (fuel : Nat) (f : Fabric) (inPort : Nat) : (Fabric.mcRetry fuel f inPort).tick = f.tick := by
  induction fuel generalizing f with
  | zero => rfl
  | succ fuel ih =>
    unfold Fabric.mcRetry
    extract_lets held without
    split
    · next g hg =>
      obtain ⟨q, -, hq⟩ := List.exists_of_findSome?_eq_some hg
      obtain ⟨g', hg', rfl⟩ := Option.map_eq_some_iff.mp hq
      rw [ih, Fabric.mcDone_tick, Fabric.mcTry_tick hg']
    · rfl

@[simp] theorem Fabric.multicast_tick (f : Fabric) (x : Flit) (inPort group inCls : Nat) :
    (f.multicast x inPort group inCls).tick = f.tick := by
  unfold Fabric.multicast
  split
  · rfl
  · next g hg => rw [Fabric.mcRetry_tick, Fabric.mcDone_tick, Fabric.mcTry_tick hg]

/-! ### What leaves the outbox -/

@[simp] theorem Fabric.noteHanded_tick (f : Fabric) (o : OutMsg) : (f.noteHanded o).tick = f.tick := by
  unfold Fabric.noteHanded
  split
  · rfl
  · split
    · rfl
    · split <;> rfl

@[simp] theorem Fabric.handOver_tick (f : Fabric) (o : OutMsg) (x : Flit) : (f.handOver o x).tick = f.tick := by
  unfold Fabric.handOver
  extract_lets -lift f₁ key s seq f₂ f₃ f₄ y ord _ f₅
  have h₂ : f₂.tick = f.tick := by unfold f₂; split <;> simp [f₁]
  have h₃ : f₃.tick = f₂.tick := Fabric.foldl_tick (fun _ _ => by rfl) _ _
  have h₄ : f₄.tick = f₃.tick := by unfold f₄; split <;> rfl
  have h₅ : f₅.tick = f.tick := h₄.trans (h₃.trans h₂)
  split
  · rw [Fabric.multicast_tick, h₅]
  · split
    · exact h₅
    · split
      · rw [Fabric.deliver_tick, h₅]
      · rw [Fabric.place_tick, h₅]

@[simp] theorem Fabric.drainOut_tick (fuel : Nat) (f : Fabric) (o : OutMsg) : (Fabric.drainOut fuel f o).1.tick = f.tick := by
  induction fuel generalizing f o with
  | zero => rfl
  | succ fuel ih =>
    unfold Fabric.drainOut
    split
    · rfl
    · split
      · dsimp only
        rw [ih]
        split <;> simp
      · rfl

theorem Fabric.numberMsg_tick {f g : Fabric} {o o' : OutMsg} (h : f.numberMsg o = some (g, o')) : g.tick = f.tick := by
  unfold Fabric.numberMsg at h
  split at h
  · cases h; rfl
  · split at h
    · cases h; rfl
    · split at h
      · cases h; rfl
      · dsimp only at h
        split at h
        · contradiction
        · cases h; rfl

@[simp] theorem Fabric.askGrant_tick (f : Fabric) (d flits : Nat) : (f.askGrant d flits).tick = f.tick := by
  unfold Fabric.askGrant
  extract_lets s m o
  split
  · rfl
  · split
    · split
      · next hn => rw [Fabric.drainOut_tick, Fabric.numberMsg_tick hn, Fabric.setSrc_tick]
      · rfl
    · rfl

@[simp] theorem Fabric.pump_tick (f : Fabric) : f.pump.tick = f.tick := by
  unfold Fabric.pump
  extract_lets _ go _ _
  have hgo : go.1.tick = f.tick := by
    refine List.foldlRecOn (motive := fun st : Fabric × List OutMsg × List (Nat × Nat) => st.1.tick = f.tick) _ _ rfl ?_
    rintro ⟨g, keep, blocked⟩ hg o -
    dsimp -zeta only at hg ⊢
    extract_lets key
    split
    · exact hg
    · split
      · exact hg
      · next g' o' hn =>
        have hd : (Fabric.drainOut 64 g' o').1.tick = f.tick := by
          rw [Fabric.drainOut_tick, Fabric.numberMsg_tick hn, hg]
        split <;> next he => rw [he] at hd; exact hd
  rw [Fabric.foldl_tick fun g o => Fabric.foldl_tick (fun g d => g.askGrant_tick d _) _ g]
  exact hgo

/-! ### The parts of one ref tick -/

@[simp] theorem Fabric.chargePort_tick (f : Fabric) (k : Nat) : (f.chargePort k).tick = f.tick := by
  unfold Fabric.chargePort
  extract_lets p mine
  split
  · rfl
  · split
    · rfl
    · split
      · rfl
      · split <;> rfl

@[simp] theorem Fabric.chargeHeld_tick (f : Fabric) : f.chargeHeld.tick = f.tick := by
  unfold Fabric.chargeHeld
  split <;> rfl

@[simp] theorem Fabric.tickCounters_tick (f : Fabric) : f.tickCounters.tick = f.tick := rfl

@[simp] theorem Fabric.tickStalls_tick (f : Fabric) : f.tickStalls.tick = f.tick := Fabric.foldl_tick (fun _ _ => by rfl) _ _

@[simp] theorem Fabric.tickHp_tick (f : Fabric) : f.tickHp.tick = f.tick := Fabric.foldl_tick (fun _ _ => by rfl) _ _

@[simp] theorem Fabric.tickCtl_tick (f : Fabric) : f.tickCtl.tick = f.tick := by
  unfold Fabric.tickCtl
  split <;> rfl

@[simp] theorem Fabric.clearHwm_tick (f : Fabric) (mask : Nat) : (f.clearHwm mask).tick = f.tick :=
  Fabric.foldl_tick (fun _ _ => by rfl) _ _

@[simp] theorem Fabric.tickSnaps_tick (f : Fabric) : f.tickSnaps.tick = f.tick := by
  refine Fabric.foldl_tick (fun g s => ?_) _ _
  dsimp only
  rw [Fabric.finish_tick]
  split <;> simp

@[simp] theorem Fabric.tickCounts_tick (f : Fabric) : f.tickCounts.tick = f.tick :=
  Fabric.foldl_tick (fun _ _ => Fabric.finish_tick _ _ _ _ _ _) _ _

@[simp] theorem Fabric.tickBell_tick (f : Fabric) : f.tickBell.tick = f.tick := by
  unfold Fabric.tickBell
  split <;> rfl

@[simp] theorem Fabric.tickFlow_tick (f : Fabric) : f.tickFlow.tick = f.tick := by
  simp [Fabric.tickFlow]

@[simp] theorem Fabric.tickPower_tick (f : Fabric) : f.tickPower.tick = f.tick := rfl

@[simp] theorem Fabric.setCore_tick (f : Fabric) (c : Nat) (t : CoreTrace) : (f.setCore c t).tick = f.tick := rfl

@[simp] theorem Fabric.traceCore_tick (c n : Nat) (f : Fabric) : (Fabric.traceCore c n f).tick = f.tick := by
  induction n generalizing f with
  | zero => rfl
  | succ n ih =>
    unfold Fabric.traceCore
    dsimp only [Fabric.draw]
    rw [ih]
    split <;> rfl

@[simp] theorem Fabric.traceMark_tick (f : Fabric) (id : Word) : (f.traceMark id).tick = f.tick := by
  unfold Fabric.traceMark
  dsimp only [Fabric.draw]
  split <;> rfl

@[simp] theorem Fabric.tickTrace_tick (f : Fabric) : f.tickTrace.tick = f.tick := by
  unfold Fabric.tickTrace
  dsimp only
  rw [Fabric.foldl_tick Fabric.traceMark_tick]
  dsimp only
  refine Fabric.foldl_tick (fun g c => ?_) _ _
  split <;> simp

@[simp] theorem Fabric.cancelInjections_tick (f : Fabric) : f.cancelInjections.tick = f.tick :=
  Fabric.foldl_tick (fun _ _ => Fabric.finish_tick _ _ _ _ _ _) _ _

@[simp] theorem Fabric.tickConf_tick (f : Fabric) : f.tickConf.tick = f.tick := by
  unfold Fabric.tickConf
  extract_lets now f₁ f₂
  have h₂ : f₂.tick = f.tick := by unfold f₂; split <;> simp [Fabric.newEpoch, f₁]
  split
  · exact h₂
  · rfl

@[simp] theorem Fabric.tickMode_tick (f : Fabric) : f.tickMode.tick = f.tick := by
  unfold Fabric.tickMode
  split <;> simp [Fabric.cancelTrace]

@[simp] theorem Fabric.settleWraps_tick (f : Fabric) : f.settleWraps.tick = f.tick := by
  unfold Fabric.settleWraps
  extract_lets h f₁
  have h₁ : f₁.tick = f.tick := by unfold f₁; split <;> simp
  split <;> simp [h₁]

/-! ### One ref tick -/

/-- While ref ticks are counted, one of them advances the tick count by one. -/
theorem Fabric.tickOnce_tick {f : Fabric} (h : f.counting = true) : f.tickOnce.tick = f.tick + 1 := by
  simp [Fabric.tickOnce, h, Fabric.foldl_tick Fabric.chargePort_tick]

/-- With no REFCLK counted a ref tick changes nothing. -/
theorem Fabric.tickOnce_stopped {f : Fabric} (h : f.counting = false) : f.tickOnce = f := by
  simp [Fabric.tickOnce, h]

/-- With an empty queue a step is one ref tick of the fabric die. -/
theorem step_idle {s : State} (h : s.pending = []) : step s = .next { s with fab := s.fab.tickOnce } := by
  simp [step, h]

end Sys2Proof.Machine

namespace Sys2Proof.Proofs
open Sys2Proof.Machine

/-- Settles O2: the fabric die after an idle step is `Fabric.tickOnce` of the one before it. -/
theorem idleStepIsOneRefTick : Obligations.IdleStepIsOneRefTick := by
  unfold Obligations.IdleStepIsOneRefTick
  intro s hs
  exact ⟨s.fab.tickOnce, step_idle hs, Fabric.tickOnce_tick, Fabric.tickOnce_stopped⟩

end Sys2Proof.Proofs
end

section
/-!
SUPPORT. Fields of packed words (R7, R8): what `fld` and `onlyBits` read of a word that `pack` or `w64` made.
-/
namespace Sys2Proof

/-- Bit `i` of a packed word is set where one of its fields holds it. -/
theorem getLsbD_pack (fs : List (Nat × Nat × Nat)) {i : Nat} (hi : i < 64) :
    (pack fs).getLsbD i = fs.any fun e => decide (e.2.1 ≤ i ∧ i ≤ e.1) && e.2.2.testBit (i - e.2.1) := by
  induction fs with
  | nil => simp [pack]
  | cons e fs ih =>
    obtain ⟨h, l, v⟩ := e
    have inField : (decide (l ≤ i) && decide (i - l < h + 1 - l)) = decide (l ≤ i ∧ i ≤ h) := by
      rw [← Bool.decide_and]; exact decide_eq_decide.mpr (by omega)
    simp only [pack, BitVec.getLsbD_or, BitVec.getLsbD_ofNat, hi, decide_true, Bool.true_and, ih, List.any_cons,
      Nat.testBit_mul_two_pow, Nat.testBit_mod_two_pow, ← inField, Bool.and_assoc]

theorem testBit_fld (w : Word) (hi lo j : Nat) :
    (fld w hi lo).testBit j = (decide (j < hi + 1 - lo) && w.getLsbD (lo + j)) := by
  simp only [fld, Nat.testBit_mod_two_pow, Nat.testBit_div_two_pow, BitVec.getLsbD, Nat.add_comm lo j]

theorem bit_eq_fld (w : Word) (n : Nat) : bit w n = (fld w n n == 1) := by
  simp [bit, fld]

/-- A field of a packed word is its value, where no other field of the word overlaps it. -/
theorem fld_pack_cons_same {hi lo v : Nat} {fs : List (Nat × Nat × Nat)} (hhi : hi < 64)
    (hfs : ∀ e ∈ fs, hi < e.2.1 ∨ e.1 < lo) : fld (pack ((hi, lo, v) :: fs)) hi lo = v % 2 ^ (hi + 1 - lo) := by
  refine Nat.eq_of_testBit_eq fun j => ?_
  rw [testBit_fld, Nat.testBit_mod_two_pow]
  by_cases hj : j < hi + 1 - lo
  · have others : (fs.any fun e => decide (e.2.1 ≤ lo + j ∧ lo + j ≤ e.1) && e.2.2.testBit (lo + j - e.2.1)) = false := by
      refine List.any_eq_false.mpr fun e he => ?_
      have : ¬ (e.2.1 ≤ lo + j ∧ lo + j ≤ e.1) := by have := hfs e he; omega
      simp [this]
    have here : lo ≤ lo + j ∧ lo + j ≤ hi := by omega
    rw [getLsbD_pack _ (by omega), List.any_cons, others]
    simp [hj, here]
  · simp [hj]

/-- A field of a packed word does not see a field that lies beside it. -/
theorem fld_pack_cons_other {hi lo hi' lo' v : Nat} {fs : List (Nat × Nat × Nat)} (h : hi < lo' ∨ hi' < lo) :
    fld (pack ((hi', lo', v) :: fs)) hi lo = fld (pack fs) hi lo := by
  refine Nat.eq_of_testBit_eq fun j => ?_
  rw [testBit_fld, testBit_fld]
  by_cases hj : j < hi + 1 - lo ∧ lo + j < 64
  · have beside : ¬ (lo' ≤ lo + j ∧ lo + j ≤ hi') := by omega
    rw [getLsbD_pack _ hj.2, getLsbD_pack _ hj.2, List.any_cons]
    simp [beside]
  · by_cases hw : lo + j < 64
    · simp [show ¬ j < hi + 1 - lo by omega]
    · rw [BitVec.getLsbD_of_ge _ _ (by omega), BitVec.getLsbD_of_ge _ _ (by omega)]

@[simp] theorem fld_pack_nil (hi lo : Nat) : fld (pack []) hi lo = 0 := by simp [fld, pack]

/-- A field down to bit 0 is its upper part above its lower part. -/
theorem fld_split {w : Word} {hi mid : Nat} (hlo : 0 < mid) (hhi : mid ≤ hi) :
    fld w hi 0 = 2 ^ mid * fld w hi mid + fld w (mid - 1) 0 := by
  have wide : hi + 1 = mid + (hi + 1 - mid) := by omega
  have low : mid - 1 + 1 = mid := by omega
  simp only [fld, Nat.pow_zero, Nat.div_one, Nat.sub_zero, low]
  conv_lhs => rw [wide, Nat.pow_add, Nat.mod_mul]
  exact Nat.add_comm _ _

/-- A packed word has no bit outside fields that cover its own. -/
theorem onlyBits_pack {fs : List (Nat × Nat × Nat)} {ms : List (Nat × Nat)}
    (h : ∀ e ∈ fs, ∃ m ∈ ms, m.2 ≤ e.2.1 ∧ e.1 ≤ m.1) : onlyBits (pack fs) ms = true := by
  simp only [onlyBits, beq_iff_eq]
  refine BitVec.eq_of_getLsbD_eq fun i hi => ?_
  rw [BitVec.getLsbD_and, BitVec.getLsbD_not, getLsbD_pack _ hi, getLsbD_pack _ hi, BitVec.ofNat_eq_ofNat,
    BitVec.getLsbD_zero, Bool.and_eq_false_imp, List.any_eq_true]
  rintro ⟨e, he, hb⟩
  obtain ⟨m, hm, hle, hge⟩ := h e he
  simp only [Bool.and_eq_true, decide_eq_true_eq] at hb
  have covered : (List.map (fun m : Nat × Nat => (m.1, m.2, 2 ^ (m.1 + 1 - m.2) - 1)) ms).any
      (fun e => decide (e.2.1 ≤ i ∧ i ≤ e.1) && e.2.2.testBit (i - e.2.1)) = true := by
    refine List.any_eq_true.mpr ⟨_, List.mem_map_of_mem hm, ?_⟩
    simp only [Nat.testBit_two_pow_sub_one, Bool.and_eq_true, decide_eq_true_eq]
    omega
  rw [covered]
  simp

/-- A number that fits the low field is that field alone. -/
theorem w64_eq_pack {n hi : Nat} (h : n < 2 ^ (hi + 1)) : w64 n = pack [(hi, 0, n)] := by
  simp [w64, pack, Nat.mod_eq_of_lt h]

theorem fld_w64 {n hi : Nat} (h : n < 2 ^ (hi + 1)) (hhi : hi < 64) : fld (w64 n) hi 0 = n := by
  rw [w64_eq_pack h, fld_pack_cons_same hhi (by simp)]
  exact Nat.mod_eq_of_lt h

theorem onlyBits_w64 {n hi : Nat} (h : n < 2 ^ (hi + 1)) : onlyBits (w64 n) [(hi, 0)] = true := by
  rw [w64_eq_pack h]
  exact onlyBits_pack (by simp)

theorem toNat_w64 {n : Nat} (h : n < 2 ^ 64) : (w64 n).toNat = n := by
  simp only [w64, BitVec.toNat_ofNat]
  exact Nat.mod_eq_of_lt h

end Sys2Proof
end

section
/-!
SUPPORT. How a command of the fabric die answers: an event behind its gate, a mailbox command that is taken, and what the
mailbox protocol does with a command before its body runs (R66, R71, R72, R74).
-/
namespace Sys2Proof.Machine

variable {s : State} {i : Instr} {c : Cmd} {op : Nat} {body : Body} {gate : Fabric → Bool} {g : Fabric}

/-- An event whose gate holds answers the fabric die that its meaning makes. -/
theorem goes_event (act : Fabric → Fabric) (hg : gate s.fab = true) (hi : exec i s = s.onFabric gate act) (h : act s.fab = g) :
    Goes i s g := by
  rw [Goes, hi, State.onFabric_gate hg, h]

/-- An event whose gate does not hold leaves the state. -/
theorem exec_shut (act : Fabric → Fabric) (hg : gate s.fab = false) (hi : exec i s = s.onFabric gate act) : exec i s = .next s :=
  hi.trans (State.onFabric_shut hg act)

/-- A mailbox command that its mailbox takes answers what its body leaves on the begun device. -/
theorem goes_taken (op : Nat) (body : Body) (ht : s.fab.takes c = true) (hi : exec i s = s.command c op body)
    (h : Fabric.ended c.mbx (body c (s.fab.begun c op)) = g) : Goes i s g := by
  rw [Goes, hi, State.command_takes ht, h]

/-- A mailbox command whose source reaches the device is issued. -/
theorem goes_issued (hs : s.fab.canSend c.src = true) (hi : exec i s = s.command c op body) (h : s.fab.issue c op body = g) :
    Goes i s g :=
  goes_event _ hs hi h

/-! ### What is decided before a command's body runs -/

variable {f : Fabric}

/-- A source without access is one violation (R66). -/
theorem Fabric.issue_violates (he : f.mbxExists c.mbx = true) (ha : f.mbxAccess c.src c.mbx = false) :
    f.issue c op body = f.violate := by
  simp [Fabric.issue, he, ha]

/-- While OWN is 1 a command is ignored (R72). -/
theorem Fabric.issue_owned (he : f.mbxExists c.mbx = true) (ha : f.mbxAccess c.src c.mbx = true)
    (ho : (f.mbx c.mbx).env.own = true) : f.issue c op body = f := by
  simp [Fabric.issue, he, ha, ho]

/-- A command under the recorded SEQ is accepted and gets the record (R74). -/
theorem Fabric.issue_replays {r : CmdRecord} (he : f.mbxExists c.mbx = true) (ha : f.mbxAccess c.src c.mbx = true)
    (ho : (f.mbx c.mbx).env.own = false) (hready : f.ready = true) (hrun : f.ladder.restarting = false)
    (hrec : (f.mbx c.mbx).record = some r) (hseq : r.env.seq = c.seq % 2 ^ 32) :
    f.issue c op body = (f.begun c op).complete c.mbx r.env.status r.env.result0 r.resp r.env.respLen := by
  simp only [Fabric.issue, he, ha, ho, hready, hrun, Bool.not_true, Bool.not_false, Bool.and_self, Bool.false_eq_true, if_false, if_true,
    Fabric.setMbx_ready, Fabric.setMbx_ladder]
  rw [Fabric.accept_replay (r := r)]
  · simp only [Fabric.acceptId, Fabric.mbx_setMbx_same, Fabric.setMbx_same]
    rfl
  · simp [hrec]
  · simp [hseq]

/-- A mailbox that holds a command which has not been accepted. -/
def Mailbox.holding (b : Mailbox) (c : Cmd) (op : Nat) : Mailbox :=
  { b with env := { seq := c.seq % 2 ^ 32, doneWb := c.doneWb, opcode := op, payLen := c.len, tag := c.tag, doneAddr := c.doneAddr,
                    own := true }
           pay := c.pay ++ b.pay.drop c.pay.length, src := c.src, accepted := false }

/-- Before READY, and while the Management Cluster restarts, a command waits in its mailbox (R71, log entry 150). -/
theorem Fabric.issue_waits (he : f.mbxExists c.mbx = true) (ha : f.mbxAccess c.src c.mbx = true)
    (ho : (f.mbx c.mbx).env.own = false) (hw : f.ready = false ∨ f.ladder.restarting = true) :
    f.issue c op body =
      { f with mbxs := f.mbxs.set c.mbx ((f.mbx c.mbx).holding c op), waiting := f.waiting ++ [c.mbx] } := by
  have shut : (f.ready && !f.ladder.restarting) = false := by
    cases hw with
    | inl h => simp [h]
    | inr h => simp [h]
  simp only [Fabric.issue, he, ha, ho, shut, Bool.not_true, Bool.false_eq_true, if_false, Fabric.setMbx_ready, Fabric.setMbx_ladder]
  rfl

end Sys2Proof.Machine

namespace Sys2Proof.Proofs
open Sys2Proof.Machine

/-- Settles O3: every row of `exec` is a lift of one die's change, and neither lift touches the queue. -/
theorem everyCommandAnswers : Obligations.EveryCommandAnswers := by
  intro i s
  cases hi : onMeterDie i with
  | true =>
    obtain ⟨g, e⟩ := exec_meter hi
    exact ⟨_, e s, rfl⟩
  | false =>
    obtain ⟨gate, g, e⟩ := exec_fabric hi s
    refine ⟨_, e, ?_⟩
    split <;> rfl

/-- Settles O5: one lemma about `Fabric.issue` for each thing that can happen before a command runs. -/
theorem mailboxGateAndRecord : Obligations.MailboxGateAndRecord := by
  refine ⟨?_, ?_, ?_, ?_⟩
  · intro i c op s hi hs he ha
    obtain ⟨body, e⟩ := exec_mailbox hi
    exact goes_issued hs (e s) (Fabric.issue_violates he ha)
  · intro i c op s hi hs he ha ho
    obtain ⟨body, e⟩ := exec_mailbox hi
    exact goes_issued hs (e s) (Fabric.issue_owned he ha ho)
  · intro i c op s r hi hs he ha ho hready hrun hrec hseq
    obtain ⟨body, e⟩ := exec_mailbox hi
    exact goes_issued hs (e s) (Fabric.issue_replays he ha ho hready hrun hrec hseq)
  · intro i c op s hi hs he ha ho hw
    obtain ⟨body, e⟩ := exec_mailbox hi
    exact ⟨(s.fab.mbx c.mbx).holding c op, rfl, rfl, rfl, rfl, rfl, rfl, rfl, rfl,
      goes_issued hs (e s) (Fabric.issue_waits he ha ho hw)⟩

/-- Settles O9: every row named stands behind a gate that does not hold. -/
theorem closedGateLeavesTheState : Obligations.ClosedGateLeavesTheState := by
  refine ⟨?_, ?_, ?_⟩
  · intro i c op s hi hs
    obtain ⟨body, e⟩ := exec_mailbox hi
    exact exec_shut _ hs (e s)
  · exact fun s n hc => exec_shut (fun f => f.messageTimeEnd n) hc rfl
  · intro s hl
    have shut {i : Instr} (act : Fabric → Fabric) (hi : exec i s = s.onFabric Fabric.live act) : exec i s = .next s :=
      exec_shut act hl hi
    exact ⟨fun n => shut (fun f => f.lingerEnd n) rfl, fun n => shut (fun f => f.finishDrain n true) rfl,
      fun n => shut (fun f => f.finishDrain n false) rfl, fun p e => shut (fun f => f.startDescriptor p e) rfl,
      fun p e => shut (fun f => f.issueTile p e) rfl, fun n => shut (fun f => f.requestTimeout n) rfl,
      fun n => shut (fun f => f.routeDrainDone n) rfl, fun k x => shut (fun f => f.dataFlitRx k x.flit x.crc) rfl,
      fun k => shut (fun f => f.flitTx k) rfl, fun m => shut (fun f => f.requestMsg { m with kind := .write }) rfl,
      fun k => shut (fun f => f.laneLockLoss k) rfl⟩

end Sys2Proof.Proofs
end

section
/-!
SUPPORT. The admin commands of Table 2.17 and opcodes without a definition (R76, R77).
-/
namespace Sys2Proof.Machine

variable {f : Fabric} {s : State} {c : Cmd} {op i q : Nat}

/-- NOP of at most the payload area returns its payload. -/
theorem nopBody_fits (h : c.len ≤ 4032) : nopBody c f = (f, .done stOk (w64 f.tick) (takePad (ceilDiv c.len 8) c.pay) c.len) := by
  simp [nopBody, Nat.not_lt.mpr h]

/-- SEQ_QUERY of a mailbox that the source reads answers its last command and its accepted one. -/
theorem seqQueryBody_reads (hlen : c.len = 8) (hi : i < 256) (hw : wd c.pay 0 = w64 i) (hm : f.noMailbox i = false)
    (ha : f.mbxAccess c.mbx i = true) :
    seqQueryBody c f = (f, .done stOk 0
      [pack [(31, 0, (f.mbx i).last.1), (39, 32, (f.mbx i).last.2), (47, 40, b2n (f.mbx i).env.own)],
       pack [(31, 0, if (f.mbx i).env.own && (f.mbx i).accepted then (f.mbx i).env.seq else 0)]] 16) := by
  have index : fld (w64 i) 7 0 = i := fld_w64 hi (by decide)
  simp [seqQueryBody, hlen, hw, index, onlyBits_w64 (show i < 2 ^ (7 + 1) from hi), hm, ha]

/-- An opcode outside the chapters of Table 2.16 has the body that faults. -/
theorem bodyOf_undefined (h : op ∉ definedOpcodes) : bodyOf op = fun _ f => faulted f := by
  have low : bodyLow op = fun _ f => faulted f := by
    unfold bodyLow
    split
    case h_29 => rfl
    all_goals exact absurd (by decide) h
  have mid : bodyMid op = fun _ f => faulted f := by
    unfold bodyMid
    split
    case h_23 => rfl
    all_goals exact absurd (by decide) h
  have high : bodyHigh op = fun _ f => faulted f := by
    unfold bodyHigh
    split
    case h_19 => rfl
    all_goals exact absurd (by decide) h
  simp [bodyOf, low, mid, high]

/-! ### CMD_ABORT -/

/-- The device after CMD_ABORT has taken away a mailbox's pending orders and its descriptors that have not started. -/
def Fabric.withdraw (f : Fabric) (p i : Nat) : Fabric :=
  ({ f with orders := f.orders.filter fun o => o.mbx != i } : Fabric).updPart p fun x =>
    { x with issued := x.issued.filter fun d => d.mbx != i }

@[simp] theorem Fabric.withdraw_mbx (f : Fabric) (p i m : Nat) : (f.withdraw p i).mbx m = f.mbx m := rfl

/-- A command in progress completes. -/
theorem Fabric.finish_inProgress {m : Nat} (ho : (f.mbx m).env.own = true) (ha : (f.mbx m).accepted = true)
    (st r0 : Nat) (resp : List Word) (len : Nat) : f.finish m st r0 resp len = f.complete m st (w64 r0) resp len := by
  simp [Fabric.finish, ho, ha]

@[simp] theorem Fabric.freeCounts_mbx (f : Fabric) (p i id m : Nat) : (f.freeCounts p i id).mbx m = f.mbx m := by
  unfold Fabric.freeCounts
  dsimp only
  split <;> rfl

/-- What a CMD_ABORT of the admin finds that names the accepted command of a partition mailbox. -/
structure Aborts (c : Cmd) (f : Fabric) (i q : Nat) : Prop where
  admin : c.mbx = 32
  len : c.len = 8
  index : i < 32
  seq : q < 2 ^ 32
  pay : wd c.pay 0 = pack [(7, 0, i), (63, 32, q)]
  here : f.noMailbox i = false
  free : f.confPart i = false
  own : (f.mbx i).env.own = true
  accepted : (f.mbx i).accepted = true
  holds : (f.mbx i).env.seq = q

namespace Aborts

/-- CMD_ABORT past its checks: whether anything of the command is left to stop decides. -/
theorem body (h : Aborts c f i q) :
    cmdAbortBody c f =
      let p := tagPart (f.mbx i).env.tag
      let issued := (f.part p).issued.find? fun d => d.mbx == i
      if !((f.orders.any fun o => o.mbx == i) || issued.isSome) then okay f
      else match issued with
        | some d => okay ((f.withdraw p i).endIssued p d stSuperseded) 1
        | none => okay ((f.withdraw p i).finish i stSuperseded) 1 := by
  have index : fld (pack [(7, 0, i), (63, 32, q)]) 7 0 = i := by
    rw [fld_pack_cons_same (by decide) (by simp)]
    exact Nat.mod_eq_of_lt (h.index.trans (by decide))
  have seq : fld (pack [(7, 0, i), (63, 32, q)]) 63 32 = q := by
    rw [fld_pack_cons_other (by simp), fld_pack_cons_same (by decide) (by simp)]
    exact Nat.mod_eq_of_lt h.seq
  have fields : onlyBits (pack [(7, 0, i), (63, 32, q)]) [(7, 0), (63, 32)] = true := onlyBits_pack (by simp)
  have inRange : ¬ 31 < i := by have := h.index; omega
  unfold cmdAbortBody
  simp [h.admin, h.len, h.pay, index, seq, fields, inRange, h.here, h.free, h.own, h.accepted, h.holds]
  rfl

/-- A pending order of a mailbox without a descriptor is removed. -/
theorem ofOrder (h : Aborts c f i q) (ho : (f.orders.any fun o => o.mbx == i) = true)
    (hn : ((f.part (tagPart (f.mbx i).env.tag)).issued.find? fun d => d.mbx == i) = none) :
    cmdAbortBody c f = okay ((f.withdraw (tagPart (f.mbx i).env.tag) i).complete i stSuperseded 0 [] 0) 1 := by
  rw [h.body]
  simp only [ho, hn, Bool.true_or, Bool.not_true, Bool.false_eq_true, if_false]
  rw [Fabric.finish_inProgress (by simpa using h.own) (by simpa using h.accepted)]
  rfl

/-- A descriptor that has not started is removed, and counter entry 16 is released. -/
theorem ofDescriptor (h : Aborts c f i q) {d : Issued}
    (hd : ((f.part (tagPart (f.mbx i).env.tag)).issued.find? fun d => d.mbx == i) = some d) :
    cmdAbortBody c f = okay
      (((f.withdraw (tagPart (f.mbx i).env.tag) i).freeCounts (tagPart (f.mbx i).env.tag) 16 (f.mbx i).env.cmdId.toNat).complete i
        stSuperseded 0 [] 0) 1 := by
  have own : d.mbx = i := by simpa using List.find?_some hd
  rw [h.body]
  simp only [hd, Option.isSome_some, Bool.or_true, Bool.not_true, Bool.false_eq_true, if_false, Fabric.endIssued, own,
    Fabric.withdraw_mbx]
  rw [Fabric.finish_inProgress (by simpa using h.own) (by simpa using h.accepted)]
  rfl

/-- With neither, CMD_ABORT changes nothing. -/
theorem ofNothing (h : Aborts c f i q) (ho : (f.orders.any fun o => o.mbx == i) = false)
    (hn : ((f.part (tagPart (f.mbx i).env.tag)).issued.find? fun d => d.mbx == i) = none) : cmdAbortBody c f = okay f := by
  rw [h.body]
  simp [ho, hn]

end Aborts

end Sys2Proof.Machine

namespace Sys2Proof.Proofs
open Sys2Proof.Machine

/-- Settles O6: each body past its checks, on the begun device. -/
theorem adminCommandsAnswer : Obligations.AdminCommandsAnswer := by
  refine ⟨?_, ?_, ?_, ?_⟩
  · intro s c ht hlen
    refine goes_taken 0x0000 nopBody ht rfl ?_
    rw [nopBody_fits hlen]
    rfl
  · intro s c i ht hlen hi hw hm ha
    refine goes_taken 0x0001 seqQueryBody ht rfl ?_
    rw [seqQueryBody_reads (f := s.fab.begun c 0x0001) hlen hi hw hm ha]
    rfl
  · intro s c i q ht hc hlen hi hq hw he hf ho ha hs p found removed
    have other : (s.fab.begun c 0x0002).mbx i = s.fab.mbx i := Fabric.begun_mbx_other _ _ _ _ (by omega)
    have here : s.fab.noMailbox i = false := by
      simp [Fabric.noMailbox, he]
      omega
    have h : Aborts c (s.fab.begun c 0x0002) i q :=
      ⟨hc, hlen, hi, hq, hw, here, hf, by rw [other, ho], by rw [other, ha], by rw [other, hs]⟩
    refine ⟨fun hord hn => ?_, fun d hd => ?_, fun hord hn => ?_⟩
    · refine goes_taken 0x0002 cmdAbortBody ht rfl ?_
      rw [h.ofOrder hord (by rw [other]; exact hn), other]
      rfl
    · refine goes_taken 0x0002 cmdAbortBody ht rfl ?_
      rw [h.ofDescriptor (by rw [other]; exact hd), other]
      rfl
    · refine goes_taken 0x0002 cmdAbortBody ht rfl ?_
      rw [h.ofNothing hord (by rw [other]; exact hn)]
      rfl
  · intro s c op ht hop
    refine goes_taken op (bodyOf op) ht rfl ?_
    rw [bodyOf_undefined hop]
    rfl

end Sys2Proof.Proofs
end

section
/-!
SUPPORT. The end of a message time (R88 to R91) where all pending orders are of one message time.
-/
namespace Sys2Proof.Machine

variable {f : Fabric} {a b o : Order}

/-- Ref ticks are counted on a live device. -/
theorem Fabric.counting_of_live (h : f.live = true) : f.counting = true := by
  simp only [Fabric.live, Bool.and_eq_true, decide_eq_true_eq, Bool.not_eq_true'] at h
  obtain ⟨⟨⟨hp, hr⟩, hs⟩, hf⟩ := h
  simp only [Fabric.counting, hp, hr, hf, Bool.and_self, Bool.not_false, Bool.and_true, Bool.true_and, decide_eq_true_eq]
  omega

theorem Obj.same_self (x : Obj) : x.same x = true := by simp [Obj.same]

/-- Orders that contradict set a common state object. -/
theorem Order.meets_of_contradicts (h : a.contradicts b = true) : b.meets a = true := by
  simp only [Order.contradicts, List.any_eq_true, Bool.and_eq_true, beq_iff_eq] at h
  obtain ⟨x, hx, y, hy, hxy, -⟩ := h
  simp only [Order.meets, List.any_eq_true]
  exact ⟨y, hy, x, hx, by rw [hxy]; exact y.1.same_self⟩

/-- A lone order is a message time of its own. -/
theorem messageTimes_one (o : Order) : messageTimes [o] = [{ start := o.tick, orders := [o] }] := rfl

/-- Two contradicting orders less than 128 ref ticks apart share a message time, which the earlier one began. -/
theorem messageTimes_two (h : a.contradicts b = true) (ht : max a.tick b.tick < min a.tick b.tick + 128) :
    messageTimes [a, b] = [{ start := min a.tick b.tick, orders := [a, b] }] := by
  have joins : (decide (b.tick < a.tick + messageTicks) && [a].any b.meets) = true := by
    have near : b.tick < a.tick + 128 := by omega
    simp [messageTicks, near, Order.meets_of_contradicts h]
  change joinTimes [{ start := a.tick, orders := [a] }] b = _
  simp only [joinTimes, List.filter_cons, joins, if_true, Bool.not_true, Bool.false_eq_true, if_false, List.filter_nil, List.nil_append,
    List.foldl_cons, List.foldl_nil, List.flatMap_cons, List.flatMap_nil, List.append_nil, List.cons_append]
  rw [Nat.min_comm]

/-- The end of a message time that all pending orders belong to: they are arbitrated in R90's order. -/
theorem Fabric.messageTimeEnd_only {t : MsgTime} {id : Nat} (ht : messageTimes f.orders = [t]) (ho : t.orders = f.orders)
    (hid : (t.orders.any fun o => o.id == id) = true) (hover : t.start + messageTicks ≤ f.tick) :
    f.messageTimeEnd id = ({ f with orders := [] } : Fabric).arbitrate (t.orders.foldl (fun l x => insertOrder x l) []) [] := by
  have none_left : (f.orders.filter fun x => !(t.orders.any fun y => y.id == x.id)) = [] := by
    refine List.filter_eq_nil_iff.mpr fun x hx => ?_
    have : (t.orders.any fun y => y.id == x.id) = true := List.any_eq_true.mpr ⟨x, ho ▸ hx, by simp⟩
    simp [this]
  simp only [Fabric.messageTimeEnd, ht, List.find?_cons, hid, none_left]
  simp [Nat.not_lt.mpr hover]

/-- Before its message time is over nothing happens. -/
theorem Fabric.messageTimeEnd_early {t : MsgTime} {id : Nat} (ht : messageTimes f.orders = [t])
    (hover : f.tick < t.start + messageTicks) :
    f.messageTimeEnd id = f := by
  simp only [Fabric.messageTimeEnd, ht]
  split
  · rfl
  · next u hu =>
    obtain rfl : u = t := by simpa using List.mem_of_find?_eq_some hu
    simp [hover]

/-! ### One order of a message time -/

variable {os standing : List Order}

theorem Fabric.arbitrate_nil (f : Fabric) (standing : List Order) : f.arbitrate [] standing = f := rfl

/-- An order that contradicts a standing one completes with SUPERSEDED. -/
theorem Fabric.arbitrate_superseded (h : (standing.any fun s => s.contradicts o) = true) :
    f.arbitrate (o :: os) standing = (f.finish o.mbx stSuperseded).arbitrate os standing := by
  rw [Fabric.arbitrate]
  simp [h]

/-- An order whose limits fail completes with FAULTED. -/
theorem Fabric.arbitrate_fails (h : (standing.any fun s => s.contradicts o) = false) (hf : f.orderFails o = true) :
    f.arbitrate (o :: os) standing = (f.finish o.mbx stFaulted).arbitrate os standing := by
  rw [Fabric.arbitrate]
  simp [h, hf]

/-- Any other order takes effect; it stands unless its limits failed while it did. -/
theorem Fabric.arbitrate_applies (h : (standing.any fun s => s.contradicts o) = false) (hf : f.orderFails o = false) :
    f.arbitrate (o :: os) standing =
      (f.applyOrder o).arbitrate os
        (if (f.mbx o.mbx).env.own && (f.applyOrder o).limitsFailed o then standing else standing ++ [o]) := by
  rw [Fabric.arbitrate]
  simp [h, hf]

end Sys2Proof.Machine

namespace Sys2Proof.Proofs
open Sys2Proof.Machine

/-- Settles O7: a lone order is its message time's only one, and nothing stands before it. -/
theorem messageTimeEndAppliesAStandingOrder : Obligations.MessageTimeEndAppliesAStandingOrder := by
  intro s o hl ho g
  have time : messageTimes s.fab.orders = [{ start := o.tick, orders := [o] }] := by rw [ho, messageTimes_one]
  have runs {h : Fabric} (e : s.fab.messageTimeEnd o.id = h) : Goes (.messageTimeEnd o.id) s h :=
    goes_event (fun f => f.messageTimeEnd o.id) (Fabric.counting_of_live hl) rfl e
  have ended (h : o.tick + 128 ≤ s.fab.tick) : s.fab.messageTimeEnd o.id = g.arbitrate [o] [] :=
    Fabric.messageTimeEnd_only time ho.symm (by simp) h
  refine ⟨fun ht hf => runs ?_, fun ht hf => runs ?_, fun ht => runs (Fabric.messageTimeEnd_early time ht)⟩
  · rw [ended ht, Fabric.arbitrate_applies rfl hf, Fabric.arbitrate_nil]
  · rw [ended ht, Fabric.arbitrate_fails rfl hf, Fabric.arbitrate_nil]

/-- Settles O8: both orders are of one message time; the one ahead is applied and stands, and the other contradicts it. -/
theorem contradictedOrderIsSuperseded : Obligations.ContradictedOrderIsSuperseded := by
  intro s a b hl ho _ hc hab hba hnear hover f g hf hlim
  have time : messageTimes s.fab.orders = [{ start := min a.tick b.tick, orders := [a, b] }] := by
    rw [ho, messageTimes_two hc hnear]
  refine goes_event (fun f => f.messageTimeEnd b.id) (Fabric.counting_of_live hl) rfl ?_
  have sorted : [a, b].foldl (fun l x => insertOrder x l) [] = [a, b] := by simp [insertOrder, hba]
  have stands : ((f.mbx a.mbx).env.own && (f.applyOrder a).limitsFailed a) = false := hlim
  calc s.fab.messageTimeEnd b.id = f.arbitrate [a, b] [] := by
        rw [Fabric.messageTimeEnd_only time ho.symm (by simp) hover, sorted]
    _ = g.arbitrate [b] [a] := by rw [Fabric.arbitrate_applies rfl hf, stands]; rfl
    _ = g.finish b.mbx stSuperseded := by rw [Fabric.arbitrate_superseded (by simpa using hc), Fabric.arbitrate_nil]

end Sys2Proof.Proofs
end

section
/-!
SUPPORT. Writes and reads of the register window (R56, R65 to R69, R72, R87) and the notice rings (R83 to R85).
-/
namespace Sys2Proof.Machine

variable {f : Fabric} {src off ring reg p m i : Nat} {w : Word}

/-! ### What an access of 8 bytes does -/

/-- A write without privilege is one violation (R66). -/
theorem Fabric.regWrite_violates (ha : off % 8 = 0) (hw : off < 2 ^ 26) (hp : (f.mayTouch src off).2 = false) :
    f.regWrite src off 8 [w] = f.violate := by
  have inside : ¬ 67108864 ≤ off := by omega
  simp [Fabric.regWrite, ha, inside, hp]

@[simp] theorem Fabric.merged_word (f : Fabric) (off : Nat) (w : Word) : f.merged off 8 [w] = [w] := by
  simp [Fabric.merged, takePad]

theorem Fabric.regWrite_ring (hr : ring ≤ 32) (hreg : reg < 4) (here : ring = 32 ∨ f.partHere ring = true)
    (hp : (f.mayTouch src (0x400 + 0x20 * ring + 8 * reg)).2 = true) :
    f.regWrite src (0x400 + 0x20 * ring + 8 * reg) 8 [w] = f.ringWrite ring reg w := by
  generalize hoff : 0x400 + 0x20 * ring + 8 * reg = off at hp ⊢
  have aligned : off % 8 = 0 := by omega
  have inside : off < 0x100000 := by omega
  have noMailbox : mailboxAt off = none := by
    have h1 : ¬ 0x1000 ≤ off := by omega
    have h2 : ¬ 0x2000 ≤ off := by omega
    simp [mailboxAt, h1, h2]
  have atRing : ringAt off = some (ring, reg) := by
    have h1 : 0x400 ≤ off ∧ off < 0x820 := by omega
    have h2 : (off - 0x400) / 32 = ring ∧ off % 32 / 8 = reg := by omega
    simp [ringAt, h1, h2]
  have window : ¬ 67108864 ≤ off := by omega
  simp [Fabric.regWrite, aligned, window, hp, inside, Nat.mod_eq_of_lt inside, noMailbox, atRing, here, wd]

theorem Fabric.regWrite_mailbox (hm : m < 32) (hi : i < 512) (here : f.mbxExists m = true)
    (hp : (f.mayTouch src (0x2000 + 4096 * m + 8 * i)).2 = true) :
    f.regWrite src (0x2000 + 4096 * m + 8 * i) 8 [w] = f.mailboxWrite src m i [w] := by
  generalize hoff : 0x2000 + 4096 * m + 8 * i = off at hp ⊢
  have aligned : off % 8 = 0 := by omega
  have inside : off < 0x100000 := by omega
  have page : mailboxAt off = some m := by
    have h1 : ¬ off < 0x2000 := by omega
    have h2 : 0x2000 ≤ off ∧ off < 0x22000 := by omega
    have h3 : off / 4096 - 2 = m := by omega
    simp [mailboxAt, h1, h2, h3]
  have word : off % 4096 / 8 = i := by omega
  have window : ¬ 67108864 ≤ off := by omega
  simp [Fabric.regWrite, aligned, window, hp, inside, Nat.mod_eq_of_lt inside, page, here, word]

theorem Fabric.regWrite_par (hp : p < 32) (hreg : reg < 8192) (here : f.partHere p = true)
    (ht : (f.mayTouch src (0x400000 + 65536 * p + 8 * reg)).2 = true) :
    f.regWrite src (0x400000 + 65536 * p + 8 * reg) 8 [w] = f.parWrite src p reg w := by
  generalize hoff : 0x400000 + 65536 * p + 8 * reg = off at ht ⊢
  have aligned : off % 8 = 0 := by omega
  have outside : ¬ off < 0x100000 := by omega
  have block : 0x400000 ≤ off ∧ off < 0x600000 := by omega
  have part : (off - 0x400000) / 65536 = p := by omega
  have word : off % 65536 / 8 = reg := by omega
  have window : ¬ 67108864 ≤ off := by omega
  simp [Fabric.regWrite, aligned, window, ht, outside, block, part, word, here, wd]

/-- A read answers the register, or zero with one violation (R66, R87). -/
theorem Fabric.regWrite_read (ha : off % 8 = 0) (hw : off < 2 ^ 26) :
    f.regWrite src off 8 [] =
      if (f.mayTouch src off).1 then { f with hdp := { f.hdp with regRsp := some (f.reg off) } }
      else { f.violate with hdp := { f.hdp with regRsp := some 0 } } := by
  have aligned : down off 8 = off := by simp [down, ha]
  have window : ¬ 67108864 ≤ off := by omega
  cases ht : (f.mayTouch src off).1 <;>
    simp [Fabric.regWrite, Fabric.regRd, Fabric.regRead, ha, window, aligned, ht]

/-- While OWN is 1 a mailbox ignores writes (R72). -/
theorem Fabric.mailboxWrite_owned {ws : List Word} (ho : (f.mbx m).env.own = true) : f.mailboxWrite src m i ws = f := by
  simp [Fabric.mailboxWrite, ho]

/-! ### Registers of a ring -/

/-- Writing NR_BASE of a disabled ring with ENABLE (R69): a new base, and the ring's counts begin anew. -/
theorem Fabric.ringWrite_enables {b : Nat} (hb : b < 2 ^ 42) (he : (f.ring ring).enable = false)
    (hboot : ring = 32 → f.ladder.bootHeld = none) :
    f.ringWrite ring 0 (pack [(63, 63, 1), (47, 6, b)]) =
      f.setRing ring { f.ring ring with base := 64 * b, enable := true, head := 0, tail := 0, phase := true, lost := 0, nseq := 0,
                                        expect := 0 } := by
  have enable : bit (pack [(63, 63, 1), (47, 6, b)]) 63 = true := by
    rw [bit_eq_fld, fld_pack_cons_same (by decide) (by simp)]
    rfl
  have base : fld (pack [(63, 63, 1), (47, 6, b)]) 47 6 = b := by
    rw [fld_pack_cons_other (by simp), fld_pack_cons_same (by decide) (by simp)]
    exact Nat.mod_eq_of_lt hb
  by_cases hr : ring = 32
  · simp [Fabric.ringWrite, enable, base, he, Fabric.releaseBoot, hboot hr]
  · simp [Fabric.ringWrite, enable, base, he, hr]

/-- Writing NR_BASE of an enabled ring without ENABLE (R85): the held notices are dropped. -/
theorem Fabric.ringWrite_disables (he : (f.ring ring).enable = true) :
    f.ringWrite ring 0 0 =
      f.setRing ring { f.ring ring with enable := false, lost := sat32 ((f.ring ring).lost + (f.ring ring).held.length),
                                        held := [] } := by
  have enable : bit 0#64 63 = false := rfl
  simp [Fabric.ringWrite, enable, he]

/-- Writing NR_TAIL (R84): an index inside the ring is taken. -/
theorem Fabric.ringWrite_tail (hi : i < 65536) :
    f.ringWrite ring 3 (w64 i) = if i < 2 ^ (f.ring ring).log2 then f.setRing ring { f.ring ring with tail := i } else f := by
  have index : fld (w64 i) 15 0 = i := fld_w64 hi (by decide)
  simp [Fabric.ringWrite, index]

/-- A write of a ring register with privilege. -/
theorem Fabric.ringReg_allowed (hr : ring ≤ 32) (hreg : reg < 4) (here : ring = 32 ∨ f.partHere ring = true)
    (hp : (f.mayTouch src (0x400 + 0x20 * ring + 8 * reg)).2 = true) : f.ringReg src ring reg w = f.ringWrite ring reg w := by
  rw [Fabric.ringReg, if_neg (Nat.not_lt.mpr hr), Fabric.regWrite_ring hr hreg here hp]

/-! ### Held notices (R84) -/

theorem Fabric.deferredWrite_room {n : Notice} {rest : List Notice} (hh : (f.ring i).held = n :: rest)
    (he : (f.ring i).enable = true) (hr : (f.ring i).room = true) :
    f.deferredWrite i = (f.setRing i { f.ring i with held := rest }).writeNotice i n := by
  simp [Fabric.deferredWrite, hh, he, hr]

theorem Fabric.deferredWrite_full (hr : (f.ring i).room = false) : f.deferredWrite i = f := by
  unfold Fabric.deferredWrite
  dsimp only
  split
  · simp [hr]
  · rfl

end Sys2Proof.Machine

namespace Sys2Proof.Proofs
open Sys2Proof.Machine

/-- Settles O17: a ring register is written where its source may, and each register says what it does. -/
theorem noticeRingRegisters : Obligations.NoticeRingRegisters := by
  refine ⟨?_, ?_⟩
  · intro s src ring hup hr here r put
    refine ⟨fun b hp hb he hboot => ?_, fun hp he => ?_, fun i hp hi => ⟨fun hin => ?_, fun hout => ?_⟩⟩
    · refine goes_event (fun f => f.ringReg src ring 0 (pack [(63, 63, 1), (47, 6, 64 * b / 64)])) hup rfl ?_
      rw [Nat.mul_div_cancel_left b (by decide), Fabric.ringReg_allowed hr (by decide) here hp,
        Fabric.ringWrite_enables hb he hboot]
    · refine goes_event (fun f => f.ringReg src ring 0 0) hup rfl ?_
      rw [Fabric.ringReg_allowed hr (by decide) here hp, Fabric.ringWrite_disables he]
    · refine goes_event (fun f => f.ringReg src ring 3 (w64 i)) hup rfl ?_
      rw [Fabric.ringReg_allowed hr (by decide) here hp, Fabric.ringWrite_tail hi, if_pos hin]
    · refine goes_event (fun f => f.ringReg src ring 3 (w64 i)) hup rfl ?_
      rw [Fabric.ringReg_allowed hr (by decide) here hp, Fabric.ringWrite_tail hi, if_neg (Nat.not_lt.mpr hout)]
  · intro s ring n rest hl hh
    exact ⟨fun he hr => goes_event (fun f => f.deferredWrite ring) hl rfl (Fabric.deferredWrite_room hh he hr),
      fun hr => goes_event (fun f => f.deferredWrite ring) hl rfl (Fabric.deferredWrite_full hr)⟩

/-- Settles O18: each access is a write or a read of 8 bytes at an aligned offset of the window. -/
theorem registerWritesNeedPrivilege : Obligations.RegisterWritesNeedPrivilege := by
  intro s src w hup
  have writes {off : Nat} {data : List Word} {g : Fabric} (h : s.fab.regWrite src off 8 data = g) :
      Goes (.registerWrite src off 8 data) s g := goes_event (fun f => f.regWrite src off 8 data) hup rfl h
  refine ⟨fun off ha hw hp => writes (Fabric.regWrite_violates ha hw hp), fun p hp here ht => ?_, fun off ha hw => ?_,
    fun m i hm hi he ho hp => writes ((Fabric.regWrite_mailbox hm hi he hp).trans (Fabric.mailboxWrite_owned ho))⟩
  · have written := Fabric.regWrite_par (reg := 1) (w := w) hp (by decide) here ht
    exact ⟨fun hv => writes (written.trans (if_neg hv)), fun hv => writes (written.trans (if_pos hv))⟩
  · exact ⟨fun ht => writes (by rw [Fabric.regWrite_read ha hw, if_pos ht]),
      fun ht => writes (by rw [Fabric.regWrite_read ha hw, ht]; rfl)⟩

end Sys2Proof.Proofs
end

section
/-!
SUPPORT. What an HDP answer does (R58 to R63): it closes the transaction of its tag, returns the credit, and serves the purpose.
-/
namespace Sys2Proof.Machine

variable {f : Fabric} {h : Hdp} {t : HdpTx} {tag p id : Nat} {ws : List Word} {b : Bool} {w : Word}

/-! ### An answer to a descriptor that is gone -/

theorem Fabric.part_updPart_same (f : Fabric) (p : Nat) (g : Part → Part) : (f.updPart p g).part p = g (f.part p) := by
  simp [Fabric.updPart, Fabric.part]

/-- A change of elements that keeps a test finds nothing new. -/
theorem find_updWhere_none {α : Type} {l : List α} {test hit : α → Bool} {g : α → α} (hg : ∀ x, test (g x) = test x)
    (h : l.find? test = none) : (updWhere l hit g).find? test = none := by
  rw [List.find?_eq_none] at h ⊢
  intro y hy
  obtain ⟨x, hx, rfl⟩ := List.mem_map.mp hy
  split
  · rw [hg]; exact h x hx
  · exact h x hx

/-- A change of runs that keeps their numbers brings back no run that is gone. -/
theorem Fabric.run_updRun_none {i : Nat} {g : Run → Run} (hg : ∀ r, (g r).id = r.id) (h : f.run p id = none) :
    (f.updRun p i g).run p id = none := by
  unfold Fabric.run Part.run at h ⊢
  rw [Fabric.updRun, Fabric.part_updPart_same]
  exact find_updWhere_none (by simp [hg]) h

/-- An answer whose descriptor is gone does nothing. -/
theorem Fabric.tileAnswer_gone {k : Nat} {g : Tile → Tile} (h : f.run p id = none) : f.tileAnswer p id k g = f := by
  have gone : ((f.updRun p id fun r => { r with lastProgress := f.tick }).updTile p id k fun t =>
      { g t with pend := t.pend - 1 }).run p id = none :=
    Fabric.run_updRun_none (fun _ => rfl) (Fabric.run_updRun_none (fun _ => rfl) h)
  simp [Fabric.tileAnswer, gone]

theorem Fabric.tilePoison_gone {k addr : Nat} (h : f.run p id = none) : f.tilePoison p id k addr = f := by
  simp [Fabric.tilePoison, h]

/-! ### The transaction of an answer -/

theorem Fabric.rdData_none (h : f.openTx tag .memRd = none) : f.rdData tag ws b = f := by simp [Fabric.rdData, h]
theorem Fabric.wrAck_none (h : f.openTx tag .memWr = none) : f.wrAck tag b = f := by simp [Fabric.wrAck, h]
theorem Fabric.atomicRsp_none (h : f.openTx tag .atomic = none) : f.atomicRsp tag w = f := by simp [Fabric.atomicRsp, h]

/-- RD_DATA of an open MEM_RD: the transaction closes, its bytes count, and its purpose is fed. -/
theorem Fabric.rdData_some (h : f.openTx tag .memRd = some t) :
    f.rdData tag ws b =
      (({ f with hdp := f.hdp.answered t } : Fabric).countRead t.units).feedRead t
        (if b then zeros (8 * t.units) else takePad (8 * t.units) ws) b := by
  simp [Fabric.rdData, h]

theorem Fabric.wrAck_some (h : f.openTx tag .memWr = some t) :
    f.wrAck tag b = ({ f with hdp := f.hdp.answered t } : Fabric).feedWrite t b := by
  simp [Fabric.wrAck, h]

/-- The tag of the only outstanding transaction names it. -/
theorem Fabric.openTx_only (h : f.hdp.outstanding = [t]) : f.openTx t.tag t.kind = some t := by
  simp [Fabric.openTx, h]

/-- With no other transaction outstanding or held, an answer returns the credit and leaves none outstanding. -/
theorem Hdp.answered_only (ho : h.outstanding = [t]) (hw : h.waiting = []) :
    h.answered t = { h.setCredit t.kind (h.credit t.kind + 1) with outstanding := [] } := by
  cases hk : t.kind <;> simp [Hdp.answered, Hdp.setCredit, hk, ho, hw, takeKind]

end Sys2Proof.Machine

namespace Sys2Proof.Proofs
open Sys2Proof.Machine

/-- Settles O19: what is open under the tag decides, and the purpose of the transaction says what it serves. -/
theorem hdpAnswersServeTheirPurpose : Obligations.HdpAnswersServeTheirPurpose := by
  refine ⟨?_, ?_⟩
  · intro s tag ws b w hup
    have read {g : Fabric} (h : s.fab.rdData tag ws b = g) : Goes (.hdpRdData tag ws b) s g :=
      goes_event (fun f => f.rdData tag ws b) hup rfl h
    have written {g : Fabric} (h : s.fab.wrAck tag b = g) : Goes (.hdpWrAck tag b) s g :=
      goes_event (fun f => f.wrAck tag b) hup rfl h
    have old {g : Fabric} (h : s.fab.atomicRsp tag w = g) : Goes (.hdpAtomicRsp tag w) s g :=
      goes_event (fun f => f.atomicRsp tag w) hup rfl h
    refine ⟨fun h => read (Fabric.rdData_none h), fun h => written (Fabric.wrAck_none h), fun h => old (Fabric.atomicRsp_none h),
      fun t m ht hp => read ?_, fun t p l i ht hp => written ?_, fun t o e ht hp => old ?_⟩
    · rw [Fabric.rdData_some ht, Fabric.feedRead, hp]
      rfl
    · rw [Fabric.wrAck_some ht, Fabric.feedWrite, hp]
    · simp [Fabric.atomicRsp, ht, hp]
  · intro s t ws b w hup hwait hout
    have closed := Hdp.answered_only hout hwait
    have found := Fabric.openTx_only hout
    refine ⟨fun p r k off hk hp hrun => ?_, fun hk hp => ?_, fun p r k e hk hp hrun => ?_⟩
    · refine goes_event (fun f => f.rdData t.tag ws b) hup rfl ?_
      rw [Fabric.rdData_some (hk ▸ found), closed, hk, Fabric.feedRead, hp]
      cases b with
      | true => exact Fabric.tilePoison_gone hrun
      | false => exact Fabric.tileAnswer_gone hrun
    · refine goes_event (fun f => f.wrAck t.tag b) hup rfl ?_
      rw [Fabric.wrAck_some (hk ▸ found), closed, hk, Fabric.feedWrite]
      obtain hp | hp | ⟨i, hp⟩ := hp <;> rw [hp] <;> rfl
    · refine goes_event (fun f => f.atomicRsp t.tag w) hup rfl ?_
      have serves : s.fab.atomicRsp t.tag w =
          ({ s.fab with hdp := s.fab.hdp.answered t } : Fabric).tileAnswer p r k fun x => { x with old := x.old.set e w } := by
        simp [Fabric.atomicRsp, hk ▸ found, hp]
      rw [serves, closed, hk]
      exact Fabric.tileAnswer_gone hrun

end Sys2Proof.Proofs
end

section
/-!
SUPPORT. Notices change their ring, the Host Die Port, the error log, the alerts and the trace unit alone (R83 to R85, R425,
R551); replays and the retirement of a slice (R50, R52, R53).
-/
namespace Sys2Proof.Machine

/-! ### What transactions leave of the slices -/

/-- Two states of the port agree on retired slices, replays and what is to be sent again. -/
structure Hdp.SameSlices (g h : Hdp) : Prop where
  again : g.again = h.again
  retired : g.retired = h.retired
  replayBeats : g.replayBeats = h.replayBeats
  stopped : g.stopped = h.stopped

theorem Hdp.SameSlices.refl (h : Hdp) : h.SameSlices h := ⟨rfl, rfl, rfl, rfl⟩

theorem Hdp.SameSlices.trans {a b c : Hdp} (h : a.SameSlices b) (k : b.SameSlices c) : a.SameSlices c :=
  ⟨h.again.trans k.again, h.retired.trans k.retired, h.replayBeats.trans k.replayBeats, h.stopped.trans k.stopped⟩

theorem Hdp.setCredit_sameSlices (h : Hdp) (k : HdpKind) (n : Nat) : (h.setCredit k n).SameSlices h := by
  cases k <;> exact ⟨rfl, rfl, rfl, rfl⟩

/-- Sending a transaction uses slices and changes none. -/
theorem Hdp.send_sameSlices (h : Hdp) (t : HdpTx) : (h.send t).SameSlices h := by
  unfold Hdp.send
  split
  · exact ⟨rfl, rfl, rfl, rfl⟩
  · obtain ⟨h1, h2, h3, h4⟩ := h.setCredit_sameSlices t.kind (h.credit t.kind - 1)
    exact ⟨h1, h2, h3, h4⟩

/-- A write changes the port alone, and none of its slices. -/
theorem Fabric.hdpWrite_slices (f : Fabric) (a : Nat) (d : List Word) (w : Nat → Purpose) (b n : Bool) :
    ∃ h, f.hdpWrite a d w b n = { f with hdp := h } ∧ h.SameSlices f.hdp := by
  refine List.foldlRecOn (motive := fun g => ∃ h, g = { f with hdp := h } ∧ h.SameSlices f.hdp) _ _
    ⟨f.hdp, rfl, Hdp.SameSlices.refl _⟩ ?_
  rintro _ ⟨h, rfl, hs⟩ x -
  exact ⟨_, rfl, (Hdp.send_sameSlices _ _).trans hs⟩

/-! ### Notices -/

/-- What a notice may change: nothing else of the device differs, and no slice does. -/
def Fabric.Noticed (f g : Fabric) : Prop :=
  ∃ r h a p t, g = { f with rings := r, hdp := h, aon := a, pins := p, trc := t } ∧ h.SameSlices f.hdp

theorem Fabric.Noticed.refl (f : Fabric) : f.Noticed f := ⟨_, _, _, _, _, rfl, Hdp.SameSlices.refl _⟩

theorem Fabric.Noticed.trans {f g k : Fabric} (h : f.Noticed g) (h' : g.Noticed k) : f.Noticed k := by
  obtain ⟨_, _, _, _, _, rfl, hs⟩ := h
  obtain ⟨_, _, _, _, _, rfl, hs'⟩ := h'
  exact ⟨_, _, _, _, _, rfl, hs'.trans hs⟩

theorem Fabric.setRing_noticed (f : Fabric) (i : Nat) (r : Ring) : f.Noticed (f.setRing i r) :=
  ⟨_, _, _, _, _, rfl, Hdp.SameSlices.refl _⟩

theorem Fabric.writeNotice_noticed (f : Fabric) (i : Nat) (n : Notice) : f.Noticed (f.writeNotice i n) := by
  unfold Fabric.writeNotice
  extract_lets r ws head r'
  obtain ⟨h, e, hs⟩ := (f.setRing i r').hdpWrite_slices (r.base + 64 * r.head) ws (fun _ => .notice i) false true
  rw [e]
  exact ⟨_, _, _, _, _, rfl, hs⟩

/-- A notice that falls due, other than PAGE_FAULT, which the partition counts. -/
theorem Fabric.notify_noticed (f : Fabric) (i : Nat) {n : Notice} (hn : n.code ≠ 2) : f.Noticed (f.notify i n) := by
  unfold Fabric.notify
  extract_lets r n' f₁ f₂ f₃ f₄ f₅
  have h₁ : f.Noticed f₁ := by
    unfold f₁
    split
    · exact ⟨_, _, _, _, _, rfl, Hdp.SameSlices.refl _⟩
    · exact Fabric.Noticed.refl f
  have h₂ : f₁.Noticed f₂ := by
    unfold f₂
    split
    · exact ⟨_, _, _, _, _, rfl, Hdp.SameSlices.refl _⟩
    · exact Fabric.Noticed.refl f₁
  have h₄ : f₂.Noticed f₄ := ⟨_, _, _, _, _, rfl, Hdp.SameSlices.refl _⟩
  have h₅ : f.Noticed f₅ := by
    unfold f₅
    rw [if_neg (show n'.code ≠ 2 from hn)]
    exact h₁.trans (h₂.trans h₄)
  split
  · exact h₅.trans (f₅.setRing_noticed _ _)
  · split
    · exact h₅.trans (f₅.writeNotice_noticed _ _)
    · split
      · exact h₅.trans (f₅.setRing_noticed _ _)
      · exact h₅.trans (f₅.setRing_noticed _ _)

/-- A cause of FAULT_N changes the pins alone, and holds from now on (R552). -/
theorem Fabric.faultOn_eq (f : Fabric) (cause : Nat) : ∃ p, f.faultOn cause = { f with pins := p } ∧ cause ∈ p.faults := by
  unfold Fabric.faultOn
  extract_lets f'
  have hf : ∃ p, f' = { f with pins := p } ∧ p.faults = f.pins.faults := by
    unfold f'
    split
    · exact ⟨_, rfl, rfl⟩
    · exact ⟨f.pins, rfl, rfl⟩
  obtain ⟨p, e, hp⟩ := hf
  rw [e]
  split
  · next h => exact ⟨p, rfl, by rw [hp]; simpa using h⟩
  · exact ⟨_, rfl, by simp⟩

/-! ### Retirement (R52) -/

/-- One beat of a retired slice's replay buffer is put up to be sent again on another slice. -/
def Hdp.resend (g : Hdp) (b : Beat) : Hdp :=
  let a := g.active
  let s := a.getD (Config.hdpSlice g.placed % max 1 a.length) 0
  { g.put s [b] with placed := g.placed + 1, again := g.again ++ [(s, b)] }

theorem Hdp.retire_eq (h : Hdp) (slice : Nat) :
    h.retire slice =
      (h.buf.get slice []).foldl Hdp.resend
        { h with retired := h.retired.set slice true, buf := h.buf.del slice, again := [] } := rfl

/-- Beats that are resent are up to be sent again, and nothing else of the slices changes. -/
theorem Hdp.foldl_resend (l : List Beat) (g : Hdp) :
    (l.foldl Hdp.resend g).again.map Prod.snd = g.again.map Prod.snd ++ l ∧ (l.foldl Hdp.resend g).retired = g.retired ∧
      (l.foldl Hdp.resend g).replayBeats = g.replayBeats ∧ (l.foldl Hdp.resend g).stopped = g.stopped := by
  induction l generalizing g with
  | nil => simp
  | cons b l ih =>
    obtain ⟨h1, h2, h3, h4⟩ := ih (g.resend b)
    exact ⟨h1.trans (by simp [Hdp.resend]), h2, h3, h4⟩

/-! ### A replay (R50, R52, R53) -/

variable {f : Fabric} {slice beats : Nat}

/-- The replay counts of the window that the present ref tick lies in. -/
def Fabric.replayCounts (f : Fabric) : Map Nat := if f.hdp.window = down f.tick 156250 then f.hdp.replays else []

/-- The replays of a slice in its window, with the one that begins now. -/
def Fabric.replayNow (f : Fabric) (slice : Nat) : Nat := f.replayCounts.get slice 0 + 1

/-- The device after it has counted a replay. -/
def Fabric.countReplay (f : Fabric) (slice beats : Nat) : Fabric :=
  { f with hdp := { f.hdp with window := down f.tick 156250, replays := f.replayCounts.set slice (f.replayNow slice),
                               replayBeats := f.hdp.replayBeats + min 64 beats },
           ladder := { f.ladder with crcSlices := f.ladder.crcSlices.filter (· != slice) } }

theorem Fabric.sliceReplay_few (hs : f.hdp.slice slice = true) (hn : f.replayNow slice ≤ 16) :
    f.sliceReplay slice beats = f.countReplay slice beats := by
  have few : (if f.hdp.window = down f.tick 156250 then f.hdp.replays else []).get slice 0 + 1 ≤ 16 := hn
  simp only [Fabric.sliceReplay, hs, Bool.not_true, Bool.false_eq_true, if_false, few, if_true]
  rfl

/-- The device after it has retired a slice and reported it. -/
def Fabric.retireSlice (f : Fabric) (slice n : Nat) : Fabric :=
  ({ f with hdp := f.hdp.retire slice } : Fabric).notify 32 (faultNotice 0 0 0 0 3 (w64 slice) (w64 n) 0)

theorem Fabric.sliceReplay_many (hs : f.hdp.slice slice = true) (hn : 16 < f.replayNow slice) :
    f.sliceReplay slice beats =
      let g := (f.countReplay slice beats).retireSlice slice (f.replayNow slice)
      if g.hdp.retired.length ≤ 16 then g else ({ g with hdp := { g.hdp with stopped := true } } : Fabric).faultOn 5 := by
  have many : ¬ (if f.hdp.window = down f.tick 156250 then f.hdp.replays else []).get slice 0 + 1 ≤ 16 := Nat.not_le.mpr hn
  simp only [Fabric.sliceReplay, hs, Bool.not_true, Bool.false_eq_true, if_false, many]
  rfl

/-- Retirement: the slice is retired, and the beats it kept are up to be sent again. -/
theorem Fabric.retireSlice_eq (f : Fabric) (slice n : Nat) :
    ∃ g, f.retireSlice slice n = g ∧ g.hdp.retired = f.hdp.retired.set slice true ∧ g.hdp.replayBeats = f.hdp.replayBeats ∧
      g.hdp.again.map Prod.snd = f.hdp.buf.get slice [] ∧ g.hdp.stopped = f.hdp.stopped ∧ g.parts = f.parts ∧
      g.ports = f.ports := by
  obtain ⟨h1, h2, h3, h4⟩ := Hdp.foldl_resend (f.hdp.buf.get slice [])
    { f.hdp with retired := f.hdp.retired.set slice true, buf := f.hdp.buf.del slice, again := [] }
  rw [← Hdp.retire_eq] at h1 h2 h3 h4
  obtain ⟨r, h, a, p, t, e, hs⟩ := ({ f with hdp := f.hdp.retire slice } : Fabric).notify_noticed 32
    (n := faultNotice 0 0 0 0 3 (w64 slice) (w64 n) 0) (show 1 ≠ 2 by decide)
  exact ⟨_, e, hs.retired.trans h2, hs.replayBeats.trans h3, by rw [hs.again]; exact h1, hs.stopped.trans h4, rfl, rfl⟩

/-- The seventeenth replay of a window retires the slice; with more than 16 slices retired the port stops. -/
theorem Fabric.sliceReplay_retires (hs : f.hdp.slice slice = true) (hn : 16 < f.replayNow slice) :
    ∃ g, f.sliceReplay slice beats = g ∧ g.hdp.retired = f.hdp.retired.set slice true ∧
      g.hdp.replayBeats = f.hdp.replayBeats + min 64 beats ∧ g.hdp.again.map Prod.snd = f.hdp.buf.get slice [] ∧ g.parts = f.parts ∧
      g.ports = f.ports ∧ (16 < (f.hdp.retired.set slice true).length → g.hdp.stopped = true ∧ 5 ∈ g.pins.faults) ∧
      ((f.hdp.retired.set slice true).length ≤ 16 → g.hdp.stopped = f.hdp.stopped) := by
  obtain ⟨g, e, hret, hbeats, hagain, hstop, hparts, hports⟩ :=
    (f.countReplay slice beats).retireSlice_eq slice (f.replayNow slice)
  rw [Fabric.sliceReplay_many hs hn]
  dsimp only
  rw [e]
  by_cases hlen : g.hdp.retired.length ≤ 16
  · have few : ¬ 16 < (f.hdp.retired.set slice true).length := Nat.not_lt.mpr (hret ▸ hlen)
    rw [if_pos hlen]
    exact ⟨_, rfl, hret, hbeats, hagain, hparts, hports, fun h => absurd h few, fun _ => hstop⟩
  · have many : ¬ (f.hdp.retired.set slice true).length ≤ 16 := fun h => hlen (hret ▸ h)
    obtain ⟨p, e', hp⟩ := ({ g with hdp := { g.hdp with stopped := true } } : Fabric).faultOn_eq 5
    rw [if_neg hlen, e']
    exact ⟨_, rfl, hret, hbeats, hagain, hparts, hports, fun _ => ⟨rfl, hp⟩, fun h => absurd h many⟩

/-! ### What asks for a replay -/

/-- The device with what it asks of the host die and what it is to send again. -/
def Fabric.asking (f : Fabric) (asked : Map Nat) (again : List (Nat × Beat)) : Fabric :=
  { f with hdp := { f.hdp with asked := asked, again := again } }

/-- A beat with a wrong CRC-7 on a slice that works is asked for again (R50). -/
theorem Fabric.beatRx_wrong {b : Beat} {crc : Nat} (hc : crc ≠ b.crc) :
    f.beatRx slice beats b crc =
      if f.hdp.slice slice then (f.asking (f.hdp.asked.set slice (min 64 beats)) f.hdp.again).sliceReplay slice beats else f := by
  cases hs : f.hdp.slice slice <;> simp [Fabric.beatRx, Fabric.asking, Ne.symm hc, hs]

/-- The host die asks for the last beats of a slice that works (R50). -/
theorem Fabric.replayAsked_eq :
    f.replayAsked slice beats =
      if f.hdp.slice slice then
        (f.asking f.hdp.asked
          (((f.hdp.buf.get slice []).drop ((f.hdp.buf.get slice []).length - beats)).map fun x => (slice, x))).sliceReplay slice beats
      else f := by
  cases hs : f.hdp.slice slice <;> simp [Fabric.replayAsked, Fabric.asking, hs]

end Sys2Proof.Machine

namespace Sys2Proof.Proofs
open Sys2Proof.Machine

/-- Settles O23: both rows note what they ask for and then count one replay of the slice. -/
theorem replaysRetireASlice : Obligations.ReplaysRetireASlice := by
  refine ⟨?_, ?_⟩
  · intro s slice b hup hcrc
    refine goes_event (fun f => f.beatRx slice b.beats { header := b.header, data := b.data } b.crc) hup rfl ?_
    simp [Fabric.beatRx, hcrc]
  · intro s i slice beats asks hup h b hi start counts n
    have trained : h.trained = true := by
      simp only [Fabric.hdpUp, Bool.and_eq_true] at hup
      obtain ⟨⟨-, htrained⟩, -⟩ := hup
      exact htrained
    have runs : ∃ asked again, asks h = { h with asked := asked, again := again } ∧
        Goes i s (if h.slice slice then (s.fab.asking asked again).sliceReplay slice beats else s.fab) := by
      obtain ⟨x, rfl, rfl, hcrc, rfl⟩ | ⟨rfl, rfl⟩ := hi
      · exact ⟨_, _, rfl, goes_event (fun f => f.beatRx slice x.beats { header := x.header, data := x.data } x.crc) hup rfl
          (Fabric.beatRx_wrong hcrc)⟩
      · exact ⟨_, _, rfl, goes_event (fun f => f.replayAsked slice beats) hup rfl Fabric.replayAsked_eq⟩
    obtain ⟨asked, again, e, runs⟩ := runs
    refine ⟨fun hslice hret => ?_, fun hout => ?_⟩
    · have works : h.slice slice = true := by simp [Hdp.slice, trained, hret]; omega
      rw [if_pos works] at runs
      refine ⟨fun hn => ?_, fun hn => ?_⟩
      · rw [Fabric.sliceReplay_few (f := s.fab.asking asked again) works hn] at runs
        rw [e]
        exact runs
      · obtain ⟨g, eg, hretired, hbeats, hagain, hparts, hports, hmany, hfew⟩ :=
          Fabric.sliceReplay_retires (f := s.fab.asking asked again) (beats := beats) works hn
        rw [eg] at runs
        exact ⟨_, runs, hretired, hbeats, hagain, rfl, hparts, hports, hmany, hfew⟩
    · have idle : h.slice slice = false := by
        obtain hbig | hret := hout
        · simp [Hdp.slice]; omega
        · simp [Hdp.slice, hret]
      rwa [if_neg (by simp [idle])] at runs

end Sys2Proof.Proofs
end

section
/-!
SUPPORT. Restarts of the Management Cluster and the power cycle of a device that does not get ready (R86, R412, R415).
-/
namespace Sys2Proof.Machine

variable {f : Fabric} {m core : Nat}

/-- The rungs below the device rung change what their notice changes, and the count of repeats (R417). -/
theorem Fabric.hang_noticed (f : Fabric) {h : HangOf} (ha : h.action < 7) :
    ∃ reps, ({ f with ladder := { f.ladder with repeats := reps } } : Fabric).Noticed (f.hang h) := by
  unfold Fabric.hang Fabric.noteAction
  dsimp only
  rw [if_neg (Nat.not_le.mpr ha)]
  exact ⟨_, Fabric.notify_noticed _ _ (show 3 ≠ 2 by decide)⟩

/-- The rungs from the device rung on change the error log and the count of repeats alone. -/
theorem Fabric.hang_logged (f : Fabric) {h : HangOf} (ha : 7 ≤ h.action) :
    ∃ reps a, f.hang h = { f with ladder := { f.ladder with repeats := reps }, aon := a } := by
  unfold Fabric.hang Fabric.noteAction
  dsimp only
  rw [if_pos ha]
  exact ⟨_, _, rfl⟩

/-- The first expiry in a second, on a device that is not in a trial boot, restarts the Management Cluster (R86). -/
theorem Fabric.watchdogExpire_restarts (hm : f.prc.measured = true) (hst : 6 ≤ f.aon.stage) (hr : f.ladder.restarting = false)
    (hc : core < 8) (ht : f.prc.trial = false) (hlast : ∀ t, f.ladder.lastRestart = some t → t + 156250000 ≤ f.tick) :
    f.watchdogExpire core =
      let g := f.hang { trigger := 4, action := 6, unit := core, window := 7812500, last := f.tick - 7812500 }
      ({ g with ladder := { g.ladder with lastRestart := some g.tick },
                prc := { g.prc with restarts := min 65535 (g.prc.restarts + 1) } } : Fabric).restartCluster [] := by
  have here : ¬ f.aon.stage < 6 ∧ ¬ 7 < core := by omega
  unfold Fabric.watchdogExpire
  simp only [hm, hr, ht, here, Bool.not_true, decide_false, Bool.or_self, Bool.false_and, Bool.false_eq_true, if_false]
  cases hl : f.ladder.lastRestart with
  | none => simp only [Bool.false_eq_true, if_false]
  | some t => simp only [second, Nat.not_lt.mpr (hlast t hl), decide_false, Bool.false_eq_true, if_false]

/-! ### The end of a restart -/

@[simp] theorem Fabric.forget_mbx (f : Fabric) (m n : Nat) : (f.forget m).mbx n = f.mbx n := rfl

/-- A mailbox whose command has completed at a ref tick. -/
def Mailbox.completed (b : Mailbox) (tick st : Nat) (r0 : Word) (resp : List Word) (len : Nat) : Mailbox :=
  let env := { b.env with respLen := len, doneTick := tick, result0 := r0, own := false, status := st }
  let ws := takePad (ceilDiv len 8) resp
  { b with env := env, pay := ws ++ b.pay.drop ws.length, accepted := false, last := (env.seq, st),
           record := if st = stLost then b.record else some { env := env, resp := ws } }

/-- Completion leaves the completed mailbox (steps 5 and 6 of Table 2.14). -/
theorem Fabric.complete_mbx (f : Fabric) (m st : Nat) (r0 : Word) (resp : List Word) (len : Nat) :
    (f.complete m st r0 resp len).mbx m = (f.mbx m).completed f.tick st r0 resp len := by
  have afterAlert (g : Fabric) : (if m = 33 then g.alert 1 else g).mbx m = g.mbx m := by split <;> rfl
  have afterWrite (g : Fabric) (e : Env) :
      (if e.doneWb then g.hdpWrite (down e.doneAddr 64) e.words (fun _ => .doneWb) else g).mbx m = g.mbx m := by
    split
    · obtain ⟨h, e⟩ := g.hdpWrite_eq (down e.doneAddr 64) e.words (fun _ => .doneWb) false false
      rw [e]
      rfl
    · rfl
  exact (afterAlert _).trans ((afterWrite _ _).trans (Fabric.mbx_setMbx_same f m _))

theorem Fabric.finish_ladder (f : Fabric) (m st : Nat) : (f.finish m st).ladder = f.ladder := by
  unfold Fabric.finish
  split
  · obtain ⟨b, h, p, e⟩ := f.complete_eq m st (w64 0) [] 0
    rw [e]
  · rfl

theorem Fabric.finish_waiting (f : Fabric) (m st : Nat) : (f.finish m st).waiting = f.waiting := by
  unfold Fabric.finish
  split
  · obtain ⟨b, h, p, e⟩ := f.complete_eq m st (w64 0) [] 0
    rw [e]
  · rfl

/-- A restart without activation that lost one command: the command ends with STATE_LOST, and nothing waits. -/
theorem Fabric.restartDone_one (take : Fabric → Nat → Fabric) (hr : f.ladder.restarting = true) (ha : f.ladder.activated = false)
    (hl : f.ladder.lost = [m]) (hw : f.waiting = []) :
    ∃ g : Fabric, g.mbxs = f.mbxs ∧
      let h := (g.forget m).finish m stLost
      f.restartDone take =
        { h with ladder := { h.ladder with restarting := false, lost := [], activated := false }, waiting := [] } := by
  unfold Fabric.restartDone
  rw [if_neg (by simp [hr])]
  extract_lets f₁ f₂ act _ f₃ _ _ f₄
  obtain ⟨r, h, a, p, t, e, -⟩ := f.notify_noticed 32 (n := faultNotice 0 7 0 0 5 0 0 0) (show 1 ≠ 2 by decide)
  have noticed : f₁.mbxs = f.mbxs ∧ f₁.ladder = f.ladder ∧ f₁.waiting = f.waiting := by
    unfold f₁
    rw [e]
    exact ⟨rfl, rfl, rfl⟩
  obtain ⟨hmbxs, hladder, hwaiting⟩ := noticed
  have lost : f₂ = (f₁.forget m).finish m stLost := by
    unfold f₂
    rw [hladder, hl]
    rfl
  have notActivated : act = false := by
    unfold act
    rw [lost, Fabric.finish_ladder]
    exact (congrArg Ladder.activated hladder).trans ha
  have nothingWaits : f₄.waiting = [] := by
    unfold f₄
    rw [if_neg (by simp [notActivated])]
    unfold f₃
    rw [lost]
    exact (Fabric.finish_waiting _ _ _).trans (hwaiting.trans hw)
  refine ⟨f₁, hmbxs, ?_⟩
  rw [Fabric.acceptWaiting, nothingWaits]
  unfold f₄
  rw [if_neg (by simp [notActivated]), ← lost]
  rfl

end Sys2Proof.Machine

namespace Sys2Proof.Proofs
open Sys2Proof.Machine

/-- Settles O24: the HANG notice keeps mailboxes and partitions, the lost command completes, and asking for a power cycle is
one pin. -/
theorem watchdogRestartsTheCluster : Obligations.WatchdogRestartsTheCluster := by
  intro s f
  refine ⟨?_, ?_, ?_⟩
  · intro core hup hc hm hst hr ht hlast
    obtain ⟨reps, r, h, a, p, t, e, -⟩ :=
      f.hang_noticed (h := { trigger := 4, action := 6, unit := core, window := 7812500, last := f.tick - 7812500 })
        (show 6 < 7 by decide)
    refine ⟨_, goes_event (fun f => f.watchdogExpire core) hup rfl (Fabric.watchdogExpire_restarts hm hst hr hc ht hlast), ?_⟩
    rw [e]
    exact ⟨rfl, rfl, List.filter_eq_self.mpr (by simp), rfl, rfl, rfl, rfl, rfl⟩
  · intro m hl hr ha hlost hw ho hacc
    obtain ⟨g, hmbx, e⟩ := Fabric.restartDone_one (f := f) (m := m) Fabric.take hr ha hlost hw
    have same : (g.forget m).mbx m = f.mbx m := by rw [Fabric.forget_mbx, Fabric.mbx, hmbx]; rfl
    have finished : (g.forget m).finish m stLost = (g.forget m).complete m stLost (w64 0) [] 0 :=
      Fabric.finish_inProgress (by rw [same]; exact ho) (by rw [same]; exact hacc) _ _ _ _
    refine ⟨_, goes_event (fun f => f.restartDone Fabric.take) hl rfl e, rfl, rfl, ?_⟩
    have completed : ((g.forget m).finish m stLost).mbx m = (f.mbx m).completed (g.forget m).tick stLost (w64 0) [] 0 := by
      rw [finished, Fabric.complete_mbx, same]
    exact ⟨congrArg (fun b => b.env.own) completed, congrArg (fun b => b.env.status) completed,
      (congrArg Mailbox.record completed).trans rfl⟩
  · intro hready hboot
    refine ⟨fun ht => ?_, fun ht => ?_⟩
    · obtain ⟨reps, a, e⟩ := f.hang_logged (h := { trigger := 9, action := 8, window := 468750000 }) (show 7 ≤ 8 by decide)
      have asks : f.readyTimeout =
          { f with ladder := { f.ladder with repeats := reps }, aon := a, pins := { f.pins with trayReq := true } } := by
        simp only [Fabric.readyTimeout, hready, hboot, Nat.not_lt.mpr ht, e]
        rfl
      exact ⟨_, goes_event (gate := Fabric.always) Fabric.readyTimeout rfl rfl asks, rfl, rfl, rfl, hready⟩
    · exact goes_event (gate := Fabric.always) Fabric.readyTimeout rfl rfl (by simp [Fabric.readyTimeout, ht, f])

end Sys2Proof.Proofs
end

section
/-!
SUPPORT. Commands that are held for a message time (R88, R89): each body past its checks holds its order.
-/
namespace Sys2Proof.Machine

variable {f : Fabric} {s : State} {i : Instr} {c : Cmd} {op : Nat} {sets : List (Obj × Nat)} {srcs : List Nat}

/-- A command that its mailbox takes and whose body holds an order waits in the arbiter. -/
theorem goes_held (body : Body) (ht : s.fab.takes c = true) (hi : exec i s = s.command c op body)
    (h : body c (s.fab.begun c op) = holdOrder c op sets (s.fab.begun c op)) : Goes i s (s.fab.holds c op sets) :=
  goes_taken op body ht hi (by rw [h]; rfl)

theorem fromOf_mem (h : c.mbx ∈ srcs) : fromOf c srcs = true := by simpa [fromOf] using h

/-! ### Routes, timetable, seats, rates -/

theorem routeUpdateBody_holds (hm : c.mbx ∈ [32, 33, 36]) (hform : f.routeForm c.len c.pay = false)
    (hlim : f.routeLimits f.rtr (f.routeSets c.pay) = false) (hd : f.rtr.drains = []) :
    routeUpdateBody c f = holdOrder c 0x0500 (f.routeSets c.pay) f := by
  simp [routeUpdateBody, fromOf_mem hm, hform, hlim, hd]

theorem timetableSetBody_holds (hm : c.mbx ∈ [32, 33, 36]) (hlen : c.len = 40) (hw : onlyBits (wd c.pay 0) [(5, 0)] = true)
    (hroute : onlyBits (wd c.pay 3) [(63, 48), (46, 20), (4, 0)] = true) (hz : wd c.pay 4 = 0)
    (hbad : f.ttBad (fld (wd c.pay 0) 5 0) [wd c.pay 1, wd c.pay 2, wd c.pay 3, wd c.pay 4] = false) :
    timetableSetBody c f = holdOrder c 0x0501
      [(⟨blkTt, fld (wd c.pay 0) 5 0, 0⟩, (wd c.pay 1).toNat), (⟨blkTt, fld (wd c.pay 0) 5 0, 1⟩, (wd c.pay 2).toNat),
       (⟨blkTt, fld (wd c.pay 0) 5 0, 2⟩, (wd c.pay 3).toNat), (⟨blkTt, fld (wd c.pay 0) 5 0, 3⟩, 0)] f := by
  have entry : ∀ a b r z : Word, wd [a, b, r, z] 2 = r ∧ wd [a, b, r, z] 3 = z := fun _ _ _ _ => ⟨rfl, rfl⟩
  rw [hz, BitVec.ofNat_eq_ofNat] at hbad
  simp [timetableSetBody, fromOf_mem hm, hlen, hw, (entry _ _ _ _).1, (entry _ _ _ _).2, hroute, hz, hbad]

theorem seatSetBody_holds (hm : c.mbx ∈ [32, 33, 36]) (hlen : c.len = 16) (hw : onlyBits (wd c.pay 0) [(5, 0)] = true)
    (hbad : f.seatBad (fld (wd c.pay 0) 5 0) (wd c.pay 1) = false) :
    seatSetBody c f = holdOrder c 0x0502 [(⟨blkSeat, fld (wd c.pay 0) 5 0, 0⟩, (wd c.pay 1).toNat)] f := by
  simp [seatSetBody, fromOf_mem hm, hlen, hw, hbad]

theorem flowSetBody_holds (hm : c.mbx ∈ [32, 33, 36]) (hlen : c.len = 8) (hbad : ccBad (wd c.pay 0) = false) :
    flowSetBody c f =
      holdOrder c 0x0580 (ccFields.zipIdx.map fun (hl, i) => (⟨blkCc, 0, i⟩, fld (wd c.pay 0) hl.1 hl.2)) f := by
  simp [flowSetBody, fromOf_mem hm, hlen, hbad]

/-! ### Ports -/

/-- The three actions of PORT_CTL are one command with its action forced. -/
theorem exec_portCtl {mk : Cmd → Instr} {a : Nat}
    (h : (mk, a) ∈ [(Instr.portCtlSet, 0), (Instr.portCtlRetrain, 1), (Instr.portCtlBounce, 2)]) :
    a < 3 ∧ exec (mk c) s = s.command (force c 10 8 a) 0x0600 portCtlBody := by
  simp only [List.mem_cons, Prod.mk.injEq, List.not_mem_nil, or_false] at h
  obtain ⟨rfl, rfl⟩ | ⟨rfl, rfl⟩ | ⟨rfl, rfl⟩ := h <;> exact ⟨by decide, rfl⟩

theorem portCtlBody_holds (hm : c.mbx ∈ [32, 33, 36]) (hlen : c.len = 16) (hw : onlyBits (wd c.pay 0) [(10, 0)] = true)
    (ha : fld (wd c.pay 0) 10 8 < 3) (hports : fld (wd c.pay 0) 7 0 ≠ 0) (hother : fld (wd c.pay 0) 10 8 ≠ 0 → wd c.pay 1 = 0)
    (hset : fld (wd c.pay 0) 10 8 = 0 →
      onlyBits (wd c.pay 1) lnFields = true ∧ fld (wd c.pay 1) 59 58 ≠ 3 ∧ fld (wd c.pay 1) 15 0 ≠ 0) :
    portCtlBody c f =
      holdOrder c 0x0600 (f.portCtlSets (fld (wd c.pay 0) 7 0) (fld (wd c.pay 0) 10 8) (wd c.pay 1)) f := by
  by_cases h0 : fld (wd c.pay 0) 10 8 = 0
  · obtain ⟨hbits, hrate, hticks⟩ := hset h0
    simp [portCtlBody, fromOf_mem hm, hlen, hw, hports, h0, hbits, hrate, hticks]
  · simp [portCtlBody, fromOf_mem hm, hlen, hw, hports, h0, hother h0, Nat.not_le.mpr ha]

/-! ### Cap and operating points -/

theorem powerCapBody_holds {v : Nat} (hm : c.mbx ∈ [32, 33, 36]) (hlen : c.len = 8) (hpay : c.pay = [w64 v]) (hlo : 250 ≤ v)
    (hhi : v ≤ 640) : powerCapBody c f = holdOrder c 0x0700 [(⟨blkCap, 0, 0⟩, v)] f := by
  have fits : v < 2 ^ (15 + 1) := by omega
  have word : wd c.pay 0 = w64 v := by rw [hpay]; rfl
  simp [powerCapBody, fromOf_mem hm, hlen, word, fld_w64 fits (by decide), onlyBits_w64 fits, Nat.not_lt.mpr hlo, Nat.not_lt.mpr hhi]

theorem opPointBody_defines {i mv : Nat} {fixed : Bool} (hm : c.mbx ∈ [32, 33, 36]) (hlen : c.len = 24)
    (hpay : c.pay = [pack [(10, 8, i)], pack [(16, 16, b2n fixed), (15, 0, mv)], 0]) (hi : i < 8) (hlo : 650 ≤ mv)
    (hhi : mv ≤ 800) :
    opPointBody c f = holdOrder c 0x0701 [(⟨blkPoint, i, 0⟩, 65536 * b2n fixed + mv)] f := by
  have w0 : wd c.pay 0 = pack [(10, 8, i)] := by rw [hpay]; rfl
  have w1 : wd c.pay 1 = pack [(16, 16, b2n fixed), (15, 0, mv)] := by rw [hpay]; rfl
  have w2 : wd c.pay 2 = 0 := by rw [hpay]; rfl
  have index : fld (pack [(10, 8, i)]) 10 8 = i := by
    rw [fld_pack_cons_same (by decide) (by simp)]
    exact Nat.mod_eq_of_lt hi
  have define : bit (pack [(10, 8, i)]) 0 = false := by
    rw [bit_eq_fld, fld_pack_cons_other (by decide), fld_pack_nil]
    rfl
  have volts : fld (pack [(16, 16, b2n fixed), (15, 0, mv)]) 15 0 = mv := by
    rw [fld_pack_cons_other (by decide), fld_pack_cons_same (by decide) (by simp)]
    exact Nat.mod_eq_of_lt (by omega)
  have rate : fld (pack [(16, 16, b2n fixed), (15, 0, mv)]) 16 16 = b2n fixed := by
    rw [fld_pack_cons_same (by decide) (by simp)]
    cases fixed <;> rfl
  have both : fld (pack [(16, 16, b2n fixed), (15, 0, mv)]) 16 0 = 65536 * b2n fixed + mv := by
    rw [fld_split (mid := 16) (by decide) (by decide), rate, volts]
    rfl
  have fields0 : onlyBits (pack [(10, 8, i)]) [(0, 0), (10, 8)] = true := onlyBits_pack (by simp)
  have fields1 : onlyBits (pack [(16, 16, b2n fixed), (15, 0, mv)]) [(16, 0)] = true := onlyBits_pack (by simp)
  simp [opPointBody, opPointBad, fromOf_mem hm, hlen, w0, w1, w2, index, define, volts, both, fields0, fields1, Nat.not_lt.mpr hlo,
    Nat.not_lt.mpr hhi]

theorem opPointBody_selects {i : Nat} {bell : Word} (hm : c.mbx ∈ [32, 33, 36]) (hlen : c.len = 24)
    (hpay : c.pay = [pack [(10, 8, i), (0, 0, 1)], 0, bell]) (hi : i < 8) :
    opPointBody c f = holdOrder c 0x0701 [(⟨blkSelect, 0, 0⟩, i), (⟨blkSelect, 0, 1⟩, bell.toNat)] f := by
  have w0 : wd c.pay 0 = pack [(10, 8, i), (0, 0, 1)] := by rw [hpay]; rfl
  have w1 : wd c.pay 1 = 0 := by rw [hpay]; rfl
  have w2 : wn c.pay 2 = bell.toNat := by rw [hpay]; rfl
  have index : fld (pack [(10, 8, i), (0, 0, 1)]) 10 8 = i := by
    rw [fld_pack_cons_same (by decide) (by simp)]
    exact Nat.mod_eq_of_lt hi
  have select : bit (pack [(10, 8, i), (0, 0, 1)]) 0 = true := by
    rw [bit_eq_fld, fld_pack_cons_other (by decide), fld_pack_cons_same (by decide) (by simp)]
    rfl
  have fields : onlyBits (pack [(10, 8, i), (0, 0, 1)]) [(0, 0), (10, 8)] = true := onlyBits_pack (by simp)
  simp [opPointBody, opPointBad, fromOf_mem hm, hlen, w0, w1, w2, index, select, fields]

end Sys2Proof.Machine

namespace Sys2Proof.Proofs
open Sys2Proof.Machine

/-- Settles O33: each sound command passes its body's checks and is held with the objects it sets. -/
theorem settingsAreHeldForAMessageTime : Obligations.SettingsAreHeldForAMessageTime := by
  refine ⟨?_, ?_, ?_⟩
  · intro s c ht hm f
    refine ⟨fun hform hlim hd => ?_, fun hlen hw hroute hz hbad => ?_, fun hlen hw hbad => ?_, fun hlen hbad => ?_,
      fun v hlen hpay hlo hhi => ?_⟩
    · exact goes_held routeUpdateBody ht rfl (routeUpdateBody_holds (f := f.begun c 0x0500) hm hform hlim hd)
    · exact goes_held timetableSetBody ht rfl (timetableSetBody_holds (f := f.begun c 0x0501) hm hlen hw hroute hz hbad)
    · exact goes_held seatSetBody ht rfl (seatSetBody_holds (f := f.begun c 0x0502) hm hlen hw hbad)
    · exact goes_held flowSetBody ht rfl (flowSetBody_holds hm hlen hbad)
    · exact goes_held powerCapBody ht rfl (powerCapBody_holds hm hlen hpay hlo hhi)
  · intro s c mk a hmk d ht hm hlen hw ha hports hother hset
    obtain ⟨ha3, row⟩ := exec_portCtl (c := c) (s := s) hmk
    have held := portCtlBody_holds (f := s.fab.begun d 0x0600) (c := d) hm hlen hw (ha ▸ ha3) hports (fun h => hother (ha ▸ h))
      (fun h => hset (ha ▸ h))
    rw [ha] at held
    exact goes_held portCtlBody ht row held
  · intro s c hm hlen
    exact ⟨fun i mv fixed ht hpay hi hlo hhi => goes_held opPointBody ht rfl (opPointBody_defines hm hlen hpay hi hlo hhi),
      fun i bell ht hpay hi => goes_held opPointBody ht rfl (opPointBody_selects hm hlen hpay hi)⟩

end Sys2Proof.Proofs
end

section
/-!
SUPPORT. Resets, windows, roll call, hand-overs and injections that are held for a message time (R88, R89, R448).
-/
namespace Sys2Proof.Machine

variable {f : Fabric} {s : State} {c : Cmd}

/-! ### RESET_LEVEL and HANG_SET -/

/-- The levels C, E and P are one command with its level forced. -/
theorem exec_resetLevel {mk : Cmd → Instr} {lv : Nat}
    (h : (mk, lv) ∈ [(Instr.resetLevelC, 0), (Instr.resetLevelE, 1), (Instr.resetLevelP, 2)]) :
    lv < 3 ∧ exec (mk c) s = s.command (force c 1 0 lv) 0x0800 resetBody := by
  simp only [List.mem_cons, Prod.mk.injEq, List.not_mem_nil, or_false] at h
  obtain ⟨rfl, rfl⟩ | ⟨rfl, rfl⟩ | ⟨rfl, rfl⟩ := h <;> exact ⟨by decide, rfl⟩

/-- RESET_LEVEL C, E or P of a partition that stands and does not drain. -/
theorem resetBody_holds {lv p e : Nat} (hlv : fld (wd c.pay 0) 1 0 = lv) (hp : fld (wd c.pay 0) 12 8 = p)
    (he : fld (wd c.pay 0) 18 16 = e) (h3 : lv < 3) (hlen : c.len = 8) (hw : onlyBits (wd c.pay 0) [(1, 0), (12, 8), (18, 16)] = true)
    (hfrom : c.mbx = p ∨ c.mbx = 32 ∧ f.confPart p = false) (he5 : e ≤ 5) (htag : lv = 0 → tagPart c.tag = p)
    (hcount : p < f.partCount) (hhere : (f.part p).disabled = false) (hdrain : (f.part p).draining = false) :
    resetBody c f = holdOrder c 0x0800
      [(⟨blkReset, if lv = 2 then 1 + p else if lv = 1 then 256 + 8 * p + e else 65536 + c.tag, 0⟩, 1)] f := by
  have allowed : (c.mbx == p || (c.mbx == 32 && !f.confPart p)) = true := by
    obtain h | ⟨h, hc⟩ := hfrom
    · simp [h]
    · simp [h, hc]
  have inRange : ¬ 5 < e ∧ ¬ f.partCount ≤ p := by omega
  obtain rfl | rfl | rfl : lv = 0 ∨ lv = 1 ∨ lv = 2 := by omega
  · simp [resetBody, hlv, hp, he, allowed, hlen, hw, inRange, htag rfl, hhere, hdrain]
  · simp [resetBody, hlv, hp, he, allowed, hlen, hw, inRange, hhere, hdrain]
  · simp [resetBody, hlv, hp, he, allowed, hlen, hw, inRange, hhere, hdrain]

theorem resetBody_device (hm : c.mbx ∈ [32, 33, 36]) (hlv : fld (wd c.pay 0) 1 0 = 3) (hlen : c.len = 8)
    (hw : onlyBits (wd c.pay 0) [(1, 0), (12, 8), (18, 16)] = true) (he : fld (wd c.pay 0) 18 16 ≤ 5) :
    resetBody c f = holdOrder c 0x0800 [(⟨blkReset, 0, 0⟩, 1)] f := by
  simp [resetBody, hlv, fromOf_mem hm, hlen, hw, Nat.not_lt.mpr he]

theorem hangSetBody_holds {e p k : Nat} (hm : c.mbx ∈ [32, 33, 36]) (hlen : c.len = 16)
    (hpay : c.pay = [pack [(31, 0, e), (63, 32, p)], w64 k]) (helo : 46875 ≤ e) (hehi : e ≤ 3125000) (hplo : max e 312500 ≤ p)
    (hphi : p ≤ 15625000) (hklo : 15625 ≤ k) (hk : k < 2 ^ 64) (hkhi : k ≤ f.rtr.gapTicks - 31250) :
    hangSetBody c f = holdOrder c 0x0801 [(⟨blkWin, 0, 0⟩, e), (⟨blkWin, 1, 0⟩, p), (⟨blkWin, 2, 0⟩, k)] f := by
  have w0 : wd c.pay 0 = pack [(31, 0, e), (63, 32, p)] := by rw [hpay]; rfl
  have w1 : wn c.pay 1 = k := by rw [hpay]; exact toNat_w64 hk
  have eng : fld (pack [(31, 0, e), (63, 32, p)]) 31 0 = e := by
    rw [fld_pack_cons_same (by decide) (by simp)]
    exact Nat.mod_eq_of_lt (by omega)
  have par : fld (pack [(31, 0, e), (63, 32, p)]) 63 32 = p := by
    rw [fld_pack_cons_other (by decide), fld_pack_cons_same (by decide) (by simp)]
    exact Nat.mod_eq_of_lt (by omega)
  have fits : hangBad 16 c.pay f.rtr.gapTicks = false := by
    simp only [hangBad, w0, w1, eng, par, bne_self_eq_false, Bool.false_or, Bool.or_eq_false_iff, decide_eq_false_iff_not]
    omega
  simp [hangSetBody, fromOf_mem hm, hlen, fits, w0, w1, eng, par]

/-! ### Roll call and hand-overs -/

theorem nodeBody_holds {op n v : Nat} {srcs : List Nat} (hm : c.mbx ∈ srcs) (hn : n < 32768) (hlen : c.len = 8)
    (hpay : c.pay = [w64 n]) : nodeBody op srcs v c f = holdOrder c op [(⟨blkNode, n, 0⟩, v)] f := by
  have fits : n < 2 ^ (14 + 1) := hn
  have word : wd c.pay 0 = w64 n := by rw [hpay]; rfl
  simp [nodeBody, fromOf_mem hm, hlen, word, fld_w64 fits (by decide), onlyBits_w64 fits]

/-- The phases of SUBSTITUTE are one command with its phase forced. -/
theorem exec_substitute {mk : Cmd → Instr} {ph : Nat}
    (h : (mk, ph) ∈ [(Instr.substituteSeat, 0), (Instr.substituteAnnounce, 1), (Instr.substituteCommit, 2), (Instr.substituteRelease, 3)]) :
    ph ≤ 3 ∧ exec (mk c) s = s.command (force c 2 0 ph) 0x0805 substituteBody := by
  simp only [List.mem_cons, Prod.mk.injEq, List.not_mem_nil, or_false] at h
  obtain ⟨rfl, rfl⟩ | ⟨rfl, rfl⟩ | ⟨rfl, rfl⟩ | ⟨rfl, rfl⟩ := h <;> exact ⟨by decide, rfl⟩

theorem substituteBody_holds {ph : Nat} (hm : c.mbx ∈ [32, 33]) (hlen : c.len = 16) (hw0 : onlyBits (wd c.pay 0) [(2, 0)] = true)
    (hph : fld (wd c.pay 0) 2 0 = ph) (h3 : ph ≤ 3) (hw1 : onlyBits (wd c.pay 1) [(44, 0)] = true) :
    substituteBody c f = holdOrder c 0x0805 [(⟨blkAlias, fld (wd c.pay 1) 14 0, 0⟩, 4 * (wd c.pay 1).toNat + ph)] f := by
  simp [substituteBody, fromOf_mem hm, hlen, hw0, hph, Nat.not_lt.mpr h3, hw1]

/-! ### Fault injection -/

theorem injectPolicyBody_holds {n : Nat} (hm : c.mbx ∈ [33, 36]) (hn : n < 256) (hlen : c.len = 8) (hpay : c.pay = [w64 n]) :
    injectPolicyBody c f = holdOrder c 0x0806 [(⟨blkPolicy, 0, 0⟩, n)] f := by
  have word : wd c.pay 0 = w64 n := by rw [hpay]; rfl
  simp [injectPolicyBody, fromOf_mem hm, hlen, word, onlyBits_w64 (show n < 2 ^ (7 + 1) from hn),
    toNat_w64 (show n < 2 ^ 64 by omega)]

/-- The nine classes of INJECT_FAULT are one command with its class forced. -/
theorem exec_injectFault {mk : Cmd → Instr} {cls : Nat}
    (h : (mk, cls) ∈ [(Instr.injectFaultLane, 1), (Instr.injectFaultSramCe, 2), (Instr.injectFaultSramUe, 3), (Instr.injectFaultHdpCrc, 4),
      (Instr.injectFaultEngineStall, 5), (Instr.injectFaultResetStall, 6), (Instr.injectFaultCsStall, 7), (Instr.injectFaultMcStall, 8),
      (Instr.injectFaultHbSilence, 9)]) :
    1 ≤ cls ∧ cls ≤ 9 ∧ exec (mk c) s = s.command (force c 7 0 cls) 0x0807 injectBody := by
  simp only [List.mem_cons, Prod.mk.injEq, List.not_mem_nil, or_false] at h
  obtain ⟨rfl, rfl⟩ | ⟨rfl, rfl⟩ | ⟨rfl, rfl⟩ | ⟨rfl, rfl⟩ | ⟨rfl, rfl⟩ | ⟨rfl, rfl⟩ | ⟨rfl, rfl⟩ | ⟨rfl, rfl⟩ |
    ⟨rfl, rfl⟩ := h <;>
    exact ⟨by decide, by decide, rfl⟩

theorem injectBody_holds {cls : Nat} (hm : c.mbx ∈ [32, 33, 36]) (hcls : injClass c.pay = cls) (h1 : 1 ≤ cls) (h9 : cls ≤ 9)
    (hconf : f.conf = false) (hpol : f.ladder.policy / 2 ^ injBit cls % 2 = 1) (hbad : f.injBad c.len c.pay = false) :
    injectBody c f = holdOrder c 0x0807 [(⟨blkInject, (f.mbx c.mbx).env.accept, 0⟩, 1)] f := by
  have defined : ¬ cls < 1 ∧ ¬ 9 < cls := by omega
  simp only [injectBody, fromOf_mem hm, hcls, defined, hconf, hpol, hbad, Bool.not_true, Bool.false_eq_true, if_false,
    decide_false, Bool.or_self, Nat.reduceBEq]

end Sys2Proof.Machine

namespace Sys2Proof.Proofs
open Sys2Proof.Machine

/-- Settles O34: each sound command passes its body's checks and is held with the object it sets. -/
theorem resetsAndRollCallAreHeld : Obligations.ResetsAndRollCallAreHeld := by
  refine ⟨?_, ?_, ?_, ?_, ?_⟩
  · intro s c mk lv hmk d p e ht hlen hw hlv hfrom he htag hcount hhere hdrain
    obtain ⟨h3, row⟩ := exec_resetLevel (c := c) (s := s) hmk
    exact goes_held resetBody ht row
      (resetBody_holds (f := s.fab.begun d 0x0800) (c := d) hlv rfl rfl h3 hlen hw hfrom he htag hcount hhere hdrain)
  · intro s c d ht hm hlen hw hlv he
    exact goes_held resetBody ht rfl (resetBody_device (c := d) hm hlv hlen hw he)
  · intro s c ht
    refine ⟨fun e p k hm hlen hpay helo hehi hplo hphi hklo hk hkhi => ?_, fun n hn hlen hpay => ⟨fun hm => ?_, fun hm => ?_⟩,
      fun n hn hm hlen hpay => ?_⟩
    · exact goes_held hangSetBody ht rfl (hangSetBody_holds (f := s.fab.begun c 0x0801) hm hlen hpay helo hehi hplo hphi hklo hk hkhi)
    · exact goes_held rollAdmitBody ht rfl (nodeBody_holds hm hn hlen hpay)
    · exact goes_held rollExpelBody ht rfl (nodeBody_holds hm hn hlen hpay)
    · exact goes_held injectPolicyBody ht rfl (injectPolicyBody_holds hm hn hlen hpay)
  · intro s c mk ph hmk d ht hm hlen hw0 hph hw1
    obtain ⟨h3, row⟩ := exec_substitute (c := c) (s := s) hmk
    exact goes_held substituteBody ht row (substituteBody_holds (c := d) hm hlen hw0 hph h3 hw1)
  · intro s c mk cls hmk d ht hm hcls hconf hpol hbad
    obtain ⟨h1, h9, row⟩ := exec_injectFault (c := c) (s := s) hmk
    have held := injectBody_holds (f := s.fab.begun d 0x0807) (c := d) hm hcls h1 h9 hconf hpol hbad
    rw [Fabric.begun_mbx] at held
    exact goes_held injectBody ht row held

end Sys2Proof.Proofs
end

section
/-!
SUPPORT. Making and reading contexts (R94, R95, R97).
-/
namespace Sys2Proof.Machine

variable {f : Fabric} {s : State} {i : Instr} {c : Cmd} {op : Nat}

/-- A mailbox command that its mailbox takes and whose body makes a change and ends. -/
theorem goes_answers {change : Fabric → Fabric} {st r0 : Nat} {resp : List Word} {len : Nat} (body : Body) (ht : s.fab.takes c = true)
    (hi : exec i s = s.command c op body)
    (h : body c (s.fab.begun c op) = (change (s.fab.begun c op), .done st (w64 r0) resp len)) :
    Goes i s (s.fab.answers c op change st r0 resp len) :=
  goes_taken op body ht hi (by rw [h]; rfl)

/-- A well-formed CTX_CREATE of a FREE slot makes a LIVE context as its payload says (R94). -/
theorem ctxCreateBody_makes {weight : Nat} {ff : Bool} (ho : f.opens c = true) (hlen : c.len = 16)
    (hroot : onlyBits (wd c.pay 0) [(47, 12)] = true) (hlo : 1 ≤ weight) (hhi : weight ≤ 8)
    (hw : wd c.pay 1 = pack [(7, 4, weight), (0, 0, b2n ff)]) (hq : (f.part (tagPart c.tag)).quietUntil ≤ f.tick)
    (hs : (f.ctx c.tag).state = .free) (hg : tagGen c.tag ≠ 0) (hr : tagGen c.tag ≠ (f.ctx c.tag).retiredGen) :
    ctxCreateBody c f =
      okay (f.updCtx c.tag fun x =>
        { state := .live, gen := tagGen c.tag, retiredGen := x.retiredGen, weight := weight, faultFail := ff,
          root := (wd c.pay 0).toNat }) c.tag := by
  have fields : onlyBits (wd c.pay 1) [(7, 4), (0, 0)] = true := by rw [hw]; exact onlyBits_pack (by simp)
  have isWeight : fld (wd c.pay 1) 7 4 = weight := by
    rw [hw, fld_pack_cons_same (by decide) (by simp)]
    exact Nat.mod_eq_of_lt (by omega)
  have isFail : bit (wd c.pay 1) 0 = ff := by
    rw [hw, bit_eq_fld, fld_pack_cons_other (by decide), fld_pack_cons_same (by decide) (by simp)]
    cases ff <;> rfl
  have wellFormed : (c.len != 16 || !onlyBits (wd c.pay 0) [(47, 12)] || !onlyBits (wd c.pay 1) [(7, 4), (0, 0)] ||
      decide (weight < 1) || decide (weight > 8)) = false := by
    simp [hlen, hroot, fields]; omega
  simp only [ctxCreateBody, isWeight, isFail, wellFormed, ctxGate_opens ho, if_neg (Nat.not_lt.mpr hq), hs]
  rw [if_pos (by simp [hg, hr])]
  rfl

theorem ctxQueryBody_reads (ho : f.opens c = true) (hlen : c.len = 0) :
    ctxQueryBody c f = (f, .done stOk 0 (f.ctxWords (tagPart c.tag) (tagSlot c.tag)) 288) := by
  simp [ctxQueryBody, hlen, ctxGate_opens ho]

/-- The first word that CTX_QUERY answers for a FREE slot (Table 3.12): no tag, no parked or held descriptor. -/
theorem Fabric.ctxWords_free {p sl : Nat} (h : ((f.part p).ctx sl).state = .free) :
    wd (f.ctxWords p sl) 0 =
      pack [(42, 38, ((f.part p).ctx sl).retiredGen), (35, 32, ((f.part p).ctx sl).weight), (31, 16, ((f.part p).ctx sl).faultSeq)] := by
  simp [Fabric.ctxWords, wd, h, pack]

end Sys2Proof.Machine

namespace Sys2Proof.Proofs
open Sys2Proof.Machine

/-- Settles O10: both bodies past their checks, on the begun device. -/
theorem contextsAreMadeAndRead : Obligations.ContextsAreMadeAndRead := by
  refine ⟨?_, ?_⟩
  · intro s c weight ff ht ho hlen hroot hlo hhi hw hq hs hg hr
    exact goes_answers ctxCreateBody ht rfl
      (ctxCreateBody_makes (f := s.fab.begun c 0x0100) ho hlen hroot hlo hhi hw hq hs hg hr)
  · intro s c ht ho hlen
    exact ⟨goes_answers ctxQueryBody ht rfl (ctxQueryBody_reads (f := s.fab.begun c 0x0102) ho hlen), Fabric.ctxWords_free⟩

end Sys2Proof.Proofs
end

section
/-!
SUPPORT. SEG_SET and INVALIDATE (R98, R99, R101, R122) and the drains that they wait for.
-/
namespace Sys2Proof.Machine

variable {f : Fabric} {s : State} {c : Cmd} {d : Drain} {i : Nat} {g old : Seg}

/-! ### Drains -/

/-- With no use in progress the command completes at once. -/
theorem Fabric.drainOr_none (h : d.size = 0) : f.drainOr d = okay f := if_pos h

/-- With a use in progress the command waits. -/
theorem Fabric.drainOr_some (h : d.size ≠ 0) :
    f.drainOr d = ({ f with drains := f.drains ++ [{ d with count := d.size }] }, .wait) := if_neg h

/-- The only drain ends its command once none of its uses is in flight (R101, R122). -/
theorem Fabric.finishDrain_over (hd : f.drains = [d]) (h : f.drained d = true) :
    f.finishDrain d.mbx d.segSet = ({ f with drains := [] } : Fabric).finish d.mbx stOk (if d.segSet then 0 else d.count) := by
  simp [Fabric.finishDrain, hd, h]

theorem Fabric.finishDrain_waits (hd : f.drains = [d]) (h : f.drained d = false) : f.finishDrain d.mbx d.segSet = f := by
  simp [Fabric.finishDrain, hd, h]

/-! ### SEG_SET -/

/-- A change of a context leaves the uses of a segment. -/
theorem Fabric.segUses_updCtx (mbx tag : Nat) (old : Seg) (x : Ctx → Ctx) :
    (f.updCtx tag x).segUses mbx tag i old = f.segUses mbx tag i old := by
  simp [Fabric.segUses, Fabric.tilesWhere, Fabric.launchedColls, Fabric.redUses, Fabric.landed, Fabric.updCtx,
    Fabric.part_updPart_same, Part.updCtx, Part.setCtx]

/-- SEG_SET past its checks: the slot takes the descriptor, and a replaced one is drained. -/
theorem segSetBody_sets (ho : f.opensLive c = true) (hlen : c.len = 40) (hi : i < 8) (hw : wd c.pay 0 = w64 i)
    (hg : g = { w0 := wd c.pay 1, w1 := wd c.pay 2, w2 := wd c.pay 3, w3 := wd c.pay 4 }) (hz : g.zeroBad = false)
    (hbad : (g.valid && segBad g (Map.vals ((f.ctx c.tag).segs.filter fun e => e.1 != i))) = false)
    (hold : (f.ctx c.tag).segs.get i {} = old) (hd : f.segUses c.mbx c.tag i old = d) :
    segSetBody c f =
      if old.valid && g != old then
        (f.updCtx c.tag fun x => { x with segs := x.segs.set i g, seals := x.seals.del i }).drainOr d
      else okay (f.updCtx c.tag fun x => { x with segs := x.segs.set i g }) := by
  have index : fld (wd c.pay 0) 2 0 = i := by rw [hw]; exact fld_w64 hi (by decide)
  have fields : onlyBits (wd c.pay 0) [(2, 0)] = true := by rw [hw]; exact onlyBits_w64 hi
  subst hg hd
  simp only [segSetBody, hlen, fields, hz, index, bne_self_eq_false, Bool.not_true, Bool.or_self, liveGate_opens ho, hbad, hold,
    Bool.false_eq_true, if_false, Fabric.segUses_updCtx]
  split <;> rfl

/-! ### INVALIDATE -/

/-- INVALIDATE of one context past its checks: its translations of the range go, and their uses are drained. -/
theorem invalidateBody_removes (ho : f.opensLive c = true) (hlen : c.len = 24) (hw : onlyBits (wd c.pay 0) [(56, 12)] = true)
    (h2 : wd c.pay 2 = 0) {lo hi : Nat} (hlo : (if wn c.pay 1 = 0 then 0 else (wd c.pay 0).toNat) = lo)
    (hhi : (if wn c.pay 1 = 0 then 2 ^ 57 else (wd c.pay 0).toNat + 4096 * wn c.pay 1) = hi)
    (hd : { f.goneUses c.tag lo hi with mbx := c.mbx } = d) :
    invalidateBody c f = (f.updPart (tagPart c.tag) fun x => x.invalidate c.tag lo hi).drainOr d := by
  have oneContext : bit (0 : Word) 0 = false := rfl
  have fields : onlyBits (0 : Word) [(0, 0)] = true := rfl
  have lone : Drain.join { mbx := c.mbx, segSet := false } (f.goneUses c.tag lo hi) = d := hd
  simp only [invalidateBody, hlen, hw, h2, fields, oneContext, bne_self_eq_false, Bool.not_true, Bool.or_self, liveGate_opens ho, hlo, hhi,
    Bool.false_eq_true, if_false, List.foldl_cons, List.foldl_nil, lone]

end Sys2Proof.Machine

namespace Sys2Proof.Proofs
open Sys2Proof.Machine

/-- Settles O12: each body past its checks leaves a drain, and the drain decides whether the command completes. -/
theorem segmentsAndTranslationsChange : Obligations.SegmentsAndTranslationsChange := by
  refine ⟨?_, ?_, ?_⟩
  · intro s c i ht ho hlen hi hw g old d hz hbad
    have sets := segSetBody_sets (f := s.fab.begun c 0x0103) (g := g) (old := old) (d := d) ho hlen hi hw rfl hz hbad rfl rfl
    refine ⟨fun hkeep => ?_, fun hold hne hsize => ?_, fun hold hne hsize => ?_⟩
    · have keeps : (old.valid && g != old) = false := by
        obtain h | h := hkeep <;> simp [h]
      rw [if_neg (by rw [keeps]; decide)] at sets
      exact goes_answers segSetBody ht rfl sets
    · rw [if_pos (by simp [hold, hne]), Fabric.drainOr_none hsize] at sets
      exact goes_answers segSetBody ht rfl sets
    · rw [if_pos (by simp [hold, hne]), Fabric.drainOr_some hsize] at sets
      exact goes_taken 0x0103 segSetBody ht rfl (by rw [sets]; rfl)
  · intro s d hl hd hown hacc i
    have runs {g : Fabric} (h : s.fab.finishDrain d.mbx d.segSet = g) : Goes i s g := by
      cases hseg : d.segSet <;> rw [hseg] at h
      · have row : i = .invalidateDrained d.mbx := by simp [i, hseg]
        exact row ▸ goes_event (fun f => f.finishDrain d.mbx false) hl rfl h
      · have row : i = .segSetDrained d.mbx := by simp [i, hseg]
        exact row ▸ goes_event (fun f => f.finishDrain d.mbx true) hl rfl h
    refine ⟨fun h => runs ?_, fun h => runs (Fabric.finishDrain_waits hd h)⟩
    rw [Fabric.finishDrain_over hd h]
    exact Fabric.finish_inProgress (f := { s.fab with drains := [] }) hown hacc _ _ _ _
  · intro s c ht ho hlen hw h2 p lo hi d
    have removes := invalidateBody_removes (f := s.fab.begun c 0x0104) (lo := lo) (hi := hi) (d := d) ho hlen hw h2 rfl rfl rfl
    refine ⟨fun hsize => ?_, fun hsize => ?_⟩
    · refine goes_answers (withColls invalidateBody) ht rfl ?_
      rw [withColls, removes, Fabric.drainOr_none hsize]
      rfl
    · refine goes_taken 0x0104 (withColls invalidateBody) ht rfl ?_
      rw [withColls, removes, Fabric.drainOr_some hsize]
      rfl

end Sys2Proof.Proofs
end

section
/-!
SUPPORT. Remote requests at their target (R129, R165, R285): what is taken off the inbox, the checks of Table 3.10, and what
serving a sound request changes.
-/
namespace Sys2Proof.Machine

variable {f : Fabric} {m : Msg} {a : Arrived} {g : Seg} {order : Nat}

/-! ### Taking a message -/

/-- Taking a message changes the inbox and the count of orders alone. -/
theorem Fabric.takeMsg_eq (f : Fabric) (m : Msg) :
    ∃ inbox n, (f.takeMsg m).1 = { f with rtr := { f.rtr with inbox := inbox, order := n } } := by
  unfold Fabric.takeMsg
  split
  · exact ⟨_, _, rfl⟩
  · exact ⟨_, _, rfl⟩

/-- A request without the hall pass is served as it is taken. -/
theorem Fabric.requestMsg_plain (h : m.hp = false) : f.requestMsg m = (f.takeMsg m).1.serve (f.takeMsg m).2 m := by
  simp [Fabric.requestMsg, h]

/-- A request with the hall pass is held under the next order of release (R285). -/
theorem Fabric.requestMsg_held (h : m.hp = true) (hn : f.rtr.hpHeld.any (fun a => a.msg == m) = false) :
    f.requestMsg m =
      { f with rtr := { f.rtr with order := f.rtr.order + 1, hpHeld := f.rtr.hpHeld ++ [{ order := f.rtr.order, msg := m }] } } := by
  simp [Fabric.requestMsg, Fabric.arrive, h, hn]

/-! ### The checks of Table 3.10 -/

/-- The landing window that admits a request (Table 3.10, check 2). -/
def Fabric.windowOf (f : Fabric) (m : Msg) : Option Seg :=
  (f.ctx m.tag).segs.vals.find? fun g => g.landHolds m.addr (reqBytes m)

theorem Fabric.targetCheck_stale (h : f.targetLive m.tag = false) : f.targetCheck m = .stale := by
  simp [Fabric.targetCheck, h]

/-- A live tag's request is sound where its window grants the access to its source, and else a violation. -/
theorem Fabric.targetCheck_live (h : f.targetLive m.tag = true) :
    f.targetCheck m =
      match f.windowOf m with
      | none => .violation
      | some g => if g.grants (reqAccess m) && f.rtr.inScope g.scope m.src then .ok else .violation := by
  unfold Fabric.targetCheck Fabric.windowOf
  rw [h]
  rfl

/-! ### Serving -/

theorem Fabric.serve_stale (h : f.targetLive m.tag = false) : f.serve order m = f := by
  simp [Fabric.serve, Fabric.targetCheck_stale h]

/-- A request that no window admits is one violation and is answered with zeros. -/
theorem Fabric.serve_violation (h : f.targetLive m.tag = true)
    (hw : f.windowOf m = none ∨ ∃ g, f.windowOf m = some g ∧ (g.grants (reqAccess m) && f.rtr.inScope g.scope m.src) = false) :
    f.serve order m = f.violate.respond (answerTo m (zeros (answerWords m)) false) := by
  have refused : f.targetCheck m = .violation := by
    rw [Fabric.targetCheck_live h]
    obtain hnone | ⟨g, hsome, hg⟩ := hw
    · rw [hnone]
    · rw [hsome]; simp [hg]
  simp [Fabric.serve, refused]

/-- The device that keeps a request as being served. -/
def Fabric.keepTarget (f : Fabric) (order : Nat) (m : Msg) : Fabric :=
  { f with rtr := { f.rtr with
      targets := f.rtr.targets ++
        [{ id := f.rtr.nextTarget, order := order, msg := m,
           pend := if m.kind = .atomic then m.units else pieceCount m.addr m.units }]
      nextTarget := f.rtr.nextTarget + 1 } }

/-- A sound request is kept, and the transactions that serve it change the Host Die Port alone. -/
theorem Fabric.serve_sound (h : f.targetLive m.tag = true) (hw : f.windowOf m = some g) (hg : g.grants (reqAccess m) = true)
    (hs : f.rtr.inScope g.scope m.src = true) : ∃ x, f.serve order m = { f.keepTarget order m with hdp := x } := by
  have sound : f.targetCheck m = .ok := by
    rw [Fabric.targetCheck_live h, hw]
    simp [hg, hs]
  unfold Fabric.serve
  simp only [sound, beq_iff_eq]
  split
  · exact Fabric.hdpRead_eq (f.keepTarget order m) _ _ _
  · exact foldl_hdp _ (f.keepTarget order m) _
  · exact Fabric.hdpWrite_eq (f.keepTarget order m) _ _ _ _ _
  · exact Fabric.hdpWrite_eq (f.keepTarget order m) _ _ _ _ _

/-! ### HP_RELEASE -/

/-- The only held request is served when nothing earlier stands before it (R285). -/
theorem Fabric.hpRelease_free (hh : f.rtr.hpHeld = [a]) (h : f.rtr.hpFree a = true) :
    f.hpRelease a.order = ({ f with rtr := { f.rtr with hpHeld := [] } } : Fabric).serve a.order a.msg := by
  simp [Fabric.hpRelease, hh, h]

theorem Fabric.hpRelease_waits (hh : f.rtr.hpHeld = [a]) (h : f.rtr.hpFree a = false) : f.hpRelease a.order = f := by
  simp [Fabric.hpRelease, hh, h]

/-- The four requests are one event with its kind. -/
theorem goes_request {s : State} {mk : Msg → Instr} {kind : MsgKind} {m : Msg} {h : Fabric} (hl : s.fab.live = true)
    (hmk : (mk, kind) ∈ [(Instr.write, MsgKind.write), (.read, .read), (.atomic, .atomic), (.fill, .fill)])
    (e : s.fab.requestMsg { m with kind := kind } = h) : Goes (mk m) s h := by
  simp only [List.mem_cons, Prod.mk.injEq, List.not_mem_nil, or_false] at hmk
  obtain ⟨rfl, rfl⟩ | ⟨rfl, rfl⟩ | ⟨rfl, rfl⟩ | ⟨rfl, rfl⟩ := hmk <;>
    exact goes_event (fun f => f.requestMsg { m with kind := _ }) hl rfl e

end Sys2Proof.Machine

namespace Sys2Proof.Proofs
open Sys2Proof.Machine

/-- Settles O37: the checks read nothing that taking the message changes, and each of their answers is one lemma of `serve`. -/
theorem requestsAreServedAtTheTarget : Obligations.RequestsAreServedAtTheTarget := by
  refine ⟨?_, ?_⟩
  · intro s m0 mk kind hl hmk m f order n window
    obtain ⟨inbox, k, taken⟩ : ∃ inbox k, f = { s.fab with rtr := { s.fab.rtr with inbox := inbox, order := k } } :=
      s.fab.takeMsg_eq m
    have sameLive : f.targetLive m.tag = s.fab.targetLive m.tag := by rw [taken]; rfl
    have sameWindow : f.windowOf m = window := by rw [taken]; rfl
    have sameScope (scope : Nat) : f.rtr.inScope scope m.src = s.fab.rtr.inScope scope m.src := by rw [taken]; rfl
    have serves (hp : m.hp = false) : Goes (mk m0) s (f.serve order m) := goes_request hl hmk (Fabric.requestMsg_plain hp)
    refine ⟨fun hp hdead => ?_, fun hp hlive hw => ?_, fun g hp hlive hw hg hs => ?_,
      fun hp hn => goes_request hl hmk (Fabric.requestMsg_held hp hn)⟩
    · rw [← Fabric.serve_stale (order := order) (sameLive.trans hdead)]
      exact serves hp
    · rw [← Fabric.serve_violation (order := order) (sameLive.trans hlive) (by simpa only [sameWindow, sameScope] using hw)]
      exact serves hp
    · obtain ⟨x, e⟩ := Fabric.serve_sound (order := order) (sameLive.trans hlive) (sameWindow.trans hw) hg ((sameScope _).trans hs)
      refine ⟨_, e ▸ serves hp, ?_⟩
      rw [taken]
      exact ⟨rfl, rfl, rfl, rfl, rfl, rfl, rfl⟩
  · intro s a hl hh
    exact ⟨fun h => goes_event (fun f => f.hpRelease a.order) hl rfl (Fabric.hpRelease_free hh h),
      fun h => goes_event (fun f => f.hpRelease a.order) hl rfl (Fabric.hpRelease_waits hh h)⟩

end Sys2Proof.Proofs
end

section
/-!
SUPPORT. The stream prefetcher (R112), the end of a request's bound (R169) and counter snapshots (R172).
-/
namespace Sys2Proof.Machine

variable {f : Fabric} {p e n va src i : Nat} {dst : Bool} {r : Run} {q : Request}

/-- The prefetcher walks for the first address that its stream misses (R112). -/
theorem Fabric.streamPrefetch_miss (he : (f.part p).onEngine e = some r) (hm : f.streamMiss r dst = some va) :
    f.streamPrefetch p e dst = f.startWalk r.tag va (.prefetch e dst) := by
  simp [Fabric.streamPrefetch, he, hm]

/-- Whether an open request of a context that is not switched out has run out its bound decides (R169). -/
theorem Fabric.requestTimeout_open (hq : f.rtr.reqs.find n = some q) (hr : f.run q.part q.run = some r)
    (hs : (f.ctx r.tag).state ≠ .switchedOut) :
    f.requestTimeout n =
      if q.handed = true ∧ q.bound ≤ f.elapsed q r.tag then f.abandon q.part r stTimeout 0 else f := by
  simp [Fabric.requestTimeout, hq, hr, hs]

/-- PAR_CC_SNAP of an entry that there is, by a source that holds the partition (R172). -/
theorem Fabric.parSnap_writes (hp : p < f.partCount) (hd : (f.part p).disabled = false) (ha : f.parAccess src p = true) (hi : i ≤ 16) :
    f.parSnap src p (w64 i) = f.snapEntry p i := by
  have entry : fld (w64 i) 4 0 = i := fld_w64 (by omega) (by decide)
  simp [Fabric.parSnap, entry, hd, ha, Nat.not_le.mpr hp, Nat.not_lt.mpr hi]

end Sys2Proof.Machine

namespace Sys2Proof.Proofs
open Sys2Proof.Machine

/-- Settles O16: each event past its conditions; whether the bound is reached decides a timeout. -/
theorem prefetchTimeoutAndSnapshot : Obligations.PrefetchTimeoutAndSnapshot := by
  refine ⟨?_, ?_, ?_⟩
  · intro s p e va dst r hl he hm
    exact goes_event (fun f => f.streamPrefetch p e dst) hl rfl (Fabric.streamPrefetch_miss he hm)
  · intro s n q r hl hq hr hs
    refine ⟨fun hh hb => ?_, fun hnot => ?_⟩
    · refine goes_event (fun f => f.requestTimeout n) hl rfl ?_
      rw [Fabric.requestTimeout_open hq hr hs, if_pos ⟨hh, hb⟩]
    · refine goes_event (fun f => f.requestTimeout n) hl rfl ?_
      rw [Fabric.requestTimeout_open hq hr hs, if_neg]
      rintro ⟨hh, hb⟩
      obtain h | h := hnot
      · exact absurd hh (by simp [h])
      · exact absurd hb (Nat.not_le.mpr h)
  · intro s src p i hup hp hd ha hi
    exact goes_event (fun f => f.parSnap src p (w64 i)) hup rfl (Fabric.parSnap_writes hp hd ha hi)

end Sys2Proof.Proofs
end

section
/-!
SUPPORT. CTX_RESUME (R115), PREFETCH_RANGE (R125) and ADVISE (R126): what each body leaves, and what the work that they wake does
where the partition has nothing else to do.
-/
namespace Sys2Proof.Machine

variable {f g : Fabric} {c : Cmd} {p tag n q a : Nat} {b : Body} {reply : Reply} {r : Run} {o : RangeOp} {adv : List Advice}

/-! ### Work that is woken -/

theorem withColls_of_body (h : b c f = (g, reply)) : withColls b c f = (g.pumpColls (tagPart c.tag), reply) := by
  rw [withColls, h]

theorem withRanges_of_body (h : b c f = (g, reply)) : withRanges b c f = (g.pumpRanges (tagPart c.tag), reply) := by
  rw [withRanges, h]

theorem Fabric.pumpColls_idle (h : (f.part p).colls = []) : f.pumpColls p = f := by
  simp [Fabric.pumpColls, h]

theorem Fabric.pumpDemand_idle (h : (f.part p).runs = []) : f.pumpDemand p = f := by
  simp [Fabric.pumpDemand, h]

theorem Fabric.pumpRanges_idle (hr : (f.part p).runs = []) (h : (f.part p).ranges = []) : f.pumpRanges p = f := by
  rw [Fabric.pumpRanges, h, List.foldl_nil, Fabric.pumpDemand_idle hr]

/-- Where no run of a partition is over, none completes. -/
theorem Fabric.settleAll_idle (h : ∀ r ∈ (f.part p).runs, f.runOver p r = false) : f.settleAll p = f := by
  have none_over : (f.part p).runs.find? (f.runOver p) = none := List.find?_eq_none.mpr (by simpa using h)
  rw [Fabric.settleAll, Fabric.settle, none_over]

/-- Completion leaves the partitions. -/
@[simp] theorem Fabric.complete_part (f : Fabric) (m st : Nat) (r0 : Word) (resp : List Word) (len p : Nat) :
    (f.complete m st r0 resp len).part p = f.part p := by
  obtain ⟨x, h, y, e⟩ := f.complete_eq m st r0 resp len
  rw [e]
  rfl

@[simp] theorem Fabric.complete_ctx (f : Fabric) (m st : Nat) (r0 : Word) (resp : List Word) (len tag : Nat) :
    (f.complete m st r0 resp len).ctx tag = f.ctx tag :=
  congrArg (fun x => Part.ctx x (tagSlot tag)) (f.complete_part m st r0 resp len (tagPart tag))

/-- A changed context slot is read from the changed partition. -/
theorem Fabric.ctx_updPart_same (f : Fabric) (tag : Nat) (h : Part → Part) :
    (f.updPart (tagPart tag) h).ctx tag = (h (f.part (tagPart tag))).ctx (tagSlot tag) := by
  rw [Fabric.ctx, Fabric.part_updPart_same]

/-! ### CTX_RESUME -/

/-- A descriptor of a context that is parked on a fault up to `n`. -/
def Run.parkedUpTo (tag n : Nat) (r : Run) : Bool :=
  r.tag == tag && match r.phase with | .parked q => faultAtMost n q | _ => false

/-- A collective of a context that is parked on a fault up to `n`. -/
def Coll.parkedUpTo (tag n : Nat) (k : Coll) : Bool :=
  k.tag == tag && match k.parked with | some q => faultAtMost n q | none => false

/-- A descriptor taken out of its park: held, and with FAIL ended with detail 3 unless it has an outcome. -/
def Run.unparked (fail : Bool) (r : Run) : Run :=
  { r with phase := .held, fin := if fail then some (r.fin.getD (stFaulted, 3)) else r.fin }

/-- What faults up to `n` parked in a context is taken out of its park. -/
def Fabric.release (f : Fabric) (tag n : Nat) (fail : Bool) : Fabric :=
  f.updPart (tagPart tag) fun x =>
    { x with runs := updWhere x.runs (Run.parkedUpTo tag n) (Run.unparked fail)
             colls := updWhere x.colls (Coll.parkedUpTo tag n) fun k => { k with parked := none } }

/-- The device after CTX_RESUME of a SWITCHED_OUT context (R115): with FAIL the collectives end with detail 3, and what then has
nothing parked goes on. -/
def Fabric.resume (f : Fabric) (tag n : Nat) (fail : Bool) : Fabric :=
  let p := tagPart tag
  let g := f.release tag n fail
  let g := if fail then ((f.part p).colls.filter (Coll.parkedUpTo tag n)).foldl (fun g k => g.endColl p k.id stFaulted 3) g else g
  ((g.unpark tag).settleAll p).pumpColls p

/-- What CTX_RESUME answers: how many descriptors and collectives it took out of their park. -/
def Fabric.parkedCount (f : Fabric) (tag n : Nat) : Nat :=
  ((f.part (tagPart tag)).runs.filter (Run.parkedUpTo tag n)).length +
    ((f.part (tagPart tag)).colls.filter (Coll.parkedUpTo tag n)).length

/-- The payload of CTX_RESUME with RETRY of the faults up to `q`. -/
theorem retryWord_fields {w : Word} (hw : w = pack [(31, 16, q)]) (hq : q < 65536) :
    fld w 31 16 = q ∧ bit w 0 = false ∧ onlyBits w [(0, 0), (31, 16)] = true := by
  subst hw
  refine ⟨?_, ?_, onlyBits_pack (by simp)⟩
  · rw [fld_pack_cons_same (by decide) (by simp)]
    exact Nat.mod_eq_of_lt hq
  · rw [bit_eq_fld, fld_pack_cons_other (by decide), fld_pack_nil]
    rfl

theorem faultAtMost_self (q : Nat) : faultAtMost q q = true := by simp [faultAtMost]

/-- CTX_RESUME of a LIVE context changes nothing. -/
theorem ctxResumeBody_live (ho : f.opensLive c = true) (hlen : c.len = 8) (hw : onlyBits (wd c.pay 0) [(0, 0), (31, 16)] = true)
    (hs : (f.ctx c.tag).state = .live) : ctxResumeBody c f = okay f := by
  simp [ctxResumeBody, hlen, hw, liveGate_opens ho, hs]

/-- CTX_RESUME of a SWITCHED_OUT context releases what the faults up to the given one parked, and counts it. -/
theorem ctxResumeBody_resumes (ho : f.opensLive c = true) (hlen : c.len = 8)
    (hw : onlyBits (wd c.pay 0) [(0, 0), (31, 16)] = true) (hs : (f.ctx c.tag).state = .switchedOut) :
    ctxResumeBody c f =
      okay (f.resume c.tag (fld (wd c.pay 0) 31 16) (bit (wd c.pay 0) 0)) (f.parkedCount c.tag (fld (wd c.pay 0) 31 16)) := by
  have notLive : ((f.ctx c.tag).state == CtxState.live) = false := by rw [hs]; rfl
  simp only [ctxResumeBody, hlen, hw, bne_self_eq_false, Bool.not_true, Bool.or_self, liveGate_opens ho, notLive, Bool.false_eq_true,
    if_false]
  cases bit (wd c.pay 0) 0
  · rfl
  · rfl

/-- The only descriptor of a partition, parked on the fault that RETRY names, is ready to run, and its context is LIVE. -/
theorem Fabric.resume_only (hr : (f.part (tagPart tag)).runs = [r]) (hc : (f.part (tagPart tag)).colls = [])
    (hs : (f.ctx tag).state = .switchedOut) (ht : r.tag = tag) (hp : r.phase = .parked q) (hf : r.fin = none) :
    f.parkedCount tag q = 1 ∧ ((f.resume tag q false).part (tagPart tag)).runs = [{ r with phase := .ready }] ∧
      ((f.resume tag q false).part (tagPart tag)).colls = [] ∧ ((f.resume tag q false).ctx tag).state = .live := by
  have hit : r.parkedUpTo tag q = true := by simp [Run.parkedUpTo, ht, hp, faultAtMost_self]
  have released : ((f.release tag q false).part (tagPart tag)).runs = [{ r with phase := .held }] ∧
      ((f.release tag q false).part (tagPart tag)).colls = [] ∧ ((f.release tag q false).ctx tag).state = .switchedOut := by
    refine ⟨?_, ?_, (congrArg Ctx.state (Fabric.ctx_updPart_same f tag _)).trans hs⟩
    · simp [Fabric.release, Fabric.part_updPart_same, hr, updWhere, hit, Run.unparked]
    · simp [Fabric.release, Fabric.part_updPart_same, hc, updWhere]
  obtain ⟨hruns, hcolls, hstate⟩ := released
  have woken : (((f.release tag q false).unpark tag).part (tagPart tag)).runs = [{ r with phase := .ready }] ∧
      (((f.release tag q false).unpark tag).part (tagPart tag)).colls = [] ∧
      (((f.release tag q false).unpark tag).ctx tag).state = .live := by
    simp [Fabric.unpark, hruns, hcolls, hstate, Fabric.updCtx, Fabric.part_updPart_same, Fabric.ctx_updPart_same, Part.updCtx, Part.setCtx,
      Part.ctx, updWhere, ht]
  have settled : ((f.release tag q false).unpark tag).settleAll (tagPart tag) = (f.release tag q false).unpark tag := by
    refine Fabric.settleAll_idle fun x hx => ?_
    rw [woken.1, List.mem_singleton] at hx
    simp [hx, Fabric.runOver, hf]
  have resumed : f.resume tag q false = (f.release tag q false).unpark tag := by
    rw [Fabric.resume]
    simp only [Bool.false_eq_true, if_false]
    rw [settled, Fabric.pumpColls_idle woken.2.1]
  have counted : f.parkedCount tag q = 1 := by simp [Fabric.parkedCount, hr, hc, hit]
  rw [resumed]
  exact ⟨counted, woken⟩

/-! ### PREFETCH_RANGE -/

/-- The device with a partition's range operations. -/
def Fabric.setRanges (f : Fabric) (p : Nat) (os : List RangeOp) : Fabric := f.setPart p { f.part p with ranges := os }

@[simp] theorem Fabric.setRanges_part (f : Fabric) (p : Nat) (os : List RangeOp) :
    (f.setRanges p os).part p = { f.part p with ranges := os } := by
  simp [Fabric.setRanges, Fabric.part]

@[simp] theorem Fabric.setRanges_mbx (f : Fabric) (p m : Nat) (os : List RangeOp) : (f.setRanges p os).mbx m = f.mbx m := rfl

@[simp] theorem Fabric.setRanges_ctx (f : Fabric) (tag : Nat) (os : List RangeOp) : (f.setRanges (tagPart tag) os).ctx tag = f.ctx tag := by
  rw [Fabric.ctx, Fabric.setRanges_part]
  rfl

@[simp] theorem Fabric.setRanges_setRanges (f : Fabric) (p : Nat) (os us : List RangeOp) :
    (f.setRanges p os).setRanges p us = f.setRanges p us := by
  rw [Fabric.setRanges, Fabric.setRanges_part]
  simp [Fabric.setRanges, Fabric.setPart]

/-- PREFETCH_RANGE past its checks enters its range and waits. -/
theorem prefetchRangeBody_enters (ho : f.opensLive c = true) (hlen : c.len = 16) (hw : onlyBits (wd c.pay 0) [(56, 12)] = true)
    (hlo : 1 ≤ wn c.pay 1) (hhi : wn c.pay 1 ≤ 32256) :
    prefetchRangeBody c f =
      (f.setRanges (tagPart c.tag) ((f.part (tagPart c.tag)).ranges ++
        [{ mbx := c.mbx, tag := c.tag, page := (wd c.pay 0).toNat / 4096, pages := wn c.pay 1 }]), .wait) := by
  have some_page : ¬ wn c.pay 1 = 0 := by omega
  simp [prefetchRangeBody, hlen, hw, liveGate_opens ho, some_page, Nat.not_lt.mpr hhi, Fabric.updPart, Fabric.setRanges]

/-- A range that has walked past all its pages and found none of those that were left. -/
def RangeOp.allMissed (o : RangeOp) : RangeOp :=
  { o with next := o.pages, missing := o.missing ++ rangeFrom o.next (o.pages - o.next) }

/-- Outside every segment a range counts its pages as missing in one step. -/
theorem Fabric.stepRange_outside {fuel : Nat} (hr : (f.part p).ranges = [o]) (hn : o.next < o.pages) (hp : o.pin = false)
    (hs : (f.ctx o.tag).segs = []) :
    Fabric.stepRange (fuel + 1) f p o.mbx = Fabric.stepRange fuel (f.setRanges p [o.allMissed]) p o.mbx := by
  simp [Fabric.setRanges, Fabric.stepRange, hr, Nat.not_le.mpr hn, Ctx.segOf, hs, Map.vals, hp, Fabric.updPart, updWhere, RangeOp.allMissed]

/-- The bitmap of the pages that a range missed (R125). -/
def RangeOp.bitmap (o : RangeOp) : List Word := (List.range (ceilDiv o.pages 64)).map fun i => w64 (maskOf o.missing / 2 ^ (64 * i))

/-- A range of PREFETCH_RANGE that is through completes its command with the pages missed and their bitmap (R125). -/
theorem Fabric.stepRange_through {fuel : Nat} (hr : (f.part p).ranges = [o]) (hn : o.pages ≤ o.next) (hp : o.pin = false)
    (hown : (f.mbx o.mbx).env.own = true) (hacc : (f.mbx o.mbx).accepted = true) :
    Fabric.stepRange (fuel + 1) f p o.mbx =
      (f.setRanges p []).complete o.mbx stOk (w64 o.missing.length) o.bitmap (ceilDiv o.pages 8) := by
  have ends : Fabric.stepRange (fuel + 1) f p o.mbx = f.endRange p o := by simp [Fabric.stepRange, hr, hn]
  rw [ends, ← Fabric.finish_inProgress (f := f.setRanges p []) hown hacc]
  simp [Fabric.endRange, hr, hp, Fabric.updPart, Fabric.setRanges, RangeOp.bitmap]

/-- A lone range outside every segment of a partition that does nothing else completes at once. -/
theorem Fabric.pumpRanges_outside (hruns : (f.part p).runs = []) (hwalks : (f.part p).walks = []) (hr : (f.part p).ranges = [o])
    (hn : o.next < o.pages) (hp : o.pin = false) (hs : (f.ctx o.tag).segs = []) (hown : (f.mbx o.mbx).env.own = true)
    (hacc : (f.mbx o.mbx).accepted = true) :
    f.pumpRanges p =
      (f.setRanges p []).complete o.mbx stOk (w64 o.allMissed.missing.length) o.allMissed.bitmap (ceilDiv o.pages 8) := by
  calc f.pumpRanges p = Fabric.stepRange (39998 + 1 + 1) f p o.mbx := by
        simp [Fabric.pumpRanges, Fabric.pumpDemand_idle hruns, hr, hwalks]
    _ = Fabric.stepRange (39998 + 1) (f.setRanges p [o.allMissed]) p o.allMissed.mbx := Fabric.stepRange_outside hr hn hp hs
    _ = _ := by
        rw [Fabric.stepRange_through (f := f.setRanges p [o.allMissed]) (o := o.allMissed) (by rw [Fabric.setRanges_part])
          (Nat.le_refl _) hp hown hacc, Fabric.setRanges_setRanges]
        rfl

/-- A range that is entered so, outside every segment, completes its command with all its pages missed (R125). -/
theorem Fabric.enterRange_outside (hp : tagPart o.tag = p) (hruns : (f.part p).runs = []) (hwalks : (f.part p).walks = [])
    (hranges : (f.part p).ranges = []) (hs : (f.ctx o.tag).segs = []) (hfresh : o.next = 0 ∧ o.missing = [] ∧ o.pin = false)
    (hn : 1 ≤ o.pages) (hown : (f.mbx o.mbx).env.own = true) (hacc : (f.mbx o.mbx).accepted = true) :
    (f.setRanges p ((f.part p).ranges ++ [o])).pumpRanges p =
      (f.setRanges p []).complete o.mbx stOk (w64 o.pages) o.allMissed.bitmap (ceilDiv o.pages 8) := by
  obtain ⟨hnext, hmissing, hpin⟩ := hfresh
  have missed : o.allMissed.missing.length = o.pages := by simp [RangeOp.allMissed, rangeFrom, hnext, hmissing]
  have part : (f.setRanges p [o]).part p = { f.part p with ranges := [o] } := Fabric.setRanges_part f p [o]
  have segs : ((f.setRanges p [o]).ctx o.tag).segs = [] := by rw [← hp, Fabric.setRanges_ctx]; exact hs
  have whole := Fabric.pumpRanges_outside (f := f.setRanges p [o]) (o := o) (by rw [part]; exact hruns) (by rw [part]; exact hwalks)
    (by rw [part]) (by omega) hpin segs hown hacc
  rw [missed, Fabric.setRanges_setRanges] at whole
  rw [hranges, List.nil_append, whole]

/-! ### ADVISE -/

/-- ADVISE past its checks: BUSY beyond 16 ranges, a range that waits for PIN, and else the advice is set. -/
theorem adviseBody_checked (ho : f.opensLive c = true) (hlen : c.len = 24) (hw : onlyBits (wd c.pay 0) [(56, 12)] = true)
    (hn : 1 ≤ wn c.pay 1) (h2 : onlyBits (wd c.pay 2) [(7, 0)] = true) (ha : fld (wd c.pay 2) 7 0 = a) (h4 : a ≤ 4)
    (hadv : adviseRanges (f.ctx c.tag).advice ((wd c.pay 0).toNat / 4096) (wn c.pay 1) a = adv) :
    adviseBody c f =
      if adv.length > 16 then (f, .done stBusy)
      else if a = 3 then
        (f.updPart (tagPart c.tag) fun x =>
          { x with ranges := x.ranges ++ [{ mbx := c.mbx, tag := c.tag, page := (wd c.pay 0).toNat / 4096,
                                            pages := min (wn c.pay 1) (2 ^ 45), pin := true }] }, .wait)
      else
        okay (((f.updPart (tagPart c.tag) fun x => x.noteLater c.tag (fun _ => true) ((wd c.pay 0).toNat / 4096) (wn c.pay 1) a).updCtx
          c.tag fun x => { x with advice := adv }).repin c.tag) adv.length := by
  have some_page : ¬ wn c.pay 1 = 0 := by omega
  simp [adviseBody, hlen, hw, h2, liveGate_opens ho, some_page, ha, Nat.not_lt.mpr h4, hadv]

/-- Setting the advice of a context sets that, and starts neither runs nor ranges. -/
theorem Fabric.advised_reads {page pages : Nat} (hr : (f.part (tagPart tag)).runs = []) (hg : (f.part (tagPart tag)).ranges = []) :
    let g := (((f.updPart (tagPart tag) fun x => x.noteLater tag (fun _ => true) page pages a).updCtx tag
      fun x => { x with advice := adv }).repin tag)
    (g.part (tagPart tag)).runs = [] ∧ (g.part (tagPart tag)).ranges = [] ∧ (g.ctx tag).advice = adv := by
  simp [Fabric.repin, Fabric.updCtx, Fabric.part_updPart_same, Fabric.ctx_updPart_same, Part.updCtx, Part.setCtx, Part.ctx, Part.noteLater,
    hr, hg, updWhere]

end Sys2Proof.Machine

namespace Sys2Proof.Proofs
open Sys2Proof.Machine

/-- Settles O13: each body past its checks; with nothing else in the partition, what it wakes runs to its end in the same step. -/
theorem resumeRangeAndAdvice : Obligations.ResumeRangeAndAdvice := by
  intro s c ht ho p w go adv range
  have resumes (hlen : c.len = 8) (hw : onlyBits w [(0, 0), (31, 16)] = true) (hs : (s.fab.ctx c.tag).state = .switchedOut) :
      withColls ctxResumeBody c (s.fab.begun c 0x0105) =
        okay (go ((s.fab.begun c 0x0105).resume c.tag (fld w 31 16) (bit w 0))) (s.fab.parkedCount c.tag (fld w 31 16)) :=
    withColls_of_body (ctxResumeBody_resumes (f := s.fab.begun c 0x0105) ho hlen hw hs)
  refine ⟨fun hlen hw hs => ?_, fun hlen hw hs => ?_, fun r q hlen hw hq hs hr hc htag hp hf => ?_,
    fun hlen hw hlo hhi => ?_, fun hlen hw hn h2 h4 => ?_⟩
  · exact goes_answers (withColls ctxResumeBody) ht rfl
      (withColls_of_body (ctxResumeBody_live (f := s.fab.begun c 0x0105) ho hlen hw hs))
  · exact goes_answers (withColls ctxResumeBody) ht rfl (by rw [resumes hlen hw hs]; rfl)
  · obtain ⟨fault, retry, fields⟩ := retryWord_fields hw hq
    obtain ⟨one, hruns, hcolls, hstate⟩ := Fabric.resume_only (f := s.fab.begun c 0x0105) hr hc hs htag hp hf
    have body := resumes hlen fields hs
    rw [fault, retry, show s.fab.parkedCount c.tag q = 1 from one, show go _ = _ from Fabric.pumpColls_idle hcolls] at body
    have goes : Goes (.ctxResume c) s (((s.fab.begun c 0x0105).resume c.tag q false).complete c.mbx stOk (w64 1) [] 0) :=
      goes_taken 0x0105 (withColls ctxResumeBody) ht rfl (by rw [body]; rfl)
    refine ⟨_, goes, ?_⟩
    simp only [Fabric.complete_part, Fabric.complete_ctx, Fabric.complete_mbx]
    exact ⟨hruns, hstate, rfl, rfl, rfl, trivial⟩
  · have enters : Goes (.prefetchRange c) s (range (wn c.pay 1) false 0x0106) :=
      goes_taken 0x0106 (withRanges prefetchRangeBody) ht rfl
        (by rw [withRanges_of_body (prefetchRangeBody_enters (f := s.fab.begun c 0x0106) ho hlen hw hlo hhi)]; rfl)
    refine ⟨enters, fun hsegs hranges hwalks hruns => ⟨_, enters, ?_⟩⟩
    let o : RangeOp := { mbx := c.mbx, tag := c.tag, page := w.toNat / 4096, pages := wn c.pay 1 }
    have owned : ((s.fab.begun c 0x0106).mbx c.mbx).env.own = true ∧ ((s.fab.begun c 0x0106).mbx c.mbx).accepted = true := by
      rw [Fabric.begun_mbx]
      exact ⟨rfl, rfl⟩
    have ended : range (wn c.pay 1) false 0x0106 =
        ((s.fab.begun c 0x0106).setRanges p []).complete c.mbx stOk (w64 (wn c.pay 1)) o.allMissed.bitmap (ceilDiv (wn c.pay 1) 8) :=
      Fabric.enterRange_outside (f := s.fab.begun c 0x0106) (o := o) rfl hruns hwalks hranges hsegs ⟨rfl, rfl, rfl⟩ hlo owned.1 owned.2
    simp only [ended, Fabric.complete_part, Fabric.complete_mbx]
    exact ⟨by rw [Fabric.setRanges_part], rfl, rfl, rfl, rfl, trivial⟩
  · have checked := adviseBody_checked (f := s.fab.begun c 0x0107) ho hlen hw hn h2 rfl h4 (adv := adv) rfl
    refine ⟨fun hfull => ?_, fun hfits hpin => ?_, fun hfits hset => ?_⟩
    · rw [if_pos hfull] at checked
      exact goes_answers (withRanges adviseBody) ht rfl (withRanges_of_body checked)
    · rw [if_neg (Nat.not_lt.mpr hfits), if_pos hpin] at checked
      exact goes_taken 0x0107 (withRanges adviseBody) ht rfl (by rw [withRanges_of_body checked]; rfl)
    · rw [if_neg (Nat.not_lt.mpr hfits), if_neg hset] at checked
      have goes : Goes (.advise c) s (s.fab.answers c 0x0107 (fun f => (((f.updPart p fun x =>
          x.noteLater c.tag (fun _ => true) (w.toNat / 4096) (wn c.pay 1) (fld (wd c.pay 2) 7 0)).updCtx c.tag
            fun x => { x with advice := adv }).repin c.tag).pumpRanges p) stOk adv.length) :=
        goes_answers (withRanges adviseBody) ht rfl (withRanges_of_body checked)
      refine ⟨goes, fun hranges hruns => ⟨_, goes, ?_⟩⟩
      obtain ⟨hr, hg, hadvice⟩ := Fabric.advised_reads (f := s.fab.begun c 0x0107) (tag := c.tag) (a := fld (wd c.pay 2) 7 0) (adv := adv)
        (page := w.toNat / 4096) (pages := wn c.pay 1) hruns hranges
      have idle := Fabric.pumpRanges_idle hr hg
      simp only [Fabric.answers, p, idle, Fabric.complete_ctx, Fabric.complete_mbx]
      exact ⟨hadvice, rfl, rfl, rfl, trivial⟩

end Sys2Proof.Proofs
end

section
/-!
SUPPORT. What an engine does where its partition has nothing else to do: it starts the descriptor of the only context with work
(R133, R135), and it issues a FILL tile to its own host die (R132, R145).
-/
namespace Sys2Proof.Machine

variable {f : Fabric} {h : Hdp} {p e sl m size va pa seg tile addr units : Nat} {x : Ctx} {r : Run} {t : Tile} {tx : HdpTx}
  {ws data : List Word}

/-! ### Context Tags and runs -/

theorem tagPart_mkTag {s g : Nat} (hp : p < 32) (hs : s < 64) (hg : g < 32) : tagPart (mkTag p s g) = p := by
  unfold tagPart mkTag
  omega

/-- Changing the only run of a partition leaves the changed run alone there. -/
theorem Fabric.runs_updRun_only {g : Run → Run} (hr : (f.part p).runs = [r]) : ((f.updRun p r.id g).part p).runs = [g r] := by
  simp [Fabric.updRun, Fabric.part_updPart_same, hr, updWhere]

/-- A run with a tile in flight is not over. -/
theorem Fabric.runOver_inFlight (ht : r.tiles ≠ []) : f.runOver p r = false := by simp [Fabric.runOver, ht]

theorem Run.total_fence (hp : r.pageMove = false) (hk : dKind r.words = 6) : r.total = 0 := by simp [Run.total, hp, hk]

/-- A run without an outcome that has positions left to issue is not over. -/
theorem Fabric.runOver_unissued (hf : r.fin = none) (hp : r.pageMove = false) (hn : r.nextPos < r.total) : f.runOver p r = false := by
  have notFence : dKind r.words ≠ 6 := fun hk => by
    rw [Run.total_fence hp hk] at hn
    exact Nat.not_lt_zero _ hn
  simp [Fabric.runOver, hf, hp, notFence, hn]

/-! ### Starting the only candidate -/

/-- The device after a lone candidate of a partition has gained its weight and paid it (R135). -/
def Fabric.takeTurn (f : Fabric) (p sl weight : Nat) : Fabric :=
  (f.updPart p fun y => y.updCtx sl fun d => { d with rr := d.rr + d.weight }).updPart p fun y =>
    y.updCtx sl fun d => { d with rr := d.rr - weight }

@[simp] theorem Fabric.takeTurn_tick (f : Fabric) (p sl w : Nat) : (f.takeTurn p sl w).tick = f.tick := rfl
@[simp] theorem Fabric.takeTurn_hdp (f : Fabric) (p sl w : Nat) : (f.takeTurn p sl w).hdp = f.hdp := rfl
@[simp] theorem Fabric.takeTurn_mbxs (f : Fabric) (p sl w : Nat) : (f.takeTurn p sl w).mbxs = f.mbxs := rfl

/-- A turn changes nothing of a partition but the candidate's count. -/
theorem Fabric.takeTurn_part (f : Fabric) (p sl weight : Nat) :
    ∃ cs, (f.takeTurn p sl weight).part p = { f.part p with ctxs := cs } := by
  simp only [Fabric.takeTurn, Fabric.part_updPart_same]
  exact ⟨_, rfl⟩

/-- What is startable rests on the issued descriptors, the lists and the runs of the tag's partition. -/
theorem Fabric.startable_congr {g : Fabric} {tag : Nat} {cs : Map Ctx}
    (h : g.part (tagPart tag) = { f.part (tagPart tag) with ctxs := cs }) : g.startable tag = f.startable tag := by
  simp only [Fabric.startable, h]

/-- A free engine starts the descriptor of the only context with work (R133, R135). -/
theorem Fabric.startDescriptor_lone (he : e < 6) (hd : (f.part p).draining = false) (hoff : (f.part p).disabled = false)
    (hr : (f.part p).runs = []) (hres : (f.part p).eResets = []) (hc : f.candidates p = [(sl, x)])
    (hx : (f.part p).ctx sl = x) (ht : tagPart (mkTag p sl x.gen) = p)
    (hs : f.startable (mkTag p sl x.gen) = some (.mailbox m, ws, false)) :
    f.startDescriptor p e = (f.takeTurn p sl x.weight).startRun p e (mkTag p sl x.gen) (.mailbox m) ws false := by
  obtain ⟨cs, hpart⟩ := f.takeTurn_part p sl x.weight
  have engineFree : (f.part p).onEngine e = none := by simp [Part.onEngine, hr]
  have sameGen : (((f.updPart p fun y => y.updCtx sl fun d => { d with rr := d.rr + d.weight }).part p).ctx sl).gen = x.gen := by
    simp [Fabric.part_updPart_same, Part.updCtx, Part.setCtx, Part.ctx, ← hx]
  have noneReady : (f.takeTurn p sl x.weight).readyRun (mkTag p sl x.gen) = none := by
    simp [Fabric.readyRun, ht, hpart, hr]
  have starts : (f.takeTurn p sl x.weight).startable (mkTag p sl x.gen) = some (.mailbox m, ws, false) := by
    rw [Fabric.startable_congr (f := f) (cs := cs) (by rw [ht, hpart]), hs]
  have turn : ((f.updPart p fun y => y.updCtx sl fun d => { d with rr := d.rr + d.weight }).updPart p fun y =>
      y.updCtx sl fun d => { d with rr := d.rr - x.weight }) = f.takeTurn p sl x.weight := rfl
  simp [Fabric.startDescriptor, engineFree, hd, hoff, hres, Nat.not_le.mpr he, hc, sameGen, turn, noneReady, starts]

/-- The run of a mailbox-issued descriptor that an engine starts. -/
def Fabric.newRun (f : Fabric) (p e tag m : Nat) (ws : List Word) : Run :=
  { id := (f.part p).nextRun, tag := tag, src := .mailbox m, words := ws, phase := .running e, startTick := f.tick,
    lastProgress := f.tick, lastEng := e, cmdId := f.cmdIdOf p (.mailbox m) }

/-- The device where the descriptor that a mailbox issued has become the only run of its partition. -/
def Fabric.putRun (f : Fabric) (p m : Nat) (r : Run) : Fabric :=
  (f.setPart p { f.part p with runs := [r], nextRun := (f.part p).nextRun + 1 }).updPart p fun y =>
    { y with issued := y.issued.filter fun i => i.mbx != m }

@[simp] theorem Fabric.putRun_tick (f : Fabric) (p m : Nat) (r : Run) : (f.putRun p m r).tick = f.tick := rfl
@[simp] theorem Fabric.putRun_hdp (f : Fabric) (p m : Nat) (r : Run) : (f.putRun p m r).hdp = f.hdp := rfl
@[simp] theorem Fabric.putRun_mbxs (f : Fabric) (p m : Nat) (r : Run) : (f.putRun p m r).mbxs = f.mbxs := rfl
@[simp] theorem Fabric.putRun_runs (f : Fabric) (p m : Nat) (r : Run) : ((f.putRun p m r).part p).runs = [r] := by
  rw [Fabric.putRun, Fabric.part_updPart_same]
  simp [Fabric.part]

/-- A well-formed descriptor that is not empty runs from position 0 when it starts. -/
theorem Fabric.startRun_wellFormed {tag : Nat} (hr : (f.part p).runs = []) (hne : ws ≠ []) (hb : descBad ws = false)
    (hn : (f.newRun p e tag m ws).total ≠ 0) :
    f.startRun p e tag (.mailbox m) ws false = f.putRun p m (f.newRun p e tag m ws) := by
  have starts : f.startRun p e tag (.mailbox m) ws false = (f.putRun p m (f.newRun p e tag m ws)).settleAll p := by
    simp [Fabric.startRun, hr, hne, hb, Fabric.newRun, Fabric.putRun]
  rw [starts, Fabric.settleAll_idle]
  intro r hmem
  rw [Fabric.putRun_runs, List.mem_singleton] at hmem
  rw [hmem]
  exact Fabric.runOver_unissued rfl rfl (Nat.pos_of_ne_zero hn)

/-! ### What a tile to the own host die sends -/

/-- A span inside one 4 KiB page is one piece (R56). -/
theorem pieces_single {fuel a : Nat} (h0 : 0 < units) (h1 : units ≤ 64 - a / 64 % 64) : pieces (fuel + 2) a 0 units = [(a, 0, units)] := by
  have whole : min units (64 - a / 64 % 64) = units := Nat.min_eq_left h1
  simp [pieces, whole, Nat.ne_of_gt h0]

@[simp] theorem takePad_length (l : List Word) : takePad l.length l = l := by
  induction l with
  | nil => rfl
  | cons w l ih => simp [takePad, ih]

/-- Whole units inside one 4 KiB page are written by one MEM_WR. -/
theorem Fabric.hdpWrite_single {why : Nat → Purpose} {conf notice : Bool} (hd : data.length = 8 * units) (h0 : 0 < units)
    (h1 : units ≤ 64 - addr / 64 % 64) :
    f.hdpWrite addr data why conf notice =
      f.hdpSend { kind := .memWr, addr := addr, units := units, data := data, conf := conf, notice := notice, purpose := why 0 } := by
  have all : ceilDiv data.length 8 = units := by unfold ceilDiv; omega
  simp [Fabric.hdpWrite, all, pieces_single h0 h1, ← hd]

/-- A transaction of a class with credit is outstanding under the tag it gets (R58). -/
theorem Hdp.send_outstanding (hc : h.credit tx.kind ≠ 0) : ∃ g, (h.send tx).outstanding = h.outstanding ++ [{ tx with tag := g }] := by
  refine ⟨pickTag 600 h.nextTag h.outstanding, ?_⟩
  have kept (n : Nat) (bs : List Beat) : ((h.setCredit tx.kind n).place bs).outstanding = h.outstanding := by cases tx.kind <;> rfl
  simp [Hdp.send, hc, kept]

/-! ### A FILL tile to the own host die -/

/-- A tile's write to this device goes to the host die (R136). -/
theorem Fabric.tileWrite_own {hdpConf flitConf : Bool} (ho : f.own pa = true) :
    f.tileWrite p r tile pa data hdpConf flitConf =
      (f.updTile p r.id tile fun t => { t with pend := pieceCount (paLocal pa) (ceilDiv data.length 8) }).hdpWrite (paLocal pa) data
        (fun _ => .tileWr p r.id tile) hdpConf := by
  have here : paNode pa = f.rtr.seated := by simpa [Fabric.own] using ho
  simp [Fabric.tileWrite, here]

@[simp] theorem Fabric.addTile_own (f : Fabric) (p : Nat) (r : Run) (t : Tile) (pa : Nat) : (f.addTile p r t).own pa = f.own pa := rfl

/-- The tile of a FILL at its run's present position. -/
def Run.fillTile (r : Run) (size va pa seg : Nat) : Tile :=
  { id := 0, pos := r.nextPos, size := size, phase := .write, dstVa := va, dstPa := pa, uses := [(seg, va, 64 * size)] }

/-- The device with a FILL tile in its run, which waits for `n` answers. -/
def Fabric.addFill (f : Fabric) (p : Nat) (r : Run) (size va pa seg n : Nat) : Fabric :=
  (f.addTile p r (r.fillTile size va pa seg)).updTile p r.id r.nextTile fun t => { t with pend := n }

@[simp] theorem Fabric.addFill_hdp (f : Fabric) (p : Nat) (r : Run) (size va pa seg n : Nat) :
    (f.addFill p r size va pa seg n).hdp = f.hdp := rfl

/-- The write of a FILL tile: its units at the page's address, filled with the pattern. -/
def Run.fillTx (r : Run) (p size pa : Nat) : HdpTx :=
  { kind := .memWr, addr := paLocal pa, units := size, data := List.replicate (8 * size) (wd r.words 1),
    purpose := .tileWr p r.id r.nextTile }

/-- A FILL tile without the hall pass to an unsealed page of this device is added to its run and sent as one MEM_WR (R145,
Table 4.6). -/
theorem Fabric.issueFill_own (hh : r.hp = false) (hc : f.check r.tag va .write = .ok pa false seg) (ho : f.own pa = true)
    (h0 : 0 < size) (h1 : size ≤ 64 - paLocal pa / 64 % 64) :
    ∃ n, f.issueFill p r size va = (f.addFill p r size va pa seg n).hdpSend (r.fillTx p size pa) := by
  refine ⟨pieceCount (paLocal pa) (ceilDiv (List.replicate (8 * size) (wd r.words 1)).length 8), ?_⟩
  simp only [Fabric.issueFill, hc, Fabric.hpGate, hh, Fabric.addTile_own, ho, Bool.not_false, Bool.false_eq_true, if_true, if_false,
    Fabric.addFill, Run.fillTile, Run.fillTx]
  rw [Fabric.tileWrite_own (f := f.addTile p r _) ho, Fabric.hdpWrite_single (by simp) h0 h1]

/-- Adding a tile to the only run leaves that run alone, with the tile behind its others. -/
theorem Fabric.addTile_runs (hr : (f.part p).runs = [r]) :
    ∃ r', ((f.addTile p r t).part p).runs = [r'] ∧ r'.id = r.id ∧ r'.tiles = r.tiles ++ [{ t with id := r.nextTile }] := by
  refine ⟨_, Fabric.runs_updRun_only (f := f.count p _) ?_, rfl, rfl⟩
  rw [Fabric.count, Fabric.part_updPart_same]
  exact hr

/-- After a FILL tile is added to the only run, that run is in flight and none of its tiles is blocked. -/
theorem Fabric.addFill_runs {n : Nat} (hr : (f.part p).runs = [r]) (hb : ∀ t ∈ r.tiles, t.blocked = false) :
    ∀ r' ∈ ((f.addFill p r size va pa seg n).part p).runs, r'.tiles ≠ [] ∧ ∀ t ∈ r'.tiles, t.blocked = false := by
  obtain ⟨r₁, added, sameId, tiles⟩ := Fabric.addTile_runs (t := r.fillTile size va pa seg) hr
  have runs := Fabric.runs_updRun_only (g := fun r' => { r' with tiles := updWhere r'.tiles (fun y => y.id == r.nextTile) fun t =>
    { t with pend := n } }) added
  rw [sameId] at runs
  intro r' hr'
  rw [Fabric.addFill, Fabric.updTile, runs, List.mem_singleton] at hr'
  subst hr'
  refine ⟨by simp [updWhere, tiles], fun t ht => ?_⟩
  obtain ⟨u, hu, rfl⟩ := List.mem_map.mp ht
  have unblocked : u.blocked = false := by
    rw [tiles] at hu
    obtain hu | hu := List.mem_append.mp hu
    · exact hb u hu
    · rw [List.mem_singleton.mp hu]
      rfl
  split <;> exact unblocked

/-- Where every run has tiles in flight of which none is blocked, nothing goes on. -/
theorem Fabric.moveOn_idle (h : ∀ r ∈ (f.part p).runs, r.tiles ≠ [] ∧ ∀ t ∈ r.tiles, t.blocked = false) : f.moveOn p = f := by
  have noneWakes : f.hpWake p = f := by
    have noneReady : ∀ r ∈ (f.part p).runs, r.tiles.any (·.blocked) = false := fun r hr => by simpa using (h r hr).2
    rw [Fabric.hpWake, List.flatMap_eq_nil_iff.mpr fun r hr => by simp [noneReady r hr], List.foldl_nil]
  rw [Fabric.moveOn, noneWakes, Fabric.settleAll_idle fun r hr => Fabric.runOver_inFlight (h r hr).1]

/-- An engine whose FILL has a tile to issue issues it, and what waits goes on (R132). -/
theorem Fabric.issueTile_fill (he : (f.part p).onEngine e = some r) (hf : r.fin = none) (hst : (f.part p).stalled = [])
    (hh : r.hp = false) (hp : r.pageMove = false) (hk : dKind r.words = 4) (hn : r.next = .tile size 0 va) :
    f.issueTile p e = (f.issueFill p r size va).moveOn p := by
  simp [Fabric.issueTile, he, hf, hst, hh, hp, hk, hn]

end Sys2Proof.Machine

namespace Sys2Proof.Proofs
open Sys2Proof.Machine

/-- Settles O15: the only context with work wins its turn and its descriptor is not over at position 0; a FILL tile inside one page
is one MEM_WR, and the tile that it leaves in flight lets nothing else go on. -/
theorem engineStartsAndIssues : Obligations.EngineStartsAndIssues := by
  refine ⟨?_, ?_⟩
  · intro s p e sl m x ws hl he hd hoff hr hres hp hsl hg hx hc hs hne hb hn
    have start := Fabric.startDescriptor_lone he hd hoff hr hres hc hx (tagPart_mkTag hp hsl hg) hs
    obtain ⟨cs, hpart⟩ := s.fab.takeTurn_part p sl x.weight
    rw [Fabric.startRun_wellFormed (by rw [hpart]; exact hr) hne hb hn] at start
    refine ⟨_, goes_event (fun f => f.startDescriptor p e) hl rfl start,
      (s.fab.takeTurn p sl x.weight).newRun p e (mkTag p sl x.gen) m ws, ?_⟩
    simp [Part.onEngine, Fabric.newRun, RunPhase.eng]
  · intro s p e size va pa seg r hl hr hphase hfin hb hst hpm hk hhp hn hc ho h0 h1 hcredit
    have onEngine : (s.fab.part p).onEngine e = some r := by simp [Part.onEngine, hr, hphase, RunPhase.eng]
    have noPass : r.hp = false := by simp [Run.hp, hhp]
    obtain ⟨n, issued⟩ := Fabric.issueFill_own noPass hc ho h0 h1
    have alone : s.fab.issueTile p e = (s.fab.addFill p r size va pa seg n).hdpSend (r.fillTx p size pa) := by
      rw [Fabric.issueTile_fill onEngine hfin hst noPass hpm hk hn, issued, Fabric.moveOn_idle]
      exact Fabric.addFill_runs hr hb
    obtain ⟨tag, sent⟩ := Hdp.send_outstanding (h := s.fab.hdp) (tx := r.fillTx p size pa) (Nat.ne_of_gt hcredit)
    exact ⟨_, goes_event (fun f => f.issueTile p e) hl rfl alone, { r.fillTx p size pa with tag := tag }, sent, rfl, rfl, rfl, rfl, rfl⟩

end Sys2Proof.Proofs
end

section
/-!
SUPPORT. The transfer commands (R79, R139 to R141): each body past its checks.
-/
namespace Sys2Proof.Machine

variable {f : Fabric} {c : Cmd} {op : Nat} {l : WList} {ws : List Word} {pm : Bool}

/-! ### Issuing -/

/-- The device where a mailbox-issued descriptor is the next of its partition to start, counted by entry 16 (R133, R139, R171). -/
def Fabric.issues (f : Fabric) (c : Cmd) (cmdId : Nat) (ws : List Word) (pm : Bool) : Fabric :=
  f.updPart (tagPart c.tag) fun x =>
    { x with issued := { mbx := c.mbx, tag := c.tag, words := ws, pageMove := pm } :: x.issued,
             entries := x.entries.set 16 { cmdId := cmdId, busy := true } }

/-- An accepted command issues its descriptor under its command ID, and waits. -/
theorem Fabric.issueOne_begun :
    (f.begun c op).issueOne c ws pm = ((f.begun c op).issues c (f.acceptedEnv c op).cmdId.toNat ws pm, .wait) := by
  simp [Fabric.issueOne, Fabric.issues]

theorem submitListBody_reads (ho : f.opensLive c = true) (hlen : c.len = 8) (hw : onlyBits (wd c.pay 0) [(47, 6)] = true) :
    submitListBody c f = (f.hdpRead (wn c.pay 0) 1 fun _ => .listHeader c.mbx, .wait) := by
  simp [submitListBody, hlen, hw, liveGate_opens ho]

theorem xferOneBody_issues (ho : f.opensLive c = true) (hlen : c.len = 64) :
    xferOneBody c f = f.issueOne c (takePad 8 c.pay) false := by
  simp [xferOneBody, hlen, liveGate_opens ho]

theorem pageMoveBody_issues (ho : f.opensLive c = true) (hlen : c.len = 48) (hs : (f.ctx c.tag).state = .live) :
    pageMoveBody c f = f.issueOne c (takePad 6 c.pay) true := by
  simp [pageMoveBody, hlen, liveGate_opens ho, hs]

/-! ### Status and cancel -/

/-- The list that a payload names to LIST_STATUS and LIST_CANCEL (R140). -/
def Fabric.named (f : Fabric) (c : Cmd) : Option WList := (f.part (tagPart c.tag)).listNamed c.tag (wd c.pay 0)

theorem listStatusBody_unknown (ho : f.opens c = true) (hlen : c.len = 8) (hn : f.named c = none) :
    listStatusBody c f = (f, .done stOk 0 (zeros 4) 32) := by
  unfold Fabric.named at hn
  simp [listStatusBody, hlen, ctxGate_opens ho, hn]

theorem listStatusBody_known (ho : f.opens c = true) (hlen : c.len = 8) (hn : f.named c = some l) :
    listStatusBody c f =
      (f, .done stOk 0 [w64 l.cmdId, pack [(63, 32, l.lowest + l.ended.length), (4, 0, l.entry)], w64 l.state, 0] 32) := by
  unfold Fabric.named at hn
  simp [listStatusBody, hlen, ctxGate_opens ho, hn]

theorem listCancelBody_unknown (ho : f.opens c = true) (hlen : c.len = 8) (hn : f.named c = none) : listCancelBody c f = okay f := by
  unfold Fabric.named at hn
  simp [listCancelBody, hlen, ctxGate_opens ho, hn]

/-- LIST_CANCEL of a list that is finished changes nothing (R141). -/
theorem listCancelBody_finished (ho : f.opens c = true) (hlen : c.len = 8) (hn : f.named c = some l) (hf : l.finished = true) :
    listCancelBody c f = okay f := by
  unfold Fabric.named at hn
  simp [listCancelBody, hlen, ctxGate_opens ho, hn, hf]

/-- LIST_CANCEL of a list that is not finished cancels it and waits for its end (R141). -/
theorem listCancelBody_open (ho : f.opens c = true) (hlen : c.len = 8) (hn : f.named c = some l) (hf : l.finished = false) :
    listCancelBody c f =
      ((f.updList (tagPart c.tag) l.id fun l => { l with cancelMbx := l.cancelMbx ++ [c.mbx] }).cancelList (tagPart c.tag) l, .wait) := by
  unfold Fabric.named at hn
  simp [listCancelBody, hlen, ctxGate_opens ho, hn, hf]

end Sys2Proof.Machine

namespace Sys2Proof.Proofs
open Sys2Proof.Machine

/-- Settles O14: each body past its checks, on the begun device. -/
theorem transferCommandsAreTaken : Obligations.TransferCommandsAreTaken := by
  intro s c ht p issue known
  have issues {mk : Instr} {op : Nat} {body : Body} {ws : List Word} {pm : Bool} (hi : exec mk s = s.command c op body)
      (h : body c (s.fab.begun c op) = (s.fab.begun c op).issueOne c ws pm) : Goes mk s (issue op ws pm) :=
    goes_taken op body ht hi (by rw [h, Fabric.issueOne_begun]; rfl)
  refine ⟨fun ho hlen hw => ?_, fun ho hlen => ?_, fun ho hlen hs => ?_, fun ho hlen hn => ⟨?_, ?_⟩, fun l ho hlen hn => ⟨?_, ?_, ?_⟩⟩
  · exact goes_taken 0x0200 submitListBody ht rfl (by rw [submitListBody_reads (f := s.fab.begun c 0x0200) ho hlen hw, Fabric.ended_wait])
  · exact issues (op := 0x0201) (body := xferOneBody) rfl (xferOneBody_issues (f := s.fab.begun c 0x0201) ho hlen)
  · exact issues (op := 0x0404) (body := pageMoveBody) rfl (pageMoveBody_issues (f := s.fab.begun c 0x0404) ho hlen hs)
  · exact goes_answers (change := id) listStatusBody ht rfl (listStatusBody_unknown (f := s.fab.begun c 0x0202) ho hlen hn)
  · exact goes_answers (change := id) listCancelBody ht rfl (listCancelBody_unknown (f := s.fab.begun c 0x0203) ho hlen hn)
  · exact goes_answers (change := id) listStatusBody ht rfl (listStatusBody_known (f := s.fab.begun c 0x0202) ho hlen hn)
  · exact fun hf => goes_answers (change := id) listCancelBody ht rfl
      (listCancelBody_finished (f := s.fab.begun c 0x0203) ho hlen hn hf)
  · exact fun hf => goes_taken 0x0203 listCancelBody ht rfl
      (by rw [listCancelBody_open (f := s.fab.begun c 0x0203) ho hlen hn hf, Fabric.ended_wait])

end Sys2Proof.Proofs
end

section
/-!
SUPPORT. Answers at the source of a request (R136, R170, R427), and credits and grants between two nodes (R281 to R283).
-/
namespace Sys2Proof.Machine

variable {f : Fabric} {m : Msg} {q : Request} {r : Run} {t : Tile} {serve : Fabric → Request → Fabric}

/-! ### Answers -/

/-- The device after it has taken an answer off the inbox and counted the credits that ride on it. -/
def Fabric.credited (f : Fabric) (m : Msg) : Fabric := (f.takeMsg m).1.takeCredits m

/-- An answer of no open request is discarded late (R170). -/
theorem Fabric.responseMsg_late (h : (f.credited m).openFor m = none) :
    f.responseMsg m serve = (f.credited m).lateArrival m.tag m.reqId := by
  unfold Fabric.credited at h
  simp [Fabric.responseMsg, Fabric.credited, h]

/-- An answer of an open request closes it and serves its tile (R136). -/
theorem Fabric.responseMsg_open (h : (f.credited m).openFor m = some q) :
    f.responseMsg m serve = serve ((f.credited m).closeRequest m.reqId) q := by
  unfold Fabric.credited at h
  simp [Fabric.responseMsg, Fabric.credited, h]

/-- The three answers are one event with its kind: each of them is late where no request of its context is open. -/
theorem goes_lateAnswer {s : State} {mk : Msg → Instr} {kind : MsgKind} (hl : s.fab.live = true)
    (hmk : mk = .wack ∧ kind = .wack ∨ mk = .rdata ∧ kind = .rdata ∨ mk = .aold ∧ kind = .aold)
    (h : (s.fab.credited { m with kind := kind }).openFor { m with kind := kind } = none) :
    Goes (mk m) s ((s.fab.credited { m with kind := kind }).lateArrival m.tag m.reqId) := by
  obtain ⟨rfl, rfl⟩ | ⟨rfl, rfl⟩ | ⟨rfl, rfl⟩ := hmk
  · exact goes_event (fun f => f.wackMsg { m with kind := .wack }) hl rfl (Fabric.responseMsg_late h)
  · exact goes_event (fun f => f.rdataMsg { m with kind := .rdata }) hl rfl (Fabric.responseMsg_late h)
  · exact goes_event (fun f => f.aoldMsg { m with kind := .aold }) hl rfl (Fabric.responseMsg_late h)

theorem Fabric.wackMsg_open (h : (f.credited m).openFor m = some q) :
    f.wackMsg m = ((f.credited m).closeRequest m.reqId).tileAnswer q.part q.run q.tile id :=
  Fabric.responseMsg_open h

theorem Fabric.rdataMsg_sound (h : (f.credited m).openFor m = some q) (hp : m.poison = false) :
    f.rdataMsg m = ((f.credited m).closeRequest m.reqId).tileAnswer q.part q.run q.tile fun t => t.put 0 m.data := by
  rw [Fabric.rdataMsg, Fabric.responseMsg_open h, hp]
  rfl

/-- Poisoned read data poisons its tile, with the address that the tile read (R560). -/
theorem Fabric.rdataMsg_poison (h : (f.credited m).openFor m = some q) (hp : m.poison = true)
    (hr : ((f.credited m).closeRequest m.reqId).run q.part q.run = some r) (ht : (r.tiles.find? fun t => t.id == q.tile) = some t) :
    f.rdataMsg m = ((f.credited m).closeRequest m.reqId).tilePoison q.part q.run q.tile t.readPa := by
  rw [Fabric.rdataMsg, Fabric.responseMsg_open h]
  simp [hp, hr, ht]

/-- Old values are elements of the width that the descriptor's atomic operation has (Table 4.7). -/
theorem Fabric.aoldMsg_open (h : (f.credited m).openFor m = some q)
    (hr : ((f.credited m).closeRequest m.reqId).run q.part q.run = some r) :
    f.aoldMsg m = ((f.credited m).closeRequest m.reqId).tileAnswer q.part q.run q.tile fun t =>
      { t with old := t.old.setList 0 ((List.range t.size).map fun i => w64 (elemAt m.data (atopWidth (dAtop r.words)) i)) } := by
  rw [Fabric.aoldMsg, Fabric.responseMsg_open h]
  simp [hr]

/-! ### Credits and grants -/

/-- A source gets as many grant blocks as it asks for, up to the pool and to MAX_WIN (R282). -/
theorem Fabric.grantReq_grants (f : Fabric) (m : Msg) :
    f.grantReq m =
      let d := f.dstState m.src
      let n := min m.blocks (min (f.rtr.grantPool / 64) ((f.rtr.maxWin - f.rtr.base) / 64 - d.grant))
      ((f.takeMsg m).1.setDst m.src { d with grant := d.grant + n }).respond
        { kind := .credit, dst := m.src, src := 0, cls := 1, grant := n } := by
  obtain ⟨inbox, k, taken⟩ := f.takeMsg_eq m
  have sameDst : (f.takeMsg m).1.dstState m.src = f.dstState m.src := by rw [taken]; rfl
  have samePool : (f.takeMsg m).1.rtr.grantPool = f.rtr.grantPool := by rw [taken]; rfl
  have sameWin : (f.takeMsg m).1.rtr.maxWin = f.rtr.maxWin ∧ (f.takeMsg m).1.rtr.base = f.rtr.base := by rw [taken]; exact ⟨rfl, rfl⟩
  simp only [Fabric.grantReq, sameDst, samePool, sameWin]

/-- Gathered credits leave from 64 on, or 128 ref ticks after the first of them (R283). -/
theorem Fabric.creditFlush_eq (f : Fabric) (n : Nat) :
    f.creditFlush n =
      if 64 ≤ (f.dstState n).credits ∨ (0 < (f.dstState n).credits ∧ (f.dstState n).creditSince + 128 ≤ f.tick) then
        f.respond { kind := .credit, dst := n, src := 0, cls := 1 }
      else f := by
  simp [Fabric.creditFlush]

/-- A grant is taken back 2,048 ref ticks after the source's last arrival (R282). -/
theorem Fabric.grantReclaim_eq (f : Fabric) (n : Nat) :
    f.grantReclaim n =
      if 0 < (f.dstState n).grant ∧ (f.dstState n).lastArrival + 2048 ≤ f.tick then f.setDst n { f.dstState n with grant := 0 } else f := by
  simp [Fabric.grantReclaim]

/-- A grant that has no credit outstanding is given up 1,024 ref ticks after the last flit (R282). -/
theorem Fabric.grantRelease_eq (f : Fabric) (n : Nat) :
    f.grantRelease n =
      if 0 < (f.srcState n).grant ∧ (f.srcState n).used = 0 ∧ (f.srcState n).lastSend + 1024 ≤ f.tick then
        f.setSrc n { f.srcState n with grant := 0 }
      else f := by
  simp [Fabric.grantRelease, and_assoc]

end Sys2Proof.Machine

namespace Sys2Proof.Proofs
open Sys2Proof.Machine

/-- Settles O38: each answer is one lemma of what it does to its request; each timed event is decided by its condition. -/
theorem answersCreditsAndGrants : Obligations.AnswersCreditsAndGrants := by
  refine ⟨?_, ?_⟩
  · intro s m0 mk kind hl hmk
    have pairs : mk = .wack ∧ kind = .wack ∨ mk = .rdata ∧ kind = .rdata ∨ mk = .aold ∧ kind = .aold := by simpa using hmk
    refine ⟨fun h => goes_lateAnswer hl pairs h, fun q h hk => ?_, fun q h hk hp => ?_, fun q r t h hk hp hr ht => ?_,
      fun q r h hk hr => ?_⟩ <;> subst hk
    · obtain rfl : mk = .wack := by simpa using pairs
      exact goes_event (fun f => f.wackMsg { m0 with kind := .wack }) hl rfl (Fabric.wackMsg_open h)
    · obtain rfl : mk = .rdata := by simpa using pairs
      exact goes_event (fun f => f.rdataMsg { m0 with kind := .rdata }) hl rfl (Fabric.rdataMsg_sound h hp)
    · obtain rfl : mk = .rdata := by simpa using pairs
      exact goes_event (fun f => f.rdataMsg { m0 with kind := .rdata }) hl rfl (Fabric.rdataMsg_poison h hp hr ht)
    · obtain rfl : mk = .aold := by simpa using pairs
      exact goes_event (fun f => f.aoldMsg { m0 with kind := .aold }) hl rfl (Fabric.aoldMsg_open h hr)
  · intro s hl f
    refine ⟨fun m => goes_event (fun f => f.creditMsg { m with kind := .credit }) hl rfl rfl,
      fun m => goes_event (fun f => f.grantReq { m with kind := .grantReq }) hl rfl (Fabric.grantReq_grants f { m with kind := .grantReq }),
      fun n => ⟨fun h => ?_, fun h => ?_, fun hg ht => ?_, fun h => ?_⟩, fun n => ⟨fun hg hu ht => ?_, fun h => ?_⟩⟩
    · exact goes_event (fun f => f.creditFlush n) hl rfl ((Fabric.creditFlush_eq f n).trans (if_pos h))
    · exact goes_event (fun f => f.creditFlush n) hl rfl ((Fabric.creditFlush_eq f n).trans (if_neg h))
    · exact goes_event (fun f => f.grantReclaim n) hl rfl ((Fabric.grantReclaim_eq f n).trans (if_pos ⟨hg, ht⟩))
    · exact goes_event (fun f => f.grantReclaim n) hl rfl ((Fabric.grantReclaim_eq f n).trans (if_neg (by omega)))
    · exact goes_event (fun f => f.grantRelease n) hl rfl ((Fabric.grantRelease_eq f n).trans (if_pos ⟨hg, hu, ht⟩))
    · exact goes_event (fun f => f.grantRelease n) hl rfl ((Fabric.grantRelease_eq f n).trans (if_neg (by omega)))

end Sys2Proof.Proofs
end

section
/-!
SUPPORT. Groups, expert maps, journals and the Bell count (R203, R204, R233, R235, R236): each body past its checks.
-/
namespace Sys2Proof.Machine

variable {f : Fabric} {c : Cmd} {g : Group}

/-- A well-formed command whose context is live passes the checks of a live context. -/
theorem liveGate_wellFormed {bad : Bool} (hb : bad = false) (ho : f.opensLive c = true) (len : Nat) (k : Fabric → Fabric × Reply) :
    liveGate bad len c f k = k f := by
  rw [hb, liveGate_opens ho]

/-! ### GROUP_SET and EMAP_SET -/

/-- The nodes at the positions of a mask along an axis, below the axis length, that share the chip's other two coordinates (R203). -/
def Fabric.axisMembers (f : Fabric) (axis lo : Nat) : List Nat :=
  let me := f.rtr.seated
  ((bitsOf lo 32).filter (· < f.rtr.len axis)).map fun k =>
    mkNode (if axis = 0 then k else coord 0 me) (if axis = 1 then k else coord 1 me) (if axis = 2 then k else coord 2 me)

/-- A posted collective of a partition uses a group slot (R204). -/
def Fabric.groupInUse (f : Fabric) (p slot : Nat) : Bool := (f.part p).colls.any fun k => fld (wd k.words 4) 52 48 == slot

/-- A well-formed GROUP_SET of one axis writes the group of the axis' members. -/
theorem groupSetBody_axis {axis slot lo : Nat} (ho : f.opensLive c = true) (hlen : c.len = 40) (ha : axis < 3) (hs : slot < 32)
    (hlo : lo < 2 ^ 32) (hpay : c.pay = [pack [(13, 12, axis), (9, 8, 0), (4, 0, slot)], 0, w64 lo, 0, 0])
    (hu : f.groupInUse (tagPart c.tag) slot = false) :
    groupSetBody c f =
      (f.setGroup (tagPart c.tag) slot c.mbx { kind := 0, axis := axis, ring := false, members := f.axisMembers axis lo }, .wait) := by
  have w0 : wd c.pay 0 = pack [(13, 12, axis), (9, 8, 0), (4, 0, slot)] := by rw [hpay]; rfl
  have w1 : wd c.pay 1 = 0 := by rw [hpay]; rfl
  have w2 : wn c.pay 2 = lo := by rw [hpay]; exact toNat_w64 (by omega)
  have w3 : wn c.pay 3 = 0 := by rw [hpay]; rfl
  have w4 : wd c.pay 4 = 0 := by rw [hpay]; rfl
  have fields : onlyBits (wd c.pay 0) [(17, 16), (13, 12), (9, 8), (4, 0)] = true := by rw [w0]; exact onlyBits_pack (by simp)
  have isKind : fld (wd c.pay 0) 9 8 = 0 := by simp (disch := simp) [w0, fld_pack_cons_other, fld_pack_cons_same]
  have isAxis : fld (wd c.pay 0) 13 12 = axis := by simp (disch := simp) [w0, fld_pack_cons_same]; omega
  have isSlot : fld (wd c.pay 0) 4 0 = slot := by simp (disch := simp) [w0, fld_pack_cons_other, fld_pack_cons_same]; omega
  have noRing : bit (wd c.pay 0) 16 = false := by simp (disch := simp) [w0, bit_eq_fld, fld_pack_cons_other]
  have noUplink : bit (wd c.pay 0) 17 = false := by simp (disch := simp) [w0, bit_eq_fld, fld_pack_cons_other]
  have noBits (fs : List (Nat × Nat)) : onlyBits 0#64 fs = true := by simp [onlyBits]
  unfold Fabric.groupInUse at hu
  unfold groupSetBody
  rw [liveGate_wellFormed (by simp [hlen, fields, w1, w2, w3, w4, noBits, isKind, isAxis, noUplink]; omega) ho]
  simp [isKind, isAxis, isSlot, noRing, w2, hu]
  rfl

/-- A well-formed GROUP_SET of a member list reads the list. -/
theorem groupSetBody_list {n slot : Nat} {addr : Word} (ho : f.opensLive c = true) (hlen : c.len = 40) (h2 : 2 ≤ n) (hn : n ≤ 32768)
    (hs : slot < 32) (haddr : onlyBits addr [(47, 6)] = true) (hpay : c.pay = [pack [(9, 8, 2), (4, 0, slot)], w64 n, 0, 0, addr])
    (hu : f.groupInUse (tagPart c.tag) slot = false) :
    groupSetBody c f = (f.readTable (tagPart c.tag) c addr.toNat (ceilDiv (2 * n) 64) (.groupRead c.mbx), .wait) := by
  have w0 : wd c.pay 0 = pack [(9, 8, 2), (4, 0, slot)] := by rw [hpay]; rfl
  have w1 : wd c.pay 1 = w64 n := by rw [hpay]; rfl
  have w3 : wn c.pay 3 = 0 := by rw [hpay]; rfl
  have w4 : wd c.pay 4 = addr := by rw [hpay]; rfl
  have count : fld (w64 n) 15 0 = n := fld_w64 (by omega) (by decide)
  have countFields : onlyBits (w64 n) [(15, 0)] = true := onlyBits_w64 (by omega)
  have fields : onlyBits (wd c.pay 0) [(17, 16), (13, 12), (9, 8), (4, 0)] = true := by rw [w0]; exact onlyBits_pack (by simp)
  have isKind : fld (wd c.pay 0) 9 8 = 2 := by simp (disch := simp) [w0, fld_pack_cons_same]
  have noAxis : fld (wd c.pay 0) 13 12 = 0 := by simp (disch := simp) [w0, fld_pack_cons_other]
  have isSlot : fld (wd c.pay 0) 4 0 = slot := by simp (disch := simp) [w0, fld_pack_cons_other, fld_pack_cons_same]; omega
  unfold Fabric.groupInUse at hu
  unfold groupSetBody
  rw [liveGate_wellFormed (by simp [hlen, fields, w1, w3, w4, countFields, haddr, isKind, noAxis]) ho]
  simp [isKind, isSlot, w1, w4, wn, count, hu, Nat.not_lt.mpr h2, Nat.not_lt.mpr hn]

/-- Whether a group has two members or more and this chip is one decides what writing it answers (R204). -/
theorem Fabric.setGroup_inProgress {p slot m : Nat} (ho : (f.mbx m).env.own = true) (ha : (f.mbx m).accepted = true) :
    f.setGroup p slot m g =
      if 2 ≤ g.members.length ∧ f.rtr.seated ∈ g.members then
        (f.updPart p fun x => { x with groups := x.groups.set slot g }).complete m stOk (w64 (crc32c g.layoutBytes)) [] 0
      else f.complete m stFaulted 0 [] 0 := by
  by_cases h : 2 ≤ g.members.length ∧ f.rtr.seated ∈ g.members
  · rw [if_pos h]
    simp [Fabric.setGroup, Group.size, h.2, Nat.not_lt.mpr h.1]
    exact Fabric.finish_inProgress (f := f.updPart p fun x => { x with groups := x.groups.set slot g }) ho ha _ _ _ _
  · rw [if_neg h]
    have bad : (decide (g.size < 2) || !g.members.contains f.rtr.seated) = true := by
      simpa [Group.size, Nat.lt_iff_add_one_le, imp_iff_not_or] using h
    rw [Fabric.setGroup, if_pos bad, Fabric.finish_inProgress ho ha]
    rfl

/-- An EMAP_SET that finds room reads its map (R236). -/
theorem emapSetBody_reads {n : Nat} {addr : Word} (ho : f.opensLive c = true) (hlen : c.len = 16) (h1 : 1 ≤ n) (hn : n ≤ 65536)
    (haddr : onlyBits addr [(47, 6)] = true) (hpay : c.pay = [addr, w64 n]) (hs : (f.ctx c.tag).state = .live)
    (hroom : (f.part (tagPart c.tag)).mapBusy c.tag n = false) :
    emapSetBody c f = (f.readTable (tagPart c.tag) c addr.toNat (ceilDiv (16 * n) 64) (.emapRead c.mbx), .wait) := by
  have w0 : wd c.pay 0 = addr := by rw [hpay]; rfl
  have w1 : wd c.pay 1 = w64 n := by rw [hpay]; rfl
  have count : fld (w64 n) 16 0 = n := fld_w64 (by omega) (by decide)
  have countFields : onlyBits (w64 n) [(16, 0)] = true := onlyBits_w64 (by omega)
  unfold emapSetBody
  rw [liveGate_wellFormed (by simp [hlen, w0, w1, haddr, countFields, count]; omega) ho]
  simp [w0, w1, wn, count, hs, hroom]

/-! ### Journals and the Bell count -/

/-- A journal after JOURNAL_SET (R233, log entry 26): a changed ring begins at offset 0, and the one before it is kept. -/
def Journal.ringSet (j : Journal) (enable : Bool) (base log2 : Nat) : Journal :=
  let other (o : Nat × Nat × Nat) : Bool := !(o.1 == base && o.2.1 == log2) && !(o.1 == j.base && o.2.1 == j.log2)
  if j.base = base ∧ j.log2 = log2 then { j with enable := enable }
  else { j with enable := enable, base := base, log2 := log2, offset := 0, olds := (j.base, j.log2, j.offset) :: j.olds.filter other }

/-- A well-formed JOURNAL_SET keeps the ring and answers the next journal number. -/
theorem journalSetBody_sets {base : Word} {lg : Nat} {en : Bool} {j : Journal} (ho : f.opensLive c = true) (hlen : c.len = 16)
    (hbase : onlyBits base [(47, 6)] = true) (hlg : lg < 32) (hen : en = true → 16 ≤ lg)
    (hpay : c.pay = [base, pack [(8, 8, b2n en), (4, 0, lg)]])
    (hj : (f.part (tagPart c.tag)).journals.get (tagSlot c.tag) {} = j) :
    journalSetBody c f =
      okay (f.updPart (tagPart c.tag) fun x => { x with journals := x.journals.set (tagSlot c.tag) (j.ringSet en base.toNat lg) })
        j.jseq := by
  have w0 : wd c.pay 0 = base := by rw [hpay]; rfl
  have w1 : wd c.pay 1 = pack [(8, 8, b2n en), (4, 0, lg)] := by rw [hpay]; rfl
  have fields : onlyBits (wd c.pay 1) [(8, 8), (4, 0)] = true := by rw [w1]; exact onlyBits_pack (by simp)
  have isLog : fld (wd c.pay 1) 4 0 = lg := by simp (disch := simp) [w1, fld_pack_cons_other, fld_pack_cons_same]; omega
  have isEnable : bit (wd c.pay 1) 8 = en := by
    rw [w1, bit_eq_fld, fld_pack_cons_same (by decide) (by simp)]
    cases en <;> rfl
  unfold journalSetBody
  rw [liveGate_wellFormed (by simp [hlen, w0, hbase, fields, isLog, isEnable]; exact fun h => by simpa [h.not_ge] using hen) ho]
  obtain ⟨_, b, l, _, _, _⟩ := j
  by_cases same : b = base.toNat ∧ l = lg
  · obtain ⟨rfl, rfl⟩ := same
    simp [Journal.ringSet, isLog, isEnable, w0, wn, hj]
  · have moved : (b == base.toNat && l == lg) = false := by simpa using same
    simp [Journal.ringSet, isLog, isEnable, w0, wn, hj, same, moved]

theorem journalStatusBody_reads (ho : f.opens c = true) (hlen : c.len = 0) :
    let j := (f.part (tagPart c.tag)).journals.get (tagSlot c.tag) {}
    journalStatusBody c f =
      (f, .done stOk 0 [pack [(63, 63, b2n j.enable), (47, 6, j.base / 64), (4, 0, j.log2)], w64 j.jseq, w64 j.offset] 24) := by
  simp [journalStatusBody, hlen, ctxGate_opens ho]

theorem bellReadBody_reads (hlen : c.len = 0) (ht : c.tag = 0) : bellReadBody c f = (f, .done stOk 0 f.bellWords 32) := by
  simp [bellReadBody, hlen, ht]

end Sys2Proof.Machine

namespace Sys2Proof.Proofs
open Sys2Proof.Machine

/-- Settles O29: each body past its checks, on the begun device; a group is written or refused by its members alone. -/
theorem groupsMapsAndJournals : Obligations.GroupsMapsAndJournals := by
  intro s c ht p x me unused
  refine ⟨fun axis slot lo ho hlen ha hs hlo hpay hu => ?_, fun n slot addr ho hlen h2 hn hs haddr hpay hu => ?_,
    fun n addr ho hlen h1 hn haddr hpay hlive hnone hroom => ?_, fun base lg en ho hlen hbase hlg hen hpay => ?_, fun ho hlen => ?_,
    fun hlen htag => ?_⟩
  · intro ms g
    have writes : groupSetBody c (s.fab.begun c 0x0301) = ((s.fab.begun c 0x0301).setGroup p slot c.mbx g, .wait) :=
      groupSetBody_axis (f := s.fab.begun c 0x0301) ho hlen ha hs hlo hpay hu
    have inProgress := Fabric.setGroup_inProgress (f := s.fab.begun c 0x0301) (p := p) (slot := slot) (m := c.mbx) (g := g)
      (by rw [Fabric.begun_mbx]; rfl) (by rw [Fabric.begun_mbx])
    refine ⟨fun h2 hme => ?_, fun hbad => ?_⟩
    · refine goes_taken 0x0301 groupSetBody ht rfl ?_
      rw [writes, Fabric.ended_wait, inProgress, if_pos ⟨h2, hme⟩]
      rfl
    · refine goes_taken 0x0301 groupSetBody ht rfl ?_
      rw [writes, Fabric.ended_wait, inProgress, if_neg fun h => hbad.elim (fun few => absurd h.1 (Nat.not_le.mpr few)) fun out => out h.2]
      rfl
  · exact goes_taken 0x0301 groupSetBody ht rfl
      (by rw [groupSetBody_list (f := s.fab.begun c 0x0301) ho hlen h2 hn hs haddr hpay hu]; rfl)
  · have room : x.mapBusy c.tag n = false := by simp [Part.mapBusy, hnone, hroom]
    exact goes_taken 0x0400 emapSetBody ht rfl
      (by rw [emapSetBody_reads (f := s.fab.begun c 0x0400) ho hlen h1 hn haddr hpay hlive room]; rfl)
  · exact goes_answers journalSetBody ht rfl (journalSetBody_sets (f := s.fab.begun c 0x0305) ho hlen hbase hlg hen hpay rfl)
  · exact goes_answers (change := id) journalStatusBody ht rfl (journalStatusBody_reads (f := s.fab.begun c 0x0306) ho hlen)
  · exact goes_answers (change := id) bellReadBody ht rfl (bellReadBody_reads (f := s.fab.begun c 0x0304) hlen htag)

end Sys2Proof.Proofs
end

section
/-!
SUPPORT. COLL_POST, DISPATCH_POST, their cancel and status commands, and RED_LOCAL (R200, R209, R210, R231, R235, R253): each body
past its checks.
-/
namespace Sys2Proof.Machine

variable {f : Fabric} {c : Cmd} {disp : Bool} {k : Coll} {cs : List Coll}

/-! ### Posting -/

/-- Acceptance of a command leaves what the checks of a post read. -/
theorem Fabric.takeDescs_begun (d : Cmd) (op p tag : Nat) (m : Nat) (ws : List Word) (acc : List Coll) :
    (f.begun d op).takeDescs p tag disp m ws acc = f.takeDescs p tag disp m ws acc := by
  induction m generalizing ws acc with
  | zero => rfl
  | succ m ih =>
    simp only [Fabric.takeDescs, ih]
    rfl

/-- The device where sound descriptors of a command have been posted in order (R209, R210). -/
def Fabric.posts (f : Fabric) (p cmdId : Nat) (cs : List Coll) : Fabric :=
  f.updPart p fun x =>
    { x with colls := x.colls ++ cs.map (fun k => { k with cmdId := cmdId, late := k.launchBell != 0 && k.launchBell ≤ f.bell }),
             nextColl := x.nextColl + cs.length }

/-- A post whose descriptors are all sound and find room posts them. -/
theorem postBody_posts {m : Nat} (ho : f.opensLive c = true) (hlen : c.len = 128 * m) (h1 : 1 ≤ m) (hm : m ≤ 31)
    (ht : f.takeDescs (tagPart c.tag) c.tag disp m c.pay [] = some cs) (hroom : (f.part (tagPart c.tag)).colls.length + cs.length ≤ 16)
    (hbell : f.bells.state ≠ 0 ∨ ∀ k ∈ cs, k.launchBell = 0) :
    postBody disp c f = okay ((f.posts (tagPart c.tag) (f.mbx c.mbx).env.cmdId.toNat cs).pumpColls (tagPart c.tag)) m := by
  have count : c.len / 128 = m := by omega
  have taken : (decide ((f.part (tagPart c.tag)).colls.length + cs.length > 16) ||
      (f.bells.state == 0 && cs.any fun k => k.launchBell != 0)) = false := by
    obtain h | h := hbell
    · simp [hroom, h]
    · simp [hroom]
      exact fun _ => h
  unfold postBody
  rw [liveGate_wellFormed (by simp [hlen]; omega) ho]
  simp only [count, ht, taken, Bool.false_eq_true, if_false]
  rfl

/-- A post of which one descriptor is not sound posts nothing. -/
theorem postBody_faults {m : Nat} (ho : f.opensLive c = true) (hlen : c.len = 128 * m) (h1 : 1 ≤ m) (hm : m ≤ 31)
    (ht : f.takeDescs (tagPart c.tag) c.tag disp m c.pay [] = none) : postBody disp c f = faulted f := by
  have count : c.len / 128 = m := by omega
  unfold postBody
  rw [liveGate_wellFormed (by simp [hlen]; omega) ho]
  simp only [count, ht]

/-! ### Cancel and status -/

/-- The posted collective, or dispatch or combine, that a payload names (R231, R235). -/
def Fabric.posted (f : Fabric) (c : Cmd) (disp : Bool) : Option Coll :=
  (f.part (tagPart c.tag)).colls.find? fun k => k.tag == c.tag && k.disp == disp && wd k.words 0 == wd c.pay 0

theorem cancelBody_unknown (ho : f.opens c = true) (hlen : c.len = 8) (hn : f.posted c disp = none) : cancelBody disp c f = okay f := by
  unfold Fabric.posted at hn
  simp [cancelBody, hlen, ctxGate_opens ho, hn]

/-- A collective that has launched or has an outcome is not cancelled (R231). -/
theorem cancelBody_fixed (ho : f.opens c = true) (hlen : c.len = 8) (hk : f.posted c disp = some k)
    (h : k.launched = true ∨ k.fin.isSome = true) : cancelBody disp c f = okay f := by
  unfold Fabric.posted at hk
  simp [cancelBody, hlen, ctxGate_opens ho, hk, h]

/-- An unlaunched collective ends with SUPERSEDED (R231). -/
theorem cancelBody_open (ho : f.opens c = true) (hlen : c.len = 8) (hk : f.posted c disp = some k) (hl : k.launched = false)
    (hf : k.fin = none) :
    cancelBody disp c f = okay ((f.endColl (tagPart c.tag) k.id stSuperseded 6).unpark c.tag) 1 := by
  unfold Fabric.posted at hk
  simp [cancelBody, hlen, ctxGate_opens ho, hk, hl, hf]

theorem statusBody_never (ho : f.opens c = true) (hlen : c.len = 8) (hn : f.posted c disp = none)
    (hd : ((f.part (tagPart c.tag)).collsDone.find? fun k => k.tag == c.tag && k.disp == disp && k.collId == wd c.pay 0) = none) :
    statusBody disp c f = (f, .done stOk 0 [0, 0, 0] 24) := by
  unfold Fabric.posted at hn
  simp [statusBody, hlen, ctxGate_opens ho, hn, hd, pack, w64]

/-- A launched collective has state 3 (Table 6.12). -/
theorem statusBody_launched (ho : f.opens c = true) (hlen : c.len = 8) (hk : f.posted c disp = some k) (hl : k.launched = true) :
    statusBody disp c f = (f, .done stOk 0 [w64 k.cmdId, pack [(63, 32, k.chunksDone), (7, 0, 3)], w64 k.launchTick] 24) := by
  unfold Fabric.posted at hk
  simp [statusBody, hlen, ctxGate_opens ho, hk, hl]

/-! ### RED_LOCAL -/

/-- A sound RED_LOCAL of a LIVE context is taken and begins to read its sources (R200). -/
theorem redLocalBody_reads {r : Rcw} {ws : List Word} (hws : takePad 22 c.pay = ws) (ho : f.opensLive c = true) (hlen : c.len = 176)
    (hw : onlyBits (wd ws 3) [(35, 32), (28, 0)] = true) (h1 : 1 ≤ redCount ws) (hn : redCount ws ≤ 268435456)
    (hdst : vaOk (wd ws 4) = true) (h5 : wd ws 5 = 0)
    (hsrc : ∀ i < 16, if i < redSources ws then vaOk (wd ws (6 + i)) = true else wd ws (6 + i) = 0)
    (hr : rcwOf (wd ws 0) = some r) (hop : r.op ≠ 3) (hg : redCount ws % r.granule = 0) (hs : (f.ctx c.tag).state = .live)
    (hclash : ∀ i < redSources ws,
      spansMeet (wn ws 4, 64 * r.out.span (redCount ws)) (wn ws (6 + i), 64 * r.inp.span (redCount ws)) = false) :
    redLocalBody c f =
      ((f.updPart (tagPart c.tag) fun x =>
        { x with reds := x.reds ++ [{ id := x.nextColl, mbx := c.mbx, tag := c.tag, words := ws }], nextColl := x.nextColl + 1 }).pumpReds
          (tagPart c.tag), .wait) := by
  subst hws
  have sources : ((List.range 16).any fun i => if i < redSources (takePad 22 c.pay) then !vaOk (wd (takePad 22 c.pay) (6 + i))
      else wd (takePad 22 c.pay) (6 + i) != 0) = false := by
    refine List.any_eq_false.mpr fun i hi => ?_
    have source := hsrc i (List.mem_range.mp hi)
    split at source
    case isTrue h => simp [h, source]
    case isFalse h => simp [h, source]
  have apart : ((List.range (redSources (takePad 22 c.pay))).any fun i =>
      spansMeet (wn (takePad 22 c.pay) 4, 64 * r.out.span (redCount (takePad 22 c.pay)))
        (wn (takePad 22 c.pay) (6 + i), 64 * r.inp.span (redCount (takePad 22 c.pay)))) = false :=
    List.any_eq_false.mpr fun i hi => by simp [hclash i (List.mem_range.mp hi)]
  unfold redLocalBody
  rw [liveGate_wellFormed (by simp only [sources]; simp [hlen, hw, hdst, h5]; omega) ho]
  simp only [hr, apart]
  simp [hop, hg, hs]
  rfl

/-- A row of COLL_POST, COLL_CANCEL and COLL_STATUS, or of their DISPATCH_ counterparts, issues the one body of both. -/
theorem exec_posting {post cancel status : Cmd → Instr} {op : Nat}
    (h : (post, cancel, status, op, disp) ∈ [(Instr.collPost, Instr.collCancel, Instr.collStatus, 0x0300, false),
      (Instr.dispatchPost, Instr.dispatchCancel, Instr.dispatchStatus, 0x0401, true)]) (s : State) :
    exec (post c) s = s.command c op (withColls (postBody disp)) ∧
      exec (cancel c) s = s.command c (if disp then 0x0403 else 0x0302) (cancelBody disp) ∧
      exec (status c) s = s.command c (if disp then 0x0402 else 0x0303) (statusBody disp) := by
  simp only [List.mem_cons, Prod.mk.injEq, List.not_mem_nil, or_false] at h
  obtain ⟨rfl, rfl, rfl, rfl, rfl⟩ | ⟨rfl, rfl, rfl, rfl, rfl⟩ := h
  · exact ⟨rfl, rfl, rfl⟩
  · exact ⟨rfl, rfl, rfl⟩

end Sys2Proof.Machine

namespace Sys2Proof.Proofs
open Sys2Proof.Machine

/-- Settles O30: each body past its checks, on the begun device; a post pumps the partition's collectives twice, once in its body and
once as a command after which collectives go on. -/
theorem postingACollective : Obligations.PostingACollective := by
  refine ⟨?_, ?_⟩
  · intro s c post cancel status op disp hrow ht p x found cancelOp statusOp pumped
    obtain ⟨isPost, isCancel, isStatus⟩ := exec_posting (c := c) hrow s
    refine ⟨fun m cs ho hlen h1 hm htake hroom hbell => ?_, fun m ho hlen h1 hm htake => ?_, fun ho hlen => ⟨fun hn => ?_,
      fun k hk h => ?_, fun k hk hl hf => ?_, fun hn hd => ?_, fun k hk hl => ?_⟩⟩
    · refine goes_answers (withColls (postBody disp)) ht isPost (withColls_of_body ?_)
      rw [postBody_posts (f := s.fab.begun c op) ho hlen h1 hm ((Fabric.takeDescs_begun c op p c.tag m c.pay []).trans htake) hroom hbell,
        Fabric.begun_mbx]
      rfl
    · exact goes_answers (withColls (postBody disp)) ht isPost (withColls_of_body
        (postBody_faults (f := s.fab.begun c op) ho hlen h1 hm ((Fabric.takeDescs_begun c op p c.tag m c.pay []).trans htake)))
    · exact goes_answers (change := id) (cancelBody disp) ht isCancel (cancelBody_unknown (f := s.fab.begun c cancelOp) ho hlen hn)
    · exact goes_answers (change := id) (cancelBody disp) ht isCancel (cancelBody_fixed (f := s.fab.begun c cancelOp) ho hlen hk h)
    · exact goes_answers (cancelBody disp) ht isCancel (cancelBody_open (f := s.fab.begun c cancelOp) ho hlen hk hl hf)
    · exact goes_answers (change := id) (statusBody disp) ht isStatus (statusBody_never (f := s.fab.begun c statusOp) ho hlen hn hd)
    · exact goes_answers (change := id) (statusBody disp) ht isStatus (statusBody_launched (f := s.fab.begun c statusOp) ho hlen hk hl)
  · intro s c r ht ho hlen ws n k p hw h1 hn hdst h5 hsrc hr hop hg hs hclash
    exact goes_taken 0x0380 redLocalBody ht rfl
      (by rw [redLocalBody_reads (f := s.fab.begun c 0x0380) rfl ho hlen hw h1 hn hdst h5 hsrc hr hop hg hs hclash]; rfl)

end Sys2Proof.Proofs
end

section
/-!
SUPPORT. Counterexamples of two posted collectives under one number. `Fabric.takeDescs` numbers what a post adds from `nextColl` on,
so no post makes such a pair; but a state of the model can hold one, `Fabric.coll` reads its first and `Fabric.updColl` changes both.
-/
namespace Sys2Proof.Machine

variable {s : State} {i : Instr} {g h : Fabric}

/-- A command has one next state. -/
theorem Goes.unique (hg : Goes i s g) (hh : Goes i s h) : g = h := by
  have next := hg.symm.trans hh
  simp only [Host.Outcome.next.injEq, State.mk.injEq] at next
  exact next.2.1

/-- A live device: partition 0 has a LIVE context of Context Tag 1 and two posted collectives. -/
def twinDevice (a b : Coll) : State :=
  { fab := { pins := { powerGood := true, rstN := true }, aon := { stage := 8 },
             parts := [(0, { ctxs := [(0, { state := .live, gen := 1 })], colls := [a, b] })] } }

/-- A collective of Context Tag 1 under number 0 that nodes 0 and 1 share. -/
def collZero (agree : Nat) (sent : List Msg) (resends : List Resend) : Coll :=
  { id := 0, cmdId := 0, tag := 1, words := zeros 16, algo := 1, agree := agree, order := 0, sent := sent, resends := resends,
    group := { kind := 1, members := [0, 1] } }

/-- A message of that collective from node 0 to node 1, and node 1's NACK of it. -/
def rawToOne : Msg := { kind := .raw, dst := 1, src := 0, tag := 1, cls := 2 }
def nackFromOne : Msg := { kind := .nack, dst := 0, src := 1, tag := 1, cls := 2 }

/-- The agreement codes of the resends that each collective of partition 0 has scheduled. -/
def Fabric.resendCodes (f : Fabric) : List (List Nat) := (f.part 0).colls.map fun k => k.resends.map fun r => r.msg.agree

end Sys2Proof.Machine

namespace Sys2Proof.Proofs
open Sys2Proof.Machine

/-- Refutes O31 in its last clause, the NACK: the resend carries the agreement code of the collective that the NACK names (R217,
R226), but the statement reads the code under the update's own binder, of each collective that the update changes. Of two
collectives under number 0 with the codes 5 and 7 the model schedules code 5 at both, where the statement has 5 and 7. -/
theorem not_collectiveMessagesArrive : ¬ Obligations.CollectiveMessagesArrive := by
  unfold Obligations.CollectiveMessagesArrive
  rintro ⟨-, nack⟩
  let named := collZero 5 [rawToOne] []
  let s := twinDevice named (collZero 7 [rawToOne] [])
  have stated := nack s nackFromOne named (by decide) rfl (by decide) (by decide) rfl rfl rawToOne rfl rfl rfl rfl rfl (by decide)
  have runs : Goes (.nack nackFromOne) s (s.fab.nackMsg nackFromOne) := goes_event (fun f => f.nackMsg nackFromOne) (by decide) rfl rfl
  have model : (s.fab.nackMsg nackFromOne).resendCodes = [[5], [5]] := by decide
  rw [runs.unique stated] at model
  exact absurd model (by decide)

/-- Refutes O32 in its clause of COLL_RESEND_TIMER: the timer sends what is due and keeps what is not (R226), at each collective under
the number, but the statement empties the resends of all of them. Of two collectives under number 0, of which the first has a
resend due at tick 0 and the second one due at tick 1, the model keeps the second's at tick 0, where the statement drops it. -/
theorem not_collectiveTimersAndLaunch : ¬ Obligations.CollectiveTimersAndLaunch := by
  unfold Obligations.CollectiveTimersAndLaunch
  intro h
  let due : Resend := { due := 0, msg := rawToOne }
  let named := collZero 5 [] [due]
  let s := twinDevice named (collZero 5 [] [{ due := 1, msg := rawToOne }])
  obtain ⟨colls, -⟩ := h s (by decide)
  obtain ⟨-, -, -, resend⟩ := colls 0 0 named (by decide) rfl rfl
  have stated := resend due rfl (by decide)
  have runs : Goes (.collResendTimer 0 0) s (s.fab.collResend 0 0) := goes_event (fun f => f.collResend 0 0) (by decide) rfl rfl
  have model : (s.fab.collResend 0 0).resendCodes = [[], [0]] := by decide +kernel
  rw [runs.unique stated] at model
  exact absurd model (by decide +kernel)

end Sys2Proof.Proofs
end

section
/-!
SUPPORT. What the router's timed events and TELEM_SNAP do: the end of a route drain (R298, R299), the windows of a timetable entry
(R295, R297), the escape of a flit that waits (R277), the rise of a rate (R322), and the snapshot of the ports (R329).
-/
namespace Sys2Proof.Machine

variable {f : Fabric} {c : Cmd} {d : PortDrain} {e : List Word} {q : QFlit} {r : RateEntry} {id i n key mask m : Nat} {clear : Bool}

/-! ### Route drains -/

/-- Once DRAIN_TICKS have passed, a drain that a command ordered ends with TIMEOUT and applies nothing (R299). -/
theorem Fabric.routeDrainTimeout_due (hd : (f.rtr.drains.find? fun d => d.order.id == id) = some d) (hm : d.order.mbx ≠ 99)
    (ht : d.start + 15625 * f.rtr.drainUnits ≤ f.tick) :
    f.routeDrainTimeout id = (f.dropDrain id).rechoose.finish d.order.mbx stTimeout := by
  simp [Fabric.routeDrainTimeout, hd, hm, ht]

theorem Fabric.routeDrainTimeout_early (hd : (f.rtr.drains.find? fun d => d.order.id == id) = some d)
    (ht : f.tick < d.start + 15625 * f.rtr.drainUnits) : f.routeDrainTimeout id = f := by
  simp [Fabric.routeDrainTimeout, hd, Nat.not_le.mpr ht]

/-- A route drain goes on until its ports, and the reorder pool where it needs that, are empty (Table 8.6, step 3). -/
theorem Fabric.routeDrainDone_carries (hd : (f.rtr.drains.find? fun d => d.order.id == id) = some d) (ho : f.drainOver d = false) :
    f.routeDrainDone id = f := by
  simp [Fabric.routeDrainDone, hd, ho]

/-- A route drain over within DRAIN_TICKS is applied, where its values keep the limits of R303 (log entry 44). -/
theorem Fabric.routeDrainDone_inTime (hd : (f.rtr.drains.find? fun d => d.order.id == id) = some d) (ho : f.drainOver d = true)
    (ht : f.tick ≤ d.start + 15625 * f.rtr.drainUnits) :
    f.routeDrainDone id =
      let g := f.dropDrain id
      if g.routeLimits g.rtr d.order.sets then g.rechoose.finish d.order.mbx stFaulted
      else (g.applyRoutes d.order).finish d.order.mbx stOk (f.tick - d.start) := by
  simp [Fabric.routeDrainDone, hd, ho, Nat.not_lt.mpr ht, Fabric.dropDrain]

/-- A route drain over after DRAIN_TICKS times out (R299). -/
theorem Fabric.routeDrainDone_late (hd : (f.rtr.drains.find? fun d => d.order.id == id) = some d) (ho : f.drainOver d = true)
    (ht : d.start + 15625 * f.rtr.drainUnits < f.tick) : f.routeDrainDone id = f.routeDrainTimeout id := by
  simp [Fabric.routeDrainDone, hd, ho, ht]

/-! ### Windows of the timetable -/

/-- An open window makes the flits that wait choose again (R295). -/
theorem Fabric.windowOpen_eq (he : f.rtr.timetable.find i = some e) :
    f.windowOpen i = if ttValid e = true ∧ wn e 0 ≤ f.bell ∧ f.bell < wn e 1 then f.rechoose else f := by
  simp [Fabric.windowOpen, he, and_assoc]

theorem Fabric.windowClose_early (he : f.rtr.timetable.find i = some e) (ht : f.bell < wn e 1) : f.windowClose i = f := by
  simp [Fabric.windowClose, he, ht]

/-- The only flit that waits, for the circuit of a window that is over, is placed afresh (R297). -/
theorem Fabric.windowClose_lone (he : f.rtr.timetable.find i = some e) (ht : wn e 1 ≤ f.bell) (hq : f.rtr.queue = [q])
    (hc : q.circuit = some i) :
    f.windowClose i =
      (({ f with rtr := { f.rtr with queue := [] } } : Fabric).place { q with out := none, circuit := none }).bumpHeads f.rtr := by
  simp [Fabric.windowClose, he, Nat.not_lt.mpr ht, hq, hc]

/-! ### Escape -/

/-- A flit is the head of its input queue where no flit there has an earlier order. -/
def Router.isHead (r : Router) (q : QFlit) : Bool :=
  !(r.queue.any fun y => y.inPort == q.inPort && y.flit.vc == q.flit.vc && y.order < q.order)

/-- The device where a flit has taken the escape channel, counted (R277). -/
def Fabric.escape (f : Fabric) (q : QFlit) : Fabric :=
  (({ f with rtr := { f.rtr with queue := f.rtr.queue.filter (fun y => y.order != q.order),
                                 escapes := sat32 (f.rtr.escapes + 1) } } : Fabric).place
    { q with flit := { q.flit with esc := true, aux := false }, out := none, circuit := none, since := f.tick } true).bumpHeads f.rtr

/-- A flit that waits goes to the escape channel, or stays, by the conditions of R277. -/
theorem Fabric.escapeTimeout_eq (hq : (f.rtr.queue.find? fun q => q.order == n) = some q) :
    f.escapeTimeout n =
      if q.flit.esc = true ∨ q.flit.cls = 3 ∨ f.rtr.isHead q = false ∨ f.tick < q.since + f.rtr.escWait then f else f.escape q := by
  obtain rfl : q.order = n := by simpa using List.find?_some hq
  simp [Fabric.escapeTimeout, hq, Router.isHead, Fabric.escape, or_assoc]

/-- Giving an input slot back changes the ports alone. -/
theorem Fabric.leaveQueue_eq (f : Fabric) (q : QFlit) (cls : Nat) : ∃ ps, f.leaveQueue q cls = { f with ports := ps } := by
  unfold Fabric.leaveQueue Fabric.freeSlot
  split
  · split
    · exact ⟨_, rfl⟩
    · exact ⟨_, rfl⟩
  · exact ⟨_, rfl⟩

/-- The choice of a flit's output changes the ports and, of the router, its queue, its pointers and the counts of choices. -/
theorem Fabric.assign_eq (f : Fabric) (q : QFlit) (entering : Bool) :
    ∃ ps qs lost hops ptr, f.assign q entering =
      { f with ports := ps, rtr := { f.rtr with queue := qs, unreach := lost, nmHops := hops, pointer := ptr } } := by
  unfold Fabric.assign
  split
  case h_1 => exact ⟨_, _, _, _, _, rfl⟩
  case h_2 => exact ⟨_, _, _, _, _, rfl⟩
  case h_3 =>
    dsimp only
    split
    · exact ⟨_, _, _, _, _, rfl⟩
    · exact ⟨_, _, _, _, _, rfl⟩

theorem Fabric.place_eq (f : Fabric) (q : QFlit) (entering : Bool) :
    ∃ ps qs lost hops ptr, f.place q entering =
      { f with ports := ps, rtr := { f.rtr with queue := qs, unreach := lost, nmHops := hops, pointer := ptr } } := by
  obtain ⟨ps, qs, lost, hops, ptr, assigned⟩ := f.assign_eq q entering
  obtain ⟨ps', left⟩ := (f.assign q entering).leaveQueue_eq q q.slotClass
  exact ⟨ps', qs, lost, hops, ptr, by rw [Fabric.place, left, assigned]⟩

/-- An escape is counted, and reaches neither the partitions nor the mailboxes nor the Host Die Port. -/
theorem Fabric.escape_reads (f : Fabric) (q : QFlit) :
    (f.escape q).rtr.escapes = sat32 (f.rtr.escapes + 1) ∧ (f.escape q).parts = f.parts ∧ (f.escape q).mbxs = f.mbxs ∧
      (f.escape q).hdp = f.hdp := by
  unfold Fabric.escape
  obtain ⟨ps, qs, lost, hops, ptr, placed⟩ :=
    ({ f with rtr := { f.rtr with queue := f.rtr.queue.filter (fun y => y.order != q.order),
                                  escapes := sat32 (f.rtr.escapes + 1) } } : Fabric).place_eq
      { q with flit := { q.flit with esc := true, aux := false }, out := none, circuit := none, since := f.tick } true
  rw [placed]
  exact ⟨rfl, rfl, rfl, rfl⟩

/-! ### Rates -/

/-- A rate entry's increase timer (R322): before it is due nothing happens, and then the entry rises or leaves the table. -/
theorem Fabric.rateIncrease_eq (hk : key < 32768) (hr : f.flow.rates.find key = some r) :
    f.rateIncrease key =
      if r.timer + f.flow.incTicks ≤ f.tick then
        if r.start ≤ r.rate + f.flow.addStep then
          ({ f with flow := { f.flow with rates := f.flow.rates.del key } } : Fabric).pump
        else
          ({ f with flow := { f.flow with
              rates := f.flow.rates.set key { r with rate := r.rate + f.flow.addStep,
                                                     timer := r.timer + f.flow.incTicks } } } : Fabric).pump
      else f := by
  unfold Fabric.rateIncrease Flow.riseOn
  simp only [Nat.ne_of_lt hk, if_false, hr, ge_iff_le]
  by_cases full : r.start ≤ r.rate + f.flow.addStep
  · simp only [if_pos full]
  · simp only [if_neg full]

/-! ### TELEM_SNAP -/

/-- A mask that is not zero has a bit. -/
theorem bitsOf_ne_nil (h1 : 1 ≤ mask) (hm : mask < 2 ^ n) : bitsOf mask n ≠ [] := by
  obtain ⟨k, set⟩ := Nat.exists_testBit_of_ne_zero (Nat.ne_of_gt h1)
  have low : k < n := by
    by_contra high
    exact absurd set (by simp [Nat.testBit_lt_two_pow (hm.trans_le (Nat.pow_le_pow_right (by decide) (Nat.not_lt.mp high)))])
  exact List.ne_nil_of_mem (List.mem_filter.mpr ⟨List.mem_range.mpr low, by simpa [Nat.testBit_eq_decide_div_mod_eq] using set⟩)

/-- A TELEM_SNAP past its checks waits for the start of the next ref tick (R329). -/
theorem telemSnapBody_waits (hm : c.mbx ∈ [32, 33]) (hlen : c.len = 8) (h1 : 1 ≤ mask) (h8 : mask < 256)
    (hw : wd c.pay 0 = pack [(8, 8, b2n clear), (7, 0, mask)]) :
    telemSnapBody c f = ({ f with flow := { f.flow with snaps := f.flow.snaps ++ [(c.mbx, mask, clear)] } }, .wait) := by
  have admin : fromOf c [32, 33] = true := by simpa [fromOf] using hm
  have fields : onlyBits (wd c.pay 0) [(8, 0)] = true := by rw [hw]; exact onlyBits_pack (by simp)
  have isMask : fld (wd c.pay 0) 7 0 = mask := by
    simp (disch := simp) [hw, fld_pack_cons_other, fld_pack_cons_same]; omega
  have isClear : bit (wd c.pay 0) 8 = clear := by
    rw [hw, bit_eq_fld, fld_pack_cons_same (by decide) (by simp)]
    cases clear <;> rfl
  have ports : (bitsOf mask 8).isEmpty = false := by simpa using bitsOf_ne_nil h1 h8
  simp [telemSnapBody, admin, hlen, fields, isMask, isClear, ports]

theorem Fabric.prtRegs_length (f : Fabric) (k : Nat) : (f.prtRegs k).length = 13 := rfl

/-- The response of a snapshot: four words, and 13 registers of each port (Table 9.11). -/
theorem Fabric.snapWords_length (f : Fabric) (mask : Nat) : (f.snapWords mask).length = 4 + 13 * (bitsOf mask 8).length := by
  simp [Fabric.snapWords, Fabric.prtRegs_length, List.length_flatMap, Nat.mul_comm]
  omega

/-- The only TELEM_SNAP that waits for the ref tick, without CLEAR, is answered from the device as the tick finds it (R329). -/
theorem Fabric.tickSnaps_lone (hs : f.flow.snaps = [(m, mask, false)]) (hown : (f.mbx m).env.own = true)
    (hacc : (f.mbx m).accepted = true) :
    f.tickSnaps = ({ f with flow := { f.flow with snaps := [] } } : Fabric).complete m stOk (w64 f.tick) (f.snapWords mask)
      (32 + 104 * (bitsOf mask 8).length) := by
  have bytes : 8 * (f.snapWords mask).length = 32 + 104 * (bitsOf mask 8).length := by rw [Fabric.snapWords_length]; omega
  rw [Fabric.tickSnaps, hs, List.foldl_cons, List.foldl_nil, ← bytes]
  exact Fabric.finish_inProgress (f := { f with flow := { f.flow with snaps := [] } }) hown hacc _ _ _ _

end Sys2Proof.Machine

namespace Sys2Proof.Proofs
open Sys2Proof.Machine

/-- Settles O36: each event past its conditions is one lemma, by whose branch it goes; an escape's frame is that of placing a flit. -/
theorem routesCircuitsAndRates : Obligations.RoutesCircuitsAndRates := by
  refine ⟨fun s hl => ⟨fun id d hd => ?_, fun i e he => ?_, fun n q hq => ?_, fun key e hk he => ?_⟩, ?_,
    fun f m mask hs hown hacc => Fabric.tickSnaps_lone hs hown hacc⟩
  · have done {g : Fabric} (h : s.fab.routeDrainDone id = g) : Goes (.routeDrainDone id) s g :=
      goes_event (fun f => f.routeDrainDone id) hl rfl h
    have timeout {g : Fabric} (h : s.fab.routeDrainTimeout id = g) : Goes (.routeDrainTimeout id) s g :=
      goes_event (fun f => f.routeDrainTimeout id) hl rfl h
    refine ⟨fun ho => ⟨fun ht hok => done ?_, fun ht hbad => done ?_, fun hm ht => done ?_⟩,
      fun ho => done (Fabric.routeDrainDone_carries hd ho), fun hm ht => timeout ?_,
      fun ht => timeout (Fabric.routeDrainTimeout_early hd ht)⟩
    · rw [Fabric.routeDrainDone_inTime hd ho ht]
      exact if_neg (by simp [hok])
    · rw [Fabric.routeDrainDone_inTime hd ho ht]
      exact if_pos hbad
    · have late := Nat.not_le.mp ht
      rw [Fabric.routeDrainDone_late hd ho late, Fabric.routeDrainTimeout_due hd hm late.le]
    · exact Fabric.routeDrainTimeout_due hd hm ht
  · have opens {g : Fabric} (h : s.fab.windowOpen i = g) : Goes (.timetableWindowOpen i) s g :=
      goes_event (fun f => f.windowOpen i) hl rfl h
    have closes {g : Fabric} (h : s.fab.windowClose i = g) : Goes (.timetableWindowClose i) s g :=
      goes_event (fun f => f.windowClose i) hl rfl h
    refine ⟨fun hv h0 h1 => opens ((Fabric.windowOpen_eq he).trans (if_pos ⟨hv, h0, h1⟩)),
      fun shut => opens ((Fabric.windowOpen_eq he).trans (if_neg ?_)), fun ht => closes (Fabric.windowClose_early he ht),
      fun q ht hq hc => closes (Fabric.windowClose_lone he ht hq hc)⟩
    rintro ⟨valid, begun, unended⟩
    obtain invalid | early | late := shut
    · exact Bool.false_ne_true (invalid.symm.trans valid)
    · exact Nat.not_le.mpr early begun
    · exact Nat.not_lt.mpr late unended
  · have escapes {g : Fabric} (h : s.fab.escapeTimeout n = g) : Goes (.escapeTimeout n) s g :=
      goes_event (fun f => f.escapeTimeout n) hl rfl h
    refine ⟨fun hesc hcls hhead ht => ?_, fun stays => escapes ((Fabric.escapeTimeout_eq hq).trans (if_pos stays))⟩
    obtain ⟨counted, parts, mbxs, hdp⟩ := s.fab.escape_reads q
    refine ⟨_, escapes ((Fabric.escapeTimeout_eq hq).trans (if_neg ?_)), counted, parts, mbxs, hdp, rfl⟩
    rintro (esc | cls | behind | early)
    · exact Bool.false_ne_true (hesc.symm.trans esc)
    · exact hcls cls
    · exact Bool.false_ne_true (behind.symm.trans hhead)
    · exact Nat.not_lt.mpr ht early
  · have rises {g : Fabric} (h : s.fab.rateIncrease key = g) : Goes (.rateIncrease key) s g :=
      goes_event (fun f => f.rateIncrease key) hl rfl h
    refine ⟨fun ht hr => rises ?_, fun ht hr => rises ?_, fun ht => rises ?_⟩
    · rw [Fabric.rateIncrease_eq hk he, if_pos ht, if_neg (Nat.not_le.mpr hr)]
    · rw [Fabric.rateIncrease_eq hk he, if_pos ht, if_pos hr]
    · rw [Fabric.rateIncrease_eq hk he, if_neg (Nat.not_le.mpr ht)]
  · intro s c mask clear ht hm hlen h1 h8 hw
    refine goes_taken 0x0581 telemSnapBody ht rfl ?_
    rw [telemSnapBody_waits hm hlen h1 h8 hw]
    rfl

end Sys2Proof.Proofs
end

section
/-!
SUPPORT. Loss (R286, R559): the skip of a missing sequence number, the discard of an incomplete message, and the settling of a message
by time.
-/
namespace Sys2Proof.Machine

variable {f : Fabric} {d : DstState} {h : Held} {hs : List Held} {o : OpenMsg} {dst cls fuel msg n : Nat}

/-! ### The state toward a source -/

@[simp] theorem Fabric.dstState_setDst (f : Fabric) (n : Nat) (d : DstState) : (f.setDst n d).dstState n = d := by
  simp [Fabric.dstState, Fabric.setDst]

/-- Gathering credits counts them, and notes when the first of them came (R283). -/
theorem DstState.gather_eq (d : DstState) (n tick : Nat) :
    ∃ since, d.gather n tick = { d with credits := d.credits + n, creditSince := since } := by
  unfold DstState.gather
  split
  · next zero => exact ⟨d.creditSince, by simp [zero]⟩
  · exact ⟨_, rfl⟩

theorem DstState.noteMark_eq (d : DstState) (x : Flit) : ∃ echo, d.noteMark x = { d with echo := echo } := by
  unfold DstState.noteMark
  split
  · exact ⟨_, rfl⟩
  · exact ⟨_, rfl⟩

/-- Assembly of CLS 0 messages changes what is assembled alone. -/
theorem DstState.feed_eq (d : DstState) (x : Option Flit) :
    ∃ asm need broken, (d.feed 0 x).1 = { d with asm0 := asm, need0 := need, broken0 := broken } := by
  unfold DstState.feed
  extract_lets asm need broken put
  split
  · split
    · exact ⟨_, _, _, rfl⟩
    · split
      · exact ⟨_, _, _, rfl⟩
      · exact ⟨_, _, _, rfl⟩
  · extract_lets need asm
    split
    · exact ⟨_, _, _, rfl⟩
    · exact ⟨_, _, _, rfl⟩

/-- The state after the lost flit of the next sequence number has been skipped: credited back, and given up by assembly. -/
def DstState.skipped (d : DstState) (tick : Nat) : DstState :=
  { ((d.gather 1 tick).feed 0 none).1 with next0 := (d.next0 + 1) % 4096 }

theorem DstState.skipped_reads (d : DstState) (tick : Nat) :
    (d.skipped tick).held0 = d.held0 ∧ (d.skipped tick).next0 = (d.next0 + 1) % 4096 ∧ (d.skipped tick).credits = d.credits + 1 := by
  obtain ⟨since, gathered⟩ := d.gather_eq 1 tick
  obtain ⟨asm, need, broken, fed⟩ := (d.gather 1 tick).feed_eq none
  rw [DstState.skipped, fed, gathered]
  exact ⟨rfl, rfl, rfl⟩

/-- The state after the only held flit, which has the next sequence number, has been released, and the message it completes. -/
def DstState.released (d : DstState) (h : Held) (tick : Nat) : DstState × Option Msg :=
  ((({ d with held0 := [], next0 := (d.next0 + 1) % 4096 } : DstState).gather 1 tick).noteMark h.flit).feed 0 (some h.flit)

theorem DstState.released_reads (d : DstState) (h : Held) (tick : Nat) :
    (d.released h tick).1.held0 = [] ∧ (d.released h tick).1.next0 = (d.next0 + 1) % 4096 ∧
      (d.released h tick).1.credits = d.credits + 1 := by
  let taken : DstState := { d with held0 := [], next0 := (d.next0 + 1) % 4096 }
  obtain ⟨since, gathered⟩ := taken.gather_eq 1 tick
  obtain ⟨echo, noted⟩ := (taken.gather 1 tick).noteMark_eq h.flit
  obtain ⟨asm, need, broken, fed⟩ := ((taken.gather 1 tick).noteMark h.flit).feed_eq (some h.flit)
  rw [DstState.released, fed, noted, gathered]
  exact ⟨rfl, rfl, rfl⟩

/-! ### Releasing flits in order -/

/-- The device where the state toward a source is `d`, with ports, inbox and hall-pass hold as a release of flits can leave them. -/
def Fabric.afterRelease (f : Fabric) (n : Nat) (d : DstState) (ps : Map Port) (order : Nat) (inbox held : List Arrived) : Fabric :=
  { f with ports := ps, rtr := { f.rtr with dsts := f.rtr.dsts.set n d, order := order, inbox := inbox, hpHeld := held } }

@[simp] theorem Fabric.afterRelease_dstState (f : Fabric) (n : Nat) (d : DstState) (ps : Map Port) (order : Nat)
    (inbox held : List Arrived) : (f.afterRelease n d ps order inbox held).dstState n = d := by
  simp [Fabric.afterRelease, Fabric.dstState]

/-- A release of flits reaches neither the count of skips nor the partitions nor the mailboxes. -/
theorem Fabric.afterRelease_keeps (f : Fabric) (n : Nat) (d : DstState) (ps : Map Port) (order : Nat) (inbox held : List Arrived) :
    let g := f.afterRelease n d ps order inbox held
    g.rtr.gapSkips = f.rtr.gapSkips ∧ g.parts = f.parts ∧ g.mbxs = f.mbxs := ⟨rfl, rfl, rfl⟩

theorem Fabric.arrive_eq (f : Fabric) (m : Msg) :
    ∃ order inbox held, f.arrive m = { f with rtr := { f.rtr with order := order, inbox := inbox, hpHeld := held } } := by
  unfold Fabric.arrive
  split
  · exact ⟨_, _, _, rfl⟩
  · exact ⟨_, _, _, rfl⟩

/-- The device after a released flit has completed a message, or none. -/
def Fabric.completed (f : Fabric) : Option Msg → Fabric
  | some m => f.arrive m
  | none => f

theorem Fabric.completed_eq (f : Fabric) (m : Option Msg) :
    ∃ order inbox held, f.completed m = { f with rtr := { f.rtr with order := order, inbox := inbox, hpHeld := held } } := by
  cases m with
  | some m => exact f.arrive_eq m
  | none => exact ⟨_, _, _, rfl⟩

/-- With nothing held nothing is released. -/
theorem Fabric.releaseSeq_empty (hh : (f.dstState n).held0 = []) : Fabric.releaseSeq fuel f n 0 = f := by
  cases fuel with
  | zero => rfl
  | succ fuel => simp [Fabric.releaseSeq, hh]

/-- The only held flit is released where it has the next sequence number (R283). -/
theorem Fabric.releaseSeq_lone (hh : (f.dstState n).held0 = [h]) (hs : h.flit.seq = (f.dstState n).next0) :
    ∃ ps order inbox held, Fabric.releaseSeq (fuel + 1) f n 0 =
      f.afterRelease n ((f.dstState n).released h f.tick).1 ps order inbox held := by
  let d := (f.dstState n).released h f.tick
  let g := (f.setDst n d.1).freeReorder h.port 1
  have once : Fabric.releaseSeq (fuel + 1) f n 0 = Fabric.releaseSeq fuel (g.completed d.2) n 0 := by
    rw [Fabric.releaseSeq]
    simp only [hh, hs, if_true, List.find?_cons, beq_self_eq_true, List.filter_cons, bne_self_eq_false, List.filter_nil,
      Bool.false_eq_true, if_false]
    split
    · next m complete => rw [show d.2 = some m from complete]; rfl
    · next incomplete => rw [show d.2 = none from incomplete]; rfl
  obtain ⟨order, inbox, held, completed⟩ := g.completed_eq d.2
  have left : g.completed d.2 = f.afterRelease n d.1 g.ports order inbox held := completed
  refine ⟨g.ports, order, inbox, held, ?_⟩
  rw [once, left, Fabric.releaseSeq_empty]
  rw [Fabric.afterRelease_dstState, (DstState.released_reads _ h _).1]

/-! ### GAP_TIMEOUT -/

/-- No sequence number is skipped while no flit has waited GAP_TICKS (R286). -/
theorem Fabric.skipGap_early {held : List Held} (hh : held = if cls = 0 then (f.dstState n).held0 else (f.dstState n).held1)
    (ht : ∀ h ∈ held, f.tick < h.tick + f.rtr.gapTicks) : Fabric.skipGap fuel f n cls = f := by
  cases fuel with
  | zero => rfl
  | succ fuel =>
    have unwaited : held.any (fun h => h.tick + f.rtr.gapTicks ≤ f.tick) = false :=
      List.any_eq_false.mpr fun h hm => by simpa using ht h hm
    rw [Fabric.skipGap]
    simp only [← hh, unwaited, Bool.not_false, if_true]

theorem Fabric.gapTimeout_eq (hc : cls < 2) : f.gapTimeout n cls = Fabric.skipGap 4096 f n cls := if_pos hc

/-- The device after the lost flit of the next CLS 0 sequence number has been skipped and counted (R286, R559). -/
def Fabric.skipOne (f : Fabric) (n : Nat) : Fabric :=
  let g := f.setDst n ((f.dstState n).skipped f.tick)
  { g with rtr := { g.rtr with gapSkips := sat32 (g.rtr.gapSkips + 1) } }

@[simp] theorem Fabric.skipOne_dstState (f : Fabric) (n : Nat) : (f.skipOne n).dstState n = (f.dstState n).skipped f.tick :=
  Fabric.dstState_setDst f n _

theorem Fabric.skipOne_counts (f : Fabric) (n : Nat) :
    (f.skipOne n).rtr.gapSkips = sat32 (f.rtr.gapSkips + 1) ∧ (f.skipOne n).parts = f.parts ∧ (f.skipOne n).mbxs = f.mbxs :=
  ⟨rfl, rfl, rfl⟩

/-- A flit that has waited GAP_TICKS for the sequence number before its own is released once that one is skipped (R286). -/
theorem Fabric.gapTimeout_lone (hh : (f.dstState n).held0 = [h]) (ht : h.tick + f.rtr.gapTicks ≤ f.tick)
    (hs : h.flit.seq = ((f.dstState n).next0 + 1) % 4096) :
    ∃ ps order inbox held, f.gapTimeout n 0 =
      (f.skipOne n).afterRelease n (((f.dstState n).skipped f.tick).released h f.tick).1 ps order inbox held := by
  obtain ⟨sameHeld, next, -⟩ := (f.dstState n).skipped_reads f.tick
  obtain ⟨ps, order, inbox, held, released⟩ := Fabric.releaseSeq_lone (f := f.skipOne n) (n := n) (fuel := 2048)
    (by rw [Fabric.skipOne_dstState, sameHeld, hh]) (by rw [Fabric.skipOne_dstState, next, hs])
  refine ⟨ps, order, inbox, held, ?_⟩
  have missing : h.flit.seq ≠ (f.dstState n).next0 := by omega
  have skips : f.gapTimeout n 0 = Fabric.skipGap 4095 (Fabric.releaseSeq (2048 + 1) (f.skipOne n) n 0) n 0 := by
    rw [Fabric.gapTimeout_eq (by decide), Fabric.skipGap]
    simp [hh, ht, missing]
    rfl
  rw [skips, released, Fabric.skipOne_dstState]
  refine Fabric.skipGap_early (held := []) ?_ (by simp)
  rw [if_pos rfl, Fabric.afterRelease_dstState, (DstState.released_reads _ h _).1]

/-- The skip and the release behind it are one skip counted and two credits gathered; nothing is held any more (R286, R559). -/
theorem Fabric.gapTimeout_reads (hh : (f.dstState n).held0 = [h]) (ht : h.tick + f.rtr.gapTicks ≤ f.tick)
    (hs : h.flit.seq = ((f.dstState n).next0 + 1) % 4096) :
    (f.gapTimeout n 0).rtr.gapSkips = sat32 (f.rtr.gapSkips + 1) ∧ ((f.gapTimeout n 0).dstState n).held0 = [] ∧
      ((f.gapTimeout n 0).dstState n).next0 = ((f.dstState n).next0 + 2) % 4096 ∧
      ((f.gapTimeout n 0).dstState n).credits = (f.dstState n).credits + 2 ∧
      (f.gapTimeout n 0).parts = f.parts ∧ (f.gapTimeout n 0).mbxs = f.mbxs := by
  obtain ⟨ps, order, inbox, held, skips⟩ := Fabric.gapTimeout_lone hh ht hs
  obtain ⟨-, skippedNext, skippedCredits⟩ := (f.dstState n).skipped_reads f.tick
  obtain ⟨noneHeld, next, credits⟩ := ((f.dstState n).skipped f.tick).released_reads h f.tick
  obtain ⟨sameSkips, sameParts, sameMbxs⟩ := (f.skipOne n).afterRelease_keeps n
    (((f.dstState n).skipped f.tick).released h f.tick).1 ps order inbox held
  obtain ⟨counted, keptParts, keptMbxs⟩ := f.skipOne_counts n
  rw [skips, Fabric.afterRelease_dstState, noneHeld, next, credits, skippedNext, skippedCredits]
  exact ⟨sameSkips.trans counted, rfl, by omega, rfl, sameParts.trans keptParts, sameMbxs.trans keptMbxs⟩

/-! ### MSG_GAP_TIMEOUT -/

/-- Giving reorder slots back changes the ports alone. -/
theorem Fabric.foldl_freeReorder_eq (f : Fabric) (hs : List Held) :
    ∃ ps, hs.foldl (fun g h => g.freeReorder h.port 1) f = { f with ports := ps } := by
  induction hs generalizing f with
  | nil => exact ⟨_, rfl⟩
  | cons h hs ih => exact ih (f.freeReorder h.port 1)

theorem Fabric.msgGapTimeout_early (hm : (f.dstState n).msgs.find msg = some hs) (ht : ∃ h ∈ hs, f.tick < h.tick + f.rtr.gapTicks) :
    f.msgGapTimeout n msg = f := by
  simp [Fabric.msgGapTimeout, hm, ht]

/-- An incomplete message is discarded GAP_TICKS after its last arrival, its credits gathered (R559). -/
theorem Fabric.msgGapTimeout_discards (hm : (f.dstState n).msgs.find msg = some hs)
    (ht : ∀ h ∈ hs, h.tick + f.rtr.gapTicks ≤ f.tick) :
    ∃ ps since k, f.msgGapTimeout n msg =
      { f with ports := ps,
               rtr := { f.rtr with gapSkips := sat32 (f.rtr.gapSkips + 1),
                                   dsts := f.rtr.dsts.set n { f.dstState n with
                                     msgs := (f.dstState n).msgs.del msg, credits := k, creditSince := since } } } := by
  have due : hs.any (fun h => f.tick < h.tick + f.rtr.gapTicks) = false :=
    List.any_eq_false.mpr fun h hh => by simpa using ht h hh
  unfold Fabric.msgGapTimeout
  simp only [hm, due, Bool.false_eq_true, if_false]
  obtain ⟨since, gathered⟩ := (f.dstState n).gather_eq (hs.filter fun h => prefixLen 32 0 hs ≤ h.flit.seq % 32).length f.tick
  rw [gathered]
  obtain ⟨ps, freed⟩ := Fabric.foldl_freeReorder_eq
    (f.setDst n { f.dstState n with credits := _, creditSince := since, msgs := (f.dstState n).msgs.del msg })
    (hs.filter fun h => prefixLen 32 0 hs ≤ h.flit.seq % 32)
  rw [freed]
  exact ⟨ps, since, _, rfl⟩

/-! ### MSG_SETTLE_TIMEOUT -/

theorem Fabric.msgSettleTimeout_early (ho : f.rtr.openMsgs = [o]) (ht : f.tick < o.last + 2 * f.rtr.gapTicks) :
    f.msgSettleTimeout o.msg = f := by
  simp [Fabric.msgSettleTimeout, ho, ht]

/-- An open message of one receiver is settled: what is owed for it there is dropped, its number is free, and the outbox runs (R559). -/
theorem Fabric.msgSettleTimeout_lone (ho : f.rtr.openMsgs = [o]) (hd : o.receivers = [dst]) (ht : o.last + 2 * f.rtr.gapTicks ≤ f.tick)
    (hout : f.rtr.outbox.any (fun y => y.msgNo == some o.msg) = false) :
    f.msgSettleTimeout o.msg =
      let g := f.setSrc dst { f.srcState dst with owed := (f.srcState dst).owed.filter fun y => y.1 != some o.msg }
      ({ g with rtr := { g.rtr with openMsgs := [] } } : Fabric).pump := by
  simp [Fabric.msgSettleTimeout, ho, hd, Nat.not_lt.mpr ht, hout, Fabric.setSrc]

end Sys2Proof.Machine

namespace Sys2Proof.Proofs
open Sys2Proof.Machine

/-- Settles O39: the skip of a sequence number leaves the flit that waits as the next one, and its release leaves none to skip for;
a message is discarded or settled by the tick alone. -/
theorem lossIsSettledByTime : Obligations.LossIsSettledByTime := by
  intro s hl f r
  have gap {n cls : Nat} {g : Fabric} (h : f.gapTimeout n cls = g) : Goes (.gapTimeout n cls) s g :=
    goes_event (fun f => f.gapTimeout n cls) hl rfl h
  have msgGap {n msg : Nat} {g : Fabric} (h : f.msgGapTimeout n msg = g) : Goes (.msgGapTimeout n msg) s g :=
    goes_event (fun f => f.msgGapTimeout n msg) hl rfl h
  have settle {msg : Nat} {g : Fabric} (h : f.msgSettleTimeout msg = g) : Goes (.msgSettleTimeout msg) s g :=
    goes_event (fun f => f.msgSettleTimeout msg) hl rfl h
  refine ⟨fun n h hh ht hseq _ => ?_, fun n early => gap ?_, fun n early => gap ?_,
    fun n msg hs hm => ⟨fun ht => ?_, fun ht => msgGap (Fabric.msgGapTimeout_early hm ht)⟩,
    fun o d ho hd => ⟨fun ht hout => settle (Fabric.msgSettleTimeout_lone ho hd ht hout),
      fun ht => settle (Fabric.msgSettleTimeout_early ho ht)⟩⟩
  · obtain ⟨skips, held, next, credits, parts, mbxs⟩ := Fabric.gapTimeout_reads hh ht hseq
    exact ⟨_, gap rfl, skips, held, next, credits, parts, mbxs, rfl⟩
  · exact (Fabric.gapTimeout_eq (by decide)).trans (Fabric.skipGap_early rfl early)
  · exact (Fabric.gapTimeout_eq (by decide)).trans (Fabric.skipGap_early rfl early)
  · obtain ⟨ps, since, k, discards⟩ := Fabric.msgGapTimeout_discards hm ht
    refine ⟨_, msgGap discards, rfl, ?_, rfl, rfl, rfl, rfl⟩
    simp [Fabric.dstState]

end Sys2Proof.Proofs
end

section
/-!
SUPPORT. Ports and lanes after an update, and what the router core changes of a port when flits move on (R270 to R294, R308, R314,
R315): its buffers and counts and what it owes, nothing of its link.
-/
namespace Sys2Proof.Machine

variable {f g h : Fabric} {p q r : Port} {k l : Nat}

/-! ### Ports and lanes after an update -/

@[simp] theorem Fabric.port_updPort_same (f : Fabric) (k : Nat) (u : Port → Port) : (f.updPort k u).port k = u (f.port k) := by
  simp [Fabric.port, Fabric.updPort]

theorem Fabric.port_updPort_other (f : Fabric) (u : Port → Port) {j : Nat} (hkj : k ≠ j) : (f.updPort k u).port j = f.port j := by
  simp [Fabric.port, Fabric.updPort, Map.get_set_other, hkj]

@[simp] theorem Fabric.lane_updLane_same (f : Fabric) (l : Nat) (u : Lane → Lane) : (f.updLane l u).lane l = u (f.lane l) := by
  simp [Fabric.lane, Fabric.updLane]

theorem Fabric.lane_updLane_other (f : Fabric) (u : Lane → Lane) {j : Nat} (hlj : l ≠ j) : (f.updLane l u).lane j = f.lane j := by
  simp [Fabric.lane, Fabric.updLane, Map.get_set_other, hlj]

@[simp] theorem Fabric.port_updLane (f : Fabric) (l k : Nat) (u : Lane → Lane) : (f.updLane l u).port k = f.port k := rfl
@[simp] theorem Fabric.lane_updPort (f : Fabric) (k l : Nat) (u : Port → Port) : (f.updPort k u).lane l = f.lane l := rfl
@[simp] theorem Fabric.portOf_updLane (f : Fabric) (l j : Nat) (u : Lane → Lane) : (f.updLane l u).portOf j = f.portOf j := rfl

/-! ### What the router core changes of a port -/

/-- A port before and after flits have moved on: its buffers and counts differ, and it owes what it owed and perhaps more. -/
def Port.Routed (p q : Port) : Prop :=
  ∃ marks drops hwm reord inUse freed owes since,
    q = { p with marks := marks, drops := drops, hwm := hwm, reordHeld := reord, inUse := inUse, freed := freed,
                 owed := p.owed || owes, owedSince := since }

theorem Port.Routed.refl (p : Port) : p.Routed p :=
  ⟨_, _, _, _, _, _, false, p.owedSince, by rw [Bool.or_false]⟩

theorem Port.Routed.trans (hpq : p.Routed q) (hqr : q.Routed r) : p.Routed r := by
  obtain ⟨_, _, _, _, _, _, owes, _, rfl⟩ := hpq
  obtain ⟨_, _, _, _, _, _, owes', _, rfl⟩ := hqr
  exact ⟨_, _, _, _, _, _, owes || owes', _, by rw [← Bool.or_assoc]⟩

theorem Port.Routed.of_counts (p : Port) (marks drops hwm reord : Nat) :
    p.Routed { p with marks := marks, drops := drops, hwm := hwm, reordHeld := reord } :=
  ⟨_, _, _, _, _, _, false, p.owedSince, by rw [Bool.or_false]⟩

/-- The device before and after flits have moved on. -/
structure Fabric.Routed (f g : Fabric) : Prop where
  parts : g.parts = f.parts
  mbxs : g.mbxs = f.mbxs
  port : ∀ k, (f.port k).Routed (g.port k)

theorem Fabric.Routed.refl (f : Fabric) : f.Routed f := ⟨rfl, rfl, fun k => Port.Routed.refl (f.port k)⟩

theorem Fabric.Routed.trans (hfg : f.Routed g) (hgh : g.Routed h) : f.Routed h :=
  ⟨hgh.parts.trans hfg.parts, hgh.mbxs.trans hfg.mbxs, fun k => (hfg.port k).trans (hgh.port k)⟩

/-- A change beside the partitions, the mailboxes and the ports. -/
theorem Fabric.Routed.of_ports (hports : g.ports = f.ports) (hparts : g.parts = f.parts) (hmbxs : g.mbxs = f.mbxs) : f.Routed g :=
  ⟨hparts, hmbxs, fun k => by rw [show g.port k = f.port k by rw [Fabric.port, hports, Fabric.port]]; exact Port.Routed.refl _⟩

theorem Fabric.setRouter_routed (f : Fabric) (r : Router) : f.Routed { f with rtr := r } := .of_ports rfl rfl rfl

theorem Fabric.Noticed.routed (hfg : f.Noticed g) : f.Routed g := by
  obtain ⟨_, _, _, _, _, rfl, -⟩ := hfg
  exact .of_ports rfl rfl rfl

theorem Fabric.updPort_routed (f : Fabric) (k : Nat) {u : Port → Port} (hu : (f.port k).Routed (u (f.port k))) :
    f.Routed (f.updPort k u) := by
  refine ⟨rfl, rfl, fun j => ?_⟩
  by_cases hkj : k = j
  · subst hkj
    rw [Fabric.port_updPort_same]
    exact hu
  · rw [Fabric.port_updPort_other f u hkj]
    exact Port.Routed.refl _

/-- A fold moves flits on where each of its steps does. -/
theorem Fabric.foldl_routed {α : Type} {step : Fabric → α → Fabric} (hstep : ∀ (g : Fabric) x, g.Routed (step g x)) (xs : List α) (f : Fabric) :
    f.Routed (xs.foldl step f) :=
  List.foldlRecOn (motive := f.Routed) xs step (.refl f) fun g hg x _ => hg.trans (hstep g x)

/-! ### Queues -/

theorem Fabric.freeSlot_routed (f : Fabric) (port cls : Nat) : f.Routed (f.freeSlot port cls) := by
  unfold Fabric.freeSlot
  split
  · exact .refl f
  · exact f.updPort_routed port ⟨_, _, _, _, _, _, true, _, by rw [Bool.or_true]⟩

theorem Fabric.leaveQueue_routed (f : Fabric) (q : QFlit) (cls : Nat) : f.Routed (f.leaveQueue q cls) := by
  unfold Fabric.leaveQueue
  split
  · exact f.freeSlot_routed q.inPort cls
  · exact .refl f

theorem Fabric.noteDepth_routed (f : Fabric) (k : Nat) : f.Routed (f.noteDepth k) := by
  unfold Fabric.noteDepth
  exact f.updPort_routed k (.of_counts _ _ _ _ _)

theorem Fabric.assign_routed (f : Fabric) (q : QFlit) (entering : Bool) : f.Routed (f.assign q entering) := by
  unfold Fabric.assign
  split
  case h_1 => exact .of_ports rfl rfl rfl
  case h_2 => exact .of_ports rfl rfl rfl
  case h_3 k _ _ _ _ _ =>
    extract_lets mark y r r' f₁ f₂
    have queued : f.Routed f₁ := .of_ports rfl rfl rfl
    have marked : f₁.Routed f₂ := by
      unfold f₂
      split
      · exact f₁.updPort_routed k (.of_counts _ _ _ _ _)
      · exact .refl f₁
    exact queued.trans (marked.trans (f₂.noteDepth_routed k))

theorem Fabric.place_routed (f : Fabric) (q : QFlit) (entering : Bool) : f.Routed (f.place q entering) :=
  (f.assign_routed q entering).trans (Fabric.leaveQueue_routed _ q q.slotClass)

theorem Fabric.bumpHeads_routed (f : Fabric) (was : Router) : f.Routed (f.bumpHeads was) := .of_ports rfl rfl rfl

theorem Fabric.rechoose_routed (f : Fabric) : f.Routed f.rechoose := by
  unfold Fabric.rechoose
  extract_lets waiting keep _ g
  have kept : f.Routed g := f.setRouter_routed _
  exact kept.trans ((Fabric.foldl_routed (fun g q => g.place_routed q false) waiting g).trans (Fabric.bumpHeads_routed _ f.rtr))

/-! ### Arrival of flits -/

theorem Fabric.echo_routed (f : Fabric) (node : Nat) : f.Routed (f.echo node) := by
  unfold Fabric.echo
  extract_lets key w
  split
  · exact .of_ports rfl rfl rfl
  · split
    · exact .of_ports rfl rfl rfl
    · exact .of_ports rfl rfl rfl
    · dsimp only [Fabric.draw]
      split
      · exact .of_ports rfl rfl rfl
      · split
        · exact .of_ports rfl rfl rfl
        · exact .of_ports rfl rfl rfl

theorem Fabric.arrive_routed (f : Fabric) (m : Msg) : f.Routed (f.arrive m) := by
  obtain ⟨order, inbox, held, arrived⟩ := f.arrive_eq m
  rw [arrived]
  exact .of_ports rfl rfl rfl

theorem Fabric.freeReorder_routed (f : Fabric) (port n : Nat) : f.Routed (f.freeReorder port n) :=
  f.updPort_routed port (.of_counts _ _ _ _ _)

theorem Fabric.releaseSeq_routed (fuel : Nat) (f : Fabric) (src cls : Nat) : f.Routed (Fabric.releaseSeq fuel f src cls) := by
  induction fuel generalizing f with
  | zero => exact .refl f
  | succ fuel ih =>
    unfold Fabric.releaseSeq
    extract_lets d held next
    split
    · exact .refl f
    · next h _ =>
      dsimp only
      have freed (d : DstState) : f.Routed ((f.setDst src d).freeReorder h.port 1) :=
        (f.setRouter_routed _).trans (Fabric.freeReorder_routed _ h.port 1)
      refine .trans ?_ (ih _)
      split
      · next m _ => exact (freed _).trans (Fabric.arrive_routed _ m)
      · exact freed _

/-- A flit that enters the reorder pool takes a slot there (R280). -/
theorem Fabric.takeReorder_routed (f : Fabric) (n : Nat) (d : DstState) (port : Nat) :
    f.Routed ((f.setDst n d).updPort port fun p => { p with reordHeld := p.reordHeld + 1 }) :=
  (f.setRouter_routed _).trans
    (Fabric.updPort_routed _ port (.of_counts _ _ _ _ _))

theorem Fabric.deliver_routed (f : Fabric) (x : Flit) (port : Nat) : f.Routed (f.deliver x port) := by
  unfold Fabric.deliver
  extract_lets f₁ _ _ _ _ _ f₂ _ _ _ _ _ _ _ out _ _ _ f₃ f₄
  have echoed : f.Routed f₁ := by
    unfold f₁
    split
    · exact f.echo_routed x.src
    · exact .refl f
  have pooled : f.Routed f₄ :=
    (echoed.trans (f₁.takeReorder_routed x.src _ port)).trans (Fabric.foldl_routed (fun g y => g.freeReorder_routed y.port 1) out f₃)
  split
  · split
    · exact (echoed.trans (f₁.takeReorder_routed x.src _ port)).trans (Fabric.releaseSeq_routed 2049 f₂ x.src x.cls)
    · exact echoed.trans (.of_ports rfl rfl rfl)
  · split
    · split
      · exact pooled.trans (f₄.arrive_routed _)
      · exact pooled
    · exact pooled

/-! ### Multicast -/

/-- A multicast flit takes one branch output. -/
theorem Fabric.queueBranch_routed (f : Fabric) (qs : List QFlit) (order k : Nat) :
    f.Routed (({ f with rtr := { f.rtr with queue := qs, order := order } } : Fabric).noteDepth k) :=
  (f.setRouter_routed _).trans (Fabric.noteDepth_routed _ k)

/-- A split copy of a multicast flit is assigned as a unicast one (R294). -/
theorem Fabric.assignSplit_routed (f : Fabric) (order : Nat) (q : QFlit) :
    f.Routed (({ f with rtr := { f.rtr with order := order } } : Fabric).assign q) :=
  (f.setRouter_routed _).trans (Fabric.assign_routed _ q false)

theorem Fabric.mcFlit_routed (f : Fabric) (x : Flit) (inPort group inCls : Nat) (b : Branch) (first : Bool) (hops : Nat) :
    f.Routed (f.mcFlit x inPort group inCls b first hops) := by
  unfold Fabric.mcFlit
  extract_lets _ _ lost f₁ f₂ _ f₃
  have dropped : f.Routed f₁ :=
    Fabric.foldl_routed (fun g k => g.updPort_routed k (.of_counts _ _ _ _ _)) lost f
  have branched : f₁.Routed f₂ := Fabric.foldl_routed (fun g k => g.queueBranch_routed _ _ k) _ f₁
  have split : f₂.Routed f₃ := Fabric.foldl_routed (fun g n => g.assignSplit_routed _ _) _ f₂
  have outs := dropped.trans (branched.trans split)
  split
  · exact outs.trans (f₃.deliver_routed x inPort)
  · exact outs

theorem Fabric.mcTry_routed {x : Flit} {inPort group inCls : Nat} (hg : f.mcTry x inPort group inCls = some g) : f.Routed g := by
  unfold Fabric.mcTry at hg
  extract_lets key others at hg
  split at hg
  · split at hg
    · contradiction
    · dsimp only at hg
      obtain rfl := Option.some.inj hg
      exact (f.setRouter_routed _).trans (Fabric.mcFlit_routed _ _ _ _ _ _ _ _)
  · obtain ⟨b, -, rfl⟩ := Option.map_eq_some_iff.mp hg
    have sent := f.mcFlit_routed x inPort group inCls b false 0
    dsimp only
    split
    · exact sent.trans (Fabric.setRouter_routed _ _)
    · exact sent

theorem Fabric.mcDone_routed (f : Fabric) (inPort group inCls : Nat) : f.Routed (f.mcDone inPort group inCls) := by
  unfold Fabric.mcDone
  split
  · exact .refl f
  · exact f.freeSlot_routed inPort inCls

theorem Fabric.mcRetry_routed (fuel : Nat) (f : Fabric) (inPort : Nat) : f.Routed (Fabric.mcRetry fuel f inPort) := by
  induction fuel generalizing f with
  | zero => exact .refl f
  | succ fuel ih =>
    unfold Fabric.mcRetry
    extract_lets held _ without
    split
    · next g hg =>
      obtain ⟨q, -, hq⟩ := List.exists_of_findSome?_eq_some hg
      obtain ⟨g', hg', rfl⟩ := Option.map_eq_some_iff.mp hq
      have taken : f.Routed (without q) := f.setRouter_routed _
      exact (taken.trans (Fabric.mcTry_routed hg')).trans ((g'.mcDone_routed inPort q.group q.inCls).trans (ih _))
    · exact .refl f

theorem Fabric.multicast_routed (f : Fabric) (x : Flit) (inPort group inCls : Nat) : f.Routed (f.multicast x inPort group inCls) := by
  unfold Fabric.multicast
  split
  · exact .of_ports rfl rfl rfl
  · next g hg =>
    exact (Fabric.mcTry_routed hg).trans ((g.mcDone_routed inPort group inCls).trans (Fabric.mcRetry_routed _ _ inPort))

/-- The report of a wrapped counter is a notice (R325, R514). -/
theorem Fabric.counterWrap_routed (f : Fabric) (reg unit idx : Nat) : f.Routed (f.counterWrap reg unit idx) :=
  .trans (g := { f with wraps := f.wraps.set reg (sat32 (f.wraps.get reg 0 + 1)) }) (.of_ports rfl rfl rfl)
    (Fabric.notify_noticed _ 32 (show 0x0B ≠ 2 by decide)).routed

end Sys2Proof.Machine
end

section
/-!
SUPPORT. Bring-up, sleep and retraining of a port (R348, R355 to R364): each timed event by its condition, each step of training by the
state of the port, and what a port is when it has entered RETRAIN.
-/
namespace Sys2Proof.Machine

variable {f : Fabric} {s : State} {i : Instr} {t : Ts} {k lane good reason : Nat}

/-! ### Events that their condition decides -/

/-- An event of the live device that acts where its condition holds, and leaves the fabric die where it does not. -/
theorem goes_when {g : Fabric} {due : Prop} {test : Bool} (act : Fabric → Fabric) (hl : s.fab.live = true)
    (hi : exec i s = s.onFabric Fabric.live act) (hact : act s.fab = if test then g else s.fab) (hdue : test = true ↔ due) :
    (due → Goes i s g) ∧ (¬ due → Goes i s s.fab) :=
  ⟨fun h => goes_event act hl hi (hact.trans (if_pos (hdue.mpr h))),
   fun h => goes_event act hl hi (hact.trans (if_neg fun ht => h (hdue.mp ht)))⟩

/-! ### What reaches no port -/

theorem Fabric.finish_ports (f : Fabric) (m st r0 : Nat) (resp : List Word) (len : Nat) : (f.finish m st r0 resp len).ports = f.ports := by
  unfold Fabric.finish
  split
  · obtain ⟨_, _, _, completed⟩ := f.complete_eq m st (w64 r0) resp len
    rw [completed]
  · rfl

theorem Fabric.scanRec_ports (f : Fabric) (m lane : Nat) (ws : List Word) : (f.scanRec m lane ws).ports = f.ports := by
  unfold Fabric.scanRec Fabric.endScanOp
  dsimp only
  split
  · rfl
  · split
    · exact Fabric.finish_ports _ _ _ _ _ _
    · rfl

theorem Fabric.abortScans_ports (f : Fabric) (lanes : List Nat) : (f.abortScans lanes).ports = f.ports := by
  refine List.foldlRecOn (motive := fun g : Fabric => g.ports = f.ports) lanes _ rfl fun g hg l _ => ?_
  split
  · exact hg
  · dsimp only
    split
    · exact (Fabric.scanRec_ports _ _ _ _).trans hg
    · exact hg

@[simp] theorem Fabric.abortScans_port (f : Fabric) (lanes : List Nat) (k : Nat) : (f.abortScans lanes).port k = f.port k := by
  rw [Fabric.port, f.abortScans_ports, Fabric.port]

/-- A change of lanes changes the lanes alone. -/
theorem Fabric.foldl_updLane_eq (f : Fabric) (lanes : List Nat) (u : Nat → Lane → Lane) :
    ∃ ls, lanes.foldl (fun g l => g.updLane l (u l)) f = { f with lanes := ls } :=
  List.foldlRecOn (motive := fun g : Fabric => ∃ ls, g = { f with lanes := ls }) lanes _ ⟨f.lanes, rfl⟩
    fun _ hg l _ => by obtain ⟨_, rfl⟩ := hg; exact ⟨_, rfl⟩

theorem Fabric.linkNotice_noticed (f : Fabric) (k : Nat) (old new : LinkState) (reason lane ticks : Nat) :
    f.Noticed (f.linkNotice k old new reason lane ticks) := f.notify_noticed 32 (show 5 ≠ 2 by decide)

/-! ### Retraining -/

/-- A link control flit leaves the state of its port and its count of retrains. -/
theorem Fabric.putLcf_keeps (f : Fabric) (k : Nat) (hb : Option (List Word)) :
    ((f.putLcf k hb).port k).state = (f.port k).state ∧ ((f.putLcf k hb).port k).retrains = (f.port k).retrains := by
  unfold Fabric.putLcf
  dsimp only
  split
  · simp [Port.paid]
  · simp [Fabric.putSlot, Port.paid]

/-- Where flits move on, and where a notice is written, a port keeps its state and its count of retrains. -/
theorem Fabric.Routed.retrained {g h : Fabric} (hgh : g.Routed h) {st : LinkState} {n : Nat}
    (hg : (g.port k).state = st ∧ (g.port k).retrains = n) : (h.port k).state = st ∧ (h.port k).retrains = n := by
  obtain ⟨_, _, _, _, _, _, _, _, port⟩ := hgh.port k
  rw [port]
  exact hg

/-- A usable port that enters RETRAIN counts it (R348). -/
theorem Fabric.enterRetrain_port (hu : (f.port k).state.usable = true) :
    ((f.enterRetrain k reason).port k).state = .retrain ∧
      ((f.enterRetrain k reason).port k).retrains = min 65535 ((f.port k).retrains + 1) := by
  unfold Fabric.enterRetrain
  rw [if_neg (by simp [hu])]
  extract_lets f₁ _ f₂ _ f₃ f₄ f₅
  have requested : (f₂.port k).retrains = (f.port k).retrains := by
    unfold f₂
    split
    · rw [(Fabric.putLcf_keeps _ k none).2]
      simp [f₁]
    · simp [f₁]
  have counted : (f₃.port k).retrains = min 65535 ((f.port k).retrains + 1) := by simp [f₃, requested]
  obtain ⟨ls, unlocked⟩ := f₃.foldl_updLane_eq (f.port k).allLanes fun _ x => { x with locked := false }
  have noticed : (f₅.port k).retrains = min 65535 ((f.port k).retrains + 1) :=
    ((f₄.linkNotice_noticed k (f.port k).state .retrain reason 0 (f₄.tick - (f.port k).entered)).routed.retrained
      (st := (f₄.port k).state) ⟨rfl, by rw [show f₄ = _ from unlocked]; exact counted⟩).2
  exact (f₅.toState k .retrain).rechoose_routed.retrained (by simpa [Fabric.toState] using noticed)

theorem Fabric.laneLockLoss_lone (ho : f.portOf lane = none) : f.laneLockLoss lane = f.updLane lane fun x => { x with locked := false } := by
  simp [Fabric.laneLockLoss, ho]

/-- An active lane that loses lock sends its port into RETRAIN (R348). -/
theorem Fabric.laneLockLoss_active (ho : f.portOf lane = some k) (ha : (f.port k).activeLanes.contains lane = true) :
    f.laneLockLoss lane = (f.updLane lane fun x => { x with locked := false }).enterRetrain k 0x04 := by
  rw [List.contains_eq_mem, decide_eq_true_eq] at ha
  simp [Fabric.laneLockLoss, ho, ha]

/-- A lane of the receiver, or of a waking transmitter, that has not locked in time sends the port into RETRAIN (R364). -/
theorem Fabric.wakeTimeout_eq (f : Fabric) (k : Nat) :
    f.wakeTimeout k =
      if (f.port k).rxWake.any (fun t => t + 15625 ≤ f.tick) || ((f.port k).state == .wake && (f.port k).wakeSince + 15625 ≤ f.tick) then
        f.enterRetrain k 0x04
      else f := by
  unfold Fabric.wakeTimeout
  dsimp only
  cases (f.port k).rxWake with
  | none => rfl
  | some t => rfl

/-! ### Training -/

/-- The device after a sound training sequence has given its tick (Table 10.7). -/
def Fabric.heard (f : Fabric) (k : Nat) (t : Ts) : Fabric := f.updPort k fun p => { p with tsTick := t.tick, tsAt := f.tick }

/-- The quads of a mask that a port has. -/
def Port.ownQuads (p : Port) (mask : Nat) : Nat := maskOf ((bitsOf mask 12).filter (· < p.count))

theorem Fabric.trainingRx_unsound (hg : t.good = false) : f.trainingRx k t good = f := by simp [Fabric.trainingRx, hg]

theorem Fabric.trainingRx_sound (hg : t.good = true) : f.trainingRx k t good = (f.heard k t).trainingStep k t good := if_pos hg

theorem Fabric.trainingStep_lock (hs : (f.port k).state = .lock) :
    f.trainingStep k t good = (((f.lockQuads k ((f.port k).ownQuads good)).updPort k fun p =>
      { p with rate := max p.rate (min 2 t.rate), rxRate := some t.rate }).toState k .align) := by
  simp [Fabric.trainingStep, hs, Port.ownQuads]

theorem Fabric.trainingStep_align (hs : (f.port k).state = .align) :
    f.trainingStep k t good =
      let g := f.lockQuads k ((f.port k).ownQuads good)
      (g.updPort k fun p => { p with rxGood := g.withoutFailed k ((f.port k).ownQuads good), sendReady := false }).toState k .config := by
  simp [Fabric.trainingStep, hs, Port.ownQuads]

/-- A port that the peer does not fit reports it once (R358). -/
theorem Fabric.trainingStep_miscabled (hs : (f.port k).state = .config) (hb : f.peerBad k t = true) :
    f.trainingStep k t good =
      if (f.port k).miscable then f
      else (f.updPort k fun p => { p with miscable := true, peerKind := t.kind, peer := if t.kind = 2 then 0 else t.node }).linkNotice
        k .config .config 0x09 0 (f.tick - (f.port k).entered) := by
  simp [Fabric.trainingStep, hs, hb]

/-- CONFIG with the right peer (R357, R359): back to LOCK, wait, or agree. -/
theorem Fabric.trainingStep_config (hs : (f.port k).state = .config) (hb : f.peerBad k t = false) :
    f.trainingStep k t good =
      let act := bothMask (f.port k).rxGood t.rxGood
      let agreed := f.updPort k fun p => { p.agree t f.tick act with fec := p.fecReq || t.fecReq }
      if t.rate ≠ (f.port k).rate ∨ act = 0 then (f.updPort k fun p => { p with sendReady := false, trySince := f.tick }).toState k .lock
      else if t.phase < 4 then f
      else if t.phase = 5 then agreed.enterActive k else agreed := by
  simp [Fabric.trainingStep, hs, hb]

end Sys2Proof.Machine

namespace Sys2Proof.Proofs
open Sys2Proof.Machine

/-- Settles O40: a timed event is decided by its condition; a sound training sequence first gives its tick, which no condition of its
step reads. -/
theorem linksComeUpSleepAndRetrain : Obligations.LinksComeUpSleepAndRetrain := by
  intro s hl f
  have trains {k good : Nat} {t : Ts} {g : Fabric} (h : f.trainingRx k t good = g) : Goes (.trainingSequenceRx k t good) s g :=
    goes_event (fun f => f.trainingRx k t good) hl rfl h
  have losesLock {lane : Nat} {g : Fabric} (h : f.laneLockLoss lane = g) : Goes (.laneLockLoss lane) s g :=
    goes_event (fun f => f.laneLockLoss lane) hl rfl h
  refine ⟨fun k => ⟨goes_when (fun f => f.quietEnd k) hl rfl rfl (by simp [f]), goes_when (fun f => f.rateTryTimeout k) hl rfl rfl (by simp [f]),
      fun energy => goes_when (fun f => f.rateFallback k energy) hl rfl rfl (by simp [and_assoc, f]),
      fun t good bad => trains (Fabric.trainingRx_unsound bad), fun t good sound => ?_,
      goes_when (fun f => f.laneWaitExpire k) hl rfl rfl (by simp [f]), goes_when (fun f => f.retrainLimit k) hl rfl rfl (by simp [f]),
      goes_when (fun f => f.napEntry k) hl rfl rfl (by simp [and_assoc, f]), goes_when (fun f => f.txWake k) hl rfl rfl (by simp [f]),
      goes_when (fun f => f.wakeTimeout k) hl rfl (f.wakeTimeout_eq k) (by simp [Option.any_eq_true])⟩,
    fun lane k ho ha hu => ?_, fun lane ho => losesLock (Fabric.laneLockLoss_lone ho)⟩
  · have port : (f.heard k t).port k = { f.port k with tsTick := t.tick, tsAt := f.tick } := Fabric.port_updPort_same _ _ _
    have inState {st : LinkState} (h : (f.port k).state = st) : ((f.heard k t).port k).state = st := by rw [port]; exact h
    have steps {g : Fabric} (h : (f.heard k t).trainingStep k t good = g) : Goes (.trainingSequenceRx k t good) s g :=
      trains ((Fabric.trainingRx_sound sound).trans h)
    refine ⟨fun hs => steps ?_, fun hs => steps ?_, fun hs hb hm => steps ?_, fun hs hb hm => steps ?_,
      fun hs hb => ⟨fun h => steps ?_, fun hr ha hph => steps ?_, fun hr ha hph => steps ?_⟩⟩
    · rw [Fabric.trainingStep_lock (inState hs), port]
      rfl
    · rw [Fabric.trainingStep_align (inState hs), port]
      rfl
    · rw [Fabric.trainingStep_miscabled (inState hs) hb, port]
      exact if_neg (by simp [hm])
    · rw [Fabric.trainingStep_miscabled (inState hs) hb, port]
      exact if_pos hm
    · rw [Fabric.trainingStep_config (inState hs) hb, port]
      exact if_pos h
    · rw [Fabric.trainingStep_config (inState hs) hb, port]
      exact (if_neg (not_or.mpr ⟨not_not.mpr hr, ha⟩)).trans (if_pos hph)
    · rw [Fabric.trainingStep_config (inState hs) hb, port]
      exact (if_neg (not_or.mpr ⟨not_not.mpr hr, ha⟩)).trans (if_neg (Nat.not_lt.mpr hph))
  · have loss := losesLock (Fabric.laneLockLoss_active ho ha)
    exact ⟨loss, _, loss, Fabric.enterRetrain_port (f := f.updLane lane _) hu⟩

end Sys2Proof.Proofs
end

section
/-!
SUPPORT. Slots in both directions (R311, R334, R337 to R346): the next slot of a port and what fails it, data flits and link control
flits that are good, codewords, resends, and what leaves in a slot.
-/
namespace Sys2Proof.Machine

variable {f g : Fabric} {k l n : Nat} {q : QFlit} {r : Retx} {m : Lcf} {x : Flit} {crc : Word}

/-! ### The next slot of a port -/

/-- The lane of the next slot that a port receives (R334, R363). -/
def Fabric.nextLane (f : Fabric) (k : Nat) : Nat := (f.port k).slotLane (f.port k).rxNap (f.port k).rxSlot

/-- The device where a port has taken its next slot from a lane. -/
def Fabric.takeSlot (f : Fabric) (k l : Nat) : Fabric :=
  (f.updLane l fun x => { x with rxSlots := x.rxSlots + 1, badSlots := x.badSlots.filter (x.rxSlots < ·) }).updPort k
    fun p => { p with rxSlot := p.rxSlot + 1 }

@[simp] theorem Fabric.takeSlot_port (f : Fabric) (k l : Nat) :
    (f.takeSlot k l).port k = { f.port k with rxSlot := (f.port k).rxSlot + 1 } := by simp [Fabric.takeSlot]

theorem Fabric.takeSlot_eq (f : Fabric) (k l : Nat) : ∃ ps ls, f.takeSlot k l = { f with ports := ps, lanes := ls } := ⟨_, _, rfl⟩

/-- A taken slot and what it does at its port change ports and lanes alone. -/
theorem Fabric.takeSlot_updPort_frame (f : Fabric) (k l : Nat) (u : Port → Port) :
    { (f.takeSlot k l).updPort k u with ports := f.ports, lanes := f.lanes } = f := by
  obtain ⟨_, _, taken⟩ := f.takeSlot_eq k l
  rw [taken]
  rfl

/-- The codewords under a lane's next slot are decoded. -/
def Fabric.decoded (f : Fabric) (k l : Nat) : Prop := codewordsFor (f.port k).fec ((f.lane l).rxSlots + 1) ≤ (f.lane l).cw

theorem Fabric.decodeFor_decoded (hd : f.decoded k l) : Fabric.decodeFor n f k l = f := by
  cases n with
  | zero => rfl
  | succ n => exact if_pos (by simp [show codewordsFor _ _ ≤ _ from hd])

/-- One codeword that no command brought is decoded for the next slot. -/
theorem Fabric.decodeFor_next (hu : (f.port k).state.usable = true) (hd : ¬ f.decoded k l) :
    Fabric.decodeFor (n + 1) f k l =
      Fabric.decodeFor n (f.codeword k l ((f.lane l).withInjected (f.port k).fec (some 0))) k l :=
  if_neg (by simp [hu]; exact Nat.not_le.mp hd)

theorem Fabric.slotIn_unusable (hu : (f.port k).state.usable = false) (body : Fabric → Fabric) : f.slotIn k body = f :=
  if_pos (by simp [hu])

/-- The next slot fails where the decoder has marked it, and else meets its meaning (R337, R339). -/
theorem Fabric.slotIn_decodes (hu : (f.port k).state.usable = true) (hg : Fabric.decodeFor 2 f k (f.nextLane k) = g)
    (body : Fabric → Fabric) :
    f.slotIn k body =
      if (g.lane (f.nextLane k)).badSlots.contains (g.lane (f.nextLane k)).rxSlots then (g.takeSlot k (f.nextLane k)).slotFailed k
      else body (g.takeSlot k (f.nextLane k)) := by
  subst hg
  exact if_neg (by simp [hu])

theorem Fabric.slotIn_marked (hu : (f.port k).state.usable = true) (hd : f.decoded k (f.nextLane k))
    (hb : (f.lane (f.nextLane k)).badSlots.contains (f.lane (f.nextLane k)).rxSlots = true) (body : Fabric → Fabric) :
    f.slotIn k body = (f.takeSlot k (f.nextLane k)).slotFailed k :=
  (Fabric.slotIn_decodes hu (Fabric.decodeFor_decoded hd) body).trans (if_pos hb)

theorem Fabric.slotIn_unmarked (hu : (f.port k).state.usable = true) (hd : f.decoded k (f.nextLane k))
    (hb : (f.lane (f.nextLane k)).badSlots.contains (f.lane (f.nextLane k)).rxSlots = false) (body : Fabric → Fabric) :
    f.slotIn k body = body (f.takeSlot k (f.nextLane k)) :=
  (Fabric.slotIn_decodes hu (Fabric.decodeFor_decoded hd) body).trans (if_neg (by rw [hb]; exact Bool.false_ne_true))

/-! ### A slot that fails (R345) -/

theorem Fabric.slotFailed_usable (hu : (f.port k).state.usable = true) :
    f.slotFailed k =
      if (f.port k).nakWait then f else f.updPort k fun p => { p.owe f.tick with nakWait := true, nakTick := f.tick, owedNak := true } := by
  simp [Fabric.slotFailed, hu]

/-- A slot that fails leaves its port in NAK-wait, and changes nothing else of what is counted. -/
theorem Fabric.slotFailed_reads (hu : (f.port k).state.usable = true) :
    ((f.slotFailed k).port k).nakWait = true ∧ ((f.slotFailed k).port k).state = (f.port k).state ∧
      ((f.slotFailed k).port k).fecCw = (f.port k).fecCw ∧ ((f.slotFailed k).port k).fecCorr = (f.port k).fecCorr ∧
      ∃ ps, f.slotFailed k = { f with ports := ps } := by
  rw [Fabric.slotFailed_usable hu]
  split
  · next waits => exact ⟨waits, rfl, rfl, rfl, f.ports, rfl⟩
  · exact ⟨by simp, by simp [Port.owe], by simp [Port.owe], by simp [Port.owe], _, rfl⟩

/-! ### Data flits -/

theorem Fabric.dataFlitRx_injected (hu : (f.port k).state.usable = true) (hd : f.decoded k (f.nextLane k))
    (hb : (f.lane (f.nextLane k)).badSlots.contains (f.lane (f.nextLane k)).rxSlots = false) (hi : (f.port k).crcInject = true) :
    f.dataFlitRx k x crc = ((f.takeSlot k (f.nextLane k)).updPort k fun p => { p with crcInject := false }).slotFailed k := by
  rw [Fabric.dataFlitRx, Fabric.slotIn_unmarked hu hd hb]
  simp [hi]

theorem Fabric.dataFlitRx_wrong (hu : (f.port k).state.usable = true) (hd : f.decoded k (f.nextLane k))
    (hb : (f.lane (f.nextLane k)).badSlots.contains (f.lane (f.nextLane k)).rxSlots = false) (hi : (f.port k).crcInject = false)
    (hc : crc ≠ dataCrc (f.port k).expLseq x.slotWords) :
    f.dataFlitRx k x crc = (f.takeSlot k (f.nextLane k)).slotFailed k := by
  rw [Fabric.dataFlitRx, Fabric.slotIn_unmarked hu hd hb]
  simp [hi, hc]

theorem Fabric.dataFlitRx_good (hu : (f.port k).state.usable = true) (hd : f.decoded k (f.nextLane k))
    (hb : (f.lane (f.nextLane k)).badSlots.contains (f.lane (f.nextLane k)).rxSlots = false) (hi : (f.port k).crcInject = false) :
    f.dataFlitRx k x (dataCrc (f.port k).expLseq x.slotWords) = (f.takeSlot k (f.nextLane k)).acceptFlit k x := by
  rw [Fabric.dataFlitRx, Fabric.slotIn_unmarked hu hd hb]
  simp [hi]

/-- A port after it has accepted a flit under the expected LSEQ (R309, R325, R339). -/
def Port.accepted (p : Port) (x : Flit) (tick : Nat) : Port :=
  { p.owe tick with
      nakWait := false, owedNak := false, expLseq := (p.expLseq + 1) % 65536, rxFlits := p.rxFlits + 1,
      rxBytes := (p.rxBytes + x.bytes) % 2 ^ 64, inUse := p.inUse.set x.creditClass (p.inUse.get x.creditClass 0 + 1) }

/-- Behind the port an accepted flit only moves on in the router core. -/
theorem Fabric.acceptFlit_routed (f : Fabric) (k : Nat) (x : Flit) :
    (f.updPort k fun p => p.accepted x f.tick).Routed (f.acceptFlit k x) := by
  unfold Fabric.acceptFlit
  extract_lets -lift p c wrap f₁ f₂ ord
  have wrapped : f₁.Routed f₂ := by
    unfold f₂
    split
    · exact f₁.counterWrap_routed _ 6 k
    · exact .refl f₁
  refine .trans (g := f₁) (.refl f₁) (wrapped.trans ?_)
  split
  · exact f₂.multicast_routed x k ord c
  · split
    · exact (f₂.deliver_routed x k).trans (Fabric.freeSlot_routed _ k c)
    · exact (f₂.setRouter_routed _).trans (Fabric.place_routed _ _ false)

/-- What an accepted flit leaves at its port. -/
theorem Fabric.acceptFlit_reads (f : Fabric) (k : Nat) (x : Flit) :
    let p := f.port k
    let q := (f.acceptFlit k x).port k
    q.expLseq = (p.expLseq + 1) % 65536 ∧ q.rxFlits = p.rxFlits + 1 ∧ q.rxBytes = (p.rxBytes + x.bytes) % 2 ^ 64 ∧ q.nakWait = false ∧
      q.owed = true ∧ (f.acceptFlit k x).parts = f.parts ∧ (f.acceptFlit k x).mbxs = f.mbxs := by
  obtain ⟨parts, mbxs, ports⟩ := f.acceptFlit_routed k x
  obtain ⟨_, _, _, _, _, _, owes, _, port⟩ := ports k
  dsimp only
  rw [port, Fabric.port_updPort_same]
  exact ⟨rfl, rfl, rfl, rfl, Bool.true_or owes, parts, mbxs⟩

/-! ### Link control flits -/

theorem Fabric.lcfSlotRx_wrong (hu : (f.port k).state.usable = true) (hd : f.decoded k (f.nextLane k))
    (hb : (f.lane (f.nextLane k)).badSlots.contains (f.lane (f.nextLane k)).rxSlots = false) (hc : crc ≠ lcfCrc m.words) :
    f.lcfSlotRx k m crc = (f.takeSlot k (f.nextLane k)).slotFailed k := by
  rw [Fabric.lcfSlotRx, Fabric.slotIn_unmarked hu hd hb]
  simp [hc]

theorem Fabric.lcfSlotRx_good (hu : (f.port k).state.usable = true) (hd : f.decoded k (f.nextLane k))
    (hb : (f.lane (f.nextLane k)).badSlots.contains (f.lane (f.nextLane k)).rxSlots = false) (hh : m.hb = none) :
    f.lcfSlotRx k m (lcfCrc m.words) = (f.takeSlot k (f.nextLane k)).lcfRx k m := by
  rw [Fabric.lcfSlotRx, Fabric.slotIn_unmarked hu hd hb]
  simp [Fabric.linkControl, hh]

/-- Numbers that are added to the first entries of a map. -/
theorem Map.get_foldl_add (add : Nat → Nat) (cs : Map Nat) (n i : Nat) :
    ((List.range n).foldl (fun cs i => cs.set i (cs.get i 0 + add i)) cs).get i 0 = cs.get i 0 + if i < n then add i else 0 := by
  induction n with
  | zero => simp
  | succ n ih =>
    rw [List.range_succ, List.foldl_append, List.foldl_cons, List.foldl_nil]
    by_cases hi : n = i
    · subst hi
      simp [ih]
    · rw [Map.get_set_other _ _ _ _ _ hi, ih]
      have : i < n + 1 ↔ i < n := by omega
      simp only [this]

/-- A link control flit that asks for nothing, where none is waited for, acknowledges and credits (R307, R344). -/
theorem Fabric.lcfRx_plain (hu : (f.port k).state.usable = true) (ha : (f.port k).awaitLcf = false) (hn : m.nak = false)
    (hr : m.req = 0) (ht : m.txeq = none) :
    ∃ q, f.lcfRx k m = f.updPort k (fun _ => q) ∧ q.retx = (f.port k).retx.drop ((f.port k).acked m.ack) ∧
      ∀ i < 6, q.credits.get i 0 = (f.port k).credits.get i 0 + (m.cr.getD i 0 + 65536 - (f.port k).lastCr.get i 0) % 65536 := by
  refine ⟨_, by simp only [Fabric.lcfRx, hu, ha, hn, hr, ht, Bool.not_true, Bool.false_eq_true, if_false]; rfl, rfl, fun i hi => ?_⟩
  dsimp only
  rw [Map.get_foldl_add fun i => (m.cr.getD i 0 + 65536 - (f.port k).lastCr.get i 0) % 65536, if_pos hi]

/-! ### Codewords (R337) -/

theorem Fabric.codeword_corrected (f : Fabric) (k l n : Nat) :
    f.codeword k l (some n) = (f.updLane l fun x => { x with cw := x.cw + 1, symErrors := 0 }).updPort k fun p =>
      { p with fecCw := p.fecCw + 1, fecCorr := p.fecCorr + n } := rfl

/-- An uncorrectable codeword, where fewer than 32 have come in 1,563 ref ticks, marks the slots under it that are still to come. -/
theorem Fabric.codeword_uncorrectable (hunc : (f.lane l).unc.length < 31) :
    ∃ unc, f.codeword k l none =
      (f.updLane l fun x =>
        { x with cw := x.cw + 1, symErrors := 0, unc := unc,
                 badSlots := x.badSlots ++ (slotsUnder (f.port k).fec x.cw).filter fun s => x.rxSlots ≤ s && !x.badSlots.contains s }).updPort k
        fun p => { p with fecCw := p.fecCw + 1, fecUnc := p.fecUnc + 1 } := by
  have few : ¬ 32 ≤ (((f.lane l).unc ++ [f.tick]).filter fun t => f.tick < t + 1563).length := by
    have kept := List.length_filter_le (fun t => decide (f.tick < t + 1563)) ((f.lane l).unc ++ [f.tick])
    rw [List.length_append, List.length_singleton] at kept
    omega
  exact ⟨_, by simp only [Fabric.codeword, ge_iff_le, few, if_false]; rfl⟩

/-- A codeword of a lane is counted; corrected symbols are too, and one that cannot be corrected marks its slots. -/
theorem Fabric.codeword_reads (hunc : (f.lane l).unc.length < 31) (errors : Option Nat) :
    let p := f.port k
    let g := f.codeword k l errors
    (g.port k).fecCw = p.fecCw + 1 ∧ (g.port k).state = p.state ∧ (g.lane l).cw = (f.lane l).cw + 1 ∧
      { g with ports := f.ports, lanes := f.lanes } = f ∧
      (∀ n, errors = some n → (g.port k).fecCorr = p.fecCorr + n ∧ (g.port k).fecUnc = p.fecUnc ∧
        (g.lane l).badSlots = (f.lane l).badSlots) ∧
      (errors = none → (g.port k).fecUnc = p.fecUnc + 1 ∧ (g.port k).fecCorr = p.fecCorr ∧
        ∀ j ∈ slotsUnder p.fec (f.lane l).cw, (f.lane l).rxSlots ≤ j → j ∈ (g.lane l).badSlots) := by
  cases errors with
  | some n =>
    rw [Fabric.codeword_corrected]
    simp
  | none =>
    obtain ⟨unc, marked⟩ := Fabric.codeword_uncorrectable (k := k) hunc
    rw [marked]
    refine ⟨by simp, by simp, by simp, rfl, by simp, fun _ => ⟨by simp, by simp, fun j hj hlo => ?_⟩⟩
    by_cases already : j ∈ (f.lane l).badSlots
    · simp [already]
    · simp [already, hj, hlo]

theorem Fabric.codewordRx_active {before : Nat} {levels : List Nat} (ho : f.portOf l = some k) (hu : (f.port k).state.usable = true)
    (ha : (f.port k).activeLanes.contains l = true) :
    f.codewordRx l before levels =
      f.codeword k l ((f.lane l).withInjected (f.port k).fec (codewordErrors (f.port k).fec (f.port k).rxPre before levels)) := by
  simp only [Fabric.codewordRx, ho, hu, ha]
  rfl

/-- A slot that ends a codeword without symbol errors counts it, whether the slot is good or not. -/
theorem Fabric.slotIn_failed_reads (hu : (f.port k).state.usable = true)
    (hc : (f.lane (f.nextLane k)).cw + 1 = codewordsFor (f.port k).fec ((f.lane (f.nextLane k)).rxSlots + 1))
    (hs : (f.lane (f.nextLane k)).symErrors = 0) :
    let p := f.port k
    let g := f.slotIn k fun f => f.slotFailed k
    (g.port k).fecCw = p.fecCw + 1 ∧ (g.port k).fecCorr = p.fecCorr ∧ (g.port k).nakWait = true ∧ (g.port k).state = p.state ∧
      { g with ports := f.ports, lanes := f.lanes } = f := by
  have pending : ¬ f.decoded k (f.nextLane k) := by rw [Fabric.decoded, ← hc]; omega
  have sound : (f.lane (f.nextLane k)).withInjected (f.port k).fec (some 0) = some 0 := by simp [Lane.withInjected, hs]
  have ready : (f.codeword k (f.nextLane k) (some 0)).decoded k (f.nextLane k) := by
    simp [Fabric.decoded, Fabric.codeword_corrected, ← hc]
  have decodes : Fabric.decodeFor 2 f k (f.nextLane k) = f.codeword k (f.nextLane k) (some 0) := by
    rw [Fabric.decodeFor_next hu pending, sound, Fabric.decodeFor_decoded ready]
  dsimp only
  rw [Fabric.slotIn_decodes hu decodes, ite_self]
  obtain ⟨waits, state, words, corrected, ps, fails⟩ :=
    ((f.codeword k (f.nextLane k) (some 0)).takeSlot k (f.nextLane k)).slotFailed_reads (k := k)
      (by simpa [Fabric.codeword_corrected] using hu)
  refine ⟨words.trans ?_, corrected.trans ?_, waits, state.trans ?_, ?_⟩
  · simp [Fabric.codeword_corrected]
  · simp [Fabric.codeword_corrected]
  · simp [Fabric.codeword_corrected]
  · obtain ⟨_, _, taken⟩ := (f.codeword k (f.nextLane k) (some 0)).takeSlot_eq k (f.nextLane k)
    rw [fails, taken, Fabric.codeword_corrected]
    rfl

/-! ### Resends (R346) -/

theorem Fabric.startResend_few (hr : (f.port k).retx ≠ []) (hn : (f.port k).noProgress < 7) :
    f.startResend k = f.updPort k fun p =>
      { p with retryEvents := p.retryEvents + 1, noProgress := p.noProgress + 1, ackTick := f.tick, replaying := true, replayAt := 0 } := by
  simp [Fabric.startResend, hr, show ¬ 7 ≤ (f.port k).noProgress by omega]

/-- The eighth resend in a row without progress retrains the link (R348). -/
theorem Fabric.startResend_many (hu : (f.port k).state.usable = true) (hr : (f.port k).retx ≠ []) (hn : 7 ≤ (f.port k).noProgress) :
    ((f.startResend k).port k).state = .retrain := by
  simp only [Fabric.startResend, List.isEmpty_iff, hr, if_false, ge_iff_le, show 8 ≤ (f.port k).noProgress + 1 by omega, if_true]
  exact (Fabric.enterRetrain_port (by simpa using hu)).1

/-! ### What leaves in a slot -/

/-- A port may send a data flit in its next slot (R341, R342, R438). -/
def Fabric.maySend (f : Fabric) (k : Nat) : Prop :=
  (f.port k).state.usable = true ∧ (f.port k).awaitLcf = false ∧ (f.port k).lcfSlot = false ∧ (f.port k).lcfDue f.tick = false ∧
    f.roll.state = 1

theorem Fabric.maySend_iff :
    (!(f.port k).state.usable || (f.port k).awaitLcf || (f.port k).lcfSlot || (f.port k).lcfDue f.tick || f.roll.state != 1) = false ↔
      f.maySend k := by
  simp [Fabric.maySend, and_assoc]

theorem Fabric.flitTx_shut (hm : ¬ f.maySend k) : f.flitTx k = f :=
  if_pos (by rw [← Bool.not_eq_false, Fabric.maySend_iff]; exact hm)

theorem Fabric.flitTx_resends (hm : f.maySend k) (hr : (f.port k).replaying = true) : f.flitTx k = f.resendFlit k :=
  (if_neg (by rw [Fabric.maySend_iff.mpr hm]; exact Bool.false_ne_true)).trans (if_pos hr)

theorem Fabric.flitTx_idle (hm : f.maySend k) (hr : (f.port k).replaying = false)
    (hi : 4096 ≤ (f.port k).retx.length ∨ f.pickFlit k = none) : f.flitTx k = f := by
  refine (if_neg (by rw [Fabric.maySend_iff.mpr hm]; exact Bool.false_ne_true)).trans ((if_neg (by simp [hr])).trans ?_)
  by_cases full : 4096 ≤ (f.port k).retx.length
  · exact if_pos full
  · rw [if_neg full, hi.resolve_left full]

/-- A port after it has sent a flit under the next LSEQ for its credit, with its rotating pointer (R307, R311, R312, R325). -/
def Port.sent (p : Port) (x : Flit) (tick pointer : Nat) : Port :=
  { p.spend x with
      retx := p.retx ++ [{ lseq := p.nextLseq, flit := x }], nextLseq := (p.nextLseq + 1) % 65536,
      retxHwm := max p.retxHwm (p.retx.length + 1), txFlits := p.txFlits + 1, txBytes := (p.txBytes + x.bytes) % 2 ^ 64,
      vcPointer := pointer, idleSince := tick, ackTick := if p.retx.isEmpty then tick else p.ackTick, progress := tick, sentNow := true }

/-- A picked flit leaves the queue and takes a slot; behind that its input slot is free and heads of queues change. -/
theorem Fabric.flitTx_routed (hm : f.maySend k) (hr : (f.port k).replaying = false) (hroom : (f.port k).retx.length < 4096)
    (hq : f.pickFlit k = some q) :
    ∃ rtr pointer, ((({ f with rtr := rtr } : Fabric).putSlot k (q.flit.slot (f.port k).nextLseq)).updPort k
      fun p => p.sent q.flit f.tick pointer).Routed (f.flitTx k) := by
  unfold Fabric.flitTx
  extract_lets -lift p was
  rw [if_neg (by rw [Fabric.maySend_iff.mpr hm]; exact Bool.false_ne_true), if_neg (by simp [p, hr]), if_neg (by simpa [p] using hroom), hq]
  dsimp -zeta only
  extract_lets -lift x f₁ wrap f₂ f₃
  have wrapped : f₂.Routed f₃ := by
    unfold f₃
    split
    · exact f₂.counterWrap_routed _ 6 k
    · exact .refl f₂
  exact ⟨_, _, wrapped.trans ((f₃.leaveQueue_routed q q.slotClass).trans (Fabric.bumpHeads_routed _ was))⟩

/-- What a sent flit leaves at its port. -/
theorem Fabric.flitTx_reads (hm : f.maySend k) (hr : (f.port k).replaying = false) (hroom : (f.port k).retx.length < 4096)
    (hq : f.pickFlit k = some q) :
    let p := f.port k
    let g := f.flitTx k
    (g.port k).retx = p.retx ++ [{ lseq := p.nextLseq, flit := q.flit }] ∧ (g.port k).txFlits = p.txFlits + 1 ∧
      (g.port k).txBytes = (p.txBytes + q.flit.bytes) % 2 ^ 64 ∧ (g.port k).nextLseq = (p.nextLseq + 1) % 65536 ∧
      (g.port k).credits = (p.spend q.flit).credits ∧ (g.port k).slot = p.slot + 1 ∧ g.parts = f.parts ∧ g.mbxs = f.mbxs := by
  obtain ⟨rtr, pointer, parts, mbxs, ports⟩ := Fabric.flitTx_routed hm hr hroom hq
  obtain ⟨_, _, _, _, _, _, _, _, port⟩ := ports k
  have slot : (({ f with rtr := rtr } : Fabric).putSlot k (q.flit.slot (f.port k).nextLseq)).port k =
      { f.port k with slot := (f.port k).slot + 1,
                      fixedNow := if ((f.port k).slot + 1) % 5 = 0 then f.fixedRate else (f.port k).fixedNow } :=
    Fabric.port_updPort_same _ _ _
  dsimp only
  rw [port, Fabric.port_updPort_same, slot]
  exact ⟨rfl, rfl, rfl, rfl, rfl, rfl, parts, mbxs⟩

theorem Fabric.resendFlit_next (hr : (f.port k).retx[(f.port k).replayAt]? = some r) :
    f.resendFlit k = (f.putSlot k (r.flit.slot r.lseq)).updPort k fun p =>
      { p with resent := p.resent + 1, replayAt := p.replayAt + 1, replaying := p.replayAt + 1 < p.retx.length, sentNow := true } := by
  simp [Fabric.resendFlit, hr]

theorem Fabric.resendFlit_done (hr : (f.port k).retx[(f.port k).replayAt]? = none) :
    f.resendFlit k = f.updPort k fun p => { p with replaying := false } := by
  simp only [Fabric.resendFlit, hr]

theorem Fabric.lcfSend_shut (hm : f.mayLcf k = false) : f.lcfSend k = f := by simp [Fabric.lcfSend, hm]

theorem Fabric.lcfSend_plain (hm : f.mayLcf k = true) (hh : (f.port k).owedHb = false ∨ f.roll.state = 2 ∨ (f.port k).silence ≠ 0) :
    f.lcfSend k = f.putLcf k none := by
  obtain h | h | h := hh
  · simp [Fabric.lcfSend, hm, h]
  · simp [Fabric.lcfSend, hm, h]
  · simp [Fabric.lcfSend, hm, h]

theorem Fabric.lcfSend_heartbeat (hm : f.mayLcf k = true) (ho : (f.port k).owedHb = true) (hr : f.roll.state ≠ 2)
    (hs : (f.port k).silence = 0) : f.lcfSend k = f.heartbeatSend k := by
  simp [Fabric.lcfSend, hm, ho, hr, hs]

end Sys2Proof.Machine

namespace Sys2Proof.Proofs
open Sys2Proof.Machine

/-- Settles O41: with the codewords under it decoded a slot is taken and fails or meets its meaning; what is sent is decided by what the
port may send. -/
theorem slotsAreSentReceivedAndRetried : Obligations.SlotsAreSentReceivedAndRetried := by
  intro s hl k f p lane x g failed slots
  have dataRx {y : Flit} {crc : Word} {h : Fabric} (hh : f.dataFlitRx k y crc = h) : Goes (.linkDataFlitRx k ⟨y, crc⟩) s h :=
    goes_event (fun f => f.dataFlitRx k y crc) hl rfl hh
  have lcfRx {m : Lcf} {crc : Word} {h : Fabric} (hh : f.lcfSlotRx k m crc = h) : Goes (.lcfRx k ⟨m, crc⟩) s h :=
    goes_event (fun f => f.lcfSlotRx k m crc) hl rfl hh
  have slotFails {h : Fabric} (hh : (f.slotIn k fun f => f.slotFailed k) = h) : Goes (.linkSlotFailed k) s h :=
    goes_event (fun f => f.slotIn k fun f => f.slotFailed k) hl rfl hh
  have every {h : Fabric} (hh : ∀ body, f.slotIn k body = h) (y : Flit) (m : Lcf) (crc : Word) : slots h y m crc :=
    ⟨dataRx (hh _), lcfRx (hh _), slotFails (hh _)⟩
  refine ⟨fun hu => every (Fabric.slotIn_unusable hu), fun hu hd => ?_, fun hu hc hs => ?_,
    goes_when (fun f => f.nakRepeat k) hl rfl rfl (by simp [and_assoc, f, p]), fun l before levels ho hu ha hunc => ?_, ?_, ?_, ?_⟩
  · have port : g.port k = { p with rxSlot := p.rxSlot + 1 } := f.takeSlot_port k (f.nextLane k)
    have fails {h : Fabric} (hsame : (h.port k).state.usable = p.state.usable ∧ (h.port k).nakWait = p.nakWait ∧ h.tick = f.tick) :
        h.slotFailed k = failed h := by
      obtain ⟨usable, waits, tick⟩ := hsame
      rw [Fabric.slotFailed_usable (usable.trans hu), waits, tick]
    have taken : g.slotFailed k = failed g := fails (by rw [port]; exact ⟨rfl, rfl, rfl⟩)
    refine ⟨fun hb => every fun body => (Fabric.slotIn_marked hu hd hb body).trans taken, fun hb =>
      ⟨slotFails ((Fabric.slotIn_unmarked hu hd hb _).trans taken), fun y crc hi => dataRx ?_,
        fun y crc hi hcrc => dataRx ((Fabric.dataFlitRx_wrong hu hd hb hi hcrc).trans taken), fun y hi => ?_,
        fun m crc hcrc => lcfRx ((Fabric.lcfSlotRx_wrong hu hd hb hcrc).trans taken), fun m ha hn hr hh ht => ?_⟩⟩
    · rw [Fabric.dataFlitRx_injected hu hd hb hi]
      exact fails (by rw [Fabric.port_updPort_same]; exact port ▸ ⟨rfl, rfl, rfl⟩)
    · obtain ⟨lseq, flits, bytes, waits, owed, parts, mbxs⟩ := g.acceptFlit_reads k y
      rw [port] at lseq flits bytes
      exact ⟨_, dataRx (Fabric.dataFlitRx_good hu hd hb hi), lseq, flits, bytes, waits, owed, parts, mbxs, rfl⟩
    · obtain ⟨q, plain, retx, credits⟩ := Fabric.lcfRx_plain (f := g) (k := k) (m := m) (by rw [port]; exact hu) (by rw [port]; exact ha) hn hr ht
      rw [port] at retx credits
      refine ⟨_, lcfRx ((Fabric.lcfSlotRx_good hu hd hb hh).trans plain), ?_, ?_, f.takeSlot_updPort_frame k (f.nextLane k) _, rfl⟩
      · rw [Fabric.port_updPort_same]
        exact retx
      · rw [Fabric.port_updPort_same]
        exact credits
  · exact ⟨_, slotFails rfl, Fabric.slotIn_failed_reads hu hc hs⟩
  · obtain ⟨words, state, decodes, frame, corrected, marked⟩ := Fabric.codeword_reads (f := f) (k := k) hunc
      ((f.lane l).withInjected p.fec (codewordErrors p.fec p.rxPre before levels))
    exact ⟨_, goes_event (fun f => f.codewordRx l before levels) hl rfl (Fabric.codewordRx_active ho hu ha), words, state, decodes, frame,
      corrected, marked⟩
  · intro due
    obtain ⟨late, early⟩ := goes_when (i := .replayTimeout k) (due := due) (fun f => f.replayTimeout k) hl rfl rfl (by simp [and_assoc, due, f, p])
    refine ⟨fun hdue few => ?_, fun hdue many => ⟨_, late hdue, ?_⟩, early⟩
    · rw [← Fabric.startResend_few hdue.2.1 few]
      exact late hdue
    · exact Fabric.startResend_many hdue.1 hdue.2.1 many
  · have sends {h : Fabric} (hh : f.flitTx k = h) : Goes (.flitTx k) s h := goes_event (fun f => f.flitTx k) hl rfl hh
    refine ⟨fun hm => sends (Fabric.flitTx_shut hm),
      fun r hm hr hn => sends ((Fabric.flitTx_resends hm hr).trans (Fabric.resendFlit_next hn)),
      fun hm hr hn => sends ((Fabric.flitTx_resends hm hr).trans (Fabric.resendFlit_done hn)),
      fun hm hr hi => sends (Fabric.flitTx_idle hm hr hi), fun q hm hr hroom hq => ⟨_, sends rfl, ?_⟩⟩
    obtain ⟨retx, flits, bytes, lseq, credits, slot, parts, mbxs⟩ := Fabric.flitTx_reads hm hr hroom hq
    exact ⟨retx, flits, bytes, lseq, credits, slot, parts, mbxs, rfl⟩
  · have sends {h : Fabric} (hh : f.lcfSend k = h) : Goes (.linkControlFlitSend k) s h := goes_event (fun f => f.lcfSend k) hl rfl hh
    exact ⟨fun hm => sends (Fabric.lcfSend_shut hm), fun hm hh => sends (Fabric.lcfSend_plain hm hh),
      fun hm ho hr hs => sends (Fabric.lcfSend_heartbeat hm ho hr hs)⟩

end Sys2Proof.Proofs
end

section
/-!
SUPPORT. Scans of lanes and the margins that they leave (R365 to R367, R374, R393), lane tests (R369, R370), and drains of ports (R294,
R373).
-/
namespace Sys2Proof.Machine

variable {f : Fabric} {c : Cmd} {k lane l mask dwell rate m errors bits : Nat} {res : ScanRes} {sc : Scan} {es : List Eye} {why : DrainFor}

/-! ### LANE_SCAN -/

/-- The lanes that a contour scan of some ports scans (R366). -/
def Fabric.scanLanes (f : Fabric) (mask : Nat) : List Nat := ((bitsOf mask 8).flatMap fun k => (f.port k).activeLanes).filter f.scannable

/-- A contour scan past its checks answers at once where it has no lane, and else starts the scans of its lanes. -/
theorem laneScanBody_contour (hm : c.mbx ∈ [32, 33]) (hlen : c.len = 16) (hpay : c.pay = [pack [(12, 8, dwell)], w64 mask])
    (hlo : 16 ≤ dwell) (hhi : dwell ≤ 30) (hmask : mask < 256)
    (hfree : ∀ l ∈ f.scanLanes mask, ∀ x, (f.lane l).scan = some x → x.mbx = none) :
    laneScanBody c f =
      if f.scanLanes mask = [] then okay f
      else ((f.scanLanes mask).foldl (fun g l => g.updLane l fun x =>
          { x with scan := some { mbx := some c.mbx, map := false, dwell := dwell }, nextScan := if x.scan.isSome then 0 else x.nextScan })
        { f with scanOps := f.scanOps ++ [{ mbx := c.mbx, map := false, lanes := f.scanLanes mask }] }, .wait) := by
  have word0 : wd c.pay 0 = pack [(12, 8, dwell)] := by rw [hpay]; rfl
  have word1 : wd c.pay 1 = w64 mask := by rw [hpay]; rfl
  have fields0 : onlyBits (wd c.pay 0) [(0, 0), (12, 8), (23, 16)] = true := by rw [word0]; exact onlyBits_pack (by simp)
  have fields1 : onlyBits (wd c.pay 1) [(7, 0)] = true := by rw [word1]; exact onlyBits_w64 hmask
  have isMap : bit (wd c.pay 0) 0 = false := by simp (disch := simp) [word0, bit_eq_fld, fld_pack_cons_other]
  have isLane : fld (wd c.pay 0) 23 16 = 0 := by simp (disch := simp) [word0, fld_pack_cons_other]
  have isDwell : fld (wd c.pay 0) 12 8 = dwell := by simp (disch := simp) [word0, fld_pack_cons_same]; omega
  have isMask : fld (wd c.pay 1) 7 0 = mask := by rw [word1]; exact fld_w64 hmask (by decide)
  have unasked : ((f.scanLanes mask).any fun l => match (f.lane l).scan with | some s => s.mbx.isSome | none => false) = false := by
    refine List.any_eq_false.mpr fun l hl => ?_
    split
    · next x hx => simp [hfree l hl x hx]
    · exact Bool.false_ne_true
  unfold laneScanBody
  simp only [fromOf_mem hm, hlen, fields0, fields1, isMap, isLane, isDwell, isMask]
  rw [if_neg (by simp), if_neg (by simp [hlo, hhi]), if_neg, if_neg (by simp)]
  · exact if_congr List.isEmpty_iff rfl rfl
  · exact Bool.eq_false_iff.mp unasked

/-- A map scan past its checks answers at once of a lane that cannot be scanned, and else starts its scan. -/
theorem laneScanBody_map (hm : c.mbx ∈ [32, 33]) (hlen : c.len = 16) (hpay : c.pay = [pack [(23, 16, lane), (12, 8, dwell), (0, 0, 1)], 0])
    (hlo : 16 ≤ dwell) (hhi : dwell ≤ 30) (hlane : lane ≤ 191) (hfree : (f.lane lane).scan = none) :
    laneScanBody c f =
      if f.scannable lane then
        (Fabric.updLane { f with scanOps := f.scanOps ++ [{ mbx := c.mbx, map := true, lanes := [lane] }] } lane fun x =>
          { x with scan := some { mbx := some c.mbx, map := true, dwell := dwell } }, .wait)
      else (f, .done stOk 0 (scanRecord lane 1 [] ++ zeros 384) 3088) := by
  have word0 : wd c.pay 0 = pack [(23, 16, lane), (12, 8, dwell), (0, 0, 1)] := by rw [hpay]; rfl
  have word1 : wd c.pay 1 = 0 := by rw [hpay]; rfl
  have fields0 : onlyBits (wd c.pay 0) [(0, 0), (12, 8), (23, 16)] = true := by rw [word0]; exact onlyBits_pack (by simp)
  have noBits : onlyBits 0 [(7, 0)] = true := by decide
  have isMap : bit (wd c.pay 0) 0 = true := by
    simp (disch := simp) [word0, bit_eq_fld, fld_pack_cons_other, fld_pack_cons_same]
  have isLane : fld (wd c.pay 0) 23 16 = lane := by simp (disch := simp) [word0, fld_pack_cons_same]; omega
  have isDwell : fld (wd c.pay 0) 12 8 = dwell := by
    simp (disch := simp) [word0, fld_pack_cons_other, fld_pack_cons_same]; omega
  unfold laneScanBody
  simp only [fromOf_mem hm, hlen, fields0, isMap, isLane, isDwell, word1, noBits]
  rw [if_neg (by simp), if_neg (by simp [hlo, hhi, hlane]), if_neg (by simp [hfree])]
  cases hs : f.scannable lane with
  | false => rfl
  | true =>
    rw [if_neg (by simp), if_neg (by simp)]
    simp [Fabric.updLane, hfree, show ∀ os, Fabric.lane { f with scanOps := os } lane = f.lane lane from fun _ => rfl]

/-! ### Margins -/

/-- A minimum of a list under a key. -/
theorem minBy_le {α : Type} {key : α → Nat} {xs : List α} {x : α} (hx : x ∈ xs) : ∃ y, minBy key xs = some y ∧ key y ≤ key x := by
  induction xs with
  | nil => exact absurd hx List.not_mem_nil
  | cons z xs ih =>
    unfold minBy
    cases hmin : minBy key xs with
    | none =>
      obtain rfl | hx := List.mem_cons.mp hx
      · exact ⟨x, rfl, le_rfl⟩
      · obtain ⟨_, hy, -⟩ := ih hx
        exact absurd (hmin.symm.trans hy) (by simp)
    | some y =>
      have rest (hx : x ∈ xs) : key y ≤ key x := by
        obtain ⟨_, hy, le⟩ := ih hx
        obtain rfl := Option.some.inj (hmin.symm.trans hy)
        exact le
      dsimp only
      split
      · next less =>
        obtain rfl | hx := List.mem_cons.mp hx
        · exact ⟨y, rfl, less.le⟩
        · exact ⟨y, rfl, rest hx⟩
      · next notLess =>
        obtain rfl | hx := List.mem_cons.mp hx
        · exact ⟨x, rfl, le_rfl⟩
        · exact ⟨z, rfl, (Nat.not_lt.mp notLess).trans (rest hx)⟩

/-- The worst eye of a scan that has eyes is one of them (R366). -/
theorem worstEye_mem (he : es ≠ []) : ∃ e, es[worstEye es]? = some e := by
  unfold worstEye
  extract_lets key
  obtain ⟨i, least, le⟩ := minBy_le (key := key) (x := 0) (xs := List.range 3) (by decide)
  rw [least, Option.getD_some]
  cases hi : es[i]? with
  | some e => exact ⟨e, rfl⟩
  | none =>
    have noEye : key i = 2 ^ 20 := by simp only [key, hi]
    obtain ⟨e, rest, rfl⟩ := List.exists_cons_of_ne_nil he
    have firstEye : key 0 < 2 ^ 20 := by
      simp only [key, List.getElem?_cons_zero]
      omega
    omega

/-- What follows a scan may change beside the ports: of a lane the FFE step that is tried, and neither the partitions nor the router nor
the mailboxes. -/
structure Fabric.Tuned (lane : Nat) (f g : Fabric) : Prop where
  parts : g.parts = f.parts
  rtr : g.rtr = f.rtr
  mbxs : g.mbxs = f.mbxs
  lane : ∃ tried, g.lane lane = { f.lane lane with tried := tried }

theorem Fabric.Tuned.of_lanes {g : Fabric} (hlanes : g.lanes = f.lanes) (hparts : g.parts = f.parts) (hrtr : g.rtr = f.rtr)
    (hmbxs : g.mbxs = f.mbxs) : f.Tuned lane g :=
  ⟨hparts, hrtr, hmbxs, _, by rw [Fabric.lane, hlanes, Fabric.lane]⟩

theorem Fabric.Tuned.trans {g h : Fabric} (hfg : f.Tuned lane g) (hgh : g.Tuned lane h) : f.Tuned lane h := by
  obtain ⟨_, first⟩ := hfg.lane
  obtain ⟨_, second⟩ := hgh.lane
  exact ⟨hgh.parts.trans hfg.parts, hgh.rtr.trans hfg.rtr, hgh.mbxs.trans hfg.mbxs, _, by rw [second, first]⟩

theorem Fabric.Noticed.tuned {g : Fabric} (hfg : f.Noticed g) : f.Tuned lane g := by
  obtain ⟨_, _, _, _, _, rfl, -⟩ := hfg
  exact .of_lanes rfl rfl rfl rfl

theorem Fabric.nearby_eq (f : Fabric) (num den : Int) : ∃ n, (f.nearby num den).1 = { f with free := n } := by
  unfold Fabric.nearby
  split
  · exact ⟨f.free, rfl⟩
  · split
    · exact ⟨f.free, rfl⟩
    · exact ⟨_, rfl⟩

theorem Fabric.tuneLane_tuned (f : Fabric) (lane eh cls : Nat) : f.Tuned lane (f.tuneLane lane eh cls) := by
  have asks (g : Fabric) (k : Nat) (u : Port → Port) : g.Tuned lane (g.updPort k u) := .of_lanes rfl rfl rfl rfl
  have tries (g : Fabric) (t : Option (Nat × Int × Nat)) : g.Tuned lane (g.updLane lane fun x => { x with tried := t }) :=
    ⟨rfl, rfl, rfl, t, Fabric.lane_updLane_same _ _ _⟩
  unfold Fabric.tuneLane
  split
  · exact .of_lanes rfl rfl rfl rfl
  · next k _ =>
    extract_lets -lift i ask f₁
    have judged : f.Tuned lane f₁ := by
      unfold f₁
      split
      · split
        · exact .of_lanes rfl rfl rfl rfl
        · exact asks f k _
      · exact .of_lanes rfl rfl rfl rfl
    split
    · refine judged.trans (.trans ?_ (tries _ _))
      exact .trans (g := f₁.draw.1) (.of_lanes rfl rfl rfl rfl) (asks _ k _)
    · exact judged.trans (tries f₁ none)

/-- A scan with eyes sets the margins of its lane; the FFE of the peer and a notice of the class follow. -/
theorem Fabric.setMargin_tuned (he : es ≠ []) (background : Bool) :
    ∃ (n : Nat) (y : Lane), (({ f with free := n } : Fabric).updLane lane fun _ => y).Tuned lane (f.setMargin lane es background) ∧
      y.scan = (f.lane lane).scan ∧ y.scanTick = (f.lane lane).scanTick ∧
      y.highBias = (y.cls == 1 || y.cls == 2 || (y.cls == 3 && (f.lane lane).highBias)) := by
  obtain ⟨e, worst⟩ := worstEye_mem he
  unfold Fabric.setMargin
  extract_lets i x hist
  rw [show es[i]? = some e from worst]
  dsimp -zeta only
  generalize slopeFrac (hist.map fun h => (h.1, h.2.getD i 0)) = frac
  obtain ⟨n₁, drawn₁⟩ := f.nearby_eq frac.1 frac.2
  generalize f.nearby frac.1 frac.2 = near₁ at drawn₁
  extract_lets s cls f₁ f₂ entered
  obtain ⟨n₂, drawn₂⟩ : ∃ n, (if s < 0 then near₁.1.nearby (1000 * ((e.eh - 8 : Nat) : Int)) (-s) else (near₁.1, 65535)).1 =
      { f with free := n } := by
    split
    · obtain ⟨n, drawn⟩ := near₁.1.nearby_eq (1000 * ((e.eh - 8 : Nat) : Int)) (-s)
      exact ⟨n, by rw [drawn, drawn₁]⟩
    · exact ⟨n₁, drawn₁⟩
  obtain ⟨y, sets, scan, tick, bias⟩ : ∃ y, f₁ = (({ f with free := n₂ } : Fabric).updLane lane fun _ => y) ∧
      y.scan = (f.lane lane).scan ∧ y.scanTick = (f.lane lane).scanTick ∧
      y.highBias = (y.cls == 1 || y.cls == 2 || (y.cls == 3 && (f.lane lane).highBias)) := by
    refine ⟨?margins, ?sets, ?reads⟩
    case sets =>
      unfold f₁
      rw [drawn₂]
      rfl
    case reads => exact ⟨rfl, rfl, rfl⟩
  have tuned : f₁.Tuned lane f₂ := f₁.tuneLane_tuned lane e.eh cls
  refine ⟨n₂, y, sets ▸ tuned.trans ?_, scan, tick, bias⟩
  split
  · exact .of_lanes rfl rfl rfl rfl
  · next k _ =>
    dsimp only
    split
    · exact (f₂.linkNotice_noticed k _ _ 0x0B lane _).tuned
    · split
      · exact (f₂.linkNotice_noticed k _ _ 0x0C lane _).tuned
      · exact .of_lanes rfl rfl rfl rfl

/-- What a scan with eyes leaves of its lane (R366, R393). -/
theorem Fabric.setMargin_reads (he : es ≠ []) (background : Bool) :
    let g := f.setMargin lane es background
    let x := f.lane lane
    let y := g.lane lane
    y.scan = x.scan ∧ y.scanTick = x.scanTick ∧ y.highBias = (y.cls == 1 || y.cls == 2 || (y.cls == 3 && x.highBias)) ∧
      g.parts = f.parts ∧ g.rtr = f.rtr ∧ g.mbxs = f.mbxs := by
  obtain ⟨n, y, tuned, scan, tick, bias⟩ := Fabric.setMargin_tuned (f := f) (lane := lane) he background
  obtain ⟨_, tries⟩ := tuned.lane
  dsimp only
  rw [tries, Fabric.lane_updLane_same]
  exact ⟨scan, tick, bias, tuned.parts, tuned.rtr, tuned.mbxs⟩

/-! ### The end of a scan, and the background scan -/

theorem Fabric.scanComplete_none (hs : (f.lane lane).scan = none) : f.scanComplete lane res = f := by simp [Fabric.scanComplete, hs]

theorem Fabric.scanComplete_map {mb : Nat} (hs : (f.lane lane).scan = some sc) (hmap : sc.map = true) (hmb : sc.mbx = some mb) :
    f.scanComplete lane res =
      (f.updLane lane fun x => { x with scan := none, scanTick := f.tick }).scanRec mb lane
        (scanRecord lane 0 res.eyes ++ takePad 384 res.maps) := by
  simp [Fabric.scanComplete, hs, hmap, hmb]

theorem Fabric.scanComplete_background (hs : (f.lane lane).scan = some sc) (hmap : sc.map = false) (hmb : sc.mbx = none) :
    f.scanComplete lane res =
      (f.updLane lane fun x => { x with scan := none, scanTick := f.tick }).setMargin lane res.eyes true := by
  simp [Fabric.scanComplete, hs, hmap, hmb]

/-- The background scan of one lane starts where it is due (R367). -/
def Fabric.startDue (f : Fabric) (l : Nat) : Fabric :=
  if f.scannable l && (f.lane l).scan.isNone && (f.lane l).nextScan ≤ f.tick then
    f.updLane l fun x =>
      { x with scan := some { mbx := none, map := false, dwell := 20 },
               nextScan := f.tick + if (f.lane l).cls = 1 || (f.lane l).cls = 2 then scanPeriod / 8 else scanPeriod }
  else f

theorem Fabric.backgroundScan_eq (f : Fabric) : f.backgroundScan = (List.range 192).foldl Fabric.startDue f := rfl

theorem Fabric.foldl_startDue_idle {ls : List Nat} (h : ∀ l ∈ ls, f.scannable l = false) : ls.foldl Fabric.startDue f = f :=
  List.foldlRecOn (motive := (· = f)) ls _ rfl fun g hg l hl => by subst hg; exact if_neg (by simp [h l hl])

/-- The only lane that can be scanned, where it is due, starts its background scan. -/
theorem Fabric.backgroundScan_lone (hl : l < 192) (honly : ∀ j < 192, f.scannable j = true ↔ j = l) :
    f.backgroundScan = f.startDue l := by
  have idle {g : Fabric} {ls : List Nat} (hg : ∀ j, g.scannable j = f.scannable j) (hls : ∀ j ∈ ls, j < 192) (hnot : l ∉ ls) :
      ls.foldl Fabric.startDue g = g :=
    Fabric.foldl_startDue_idle fun j hj =>
      Bool.eq_false_iff.mpr fun hs => hnot ((honly j (hls j hj)).mp ((hg j).symm.trans hs) ▸ hj)
  obtain ⟨before, after, split⟩ := List.append_of_mem (List.mem_range.mpr hl)
  have once : (before ++ l :: after).Nodup := split ▸ List.nodup_range
  have inRange : ∀ j ∈ before ++ l :: after, j < 192 := fun j hj => List.mem_range.mp (split ▸ hj)
  rw [Fabric.backgroundScan_eq, split, List.foldl_append, List.foldl_cons]
  obtain ⟨-, alone, apart⟩ := List.nodup_append.mp once
  rw [idle (fun _ => rfl) (fun j hj => inRange j (List.mem_append_left _ hj)) fun hl => apart l hl l (List.mem_cons_self ..) rfl]
  refine idle (fun j => ?_) (fun j hj => inRange j (List.mem_append_right _ (List.mem_cons_of_mem _ hj))) (List.nodup_cons.mp alone).1
  unfold Fabric.startDue
  split
  · rfl
  · rfl

/-! ### Lane tests -/

theorem Port.allLanes_length (p : Port) : p.allLanes.length = 4 * p.count := by
  simp [Port.allLanes, Port.quadLanes, rangeFrom, List.length_flatMap, Nat.mul_comm]

/-- A bit of a mask lies below its width. -/
theorem lt_of_mem_bitsOf {i n b : Nat} (hi : i ∈ bitsOf m n) (hm : m < 2 ^ b) : i < b := by
  by_contra high
  have small : m / 2 ^ i = 0 := Nat.div_eq_of_lt (hm.trans_le (Nat.pow_le_pow_right (by decide) (Nat.not_lt.mp high)))
  simp [bitsOf, small] at hi

/-- The lanes of a port that a test's mask names. -/
def Port.testLanes (p : Port) (m : Nat) : List Nat := (bitsOf m 48).filterMap fun i => p.allLanes[i]?

theorem Port.testLanes_length (p : Port) (hm : m < 2 ^ (4 * p.count)) : (p.testLanes m).length = (bitsOf m 48).length := by
  have here : ∀ i ∈ bitsOf m 48, p.allLanes[i]? = some (p.allLanes.getD i 0) := fun i hi => by
    have inside : i < p.allLanes.length := p.allLanes_length ▸ lt_of_mem_bitsOf hi hm
    simp [inside]
  rw [Port.testLanes, List.filterMap_congr here, List.filterMap_eq_map', List.length_map]

theorem Fabric.endTest_eq (f : Fabric) (k : Nat) : ∃ ps ls, f.endTest k = { f with ports := ps, lanes := ls } := by
  obtain ⟨ls, stopped⟩ := f.foldl_updLane_eq (f.port k).allLanes fun _ x => { x with prbsRun := false }
  exact ⟨_, ls, by rw [Fabric.endTest, stopped]; rfl⟩

/-- LANE_TEST START of a port that is OFF (R369): the port is in TEST at the test's rate, and the answer is the number of its lanes that
are tested. -/
theorem laneTestBody_starts (hm : c.mbx = 32) (hlen : c.len = 24) (hpay : c.pay = [pack [(4, 3, rate), (2, 0, k)], w64 m, 0]) (hk : k < 8)
    (hr : rate < 3) (hlanes : m < 2 ^ (4 * (f.port k).count)) (h48 : m < 2 ^ 48) (hs : (f.port k).state = .off) :
    ∃ g, laneTestBody c f = okay g (bitsOf m 48).length ∧ (g.port k).state = .test ∧ (g.port k).rate = rate ∧
      g.parts = f.parts ∧ g.rtr = f.rtr := by
  have word0 : wd c.pay 0 = pack [(4, 3, rate), (2, 0, k)] := by rw [hpay]; rfl
  have word1 : wd c.pay 1 = w64 m := by rw [hpay]; rfl
  have word2 : wd c.pay 2 = 0 := by rw [hpay]; rfl
  have fields0 : onlyBits (wd c.pay 0) [(7, 0)] = true := by rw [word0]; exact onlyBits_pack (by simp)
  have fields1 : onlyBits (wd c.pay 1) [(47, 0)] = true := by rw [word1]; exact onlyBits_w64 h48
  have fields2 : onlyBits (wd c.pay 2) [(39, 0)] = true := by rw [word2]; decide
  have starts : bit (wd c.pay 0) 7 = false := by simp (disch := simp) [word0, bit_eq_fld, fld_pack_cons_other]
  have isRate : fld (wd c.pay 0) 4 3 = rate := by simp (disch := simp) [word0, fld_pack_cons_same]; omega
  have isPort : fld (wd c.pay 0) 2 0 = k := by
    simp (disch := simp) [word0, fld_pack_cons_other, fld_pack_cons_same]; omega
  have isMask : (wd c.pay 1).toNat = m := by rw [word1]; exact toNat_w64 (h48.trans (by decide))
  obtain ⟨ps, ls, ended⟩ := f.endTest_eq k
  obtain ⟨ls', checks⟩ := (f.endTest k).foldl_updLane_eq ((f.port k).testLanes m) fun _ x =>
    { x with prbsRun := true, prbsLock := false, prbsErrors := 0, prbsBits := 0 }
  unfold laneTestBody
  simp only [fields0, fields1, fields2, starts, isRate, isPort, isMask, hlen]
  rw [if_neg (by simp [fromOf, hm]), if_neg (by simp [hs, hlanes]; omega), if_neg (by simp)]
  refine ⟨_, congrArg _ ((f.port k).testLanes_length hlanes), ?_, ?_, (congrArg Fabric.parts checks).trans (by rw [ended]),
    (congrArg Fabric.rtr checks).trans (by rw [ended])⟩
  · simp [Fabric.toState]
  · simp [Fabric.toState]

/-- LANE_TEST STOP (R369). -/
theorem laneTestBody_stops (hm : c.mbx = 32) (hlen : c.len = 24) (hpay : c.pay = [pack [(7, 7, 1), (2, 0, k)], 0, 0]) (hk : k < 8)
    (hs : (f.port k).state = .off ∨ (f.port k).state = .test) :
    laneTestBody c f = if (f.port k).state = .test then okay ((f.endTest k).toState k .off) else okay f := by
  have word0 : wd c.pay 0 = pack [(7, 7, 1), (2, 0, k)] := by rw [hpay]; rfl
  have word1 : wd c.pay 1 = 0 := by rw [hpay]; rfl
  have word2 : wd c.pay 2 = 0 := by rw [hpay]; rfl
  have fields0 : onlyBits (wd c.pay 0) [(7, 0)] = true := by rw [word0]; exact onlyBits_pack (by simp)
  have fields1 : onlyBits (wd c.pay 1) [(47, 0)] = true := by rw [word1]; decide
  have fields2 : onlyBits (wd c.pay 2) [(39, 0)] = true := by rw [word2]; decide
  have stops : bit (wd c.pay 0) 7 = true := by simp (disch := simp) [word0, bit_eq_fld, fld_pack_cons_same]
  have isRate : fld (wd c.pay 0) 4 3 = 0 := by simp (disch := simp) [word0, fld_pack_cons_other]
  have isPort : fld (wd c.pay 0) 2 0 = k := by
    simp (disch := simp) [word0, fld_pack_cons_other, fld_pack_cons_same]; omega
  have isMask : (wd c.pay 1).toNat = 0 := by rw [word1]; rfl
  unfold laneTestBody
  simp only [fields0, fields1, fields2, stops, isRate, isPort, isMask, hlen]
  rw [if_neg (by simp [fromOf, hm]), if_neg (by obtain h | h := hs <;> simp [h]), if_pos trivial]
  exact if_congr (beq_iff_eq ..) rfl rfl

theorem Fabric.prbsLocked_eq (f : Fabric) (lane errors bits : Nat) :
    f.prbsLocked lane errors bits =
      if (f.lane lane).prbsRun then
        f.updLane lane fun x =>
          { x with prbsLock := true, prbsErrors := min (2 ^ 48 - 1) (x.prbsErrors + errors), prbsBits := x.prbsBits + bits }
      else f := rfl

theorem Fabric.laneLossEnd_eq {t : Nat} (ht : (f.lane lane).lossUntil = some t) :
    f.laneLossEnd lane = if t ≤ f.tick then f.updLane lane fun x => { x with lossUntil := none } else f := by
  simp [Fabric.laneLossEnd, ht]

/-! ### Drains of a port -/

theorem Fabric.portDrain_none (hd : (f.port k).drainFor = none) : f.portDrainDone k = f ∧ f.portDrainTimeout k = f := by
  simp [Fabric.portDrainDone, Fabric.portDrainTimeout, hd]

/-- A drain is over when the port carries nothing and has nothing unacknowledged (R294, R373). -/
theorem Fabric.portDrainDone_eq (hd : (f.port k).drainFor = some why) :
    f.portDrainDone k = if f.carries k = false ∧ (f.port k).retx = [] then f.endPortDrain k why else f := by
  simp [Fabric.portDrainDone, hd]

theorem Fabric.portDrainTimeout_eq (hd : (f.port k).drainFor = some why) :
    f.portDrainTimeout k = if (f.port k).drainStart + 15625 * f.rtr.drainUnits ≤ f.tick then f.endPortDrain k why else f := by
  simp [Fabric.portDrainTimeout, hd]

end Sys2Proof.Machine

namespace Sys2Proof.Proofs
open Sys2Proof.Machine

/-- Settles O42: each body past its checks, on the begun device; what ends a scan, a loss or a drain is decided by the lane or the port
that it is of. -/
theorem scansTestsAndPortDrains : Obligations.ScansTestsAndPortDrains := by
  refine ⟨?_, ?_⟩
  · intro s c hm f
    refine ⟨?_, ?_, ?_, ?_⟩
    · intro mask dwell d lanes ht hlen hpay hlo hhi hmask hfree
      have body := laneScanBody_contour (c := d) (f := f.begun d 0x0601) hm hlen hpay hlo hhi hmask hfree
      exact ⟨fun hn => goes_answers laneScanBody ht rfl (body.trans (if_pos hn)),
        fun hn => goes_taken 0x0601 laneScanBody ht rfl (by rw [body.trans (if_neg hn)]; rfl)⟩
    · intro lane dwell d ht hlen hpay hlo hhi hlane hfree
      have body := laneScanBody_map (c := d) (f := f.begun d 0x0601) hm hlen hpay hlo hhi hlane hfree
      exact ⟨fun hn => goes_answers laneScanBody ht rfl (body.trans (if_neg (Bool.eq_false_iff.mp hn))),
        fun hn => goes_taken 0x0601 laneScanBody ht rfl (by rw [body.trans (if_pos hn)]; rfl)⟩
    · intro k rate m d p hc ht hlen hpay hk hr hlanes h48 hs _
      obtain ⟨g, body, state, isRate, parts, rtr⟩ := laneTestBody_starts (c := d) (f := f.begun d 0x0602) hc hlen hpay hk hr hlanes h48 hs
      obtain ⟨b, h, q, completed⟩ := g.complete_eq 32 stOk (w64 (bitsOf m 48).length) [] 0
      have done : Goes (.laneTestStart c) s (g.complete 32 stOk (w64 (bitsOf m 48).length) [] 0) :=
        goes_taken 0x0602 laneTestBody ht rfl (by rw [body, okay, Fabric.ended_done, show d.mbx = 32 from hc])
      refine ⟨_, done, ?_, ?_, ?_, ?_, ?_, ?_, rfl⟩
      · rw [completed]
        exact state
      · rw [completed]
        exact isRate
      · rw [Fabric.complete_mbx]
        rfl
      · rw [Fabric.complete_mbx]
        rfl
      · rw [completed]
        exact parts
      · rw [completed]
        exact rtr
    · intro k d hc ht hlen hpay hk
      have body (hs : (f.port k).state = .off ∨ (f.port k).state = .test) :=
        laneTestBody_stops (c := d) (f := f.begun d 0x0602) hc hlen hpay hk hs
      exact ⟨fun hs => goes_answers (change := id) laneTestBody ht rfl ((body (.inl hs)).trans (if_neg (by simp [hs]))),
        fun hs => goes_answers laneTestBody ht rfl ((body (.inr hs)).trans (if_pos hs))⟩
  · intro s hl f
    have completes {lane : Nat} {res : ScanRes} {g : Fabric} (h : f.scanComplete lane res = g) : Goes (.scanComplete lane res) s g :=
      goes_event (fun f => f.scanComplete lane res) hl rfl h
    have scans {g : Fabric} (h : f.backgroundScan = g) : Goes .backgroundScan s g := goes_event (fun f => f.backgroundScan) hl rfl h
    have locks {lane errors bits : Nat} {g : Fabric} (h : f.prbsLocked lane errors bits = g) :
        Goes (.prbsCheckerLock lane errors bits) s g := goes_event (fun f => f.prbsLocked lane errors bits) hl rfl h
    have lossEnds {lane : Nat} {g : Fabric} (h : f.laneLossEnd lane = g) : Goes (.laneLossEnd lane) s g :=
      goes_event (fun f => f.laneLossEnd lane) hl rfl h
    have done {k : Nat} {g : Fabric} (h : f.portDrainDone k = g) : Goes (.portDrainDone k) s g :=
      goes_event (fun f => f.portDrainDone k) hl rfl h
    have timeout {k : Nat} {g : Fabric} (h : f.portDrainTimeout k = g) : Goes (.portDrainTimeout k) s g :=
      goes_event (fun f => f.portDrainTimeout k) hl rfl h
    refine ⟨fun lane m hs => completes (Fabric.scanComplete_none hs),
      fun lane m x mb hs hmap hmb => completes (Fabric.scanComplete_map hs hmap hmb), fun lane m x hs hmap hmb he => ?_,
      fun hidle => scans (Fabric.foldl_startDue_idle fun l hl => hidle l (List.mem_range.mp hl)), fun l h192 honly hs hdue => ?_,
      fun lane errors bits => ⟨fun hr => locks (if_pos hr), fun hr => locks (if_neg (by simp [hr]))⟩,
      fun lane t ht => ⟨fun hle => lossEnds ((Fabric.laneLossEnd_eq ht).trans (if_pos hle)),
        fun hlt => lossEnds ((Fabric.laneLossEnd_eq ht).trans (if_neg (Nat.not_le.mpr hlt)))⟩,
      fun k hd => ⟨done (Fabric.portDrain_none hd).1, timeout (Fabric.portDrain_none hd).2⟩,
      fun k why hd => ⟨fun hc hr => done ((Fabric.portDrainDone_eq hd).trans (if_pos ⟨hc, hr⟩)),
        fun hleft => done ((Fabric.portDrainDone_eq hd).trans (if_neg ?_)),
        fun hle => timeout ((Fabric.portDrainTimeout_eq hd).trans (if_pos hle)),
        fun hlt => timeout ((Fabric.portDrainTimeout_eq hd).trans (if_neg (Nat.not_le.mpr hlt)))⟩⟩
    · obtain ⟨scan, tick, bias, parts, rtr, mbxs⟩ :=
        Fabric.setMargin_reads (f := f.updLane lane fun x => { x with scan := none, scanTick := f.tick }) (lane := lane) he true
      rw [Fabric.lane_updLane_same] at scan tick bias
      exact ⟨_, completes (Fabric.scanComplete_background hs hmap hmb), scan, tick, bias, parts, rtr, mbxs⟩
    · have starts := (Fabric.backgroundScan_lone h192 honly).trans
        (if_pos (by simp [(honly l h192).mpr rfl, hs, hdue]))
      exact ⟨_, scans starts, by simp, rfl⟩
    · rintro ⟨hc, hr⟩
      obtain carries | unacked := hleft
      · exact Bool.false_ne_true (hc.symm.trans carries)
      · exact unacked hr

end Sys2Proof.Proofs
end

section
/-!
SUPPORT. Safe states (Table 11.1), and the judgement of REFCLK by the calendar's windows and by gaps between edges (R378 to R381).
-/
namespace Sys2Proof.Machine

variable {f g h : Fabric} {s : State} {i : Instr} {n k cause : Nat}

/-! ### Events that nothing holds back -/

theorem goes_always (act : Fabric → Fabric) (hi : exec i s = s.onFabric Fabric.always act) (hact : act s.fab = g) : Goes i s g :=
  goes_event (gate := Fabric.always) act rfl hi hact

/-! ### Safe states -/

/-- One port goes OFF, and its scans end. -/
def Fabric.portOff (f : Fabric) (k : Nat) : Fabric := (f.abortScans (f.port k).allLanes).toState k .off

theorem Fabric.portOff_port (f : Fabric) (k j : Nat) :
    ((f.portOff k).port j).state = if k = j then .off else (f.port j).state := by
  unfold Fabric.portOff Fabric.toState
  split
  · next same => subst same; simp
  · next other => rw [Fabric.port_updPort_other _ _ other, Fabric.abortScans_port]

theorem Fabric.foldl_portOff_port (ks : List Nat) (f : Fabric) (hk : k ∈ ks ∨ (f.port k).state = .off) :
    ((ks.foldl Fabric.portOff f).port k).state = .off := by
  induction ks generalizing f with
  | nil => exact hk.resolve_left List.not_mem_nil
  | cons j ks ih =>
    refine ih _ ?_
    rw [Fabric.portOff_port]
    rcases hk with hk | hk
    · obtain rfl | hk := List.mem_cons.mp hk
      · exact .inr (if_pos rfl)
      · exact .inl hk
    · exact .inr (by split <;> [rfl; exact hk])

/-- Every port of the device goes OFF. -/
@[irreducible] def Fabric.portsOff (f : Fabric) : Fabric := (List.range 8).foldl Fabric.portOff f

theorem Fabric.portsOff_port (f : Fabric) (hk : k < 8) : (f.portsOff.port k).state = .off := by
  unfold Fabric.portsOff
  exact Fabric.foldl_portOff_port (List.range 8) f (.inl (List.mem_range.mpr hk))

theorem Fabric.safeStates_eq (f : Fabric) :
    f.safeStates = { f.portsOff with clk := { f.portsOff.clk with before := (List.range 8).map fun k => (k, (f.port k).state) },
                                     hdp := { f.portsOff.hdp with stopped := true } } := by
  have ports : (List.range 8).foldl (fun g k => (g.abortScans (g.port k).allLanes).toState k .off) f = f.portsOff := by
    unfold Fabric.portsOff
    rfl
  unfold Fabric.safeStates
  rw [ports]

/-- The safe states: the HDP has stopped and every port is OFF (Table 11.1). -/
structure Fabric.Safe (f : Fabric) : Prop where
  stopped : f.hdp.stopped = true
  off : ∀ k, k < 8 → (f.port k).state = .off

theorem Fabric.Safe.of_eq (hf : f.Safe) (hports : g.ports = f.ports) (hhdp : g.hdp = f.hdp) : g.Safe :=
  ⟨by rw [hhdp, hf.stopped], fun k hk => by rw [Fabric.port, hports]; exact hf.off k hk⟩

theorem Fabric.safeStates_safe (f : Fabric) : f.safeStates.Safe := by
  rw [f.safeStates_eq]
  exact ⟨rfl, fun k hk => f.portsOff_port hk⟩

theorem Fabric.Safe.faultOn (hf : f.Safe) (cause : Nat) : (f.faultOn cause).Safe ∧ cause ∈ (f.faultOn cause).pins.faults := by
  obtain ⟨_, faulted, here⟩ := f.faultOn_eq cause
  rw [faulted]
  exact ⟨hf.of_eq rfl rfl, here⟩

/-- A REFCLK fault (R380 to R382). -/
theorem Fabric.refclkFault_reads (f : Fabric) :
    f.refclkFault.Safe ∧ 2 ∈ f.refclkFault.pins.faults ∧ f.refclkFault.clk.state = 2 := by
  unfold Fabric.refclkFault
  generalize hg : f.safeStates = g
  obtain ⟨safe, here⟩ := (hg ▸ f.safeStates_safe : g.Safe).faultOn 2
  exact ⟨safe.of_eq rfl rfl, here, rfl⟩

/-! ### Calendar windows -/

/-- Step 5 of start-up begins on some slot. -/
theorem Fabric.beginBoot_eq (f : Fabric) : ∃ w slot trial, f.beginBoot = ({ f with flash := w } : Fabric).bootSlot slot trial := by
  unfold Fabric.beginBoot
  dsimp only
  split
  · exact ⟨_, _, _, rfl⟩
  · exact ⟨f.flash, _, _, rfl⟩

/-- A count of edges that passes (R378). -/
def countPasses (n : Nat) : Bool := 19525391 ≤ n && n ≤ 19537109

theorem countPasses_iff : countPasses n = true ↔ 19525391 ≤ n ∧ n ≤ 19537109 := by simp [countPasses]

/-- The device after a mark that completes a window (R378, R379). -/
def Fabric.windowCounted (f : Fabric) (n : Nat) : Fabric :=
  { f with mtl := { f.mtl with lastMark := f.tick, cal := (f.mtl.cal + 4096) % 2 ^ 64, calBell := f.bell },
           clk := { f.clk with lastCount := n, windows := f.clk.windows + 1,
                               winBefore := if countPasses n then f.clk.winBefore else f.clk.winBefore + 1 },
           aon := { f.aon with lastCount := n } }

/-- A mark completes a window: the calendar check runs on a powered device, and the last mark opened a window. -/
structure Fabric.ClosesWindow (f : Fabric) : Prop where
  power : f.pins.powerGood = true
  reset : f.pins.rstN = true
  hdp : 5 ∉ f.pins.faults
  stage : 4 ≤ f.aon.stage
  windowOpen : f.clk.windowOpen = true
  linked : f.mtl.lost = false

theorem Fabric.ClosesWindow.starting (hf : f.ClosesWindow) (hs : f.clk.state = 0) :
    f.calendarMark n =
      if countPasses n then (f.windowCounted n).windowPass n ((f.mtl.cal + 4096) % 2 ^ 64) else f.windowCounted n := by
  simp [Fabric.calendarMark, hf.power, hf.reset, hf.hdp, hf.stage, hf.windowOpen, hf.linked, hs, Fabric.windowCounted, countPasses]

theorem Fabric.ClosesWindow.running (hf : f.ClosesWindow) (hs : f.clk.state = 1) :
    f.calendarMark n =
      if countPasses n then { f.windowCounted n with clk := { (f.windowCounted n).clk with bellMark := f.bell, calMark := (f.mtl.cal + 4096) % 2 ^ 64 } }
      else (f.windowCounted n).refclkFault := by
  simp [Fabric.calendarMark, hf.power, hf.reset, hf.hdp, hf.stage, hf.windowOpen, hf.linked, hs, Fabric.windowCounted, countPasses]

/-- The first window that passes ends CHECKING, and step 5 begins (R379). -/
theorem Fabric.windowPass_reads (f : Fabric) (n cal : Nat) :
    let g := f.windowPass n cal
    g.clk.state = 1 ∧ g.aon.stage = 5 ∧ 1 ∉ g.pins.faults ∧ g.clk.lastCount = f.clk.lastCount ∧ g.clk.windows = f.clk.windows := by
  unfold Fabric.windowPass
  dsimp only
  obtain ⟨_, _, _, boots⟩ := Fabric.beginBoot_eq
    { f.faultOff 1 with clk := { (f.faultOff 1).clk with state := 1, passCount := n, passTick := (f.faultOff 1).tick,
                                                         bellMark := (f.faultOff 1).bell, calMark := cal } }
  rw [boots]
  exact ⟨rfl, rfl, by simp [Fabric.bootSlot, Fabric.faultOff], rfl, rfl⟩

/-! ### Gaps between edges -/

theorem Fabric.edgeGap_running (hp : f.pins.powerGood = true) (hr : f.pins.rstN = true) (hf : 5 ∉ f.pins.faults) (hs : f.clk.state = 1) :
    f.edgeGap = f.refclkFault := by simp [Fabric.edgeGap, hp, hr, hf, hs]

theorem Fabric.edgeGap_starting (hp : f.pins.powerGood = true) (hr : f.pins.rstN = true) (hf : 5 ∉ f.pins.faults) (hs : f.clk.state = 0) :
    f.edgeGap = { f with clk := { f.clk with windowOpen := false, returning := false } } := by simp [Fabric.edgeGap, hp, hr, hf, hs]

end Sys2Proof.Machine

namespace Sys2Proof.Proofs
open Sys2Proof.Machine

/-- Settles O21: the state of the check and the count of the window decide, and a REFCLK fault leaves the safe states. -/
theorem refclkIsJudgedByTheCalendar : Obligations.RefclkIsJudgedByTheCalendar := by
  intro s n hp hr hf f pass stopped
  have faults {i : Instr} {g : Fabric} (goes : Goes i s g.refclkFault) : Yields i s stopped := by
    obtain ⟨⟨hdp, off⟩, here, state⟩ := g.refclkFault_reads
    exact ⟨_, goes, rfl, state, here, hdp, off⟩
  refine ⟨fun hst hw hl => ?_, fun hs => ?_, fun hs => ?_⟩
  · have closes : f.ClosesWindow := ⟨hp, hr, hf, hst, hw, hl⟩
    have marks {g : Fabric} (hg : f.calendarMark n = g) : Goes (.calendarMark n) s g := goes_always (fun f => f.calendarMark n) rfl hg
    refine ⟨fun hs hn => ?_, fun hs hn => ?_, fun hs hn => ?_, fun hs hn => ?_⟩
    · obtain ⟨state, stage, checked, count, windows⟩ := (f.windowCounted n).windowPass_reads n ((f.mtl.cal + 4096) % 2 ^ 64)
      exact ⟨_, marks ((closes.starting hs).trans (if_pos (countPasses_iff.mpr hn))), rfl, state, stage, checked, count, windows⟩
    · have fails : ¬ countPasses n = true := fun h => hn (countPasses_iff.mp h)
      exact ⟨_, marks ((closes.starting hs).trans (if_neg fails)), hs, rfl, rfl, rfl, if_neg fails⟩
    · exact ⟨_, marks ((closes.running hs).trans (if_pos (countPasses_iff.mpr hn))), hs, rfl, rfl, rfl, rfl⟩
    · exact faults (marks ((closes.running hs).trans (if_neg fun h => hn (countPasses_iff.mp h))))
  · exact faults (goes_always Fabric.edgeGap rfl (Fabric.edgeGap_running hp hr hf hs))
  · exact goes_always Fabric.edgeGap rfl (Fabric.edgeGap_starting hp hr hf hs)

end Sys2Proof.Proofs
end

section
/-!
SUPPORT. Steps 5 to 8 of start-up (R51, R53, R388, R389, R452): the image of a slot, the training of the HDP with the slices that it
retires, READY, and the boot of the other slot.
-/
namespace Sys2Proof

/-! ### Maps that a list of indices fills -/

@[simp] theorem Map.get_del_same {α : Type} (m : Map α) (i : Nat) (d : α) : Map.get (Map.del m i) i d = d := by
  induction m with
  | nil => rfl
  | cons e m ih =>
    obtain ⟨k, w⟩ := e
    by_cases hk : k = i
    · subst hk; simpa [Map.del] using ih
    · simpa [Map.del, Map.get, hk] using ih

theorem Map.get_del_other {α : Type} (m : Map α) (i j : Nat) (d : α) (h : i ≠ j) : Map.get (Map.del m i) j d = Map.get m j d := by
  induction m with
  | nil => rfl
  | cons e m ih =>
    obtain ⟨k, w⟩ := e
    by_cases hk : k = i
    · subst hk; simpa [Map.del, Map.get, h] using ih
    · simp only [Map.del, List.filter_cons, bne_iff_ne, ne_eq, hk, not_false_eq_true, if_true, Map.get] at ih ⊢
      rw [ih]

theorem Map.length_set_new {α : Type} {m : Map α} {i : Nat} (v : α) (h : Map.find m i = none) :
    (Map.set m i v).length = m.length + 1 := by
  induction m with
  | nil => rfl
  | cons e m ih =>
    obtain ⟨k, w⟩ := e
    have hk : k ≠ i := by rintro rfl; simp [Map.find] at h
    have hrest : Map.find m i = none := by simpa [Map.find, hk] using h
    simp only [Map.set, hk, if_false]
    split
    · rfl
    · simp [ih hrest]

/-- What a map holds after some of a list's indices were marked. -/
theorem Map.get_foldl_mark (p : Nat → Bool) (l : List Nat) (m : Map Bool) (k : Nat) :
    (l.foldl (fun (m : Map Bool) i => if p i then m.set i true else m) m).get k false =
      ((decide (k ∈ l) && p k) || m.get k false) := by
  induction l generalizing m with
  | nil => simp
  | cons i l ih =>
    rw [List.foldl_cons, ih]
    by_cases hik : i = k
    · subst hik
      cases hp : p i <;> simp
    · have step : (if p i then m.set i true else m).get k false = m.get k false := by
        split
        · exact Map.get_set_other _ _ _ _ _ hik
        · rfl
      simp [step, Ne.symm hik]

theorem Map.length_foldl_mark (p : Nat → Bool) {l : List Nat} (hl : l.Nodup) (m : Map Bool) (hm : ∀ i ∈ l, m.find i = none) :
    (l.foldl (fun (m : Map Bool) i => if p i then m.set i true else m) m).length = m.length + (l.filter p).length := by
  induction l generalizing m with
  | nil => rfl
  | cons i l ih =>
    obtain ⟨hi, hl⟩ := List.nodup_cons.mp hl
    have rest : ∀ j ∈ l, m.find j = none := fun j hj => hm j (List.mem_cons_of_mem _ hj)
    rw [List.foldl_cons]
    cases hp : p i with
    | false => simp [ih hl m rest, hp]
    | true =>
      have apart : ∀ j ∈ l, (m.set i true).find j = none := fun j hj => by
        rw [Map.find_set_other _ _ _ _ (ne_of_mem_of_not_mem hj hi).symm, rest j hj]
      simp only [if_true, ih hl _ apart, Map.length_set_new true (hm i List.mem_cons_self), List.filter_cons, hp, List.length_cons]
      omega

/-- What a map holds after every index of a list was set to its value, where an index with value 0 is removed. -/
theorem Map.get_foldl_put (v : Nat → Nat) (l : List Nat) (m : Map Nat) (k : Nat) :
    (l.foldl (fun (m : Map Nat) i => if v i = 0 then m.del i else m.set i (v i)) m).get k 0 = if k ∈ l then v k else m.get k 0 := by
  induction l generalizing m with
  | nil => rfl
  | cons i l ih =>
    have step : (if v i = 0 then m.del i else m.set i (v i)).get k 0 = if i = k then v k else m.get k 0 := by
      by_cases hik : i = k
      · subst hik
        split
        · next hv => simp [hv]
        · simp
      · rw [if_neg hik]
        split
        · exact Map.get_del_other _ _ _ _ hik
        · exact Map.get_set_other _ _ _ _ _ hik
    rw [List.foldl_cons, ih, step]
    by_cases hkl : k ∈ l <;> by_cases hik : i = k <;> simp [hkl, hik, Ne.symm]

end Sys2Proof

namespace Sys2Proof.Machine

variable {f g h : Fabric} {s : State} {n k : Nat} {img : Image} {o i : List (Nat × List Nat)}

/-! ### The image of a slot -/

/-- Two devices agree on the stage of start-up, on READY and on the Proctor. -/
structure Fabric.SameBoot (g f : Fabric) : Prop where
  aon : g.aon = f.aon
  ready : g.ready = f.ready
  prc : g.prc = f.prc

theorem Fabric.SameBoot.refl (f : Fabric) : f.SameBoot f := ⟨rfl, rfl, rfl⟩

theorem Fabric.SameBoot.trans (hgf : g.SameBoot f) (hhg : h.SameBoot g) : h.SameBoot f :=
  ⟨hhg.aon.trans hgf.aon, hhg.ready.trans hgf.ready, hhg.prc.trans hgf.prc⟩

theorem Fabric.foldl_sameBoot {α : Type} {step : Fabric → α → Fabric} (hstep : ∀ g x, (step g x).SameBoot g) (xs : List α) (f : Fabric) :
    (xs.foldl step f).SameBoot f :=
  List.foldlRecOn (motive := fun g : Fabric => g.SameBoot f) xs step (.refl f) fun _ hg x _ => hg.trans (hstep _ x)

theorem Fabric.bringUp_sameBoot (f : Fabric) : f.bringUp.SameBoot f := by
  refine Fabric.foldl_sameBoot (fun g k => ?_) (List.range 8) f
  split
  · exact .refl g
  · split
    · exact .refl g
    · split <;> exact ⟨rfl, rfl, rfl⟩

/-- `takeMap` with its readings of the boot record as parameters: the kernel cannot evaluate those of an unknown record. -/
def Fabric.takeMapBy (block : List Nat → Nat → (Nat → Bool) → Option (List Nat)) (ok : List Nat → Bool)
    (le : List Nat → Nat → Nat → Nat) (f : Fabric) : Fabric :=
  let strap := fld (w64 f.pins.straps) 33 31
  let body := block f.flash.record 1 (· == 24)
  let put (m : List (Nat × Nat × Nat)) (ctl : Nat → Nat) (f : Fabric) : Fabric :=
    m.foldl (fun g e => g.updPort e.1 fun p =>
      { p with first := e.2.1, count := e.2.2, inSlots := inSlotsOf e.2.2, fecReq := ctl e.1 / 128 == 1,
               preReq := ctl e.1 / 64 % 2 == 1, maxRate := ctl e.1 / 16 % 4 }) f
  let dflt (k : Nat) : Nat := if k ≥ 6 then 128 else 0
  match body with
  | some b =>
    if ok b then { put (recordMap b) (fun k => le b (16 + k) 1) f with qmapSource := 1 }
    else { put (presetMap (if strap = 7 then 0 else strap)) dflt f with qmapSource := 2 }
  | none => { put (presetMap (if strap = 7 then 0 else strap)) dflt f with qmapSource := if strap = 7 then 2 else 0 }

theorem Fabric.takeMap_eq : Fabric.takeMap = Fabric.takeMapBy recordBlock mapOk leAt := by
  delta Fabric.takeMap Fabric.takeMapBy
  exact rfl

theorem Fabric.takeMapBy_sameBoot (block : List Nat → Nat → (Nat → Bool) → Option (List Nat)) (ok : List Nat → Bool)
    (le : List Nat → Nat → Nat → Nat) (f : Fabric) : (f.takeMapBy block ok le).SameBoot f := by
  have placed {g : Fabric} (q : Nat) (hg : g.SameBoot f) : ({ g with qmapSource := q } : Fabric).SameBoot f := ⟨hg.aon, hg.ready, hg.prc⟩
  have put (m : List (Nat × Nat × Nat)) (set : Nat × Nat × Nat → Port → Port) :
      (m.foldl (fun g e => g.updPort e.1 (set e)) f).SameBoot f := by
    refine Fabric.foldl_sameBoot (fun _ _ => ?_) m f
    exact ⟨rfl, rfl, rfl⟩
  unfold Fabric.takeMapBy
  dsimp only
  split
  · split <;> exact placed _ (put _ _)
  · exact placed _ (put _ _)

theorem Fabric.takeMap_sameBoot (f : Fabric) : f.takeMap.SameBoot f := by
  rw [Fabric.takeMap_eq]
  exact Fabric.takeMapBy_sameBoot recordBlock mapOk leAt f

/-- `takeRecord` with its readings of the boot record as parameters, for the same reason. -/
def Fabric.takeRecordBy (power : List Nat → Nat × Nat × Nat × Nat) (pmbus : List Nat → List (Nat × Nat)) (ok : List Nat → Bool)
    (f : Fabric) : Fabric :=
  let b := f.flash.record
  let (cap, tj, trip, icc) := power b
  let f := { f with pwr := { f.pwr with cap := cap, tjThrottle := tj, tjTrip := trip, iccLimit := icc, pmbus := pmbus b },
                    prc := { f.prc with bootRecord := if ok b then b else [] },
                    rtr := { f.rtr with base := min 64 (131072 / max 1 (f.rtr.size - 1)) } }
  f.takeMap

theorem Fabric.takeRecord_eq : Fabric.takeRecord = Fabric.takeRecordBy recordPower recordPmbus recordOk := by
  delta Fabric.takeRecord Fabric.takeRecordBy
  exact rfl

/-- Two devices agree on the stage of start-up, on READY and on the image that runs. -/
structure Fabric.SameImage (g f : Fabric) : Prop where
  aon : g.aon = f.aon
  ready : g.ready = f.ready
  measured : g.prc.measured = f.prc.measured
  running : g.prc.running = f.prc.running

theorem Fabric.takeMap_sameImage (f : Fabric) (power : Pwr) (record : List Nat) (routes : Router) :
    (({ f with pwr := power, prc := { f.prc with bootRecord := record }, rtr := routes } : Fabric).takeMap).SameImage f := by
  obtain ⟨aon, ready, prc⟩ := Fabric.takeMap_sameBoot { f with pwr := power, prc := { f.prc with bootRecord := record }, rtr := routes }
  exact ⟨aon, ready, (congrArg Prc.measured prc :), (congrArg Prc.running prc :)⟩

theorem Fabric.takeRecordBy_sameImage (power : List Nat → Nat × Nat × Nat × Nat) (pmbus : List Nat → List (Nat × Nat))
    (ok : List Nat → Bool) (f : Fabric) : (f.takeRecordBy power pmbus ok).SameImage f := by
  unfold Fabric.takeRecordBy
  generalize power f.flash.record = read
  obtain ⟨cap, tj, trip, icc⟩ := read
  exact f.takeMap_sameImage _ _ _

/-- What firmware takes from the boot record says nothing of the stage, of READY or of the running image (R387). -/
theorem Fabric.takeRecord_sameImage (f : Fabric) : f.takeRecord.SameImage f := by
  rw [Fabric.takeRecord_eq]
  exact Fabric.takeRecordBy_sameImage recordPower recordPmbus recordOk f

/-- The Proctor reads an image at step 5 of a device that no safe state holds. -/
structure Fabric.LoadsImage (f : Fabric) : Prop where
  stage : f.aon.stage = 5
  measured : f.prc.measured = false
  frozen : f.frozen = false

/-- The image that the slot holds, or the one that is read. -/
def Fabric.bootImage (f : Fabric) (img : Image) : Image := (f.flash.slots.find f.prc.slot).getD img

/-- The device with the image in its slot. -/
def Fabric.imageRead (f : Fabric) (img : Image) : Fabric :=
  { f with flash := { f.flash with slots := f.flash.slots.set f.prc.slot (f.bootImage img) } }

/-- The device is at step 7 with an image measured. -/
structure Fabric.Measured (g : Fabric) (img : Image) (ready : Bool) : Prop where
  stage : g.aon.stage = 7
  measured : g.prc.measured = true
  running : g.prc.running = img
  ready : g.ready = ready

theorem Fabric.bringUp_measured {g : Fabric} {ready : Bool} (hm : g.prc.measured = true) (hr : g.prc.running = img)
    (hu : g.ready = ready) : ({ g with aon := { g.aon with stage := 7 } } : Fabric).bringUp.Measured img ready := by
  obtain ⟨aon, up, prc⟩ := Fabric.bringUp_sameBoot { g with aon := { g.aon with stage := 7 } }
  exact ⟨congrArg Aon.stage aon, (congrArg Prc.measured prc).trans hm, (congrArg Prc.running prc).trans hr, up.trans hu⟩

theorem Fabric.stepSeven_measured (f : Fabric) (hm : f.prc.measured = true) :
    ({ f.takeRecord with aon := { f.takeRecord.aon with stage := 7 } } : Fabric).bringUp.Measured f.prc.running f.ready :=
  have same := f.takeRecord_sameImage
  Fabric.bringUp_measured (same.measured.trans hm) same.running same.ready

/-- A sound image is measured, and the device goes to step 7 (R452). -/
theorem Fabric.LoadsImage.sound (hf : f.LoadsImage) (ht : f.hdp.trained = false)
    (hform : imageForm (f.bootImage img) f.prc.fuseSvn = true) : (f.imageLoaded true img).Measured (f.bootImage img) f.ready := by
  have starts : ¬ (f.aon.stage != 5 || f.prc.measured || f.frozen) = true := by simp [hf.stage, hf.measured, hf.frozen]
  unfold Fabric.imageLoaded
  rw [if_neg starts]
  dsimp only
  rw [if_pos (by exact hform), if_neg (by simp [ht])]
  exact Fabric.stepSeven_measured _ rfl

/-- The slots that are marked failed once the present one cannot boot. -/
def Fabric.failedNow (f : Fabric) : List Nat :=
  if f.flash.failed.contains f.prc.slot then f.flash.failed else f.flash.failed ++ [f.prc.slot]

theorem Fabric.mem_failedNow (f : Fabric) (k : Nat) : k ∈ f.failedNow ↔ k = f.prc.slot ∨ k ∈ f.flash.failed := by
  unfold Fabric.failedNow
  split
  · next here =>
    rw [List.contains_eq_mem, decide_eq_true_eq] at here
    exact ⟨.inr, fun hk => hk.elim (fun e => e ▸ here) id⟩
  · simp [or_comm]

/-- A slot that cannot boot is marked, and the other one boots where it is not marked (R389). -/
theorem Fabric.bootOther_other (hslot : f.prc.slot < 2) (hother : (1 - f.prc.slot) ∉ f.flash.failed) :
    f.bootOther =
      ({ f with flash := { f.flash with failed := f.failedNow }, ready := false,
                ladder := { f.ladder with rolledBack := true, restarting := false } } : Fabric).bootSlot (1 - f.prc.slot) false := by
  have unmarked : ¬ f.failedNow.contains (1 - f.prc.slot) = true := by
    have others : 1 - f.prc.slot ≠ f.prc.slot := by omega
    simp [Fabric.mem_failedNow, others, hother]
  unfold Fabric.bootOther
  exact if_neg unmarked

theorem Fabric.LoadsImage.unsound (hf : f.LoadsImage) : f.imageLoaded false img = (f.imageRead img).bootOther := by
  simp [Fabric.imageLoaded, hf.stage, hf.measured, hf.frozen, Fabric.imageRead, Fabric.bootImage]

theorem Fabric.trialTimeout_due (ht : f.prc.trial = true) (hr : f.ready = false) (hs : 5 ≤ f.aon.stage)
    (hover : f.ladder.bootAt + 312500000 ≤ f.tick) : f.trialTimeout = f.bootOther := by
  simp [Fabric.trialTimeout, ht, hr, hs, hover]

theorem Fabric.trialTimeout_early (hover : f.tick < f.ladder.bootAt + 312500000) : f.trialTimeout = f := by
  simp [Fabric.trialTimeout, Nat.not_le.mpr hover]

/-! ### HDP training -/

/-- Training finds too many failed wires on a slice (R51). -/
def sliceGone (o i : List (Nat × List Nat)) (k : Nat) : Bool := 4 < (failedWires o k).length || 4 < (failedWires i k).length

/-- The repair word that training leaves of a slice (R51). -/
def sliceRepair (o i : List (Nat × List Nat)) (k : Nat) : Nat :=
  if sliceGone o i k then 0 else spareFields (failedWires o k) + spareFields (failedWires i k) * 2 ^ 28

theorem trainSlice_eq (o i : List (Nat × List Nat)) (k : Nat) : trainSlice o i k = (sliceGone o i k, sliceRepair o i k) := by
  unfold trainSlice sliceRepair
  change (if sliceGone o i k then _ else _) = _
  cases sliceGone o i k <;> rfl

/-- The port after its training at start-up: nothing was retired or repaired before. -/
def Hdp.firstTrain (h : Hdp) (o i : List (Nat × List Nat)) : Hdp :=
  ({ h with retired := [], repair := [], buf := [], asked := [], again := [] } : Hdp).train o i

theorem Hdp.firstTrain_retired (h : Hdp) (o i : List (Nat × List Nat)) :
    (h.firstTrain o i).retired = (List.range 64).foldl (fun (m : Map Bool) k => if sliceGone o i k then m.set k true else m) [] := by
  simp [Hdp.firstTrain, Hdp.train, List.foldl_map, trainSlice_eq]

theorem Hdp.firstTrain_repair (h : Hdp) (o i : List (Nat × List Nat)) :
    (h.firstTrain o i).repair =
      (List.range 64).foldl (fun (m : Map Nat) k => if sliceRepair o i k = 0 then m.del k else m.set k (sliceRepair o i k)) [] := by
  simp [Hdp.firstTrain, Hdp.train, List.foldl_map, trainSlice_eq]

/-- Training retires the slices with too many failed wires, and repairs the others. -/
theorem Hdp.firstTrain_slice (h : Hdp) (o i : List (Nat × List Nat)) (hk : k < 64) :
    (h.firstTrain o i).retired.get k false = sliceGone o i k ∧ (h.firstTrain o i).repair.get k 0 = sliceRepair o i k := by
  constructor
  · rw [Hdp.firstTrain_retired, Map.get_foldl_mark]
    simp [hk]
  · rw [Hdp.firstTrain_repair, Map.get_foldl_put, if_pos (List.mem_range.mpr hk)]

theorem Hdp.firstTrain_count (h : Hdp) (o i : List (Nat × List Nat)) :
    (h.firstTrain o i).retired.length = ((List.range 64).filter (sliceGone o i)).length := by
  rw [Hdp.firstTrain_retired, Map.length_foldl_mark _ List.nodup_range _ fun _ _ => rfl]
  simp

/-- A device at step 7 whose HDP has not trained, with REFCLK passed and no safe state. -/
structure Fabric.Trains (f : Fabric) : Prop where
  stage : f.aon.stage = 7
  trained : f.hdp.trained = false
  clock : f.clk.state = 1
  frozen : f.frozen = false

/-- Training ends start-up's step 7, or stops the HDP (R53). -/
theorem Fabric.Trains.done (hf : f.Trains) :
    f.hdpTrained o i =
      if ((List.range 64).filter (sliceGone o i)).length > 16 then
        ({ f with hdp := { f.hdp.firstTrain o i with window := f.tick, stopped := true } } : Fabric).faultOn 5
      else { f with hdp := { f.hdp.firstTrain o i with window := f.tick }, aon := { f.aon with stage := 8 } } := by
  have unfaulted : (f.pins.faults.any fun c => c == 5 || c == 6 || c == 7) = false := (Bool.or_eq_false_iff.mp hf.frozen).2
  rw [← Hdp.firstTrain_count f.hdp]
  simp only [Fabric.hdpTrained, hf.stage, hf.trained, hf.clock, unfaulted]
  rfl

/-! ### READY -/

/-- A notice that the error log does not keep leaves the AON domain (R425). -/
theorem Fabric.notify_aon (f : Fabric) (r : Nat) {x : Notice} (hx : logged x.code = false) : (f.notify r x).aon = f.aon := by
  have writes (g : Fabric) (y : Notice) : (g.writeNotice r y).aon = g.aon := by
    unfold Fabric.writeNotice
    obtain ⟨_, written⟩ := Fabric.hdpWrite_eq (g.setRing r _) _ _ _ _ _
    rw [written]
    rfl
  unfold Fabric.notify
  extract_lets ring y f₁ f₂ f₃ f₄ f₅
  have h₁ : f₁.aon = f.aon := by
    unfold f₁
    rw [if_neg (by simpa using hx)]
  have h₂ : f₂.aon = f₁.aon := by unfold f₂; split <;> rfl
  have h₅ : f₅.aon = f.aon := by
    refine Eq.trans ?_ (h₂.trans h₁)
    unfold f₅
    split <;> rfl
  split
  · exact h₅
  · split
    · exact (writes _ _).trans h₅
    · split <;> exact h₅

/-- A device at step 8 whose firmware reports READY, with no trial boot and no command that waits. -/
structure Fabric.GetsReady (f : Fabric) : Prop where
  stage : f.aon.stage = 8
  ready : f.ready = false
  measured : f.prc.measured = true
  trained : f.hdp.trained = true
  frozen : f.frozen = false
  trial : f.prc.trial = false
  waiting : f.waiting = []

/-- The device with READY set, before the ready notice (R388). -/
def Fabric.readied (f : Fabric) : Fabric :=
  { f with abi := f.prc.running.version / 2 ^ 24, major := f.prc.running.version / 2 ^ 16 % 256,
           minor := f.prc.running.version % 65536, ready := true, aon := { f.aon with stage := 10 },
           roll := if f.isSpare then { f.roll with state := 1 } else f.roll }

/-- The ready notice: written, or held until its ring is enabled (R388). -/
def Fabric.bootNoticed (g : Fabric) : Fabric :=
  if (g.ring 32).enable then g.notify 32 g.bootNotice
  else { g.alert 7 with ladder := { g.ladder with bootHeld := some (w64 g.tick :: g.bootNotice.pay) }, trc := g.trc.sawNotice 9 }

theorem Fabric.bootNoticed_reads (g : Fabric) :
    ∃ l, ({ g with ladder := l } : Fabric).Noticed g.bootNoticed ∧ g.bootNoticed.aon = g.aon := by
  unfold Fabric.bootNoticed
  split
  · exact ⟨g.ladder, g.notify_noticed 32 (n := g.bootNotice) (show 9 ≠ 2 by decide), g.notify_aon 32 rfl⟩
  · exact ⟨_, ⟨_, _, _, _, _, rfl, Hdp.SameSlices.refl _⟩, rfl⟩

/-- READY is set and noticed: nothing waits, and no trial boot ends (R388, R389). -/
theorem Fabric.GetsReady.noticed (hf : f.GetsReady) (take : Fabric → Nat → Fabric) :
    ∃ l, ({ f.readied with ladder := l } : Fabric).Noticed (f.firmwareReady take) ∧ (f.firmwareReady take).aon = f.readied.aon := by
  have settles {h : Fabric} (ht : h.prc.trial = false) (hw : h.waiting = []) : h.commitTrial.acceptWaiting take = h := by
    unfold Fabric.commitTrial Fabric.acceptWaiting
    rw [if_pos (by simp [ht]), hw, List.foldl_nil, ← hw]
  have starts : ¬ (f.aon.stage != 8 || f.ready || !f.prc.measured || !f.hdp.trained || f.frozen) = true := by
    simp [hf.stage, hf.ready, hf.measured, hf.trained, hf.frozen]
  unfold Fabric.firmwareReady
  rw [if_neg starts]
  extract_lets src v aon f₁ roll f₂ x alerted ladder f₃
  have h₂ : f₂ = f.readied := by
    unfold f₂ Fabric.readied
    rw [show f₁.isSpare = f.isSpare from rfl]
    cases f.isSpare <;> rfl
  obtain ⟨l, wrote, aon⟩ := f.readied.bootNoticed_reads
  have h₃ : f₃ = f.readied.bootNoticed := congrArg Fabric.bootNoticed h₂
  rw [h₃]
  obtain ⟨_, _, _, _, _, e, same⟩ := wrote
  rw [settles (by rw [e]; exact hf.trial) (by rw [e]; exact hf.waiting)]
  exact ⟨l, ⟨_, _, _, _, _, e, same⟩, aon⟩

end Sys2Proof.Machine

namespace Sys2Proof.Proofs
open Sys2Proof.Machine

/-- Settles O22: one lemma for each step of start-up, and `Fabric.bootOther` for a slot that does not boot. -/
theorem startUpReachesReady : Obligations.StartUpReachesReady := by
  intro s hfrozen f slot
  refine ⟨fun ws n hst hm ht => ?_, fun o i hawake hst ht hclk => ?_, fun hst hr hm ht hw htr => ?_,
    fun hcount htr hr hst hslot hother => ⟨fun hover => ?_, fun hearly => ?_⟩⟩
  · have loads : f.LoadsImage := ⟨hst, hm, hfrozen⟩
    have goes (ok : Bool) : Goes (.proctorImageLoaded ok ws n) s (f.imageLoaded ok { words := ws, len := n }) :=
      goes_always (fun f => f.imageLoaded ok { words := ws, len := n }) rfl rfl
    refine ⟨fun hform => ?_, fun hslot hother => ?_⟩
    · obtain ⟨stage, measured, running, ready⟩ := loads.sound ht hform
      exact ⟨_, goes true, stage, measured, running, ready, rfl⟩
    · have boots := loads.unsound.trans (Fabric.bootOther_other (f := f.imageRead { words := ws, len := n }) hslot hother)
      exact ⟨_, boots ▸ goes false, rfl, rfl, (Fabric.mem_failedNow _ _).mpr (.inl rfl), rfl, rfl⟩
  · have trains : f.Trains := ⟨hst, ht, hclk, hfrozen⟩
    have goes {g : Fabric} (hg : f.hdpTrained o i = g) : Goes (.hdpTrainingDone o i) s g :=
      goes_event (fun f => f.hdpTrained o i) hawake rfl hg
    refine ⟨fun few => ?_, fun many => ?_⟩
    · exact ⟨_, goes (trains.done.trans (if_neg (Nat.not_lt.mpr few))), rfl, rfl, rfl, rfl, rfl,
        fun k hk => Hdp.firstTrain_slice _ o i hk⟩
    · obtain ⟨p, faulted, here⟩ := Fabric.faultOn_eq
        { f with hdp := { f.hdp.firstTrain o i with window := f.tick, stopped := true } } 5
      exact ⟨_, goes ((trains.done.trans (if_pos many)).trans faulted), rfl, here, hst⟩
  · have gets : f.GetsReady := ⟨hst, hr, hm, ht, hfrozen, htr, hw⟩
    obtain ⟨l, ⟨_, _, _, _, _, e, -⟩, aon⟩ := gets.noticed Fabric.take
    rw [e] at aon
    exact ⟨_, goes_always (fun f => f.firmwareReady Fabric.take) rfl e, rfl, congrArg Aon.stage aon, rfl, rfl, rfl, rfl⟩
  · have boots := (Fabric.trialTimeout_due htr hr hst hover).trans (Fabric.bootOther_other hslot hother)
    exact ⟨_, goes_event Fabric.trialTimeout hcount rfl boots, (Fabric.mem_failedNow _ _).mpr (.inl rfl), rfl, rfl, rfl⟩
  · exact goes_event Fabric.trialTimeout hcount rfl (Fabric.trialTimeout_early hearly)

end Sys2Proof.Proofs
end

section
/-!
SUPPORT. The power manager and the safety monitors (R390 to R408): what notes the throttle reasons, what leaves the power state, the
bubbles, and the readings that change the power state alone.
-/
namespace Sys2Proof.Machine

variable {f g : Fabric} {s : State} {w : Pwr} {i : Instr} {n k : Nat}

/-! ### The power state and the reasons noted with it -/

/-- A power state with reasons noted (R404): its reading of the reasons may differ. -/
def Pwr.Noted (w v : Pwr) : Prop := ∃ n c r, v = { w with noted := n, changed := c, seen := r }

theorem Fabric.noteReasons_eq (f : Fabric) : ∃ v, f.noteReasons = { f with pwr := v } ∧ f.pwr.Noted v := by
  unfold Fabric.noteReasons
  dsimp only
  split
  · exact ⟨_, rfl, _, _, _, rfl⟩
  · exact ⟨_, rfl, _, _, _, rfl⟩

theorem Fabric.updPwr_eq (f : Fabric) (u : Pwr → Pwr) : ∃ v, f.updPwr u = { f with pwr := v } ∧ (u f.pwr).Noted v :=
  Fabric.noteReasons_eq { f with pwr := u f.pwr }

/-! ### What leaves the power state -/

theorem Fabric.finish_pwr (f : Fabric) (m st r0 : Nat) (resp : List Word) (len : Nat) : (f.finish m st r0 resp len).pwr = f.pwr := by
  unfold Fabric.finish
  split
  · obtain ⟨_, _, _, completed⟩ := f.complete_eq m st (w64 r0) resp len
    rw [completed]
  · rfl

theorem Fabric.scanRec_pwr (f : Fabric) (m lane : Nat) (ws : List Word) : (f.scanRec m lane ws).pwr = f.pwr := by
  unfold Fabric.scanRec Fabric.endScanOp
  dsimp only
  split
  · rfl
  · split
    · exact Fabric.finish_pwr _ _ _ _ _ _
    · rfl

theorem Fabric.abortScans_pwr (f : Fabric) (lanes : List Nat) : (f.abortScans lanes).pwr = f.pwr := by
  refine List.foldlRecOn (motive := fun g : Fabric => g.pwr = f.pwr) lanes _ rfl fun g hg l _ => ?_
  split
  · exact hg
  · dsimp only
    split
    · exact (Fabric.scanRec_pwr _ _ _ _).trans hg
    · exact hg

theorem Fabric.putLcf_pwr (f : Fabric) (k : Nat) (hb : Option (List Word)) : (f.putLcf k hb).pwr = f.pwr := by
  unfold Fabric.putLcf
  dsimp only
  split <;> rfl

theorem Fabric.forceNap_pwr (f : Fabric) : f.forceNap.pwr = f.pwr := by
  refine List.foldlRecOn (motive := fun g : Fabric => g.pwr = f.pwr) (List.range 8) _ rfl fun g hg k _ => ?_
  dsimp only
  split
  · rw [Fabric.toState, Fabric.updPort_pwr, Fabric.putLcf_pwr, Fabric.updPort_pwr, Fabric.abortScans_pwr, hg]
  · exact hg

theorem Fabric.portsOff_pwr (f : Fabric) : f.portsOff.pwr = f.pwr := by
  unfold Fabric.portsOff
  exact List.foldlRecOn (motive := fun g : Fabric => g.pwr = f.pwr) (List.range 8) Fabric.portOff rfl
    fun g hg k _ => (Fabric.abortScans_pwr g _).trans hg

theorem Fabric.safeStates_pwr (f : Fabric) : f.safeStates.pwr = f.pwr := by
  rw [f.safeStates_eq]
  exact f.portsOff_pwr

/-! ### Bubbles (R396) -/

theorem shed_positive {e : Int} {p old z : Nat} (hp : 0 < p) :
    (shed e p old z).1 = max (min (ceilDiv e.toNat p) 56) (old - 8) := by
  have need : (if e ≤ 0 then 0 else if p = 0 then z else ((e + (p : Int) - 1) / (p : Int)).toNat) = ceilDiv e.toNat p := by
    rw [if_neg (show ¬ p = 0 by omega)]
    split
    · next he =>
      rw [Int.toNat_of_nonpos he, ceilDiv, Nat.div_eq_of_lt (by omega)]
    · next he =>
      obtain ⟨a, rfl⟩ := Int.eq_ofNat_of_zero_le (show 0 ≤ e by omega)
      rw [ceilDiv, show ((a : Int) + (p : Int) - 1) = ((a + p - 1 : Nat) : Int) by omega]
      rfl
  exact congrArg (fun n => max (min n 56) (old - 8)) need

/-- Without an excess the fraction of a gate falls by 8. -/
theorem shed_enough {e : Int} {p old z : Nat} (he : e ≤ 0) : (shed e p old z).1 = old - 8 ∧ (shed e p old z).2 ≤ 0 := by
  have frac : (shed e p old z).1 = old - 8 := by simp [shed, he]
  refine ⟨frac, ?_⟩
  have left : (shed e p old z).2 = e - (((shed e p old z).1 * p : Nat) : Int) := rfl
  omega

/-- The gates and the fractions of a BUBBLE_UPDATE, one domain after the other. -/
def Fabric.shedA (f : Fabric) (est pA : Nat) : Nat × Int :=
  shed (64 * (((est + f.biasPower : Nat) : Int) - 1000 * (f.pwr.capEff : Int))) pA f.pwr.bubA (f.draw.2.toNat % 57)

def Fabric.shedM (f : Fabric) (est pA pM : Nat) : Nat × Int :=
  shed (f.shedA est pA).2 pM f.pwr.bubM (f.draw.2.toNat % 57)

def Fabric.shedL (f : Fabric) (est pA pM pL : Nat) : Nat × Int :=
  shed (f.shedM est pA pM).2 pL f.pwr.bubL (f.draw.2.toNat % 57)

/-- The estimate is above the effective cap with every gate at its most. -/
def Fabric.unmet (f : Fabric) (est pA pM pL : Nat) : Bool :=
  (f.shedA est pA).1 == 56 && (f.shedM est pA pM).1 == 56 && (f.shedL est pA pM pL).1 == 56 && 1000 * f.pwr.capEff < est + f.biasPower

/-- A BUBBLE_UPDATE changes the power state, and forces ports into NAP where the cap cannot be met (R397). -/
theorem Fabric.bubbleUpdate_eq (f : Fabric) (est pA pM pL : Nat) :
    ∃ v, f.bubbleUpdate est pA pM pL =
        (if f.unmet est pA pM pL then ({ f with free := f.free + 1, pwr := v } : Fabric).forceNap else { f with free := f.free + 1, pwr := v }) ∧
      v.est = est + f.biasPower ∧ v.bubA = (f.shedA est pA).1 ∧ v.bubM = (f.shedM est pA pM).1 ∧ v.bubL = (f.shedL est pA pM pL).1 := by
  obtain ⟨v, noted, _, _, _, rfl⟩ := Fabric.updPwr_eq f.draw.1 fun w =>
    { w with est := est + f.biasPower, bubA := (f.shedA est pA).1, bubM := (f.shedM est pA pM).1, bubL := (f.shedL est pA pM pL).1,
             capUnmet := f.unmet est pA pM pL, napForced := f.unmet est pA pM pL,
             bubSince := if (f.shedA est pA).1 != 0 || (f.shedM est pA pM).1 != 0 || (f.shedL est pA pM pL).1 != 0 then
               some (w.bubSince.getD f.tick) else none,
             freeSince := if !((f.shedA est pA).1 != 0 || (f.shedM est pA pM).1 != 0 || (f.shedL est pA pM pL).1 != 0) && w.bubbles then
               f.tick else w.freeSince }
  exact ⟨_, congrArg (fun g : Fabric => if f.unmet est pA pM pL then g.forceNap else g) noted, rfl, rfl, rfl, rfl⟩

theorem Fabric.bubbleUpdate_reads (f : Fabric) (est pA pM pL : Nat) (hp : 0 < pA) :
    (f.bubbleUpdate est pA pM pL).pwr.est = est + f.biasPower ∧
      (f.bubbleUpdate est pA pM pL).pwr.bubA = max (min (ceilDiv (64 * (est + f.biasPower - 1000 * f.pwr.capEff)) pA) 56) (f.pwr.bubA - 8) := by
  obtain ⟨v, updated, hest, hA, -, -⟩ := f.bubbleUpdate_eq est pA pM pL
  have pwr : (f.bubbleUpdate est pA pM pL).pwr = v := by
    rw [updated]
    split
    · exact Fabric.forceNap_pwr _
    · rfl
  rw [pwr, hest, hA, Fabric.shedA, shed_positive hp]
  exact ⟨rfl, by congr 3; omega⟩

/-- An estimate within the cap lowers every gate and changes nothing but the power state. -/
theorem Fabric.bubbleUpdate_within (f : Fabric) (est pA pM pL : Nat) (he : est + f.biasPower ≤ 1000 * f.pwr.capEff) :
    ∃ v, f.bubbleUpdate est pA pM pL = { f with free := f.free + 1, pwr := v } ∧ v.bubM = f.pwr.bubM - 8 ∧ v.bubL = f.pwr.bubL - 8 := by
  obtain ⟨v, updated, -, -, hM, hL⟩ := f.bubbleUpdate_eq est pA pM pL
  have met : ¬ f.unmet est pA pM pL = true := by simp [Fabric.unmet, he]
  have leftA : (f.shedA est pA).2 ≤ 0 := (shed_enough (by omega)).2
  have leftM : (f.shedM est pA pM).2 ≤ 0 := (shed_enough leftA).2
  exact ⟨v, updated.trans (if_neg met), hM.trans (shed_enough leftA).1, hL.trans (shed_enough leftM).1⟩

/-! ### Readings (R391, R392, R394) -/

/-- What recalibration takes of a power state (R394). -/
def Pwr.recalibrated (x : Pwr) (ok : Bool) (p mv amps : Nat) : Pwr :=
  let x := { x with fabricW := p, icore := amps }
  if ok && !x.pmbusFault then { x with pmbusFails := 0, vcoreMv := mv }
  else if ok then x
  else { x with pmbusFails := x.pmbusFails + 1, pmbusFault := x.pmbusFault || 3 ≤ x.pmbusFails + 1 }

theorem Pwr.recalibrated_reads (x : Pwr) (ok : Bool) (p mv amps : Nat) :
    (x.recalibrated ok p mv amps).fabricW = p ∧ (x.recalibrated ok p mv amps).icore = amps ∧
      (ok = true → x.pmbusFault = false → (x.recalibrated ok p mv amps).vcoreMv = mv ∧ (x.recalibrated ok p mv amps).pmbusFails = 0) ∧
      (ok = false → 2 ≤ x.pmbusFails → (x.recalibrated ok p mv amps).pmbusFault = true) ∧
      (x.pmbusFault = true → (x.recalibrated ok p mv amps).pmbusFault = true) := by
  cases ok with
  | true => cases hf : x.pmbusFault <;> simp [Pwr.recalibrated, hf]
  | false =>
    refine ⟨rfl, rfl, by simp, fun _ two => ?_, fun fault => ?_⟩
    · have third : 3 ≤ x.pmbusFails + 1 := by omega
      simp [Pwr.recalibrated, third]
    · simp [Pwr.recalibrated, fault]

/-- A sample of one chain that runs keeps its period and its fresh period (R391). -/
theorem Fabric.canarySample_one (f : Fabric) {c : Nat} (per fresh : Nat) (hc : c < 32) (hfused : f.prc.fusedOff / 2 ^ c % 2 = 0)
    (hfresh : fresh ≠ 0) :
    ∃ n v, f.canarySample [(c, per, fresh)] = { f with free := n, pwr := v } ∧ v.canary = f.pwr.canary.set c (per, fresh) := by
  have good : [(c, per, fresh)].filter (fun s : Nat × Nat × Nat =>
      (decide (s.1 < 40) && (decide (s.1 ≥ 32) || f.prc.fusedOff / 2 ^ s.1 % 2 == 0)) && s.2.2 != 0) = [(c, per, fresh)] := by
    simp [hfused, hfresh, show c < 40 by omega]
  unfold Fabric.canarySample
  dsimp only
  rw [good]
  split
  · obtain ⟨v, updated, _, _, _, rfl⟩ := f.draw.1.updPwr_eq fun w => { w with canary := f.pwr.canary.set c (per, fresh) }
    exact ⟨_, _, updated, rfl⟩
  · next worst num den _ =>
    obtain ⟨n, near⟩ := f.draw.1.nearby_eq num den
    obtain ⟨v, updated, _, _, _, rfl⟩ := Fabric.updPwr_eq { f with free := n } fun w =>
      { w with canary := f.pwr.canary.set c (per, fresh), worst := worst, agePpm := min 65535 (f.draw.1.nearby num den).2.toNat }
    exact ⟨_, _, (congrArg (fun g : Fabric => g.updPwr _) near).trans updated, rfl⟩

/-- A due FLOOR_REPLAN plans FLOOR from the canaries (R392). -/
theorem Fabric.floorReplan_due (f : Fabric) (mv : Nat) (hdue : f.pwr.lastPlan + 9375000000 ≤ f.tick) :
    ∃ v, f.floorReplan mv = { f with pwr := v } ∧ v.floor = min 800 (max 650 (5 * ceilDiv mv 5)) ∧
      v.marginOut = decide (800 < 5 * ceilDiv mv 5) ∧ v.lastPlan = f.tick := by
  obtain ⟨v, updated, _, _, _, rfl⟩ := f.updPwr_eq fun w =>
    { w with floor := min 800 (max 650 (5 * ceilDiv mv 5)), marginOut := 800 < max 650 (5 * ceilDiv mv 5),
             planned := w.canary.map (fun e => (e.1, e.2.1)), lastPlan := f.tick }
  have plans : ¬ (f.tick < f.pwr.lastPlan + 9375000000 && !f.pwr.aged) = true := by simp [Nat.not_lt.mpr hdue]
  exact ⟨_, (if_neg plans).trans updated, rfl, decide_eq_decide.mpr (by omega), rfl⟩

theorem Fabric.floorReplan_early (f : Fabric) (mv : Nat) (hearly : f.tick < f.pwr.lastPlan + 9375000000) (haged : f.pwr.aged = false) :
    f.floorReplan mv = f :=
  if_pos (by simp [hearly, haged])

end Sys2Proof.Machine

namespace Sys2Proof.Proofs
open Sys2Proof.Machine

/-- Settles O25: each reading is a change of the power state, and `shed` gives the fractions of the gates. -/
theorem powerManagerReadings : Obligations.PowerManagerReadings := by
  intro s hp w
  have goes {i : Instr} {g : Fabric} (act : Fabric → Fabric) (hi : exec i s = s.onFabric Fabric.powered act) (hact : act s.fab = g) :
      Goes i s g := goes_event act hp hi hact
  refine ⟨fun read pA pM pL hpA => ?_, fun ok p mv amps hclk => ?_, fun ok p mv amps hclk => ?_,
    fun c per fresh hc hfused hfresh => ?_, fun mv hdue => ?_, fun mv hearly haged => ?_⟩
  · obtain ⟨hest, hA⟩ := s.fab.bubbleUpdate_reads read pA pM pL hpA
    refine ⟨_, goes (fun f => f.bubbleUpdate read pA pM pL) rfl rfl, rfl, hest, hA, fun he => ?_⟩
    obtain ⟨v, updated, hM, hL⟩ := s.fab.bubbleUpdate_within read pA pM pL he
    dsimp only
    rw [updated]
    exact ⟨hM, hL, rfl⟩
  · exact exec_shut (gate := fun f => f.powered && f.pmbusUp) (fun f => f.recalibrate ok p mv amps) (by simp [Fabric.pmbusUp, hclk]) rfl
  · obtain ⟨v, updated, _, _, _, rfl⟩ := s.fab.updPwr_eq fun x => x.recalibrated ok p mv amps
    have up : (s.fab.powered && s.fab.pmbusUp) = true := by simp [hp, Fabric.pmbusUp, hclk]
    exact ⟨_, goes_event (gate := fun f => f.powered && f.pmbusUp) (fun f => f.recalibrate ok p mv amps) up rfl updated, rfl,
      s.fab.pwr.recalibrated_reads ok p mv amps⟩
  · obtain ⟨n, v, sampled, hv⟩ := s.fab.canarySample_one per fresh hc hfused hfresh
    exact ⟨_, goes (fun f => f.canarySample [(c, per, fresh)]) rfl sampled, rfl, hv⟩
  · obtain ⟨v, plans, floor, margin, last⟩ := s.fab.floorReplan_due mv hdue
    exact ⟨_, goes (fun f => f.floorReplan mv) rfl plans, rfl, floor, margin, last⟩
  · exact goes (fun f => f.floorReplan mv) rfl (s.fab.floorReplan_early mv hearly haged)

end Sys2Proof.Proofs
end

section
/-!
SUPPORT. Reasons, TARGET, the standing limits and the droop hold (R398 to R401).
-/
namespace Sys2Proof

/-! ### The mask of the indices that pass a test -/

theorem maskOf_filter_range_succ (p : Nat → Bool) {n : Nat} (hlt : maskOf ((List.range n).filter p) < 2 ^ n) :
    maskOf ((List.range (n + 1)).filter p) = maskOf ((List.range n).filter p) + (if p n then 2 ^ n else 0) := by
  rw [List.range_succ, List.filter_append]
  cases hp : p n with
  | false => simp [hp]
  | true =>
    have clear : ¬ (maskOf ((List.range n).filter p) / 2 ^ n % 2 == 1) = true := by rw [Nat.div_eq_of_lt hlt]; decide
    rw [show [n].filter p = [n] by simp [hp], maskOf, List.foldl_append]
    exact if_neg clear

theorem maskOf_filter_range_lt (p : Nat → Bool) (n : Nat) : maskOf ((List.range n).filter p) < 2 ^ n := by
  induction n with
  | zero => exact Nat.one_pos
  | succ n ih =>
    rw [maskOf_filter_range_succ p ih, Nat.pow_succ]
    split <;> omega

theorem maskOf_filter_range_testBit (p : Nat → Bool) (n i : Nat) (hi : i < n) : (maskOf ((List.range n).filter p)).testBit i = p i := by
  induction n with
  | zero => exact absurd hi (Nat.not_lt_zero i)
  | succ n ih =>
    have lt := maskOf_filter_range_lt p n
    rw [maskOf_filter_range_succ p lt]
    obtain hi | rfl := Nat.lt_succ_iff_lt_or_eq.mp hi
    · split
      · rw [Nat.add_comm, Nat.testBit_two_pow_add_gt hi, ih hi]
      · exact ih hi
    · cases hp : p i with
      | true => simp [Nat.add_comm _ (2 ^ i), Nat.testBit_two_pow_add_eq, Nat.testBit_lt_two_pow lt]
      | false => simp [Nat.testBit_lt_two_pow lt]

end Sys2Proof

namespace Sys2Proof.Machine

variable {f g : Fabric} {s : State} {w v : Pwr} {i : Instr} {n k : Nat}

/-- The droop reason is bit 3 (Table 11.7). -/
theorem Pwr.reasons_droop (w : Pwr) (fixed : Bool) : w.reasons fixed / 8 % 2 = b2n w.droop := by
  obtain ⟨p, mask, droop⟩ : ∃ p, w.reasons fixed = maskOf ((List.range 6).filter p) ∧ p 3 = w.droop := ⟨_, rfl, rfl⟩
  have bit := maskOf_filter_range_testBit p 6 3 (by decide)
  rw [Nat.testBit_eq_decide_div_mod_eq, droop] at bit
  rw [mask, ← bit]
  change maskOf ((List.range 6).filter p) / 2 ^ 3 % 2 = _
  rcases Nat.mod_two_eq_zero_or_one (maskOf ((List.range 6).filter p) / 2 ^ 3) with h | h <;> rw [h] <;> rfl

/-! ### TARGET (R398) -/

theorem Pwr.target_lowered (w : Pwr) (hlow : w.floor < w.target) (last : Nat) :
    ({ w with lowered := w.plannedTarget - max w.floor (w.target - 5), lastTarget := last } : Pwr).target = max w.floor (w.target - 5) := by
  have below : w.target ≤ w.plannedTarget := by unfold Pwr.target at hlow ⊢; omega
  change max w.floor (w.plannedTarget - (w.plannedTarget - max w.floor (w.target - 5))) = _
  omega

theorem Pwr.target_raised (w : Pwr) (hup : w.target < w.plannedTarget) (last : Nat) :
    ({ w with lowered := w.plannedTarget - min w.plannedTarget (w.target + 5), lastTarget := last } : Pwr).target =
      min w.plannedTarget (w.target + 5) := by
  have floor : w.floor ≤ w.target := Nat.le_max_left _ _
  change max w.floor (w.plannedTarget - (w.plannedTarget - min w.plannedTarget (w.target + 5))) = _
  omega

/-- TARGET is due to fall: cap bubbles have stood for 10 ms above FLOOR. -/
structure Fabric.Lowers (f : Fabric) : Prop where
  due : f.pwr.lastTarget + 156250 ≤ f.tick
  above : f.pwr.floor < f.pwr.target
  bubbles : ∃ t, f.pwr.bubSince = some t ∧ t + 1562500 ≤ f.tick

/-- TARGET is due to rise: no cap bubbles have stood for 10 ms. -/
structure Fabric.Raises (f : Fabric) : Prop where
  due : f.pwr.lastTarget + 156250 ≤ f.tick
  below : f.pwr.target < f.pwr.plannedTarget
  quiet : f.pwr.bubSince = none
  calm : f.pwr.freeSince + 1562500 ≤ f.tick

theorem Fabric.Lowers.step (hf : f.Lowers) : ∃ v, f.targetStep = { f with pwr := v } ∧ v.target = max f.pwr.floor (f.pwr.target - 5) ∧
    v.lastTarget = f.tick ∧ v.floor = f.pwr.floor := by
  obtain ⟨t, since, long⟩ := hf.bubbles
  obtain ⟨v, updated, _, _, _, rfl⟩ := f.updPwr_eq fun w =>
    { w with lowered := w.plannedTarget - max w.floor (w.target - 5), lastTarget := f.tick }
  refine ⟨_, Eq.trans ?_ updated, f.pwr.target_lowered hf.above f.tick, rfl, rfl⟩
  unfold Fabric.targetStep
  dsimp only
  rw [if_neg (Nat.not_lt.mpr hf.due), since]
  exact if_pos (by simp [long, hf.above])

theorem Fabric.Raises.step (hf : f.Raises) : ∃ v, f.targetStep = { f with pwr := v } ∧
    v.target = min f.pwr.plannedTarget (f.pwr.target + 5) ∧ v.lastTarget = f.tick ∧ v.floor = f.pwr.floor := by
  obtain ⟨v, updated, _, _, _, rfl⟩ := f.updPwr_eq fun w =>
    { w with lowered := w.plannedTarget - min w.plannedTarget (w.target + 5), lastTarget := f.tick }
  refine ⟨_, Eq.trans ?_ updated, f.pwr.target_raised hf.below f.tick, rfl, rfl⟩
  unfold Fabric.targetStep
  dsimp only
  rw [if_neg (Nat.not_lt.mpr hf.due), hf.quiet]
  exact if_pos (by simp [hf.calm, hf.below])

theorem Fabric.targetStep_stays (hl : ¬ f.Lowers) (hr : ¬ f.Raises) : f.targetStep = f := by
  unfold Fabric.targetStep
  dsimp only
  split
  · rfl
  · next due =>
    split
    · next t since =>
      refine if_neg fun h => hl ?_
      obtain ⟨long, above⟩ := by simpa using h
      exact ⟨Nat.not_lt.mp due, above, t, since, long⟩
    · next quiet =>
      refine if_neg fun h => hr ?_
      obtain ⟨calm, below⟩ := by simpa using h
      exact ⟨Nat.not_lt.mp due, below, quiet, calm⟩

/-! ### The temperature (R399) -/

/-- What a reading of the temperature makes of a power state. -/
def Fabric.heated (f : Fabric) (tj : Nat) : Fabric :=
  f.updPwr fun w =>
    { w with tjMax := tj, hot := 4 * w.tjThrottle < tj,
             coolSince := if tj + 12 ≤ 4 * w.tjThrottle then some (w.coolSince.getD f.tick) else none }

theorem Fabric.heated_eq (f : Fabric) (tj : Nat) :
    ∃ v, f.heated tj = { f with pwr := v } ∧ v.tjMax = tj ∧ v.hot = decide (4 * f.pwr.tjThrottle < tj) ∧ v.tjTrip = f.pwr.tjTrip := by
  obtain ⟨v, updated, _, _, _, rfl⟩ := f.updPwr_eq fun w =>
    { w with tjMax := tj, hot := 4 * w.tjThrottle < tj,
             coolSince := if tj + 12 ≤ 4 * w.tjThrottle then some (w.coolSince.getD f.tick) else none }
  exact ⟨_, updated, rfl, rfl, rfl⟩

/-- The safe states of a trip, which ask for a power cycle. -/
def Fabric.tripped (f : Fabric) : Fabric :=
  { f.safeStates.faultOn 7 with pins := { (f.safeStates.faultOn 7).pins with trayReq := true } }

theorem Fabric.thermalSample_eq (f : Fabric) (tj : Nat) :
    f.thermalSample tj = if 4 * f.pwr.tjTrip ≤ tj then (f.heated tj).tripped else f.heated tj := by
  obtain ⟨v, heated, -, -, trip⟩ := f.heated_eq tj
  rw [← trip, show v = (f.heated tj).pwr by rw [heated]]
  delta Fabric.thermalSample Fabric.heated Fabric.tripped
  rfl

theorem Fabric.tripped_reads (f : Fabric) :
    f.tripped.hdp.stopped = true ∧ 7 ∈ f.tripped.pins.faults ∧ f.tripped.pins.trayReq = true ∧ f.tripped.pwr = f.pwr := by
  unfold Fabric.tripped
  have pwr := f.safeStates_pwr
  generalize hg : f.safeStates = g at pwr
  obtain ⟨safe, here⟩ := (hg ▸ f.safeStates_safe : g.Safe).faultOn 7
  obtain ⟨p, faulted, -⟩ := g.faultOn_eq 7
  exact ⟨safe.stopped, here, rfl, by rw [faulted]; exact pwr⟩

/-! ### Standing limits (R399, R400) -/

/-- A quotient whose rounding is open is the floor or the ceiling. -/
theorem Fabric.nearby_rounds (f : Fabric) (a b : Nat) (hb : 0 < b) :
    (f.nearby (a : Int) (b : Int)).2.toNat = a / b ∨ (f.nearby (a : Int) (b : Int)).2.toNat = ceilDiv a b := by
  have zero : ¬ (b : Int) = 0 := by omega
  have quot : (a : Int) / (b : Int) = ((a / b : Nat) : Int) := rfl
  unfold Fabric.nearby
  rw [if_neg zero, quot]
  split
  · exact .inl rfl
  · next hrem =>
    dsimp only
    split
    · have up : ceilDiv a b = a / b + 1 := by
        have pos : 0 < a % b := Nat.pos_of_ne_zero fun h => hrem (by rw [← Int.natCast_mod, h]; rfl)
        have split := Nat.div_add_mod a b
        have lt := Nat.mod_lt a hb
        rw [ceilDiv, show a + b - 1 = (a % b - 1) + b * (a / b + 1) by rw [Nat.mul_add]; omega, Nat.add_mul_div_left _ _ hb,
          Nat.div_eq_of_lt (by omega), Nat.zero_add]
      exact .inr up.symm
    · exact .inl rfl

/-- A step of a limit by 5 % of the estimate, rounded down or up. -/
def stepsBy (est limit : Nat) (lower : Bool) (v : Nat) : Prop :=
  ∃ d, (d = 5 * est / 100000 ∨ d = ceilDiv (5 * est) 100000) ∧ v = if lower then max 100 (limit - d) else min 640 (limit + d)

theorem Fabric.limitStep_eq (f : Fabric) (limit : Nat) (lower : Bool) :
    ∃ n v, f.limitStep limit lower = ({ f with free := n }, v) ∧ stepsBy f.pwr.est limit lower v := by
  obtain ⟨n, near⟩ := f.nearby_eq (5 * (f.pwr.est : Int)) 100000
  refine ⟨n, _, Prod.ext near rfl, _, ?_, rfl⟩
  exact f.nearby_rounds (5 * f.pwr.est) 100000 (by decide)

/-- A time that lies `n` ref ticks back, where one is known. -/
def ago (d : Bool) (last : Option Nat) (n tick : Nat) : Bool := match last with | some t => t + n ≤ tick | none => d

theorem ago_due {last : Option Nat} {tick : Nat} : ago true last n tick = true ↔ ∀ t, last = some t → t + n ≤ tick := by
  cases last <;> simp [ago]

theorem ago_since {last : Option Nat} {tick : Nat} : ago false last n tick = true ↔ ∃ t, last = some t ∧ t + n ≤ tick := by
  cases last <;> simp [ago]

/-- The monitor of the temperature orders a step. -/
def Fabric.thermalOrdered (f : Fabric) (v : Nat) : Fabric :=
  ({ f with pwr := { f.pwr with lastThermal := some f.tick } } : Fabric).inward 34 opLimit [0, w64 v] [({ block := blkLimit, index := 0, field := 0 }, v)]

theorem Fabric.thermalStep_eq (f : Fabric) :
    f.thermalStep =
      if !ago true f.pwr.lastThermal 156250 f.tick || !(f.pwr.hot || (ago false f.pwr.coolSince 1562500 f.tick && f.pwr.thermal < 640)) then f
      else (f.limitStep f.pwr.thermal f.pwr.hot).1.thermalOrdered (f.limitStep f.pwr.thermal f.pwr.hot).2 := rfl

/-- The device with the reading of the current judged (R400). -/
def Fabric.eased (f : Fabric) (amps : Nat) : Fabric :=
  { f with pwr := { f.pwr with easeSince := if f.pwr.iccLimit < amps then none else some (f.pwr.easeSince.getD f.tick) } }

def Fabric.currentOrdered (f : Fabric) (v : Nat) : Fabric :=
  ({ f with pwr := { f.pwr with lastCurrent := some f.tick } } : Fabric).inward 35 opLimit [1, w64 v] [({ block := blkLimit, index := 1, field := 0 }, v)]

theorem Fabric.currentStep_eq (f : Fabric) (amps : Nat) :
    f.currentStep amps =
      if !ago true f.pwr.lastCurrent 15625 f.tick ||
          !(f.pwr.iccLimit < amps || (ago false (f.eased amps).pwr.easeSince 1562500 f.tick && f.pwr.current < 640)) then f.eased amps
      else ((f.eased amps).limitStep f.pwr.current (f.pwr.iccLimit < amps)).1.currentOrdered
        ((f.eased amps).limitStep f.pwr.current (f.pwr.iccLimit < amps)).2 := rfl

/-- The monitor of the temperature asks for a step: down where the device is hot, up where it has been cool below 640 W. -/
def Fabric.thermalAsks (f : Fabric) : Bool := f.pwr.hot || (ago false f.pwr.coolSince 1562500 f.tick && f.pwr.thermal < 640)

/-- The monitor of the current asks for a step. -/
def Fabric.currentAsks (f : Fabric) (amps : Nat) : Bool :=
  f.pwr.iccLimit < amps || (ago false (f.eased amps).pwr.easeSince 1562500 f.tick && f.pwr.current < 640)

theorem Fabric.thermalAsks_of {lower : Bool} (h : if lower then f.pwr.hot = true
    else f.pwr.hot = false ∧ (∃ t, f.pwr.coolSince = some t ∧ t + 1562500 ≤ f.tick) ∧ f.pwr.thermal < 640) :
    lower = f.pwr.hot ∧ f.thermalAsks = true := by
  cases lower with
  | true => exact ⟨h.symm, Bool.or_eq_true_iff.mpr (.inl h)⟩
  | false =>
    obtain ⟨cool, long, below⟩ := h
    exact ⟨cool.symm, by simp [Fabric.thermalAsks, ago_since.mpr long, below]⟩

theorem Fabric.currentAsks_of {lower : Bool} {amps : Nat} (h : if lower then f.pwr.iccLimit < amps
    else amps ≤ f.pwr.iccLimit ∧ (∃ t, some (f.pwr.easeSince.getD f.tick) = some t ∧ t + 1562500 ≤ f.tick) ∧ f.pwr.current < 640) :
    lower = decide (f.pwr.iccLimit < amps) ∧ f.currentAsks amps = true := by
  cases lower with
  | true => exact ⟨(decide_eq_true h).symm, Bool.or_eq_true_iff.mpr (.inl (decide_eq_true h))⟩
  | false =>
    obtain ⟨low, calm, below⟩ := h
    have high : ¬ f.pwr.iccLimit < amps := Nat.not_lt.mpr low
    exact ⟨(decide_eq_false high).symm, by simp [Fabric.currentAsks, Fabric.eased, high, ago_since.mpr calm, below]⟩

/-- A due step of a monitor that asks: an order of its source, and the time of the step. -/
theorem Fabric.thermalStep_orders (hdue : ∀ t, f.pwr.lastThermal = some t → t + 156250 ≤ f.tick) (hasks : f.thermalAsks = true) :
    ∃ n v, f.thermalStep = ({ f with free := n } : Fabric).thermalOrdered v ∧ stepsBy f.pwr.est f.pwr.thermal f.pwr.hot v := by
  obtain ⟨n, v, limited, steps⟩ := f.limitStep_eq f.pwr.thermal f.pwr.hot
  unfold Fabric.thermalAsks at hasks
  refine ⟨n, v, f.thermalStep_eq.trans ?_, steps⟩
  rw [ago_due.mpr hdue, hasks, limited]
  rfl

theorem Fabric.thermalStep_idle (h : (¬ ∀ t, f.pwr.lastThermal = some t → t + 156250 ≤ f.tick) ∨
    (f.pwr.hot = false ∧ ((¬ ∃ t, f.pwr.coolSince = some t ∧ t + 1562500 ≤ f.tick) ∨ 640 ≤ f.pwr.thermal))) : f.thermalStep = f := by
  refine f.thermalStep_eq.trans (if_pos ?_)
  obtain early | ⟨cool, warm | most⟩ := h
  · simp [Bool.eq_false_iff.mpr fun h => early (ago_due.mp h)]
  · simp [cool, Bool.eq_false_iff.mpr fun h => warm (ago_since.mp h)]
  · simp [cool, most]

theorem Fabric.currentStep_orders {amps : Nat} (hdue : ∀ t, f.pwr.lastCurrent = some t → t + 15625 ≤ f.tick)
    (hasks : f.currentAsks amps = true) :
    ∃ n v, f.currentStep amps = ({ f.eased amps with free := n } : Fabric).currentOrdered v ∧
      stepsBy f.pwr.est f.pwr.current (f.pwr.iccLimit < amps) v := by
  obtain ⟨n, v, limited, steps⟩ := (f.eased amps).limitStep_eq f.pwr.current (f.pwr.iccLimit < amps)
  unfold Fabric.currentAsks at hasks
  refine ⟨n, v, (f.currentStep_eq amps).trans ?_, steps⟩
  rw [ago_due.mpr hdue, hasks, limited]
  rfl

theorem Fabric.currentStep_early {amps : Nat} (h : ¬ ∀ t, f.pwr.lastCurrent = some t → t + 15625 ≤ f.tick) :
    f.currentStep amps = f.eased amps :=
  (f.currentStep_eq amps).trans (if_pos (by simp [Bool.eq_false_iff.mpr fun due => h (ago_due.mp due)]))

/-! ### Droop (R401) -/

theorem Fabric.droopDetect_eq (f : Fabric) : ∃ v, f.droopDetect = { f with pwr := v } ∧ v.droop = true ∧ v.droopSince = f.tick := by
  obtain ⟨v, updated, _, _, _, rfl⟩ := f.updPwr_eq fun w => { w with droop := true, droopSince := f.tick }
  exact ⟨_, updated, rfl, rfl⟩

theorem Fabric.droopRelease_due (f : Fabric) (hd : f.pwr.droopSince + 16 ≤ f.tick) :
    ∃ v, f.droopRelease = { f with pwr := v } ∧ v.droop = false := by
  obtain ⟨v, updated, _, _, _, rfl⟩ := f.updPwr_eq fun w => { w with droop := false }
  exact ⟨_, (if_pos hd).trans updated, rfl⟩

end Sys2Proof.Machine

namespace Sys2Proof.Proofs
open Sys2Proof.Machine

/-- Settles O26: one lemma for each monitor; a standing limit moves by `limitStep` when its order takes effect. -/
theorem limitsAndDroop : Obligations.LimitsAndDroop := by
  intro s hp f w
  have goes {i : Instr} {g : Fabric} (act : Fabric → Fabric) (hi : exec i s = s.onFabric Fabric.powered act) (hact : act s.fab = g) :
      Goes i s g := goes_event act hp hi hact
  refine ⟨⟨?_, ?_, ?_⟩, fun tj => ⟨fun ht => ?_, fun ht => ?_⟩, ⟨?_, ?_, ?_, ?_⟩, ?_, ?_, ?_⟩
  · rintro ⟨due, above, bubbles⟩
    obtain ⟨v, steps, target, last, floor⟩ := (⟨due, above, bubbles⟩ : f.Lowers).step
    exact ⟨_, goes Fabric.targetStep rfl steps, rfl, target, last, floor, rfl⟩
  · rintro ⟨due, below, quiet, calm⟩
    obtain ⟨v, steps, target, last, floor⟩ := (⟨due, below, quiet, calm⟩ : f.Raises).step
    exact ⟨_, goes Fabric.targetStep rfl steps, rfl, target, last, floor, rfl⟩
  · intro hl hr
    exact goes Fabric.targetStep rfl (Fabric.targetStep_stays (fun h => hl ⟨h.due, h.above, h.bubbles⟩) fun h => hr ⟨h.due, h.below, h.quiet, h.calm⟩)
  · have trips : f.thermalSample tj = (f.heated tj).tripped := (f.thermalSample_eq tj).trans (if_pos ht)
    obtain ⟨stopped, here, asks, pwr⟩ := (f.heated tj).tripped_reads
    obtain ⟨v, heated, max, -⟩ := f.heated_eq tj
    refine ⟨_, goes (fun f => f.thermalSample tj) rfl trips, stopped, here, asks, ?_⟩
    exact (congrArg Pwr.tjMax (pwr.trans (congrArg Fabric.pwr heated))).trans max
  · obtain ⟨v, heated, max, hot, -⟩ := f.heated_eq tj
    have reads : f.thermalSample tj = _ := (f.thermalSample_eq tj).trans ((if_neg (Nat.not_le.mpr ht)).trans heated)
    exact ⟨_, goes (fun f => f.thermalSample tj) rfl reads, rfl, max, hot⟩
  · intro lower hdue hasks
    obtain ⟨rfl, acts⟩ := Fabric.thermalAsks_of hasks
    obtain ⟨n, v, ordered, d, rounds, steps⟩ := Fabric.thermalStep_orders hdue acts
    exact ⟨_, goes Fabric.thermalStep rfl ordered, _, rfl, ⟨d, v, rounds, steps, rfl, rfl, rfl⟩, rfl, rfl, rfl, rfl, rfl⟩
  · exact fun idle => goes Fabric.thermalStep rfl (Fabric.thermalStep_idle idle)
  · intro amps lower hdue hasks
    obtain ⟨rfl, acts⟩ := Fabric.currentAsks_of hasks
    obtain ⟨n, v, ordered, d, rounds, steps⟩ := Fabric.currentStep_orders hdue acts
    exact ⟨_, goes (fun f => f.currentStep amps) rfl ordered, _, rfl, ⟨d, v, rounds, steps, rfl, rfl, rfl⟩, rfl, rfl, rfl, rfl, rfl⟩
  · exact fun amps early => ⟨_, goes (fun f => f.currentStep amps) rfl (Fabric.currentStep_early early), rfl, rfl, rfl⟩
  · obtain ⟨v, detects, droop, since⟩ := f.droopDetect_eq
    refine ⟨_, goes Fabric.droopDetect rfl detects, rfl, droop, since, ?_⟩
    exact (v.reasons_droop f.fixedRate).trans (by rw [droop]; rfl)
  · intro hd
    obtain ⟨v, releases, droop⟩ := f.droopRelease_due hd
    refine ⟨_, goes Fabric.droopRelease rfl releases, rfl, droop, ?_⟩
    exact (v.reasons_droop f.fixedRate).trans (by rw [droop]; rfl)
  · intro hd
    exact goes Fabric.droopRelease rfl (if_neg (Nat.not_le.mpr hd))

end Sys2Proof.Proofs
end

section
/-!
SUPPORT. The THROTTLE notice, the slack window, and the selections of an operating point (R404, R406, R407).
-/
namespace Sys2Proof.Machine

variable {f g : Fabric} {s : State}

/-! ### The THROTTLE notice (R404) -/

theorem Fabric.foldl_notify_noticed (rings : List Nat) (f : Fabric) {n : Notice} (hn : n.code ≠ 2) :
    f.Noticed (rings.foldl (fun g r => g.notify r n) f) :=
  List.foldlRecOn (motive := fun g => f.Noticed g) rings _ (.refl f) fun _ hg r _ => hg.trans (Fabric.notify_noticed _ r hn)

/-- The power state once the notice is sent. -/
def Fabric.throttleSent (f : Fabric) : Pwr :=
  { f.pwr with changed := false, seen := f.reasons, lastNotice := some f.tick, thrTicks := 0 }

theorem Fabric.throttleNotice_due (hc : f.pwr.changed = true) (hdue : ∀ t, f.pwr.lastNotice = some t → t + 156250 ≤ f.tick) :
    ({ f with free := f.free + 1, pwr := f.throttleSent } : Fabric).Noticed f.throttleNotice := by
  have sends : ¬ (!f.pwr.changed || !ago true f.pwr.lastNotice 156250 f.tick) = true := by simp [hc, ago_due.mpr hdue]
  obtain ⟨x, rings, code, sent⟩ : ∃ (x : Notice) (rings : List Nat), x.code = 6 ∧
      f.throttleNotice = if !f.pwr.changed || !ago true f.pwr.lastNotice 156250 f.tick then f
        else rings.foldl (fun g r => g.notify r x) (({ f with free := f.free + 1, pwr := f.throttleSent } : Fabric).notify 32 x) :=
    ⟨_, _, rfl, rfl⟩
  have other : x.code ≠ 2 := by rw [code]; decide
  rw [sent, if_neg sends]
  exact (Fabric.notify_noticed _ 32 other).trans (Fabric.foldl_notify_noticed rings _ other)

theorem Fabric.throttleNotice_idle (h : f.pwr.changed = false ∨ ∃ t, f.pwr.lastNotice = some t ∧ f.tick < t + 156250) :
    f.throttleNotice = f := by
  have idle : (!f.pwr.changed || !ago true f.pwr.lastNotice 156250 f.tick) = true := by
    obtain same | ⟨t, last, early⟩ := h
    · simp [same]
    · simp [last, ago, Nat.not_le.mpr early]
  exact if_pos idle

/-! ### The slack window (R407) -/

theorem Fabric.nearby_pair (f : Fabric) (num den : Int) : ∃ n x, f.nearby num den = ({ f with free := n }, x) := by
  obtain ⟨n, near⟩ := f.nearby_eq num den
  exact ⟨n, _, Prod.ext near rfl⟩

theorem Fabric.slackEnd_due (hdue : f.pwr.winStart + 15625000 ≤ f.tick) :
    ∃ n v, f.slackEnd = { f with free := n, pwr := v } ∧ v.winStart = f.tick ∧ v.estSum = 0 ∧ v.icSum = 0 ∧ v.thrSum = 0 ∧ v.waitSum = 0 ∧
      v.avgW = f.pwr.estSum / (1000 * (f.tick - f.pwr.winStart)) ∧ v.avgA = f.pwr.icSum / (f.tick - f.pwr.winStart) := by
  have long : ¬ f.tick - f.pwr.winStart < 15625000 := by omega
  unfold Fabric.slackEnd
  dsimp only
  rw [if_neg long]
  obtain ⟨n₁, slack, h₁⟩ := f.nearby_pair (1000 * (f.pwr.capEff : Int) * ((f.tick - f.pwr.winStart : Nat) : Int) - (f.pwr.estSum : Int))
    (1000 * ((f.tick - f.pwr.winStart : Nat) : Int))
  obtain ⟨n₂, thr, h₂⟩ := Fabric.nearby_pair { f with free := n₁ } (1000 * (f.pwr.thrSum : Int)) ((f.tick - f.pwr.winStart : Nat) : Int)
  obtain ⟨n₃, wait, h₃⟩ := Fabric.nearby_pair { f with free := n₂ } (1000 * (f.pwr.waitSum : Int)) ((f.tick - f.pwr.winStart : Nat) : Int)
  rw [h₁]
  dsimp only
  rw [h₂]
  dsimp only
  rw [h₃]
  obtain ⟨v, updated, _, _, _, rfl⟩ := Fabric.updPwr_eq { f with free := n₃ } fun w =>
    { w with slackW := slack, thrPm := thr.toNat, waitPm := wait.toNat, avgW := w.estSum / (1000 * (f.tick - f.pwr.winStart)),
             avgA := w.icSum / (f.tick - f.pwr.winStart), winStart := f.tick, estSum := 0, icSum := 0, thrSum := 0, waitSum := 0 }
  exact ⟨_, _, updated, rfl, rfl, rfl, rfl, rfl, rfl, rfl⟩

theorem Fabric.slackEnd_early (h : f.tick < f.pwr.winStart + 15625000) : f.slackEnd = f :=
  if_pos (show f.tick - f.pwr.winStart < 15625000 by omega)

/-! ### Operating points (R406) -/

theorem Fabric.selectPoint_eq (f : Fabric) (k : Nat) :
    ∃ v, f.selectPoint k = { f with pwr := v, fixedRate := (f.pwr.pointAt k).fixed } ∧ v.point = k ∧ v.selects = f.pwr.selects := by
  obtain ⟨v, noted, _, _, _, rfl⟩ := Fabric.noteReasons_eq { f with pwr := { f.pwr with point := k }, fixedRate := (f.pwr.pointAt k).fixed }
  exact ⟨_, noted, rfl, rfl⟩

theorem Fabric.opPointApply_due {b k : Nat} (hs : f.pwr.selects = [(b, k)]) (hb : b ≤ f.bell) :
    f.opPointApply = ({ f with pwr := { f.pwr with selects := [] } } : Fabric).selectPoint k := by
  simp [Fabric.opPointApply, hs, hb, minBy]

theorem Fabric.opPointApply_idle (hs : ∀ x ∈ f.pwr.selects, f.bell < x.1) : f.opPointApply = f := by
  have none : f.pwr.selects.filter (fun x => x.1 ≤ f.bell) = [] :=
    List.filter_eq_nil_iff.mpr fun x hx => by simpa using hs x hx
  unfold Fabric.opPointApply
  rw [none]
  rfl

end Sys2Proof.Machine

namespace Sys2Proof.Proofs
open Sys2Proof.Machine

/-- Settles O27: what is due acts, and what is not leaves the device. -/
theorem throttleSlackAndPoints : Obligations.ThrottleSlackAndPoints := by
  intro s hl f w
  have goes {i : Instr} {g : Fabric} (act : Fabric → Fabric) (hi : exec i s = s.onFabric Fabric.live act) (hact : act s.fab = g) :
      Goes i s g := goes_event act hl hi hact
  refine ⟨fun hc hdue => ?_, fun idle => ?_, fun hdue => ?_, fun early => ?_, fun b k hs hb => ?_, fun hs => ?_⟩
  · obtain ⟨_, _, _, _, _, e, -⟩ := Fabric.throttleNotice_due hc hdue
    exact ⟨_, goes Fabric.throttleNotice rfl e, rfl, rfl, rfl, rfl, rfl, rfl, rfl⟩
  · exact goes Fabric.throttleNotice rfl (Fabric.throttleNotice_idle idle)
  · obtain ⟨n, v, ends, start, sums⟩ := Fabric.slackEnd_due hdue
    exact ⟨_, goes Fabric.slackEnd rfl ends, rfl, start, sums⟩
  · exact goes Fabric.slackEnd rfl (Fabric.slackEnd_early early)
  · obtain ⟨v, selects, point, rest⟩ := Fabric.selectPoint_eq { f with pwr := { f.pwr with selects := [] } } k
    exact ⟨_, goes Fabric.opPointApply rfl ((Fabric.opPointApply_due hs hb).trans selects), point, rest, rfl, rfl⟩
  · exact goes Fabric.opPointApply rfl (Fabric.opPointApply_idle hs)

end Sys2Proof.Proofs
end

section
/-!
SUPPORT. The firmware slots and the boot record (R387, R409, R410): what a completion leaves, and what each command of the flash does.
-/
namespace Sys2Proof.Machine

variable {f g h : Fabric} {s : State} {c : Cmd} {k m st : Nat} {r0 : Word}

/-! ### What a completion leaves -/

/-- The command of a mailbox has ended: its answer stands in the mailbox, and flash, Proctor, ladder and partitions are those of before. -/
structure Fabric.Answered (g f : Fabric) (m st : Nat) (r0 : Word) : Prop where
  flash : g.flash = f.flash
  prc : g.prc = f.prc
  ladder : g.ladder = f.ladder
  parts : g.parts = f.parts
  own : (g.mbx m).env.own = false
  status : (g.mbx m).env.status = st
  result : (g.mbx m).env.result0 = r0

theorem Fabric.complete_answered (f : Fabric) (m st : Nat) (r0 : Word) (resp : List Word) (len : Nat) :
    (f.complete m st r0 resp len).Answered f m st r0 := by
  have box := f.complete_mbx m st r0 resp len
  obtain ⟨_, _, _, e⟩ := f.complete_eq m st r0 resp len
  exact ⟨by rw [e], by rw [e], by rw [e], by rw [e], by rw [box]; rfl, by rw [box]; rfl, by rw [box]; rfl⟩

theorem Fabric.Answered.noticed (ha : g.Answered h m st r0) (hn : f.Noticed h) : g.Answered f m st r0 := by
  obtain ⟨_, _, _, _, _, rfl, -⟩ := hn
  exact ⟨ha.flash, ha.prc, ha.ladder, ha.parts, ha.own, ha.status, ha.result⟩

theorem Fabric.finish_answered (f : Fabric) (m st r0 : Nat) (ho : (f.mbx m).env.own = true) (ha : (f.mbx m).accepted = true) :
    (f.finish m st r0).Answered f m st (w64 r0) := by
  rw [Fabric.finish_inProgress ho ha]
  exact f.complete_answered m st (w64 r0) [] 0

/-! ### FW_STAGE and FW_STAGE_VERIFIED (R410) -/

/-- The device with a well-formed FW_STAGE being read. -/
def Fabric.staging (f : Fabric) (c : Cmd) : Fabric :=
  let addr := wn c.pay 0
  let len := fld (wd c.pay 1) 31 0
  { f with flash := { f.flash with
      writing := some { mbx := c.mbx, slot := 1 - f.flash.active, len := len, pend := pieceCount addr (ceilDiv len 64) } } }

theorem fwStageBody_reads (hm : c.mbx = 32) (hlen : c.len = 16) (h0 : onlyBits (wd c.pay 0) [(47, 6)] = true)
    (h1 : onlyBits (wd c.pay 1) [(31, 0)] = true) (hpos : 1 ≤ fld (wd c.pay 1) 31 0) (hmax : fld (wd c.pay 1) 31 0 ≤ 25165824) :
    fwStageBody c f =
      ((f.staging c).hdpRead (wn c.pay 0) (ceilDiv (fld (wd c.pay 1) 31 0) 64) fun o => .cmdRead c.mbx o, .wait) := by
  have from32 : ¬ (!fromOf c [32]) = true := by simp [fromOf, hm]
  have sound : ¬ (c.len != 16 || !onlyBits (wd c.pay 0) [(47, 6)] || !onlyBits (wd c.pay 1) [(31, 0)] || fld (wd c.pay 1) 31 0 == 0 ||
      decide (25165824 < fld (wd c.pay 1) 31 0)) = true := by
    simp [hlen, h0, h1, Nat.ne_of_gt hpos, hmax]
  unfold fwStageBody
  dsimp only
  rw [if_neg from32, if_neg sound]
  rfl

theorem Fabric.Noticed.mbx (hn : f.Noticed h) (m : Nat) : h.mbx m = f.mbx m := by
  obtain ⟨_, _, _, _, _, rfl, -⟩ := hn
  rfl

theorem Fabric.notify_finish_answered (g : Fabric) {x : Notice} (hx : x.code ≠ 2) (m st r0 : Nat) (ho : (g.mbx m).env.own = true)
    (ha : (g.mbx m).accepted = true) : ((g.notify 32 x).finish m st r0).Answered g m st (w64 r0) := by
  have noticed := g.notify_noticed 32 hx
  refine (Fabric.finish_answered (g.notify 32 x) m st r0 ?_ ?_).noticed noticed
  · rw [noticed.mbx, ho]
  · rw [noticed.mbx, ha]

/-- A staged image that passes: its slot is the staged one (R410). -/
theorem Fabric.stageVerified_good {w : Staging} (hw : f.flash.writing = some w) (hp : w.pend = 0)
    (ho : (f.mbx w.mbx).env.own = true) (ha : (f.mbx w.mbx).accepted = true)
    (hgood : imageForm (f.flash.slots.get w.slot {}) f.prc.fuseSvn = true) :
    ∃ e, (f.stageVerified true).Answered { f with flash := { f.flash with writing := none, staged := some w.slot }, prc := e } w.mbx stOk
      (w64 w.slot) := by
  have read : ¬ (w.pend != 0) = true := by simp [hp]
  unfold Fabric.stageVerified
  rw [hw]
  dsimp only
  rw [if_neg read, if_pos (by exact hgood)]
  exact ⟨_, Fabric.notify_finish_answered
    ({ f with flash := { f.flash with writing := none, staged := some w.slot } } : Fabric).newEpoch (show 9 ≠ 2 by decide) w.mbx stOk w.slot ho ha⟩

/-- One that does not pass ends its command, and stages nothing. -/
theorem Fabric.stageVerified_bad {w : Staging} {ok : Bool} (hw : f.flash.writing = some w) (hp : w.pend = 0)
    (ho : (f.mbx w.mbx).env.own = true) (ha : (f.mbx w.mbx).accepted = true)
    (hbad : (ok && imageForm (f.flash.slots.get w.slot {}) f.prc.fuseSvn) = false) :
    ∃ e, (f.stageVerified ok).Answered { f with flash := { f.flash with writing := none }, prc := e } w.mbx stFaulted 0 := by
  have read : ¬ (w.pend != 0) = true := by simp [hp]
  unfold Fabric.stageVerified
  rw [hw]
  dsimp only
  rw [if_neg read, if_neg (by exact Bool.eq_false_iff.mp hbad)]
  exact ⟨_, Fabric.finish_answered ({ f with flash := { f.flash with writing := none } } : Fabric).newEpoch w.mbx stFaulted 0 ho ha⟩

/-! ### FW_ACTIVATE (R410) -/

/-- FW_ACTIVATE of a well-formed command of mailbox 32. -/
theorem fwActivateBody_formed (hm : c.mbx = 32) (hlen : c.len = 8) (hw : onlyBits (wd c.pay 0) [(0, 0)] = true) :
    fwActivateBody c f = if bit (wd c.pay 0) 0 then f.activateRestart 32 else f.activateAtReset := by
  simp [fwActivateBody, fromOf, hm, hlen, hw]

theorem force_bit0_word {v : Nat} {w : Word} (hw : wd c.pay 0 = w) (h : (w &&& ~~~ pack [(0, 0, 1)]) ||| pack [(0, 0, v)] = w) :
    wd (force c 0 0 v).pay 0 = w := by
  subst hw
  exact h

theorem fwActivateBody_atReset (hm : c.mbx = 32) (hlen : c.len = 8) (hw : wd c.pay 0 = 0) :
    fwActivateBody (force c 0 0 0) f = f.activateAtReset := by
  have word := force_bit0_word (v := 0) hw (by decide)
  exact (fwActivateBody_formed (c := force c 0 0 0) hm hlen (by rw [word]; decide)).trans (if_neg (by rw [word]; decide))

theorem fwActivateBody_restart (hm : c.mbx = 32) (hlen : c.len = 8) (hw : wd c.pay 0 = 1) :
    fwActivateBody (force c 0 0 1) f = f.activateRestart 32 := by
  have word := force_bit0_word (v := 1) hw (by decide)
  exact (fwActivateBody_formed (c := force c 0 0 1) hm hlen (by rw [word]; decide)).trans (if_pos (by rw [word]; decide))

/-- The staged slot is marked TRIAL for the next reset, and its number is the answer. -/
theorem Fabric.activateAtReset_answers (hs : f.flash.staged = some k) (m : Nat) :
    ∃ e, (Fabric.ended m f.activateAtReset).Answered
      { f with flash := { f.flash with trialNext := true }, prc := { f.prc with epoch := e } } m stOk (w64 k) := by
  have marked : ∃ e, (if f.flash.trialNext then f else ({ f with flash := { f.flash with trialNext := true } } : Fabric).newEpoch) =
      { f with flash := { f.flash with trialNext := true }, prc := { f.prc with epoch := e } } := by
    split
    · next marked => exact ⟨f.prc.epoch, by rw [← marked]⟩
    · exact ⟨_, rfl⟩
  obtain ⟨e, marked⟩ := marked
  unfold Fabric.activateAtReset
  rw [hs]
  dsimp only
  rw [marked]
  exact ⟨e, (Fabric.complete_answered _ m stOk (w64 k) [] 0).noticed (Fabric.notify_noticed _ 32 (show 9 ≠ 2 by decide))⟩

/-- A staged image of the running ABI becomes the running one, sessions close, and the cluster restarts. -/
theorem Fabric.activateRestart_eq (hs : f.flash.staged = some k) (habi : (f.flash.slots.get k {}).version / 2 ^ 24 = f.abi)
    (hclaims : f.prc.claims = []) (m : Nat) :
    ∃ p a l, f.activateRestart m =
        okay { f with flash := { f.flash with active := k, staged := none, trialNext := false }, prc := p, aon := a, ladder := l } k ∧
      p.running = f.flash.slots.get k {} ∧ p.sessions = [] ∧ l.restarting = true := by
  have runs : ¬ ((f.flash.slots.get k {}).version / 2 ^ 24 != f.abi || !f.prc.claims.isEmpty) = true := by
    rw [habi, hclaims]
    simp
  unfold Fabric.activateRestart
  rw [hs]
  dsimp only
  rw [if_neg runs]
  exact ⟨_, _, _, rfl, rfl, rfl, rfl⟩

/-! ### BOOT_RECORD_SET (R409, R31) -/

theorem bootRecordBody_sound (hm : c.mbx ∈ [32, 33]) (hmin : 16 ≤ c.len) (hmax : c.len ≤ 4032)
    (hlen : leAt (bytesOf c.pay c.len) 4 2 = c.len) (hok : recordOk (bytesOf c.pay c.len) = true) :
    bootRecordBody c f =
      if f.clk.state = 2 then ({ f with flash := { f.flash with held := f.flash.held ++ [(c.mbx, bytesOf c.pay c.len)] } }, .wait)
      else okay { f with flash := { f.flash with record := bytesOf c.pay c.len } } (crc32c (bytesOf c.pay c.len)) := by
  have source : ¬ (!fromOf c [32, 33]) = true := by simp [fromOf_mem hm]
  have sound : ¬ (decide (c.len < 16) || decide (4032 < c.len) || leAt (bytesOf c.pay c.len) 4 2 != c.len ||
      !recordOk (bytesOf c.pay c.len)) = true := by
    simp [Nat.not_lt.mpr hmin, Nat.not_lt.mpr hmax, hlen, hok]
  unfold bootRecordBody
  dsimp only
  rw [if_neg source, if_neg sound]

end Sys2Proof.Machine

namespace Sys2Proof.Proofs
open Sys2Proof.Machine

/-- Settles O28: one lemma for each command of the flash, and `Fabric.Answered` for what its completion leaves. -/
theorem firmwareSlotsChange : Obligations.FirmwareSlotsChange := by
  refine ⟨?_, ?_, ?_⟩
  · intro s c hm len slot
    refine ⟨fun ht hlen h0 h1 hpos hmax => ?_, fun k ht hlen hw hs => ?_, fun k ht hlen hw hs habi hclaims => ?_⟩
    · refine goes_taken 0x0702 fwStageBody ht rfl ?_
      rw [fwStageBody_reads hm hlen h0 h1 hpos hmax, Fabric.ended_wait, Fabric.staging, hm]
      rfl
    · obtain ⟨e, flash, prc, -, parts, own, status, result⟩ :=
        Fabric.activateAtReset_answers (f := s.fab.begun (force c 0 0 0) 0x0703) hs 32
      have goes := goes_taken (i := .fwActivateAtReset c) 0x0703 fwActivateBody ht rfl rfl
      rw [fwActivateBody_atReset hm hlen hw, show (force c 0 0 0).mbx = 32 from hm] at goes
      exact ⟨_, goes, flash, own, status, result, parts, (congrArg Prc.running prc :)⟩
    · obtain ⟨p, a, l, restarts, running, sessions, restarting⟩ :=
        Fabric.activateRestart_eq (f := s.fab.begun (force c 0 0 1) 0x0703) hs habi hclaims 32
      have goes := goes_taken (i := .fwActivateRestart c) 0x0703 fwActivateBody ht rfl rfl
      rw [fwActivateBody_restart hm hlen hw, restarts, show (force c 0 0 1).mbx = 32 from hm] at goes
      obtain ⟨flash, prc, ladder, parts, -, status, result⟩ := Fabric.complete_answered
        { s.fab.begun (force c 0 0 1) 0x0703 with
          flash := { s.fab.flash with active := k, staged := none, trialNext := false }, prc := p, aon := a, ladder := l } 32 stOk (w64 k) [] 0
      exact ⟨_, goes, flash, (congrArg Prc.running prc).trans running, (congrArg Prc.sessions prc).trans sessions,
        (congrArg Ladder.restarting ladder).trans restarting, status, result, parts⟩
  · intro s c hm ht hmin hmax hlen hok
    refine ⟨fun hclk => ?_, fun hclk => ?_⟩
    · exact goes_answers bootRecordBody ht rfl ((bootRecordBody_sound hm hmin hmax hlen hok).trans (if_neg hclk))
    · refine goes_taken 0x0704 bootRecordBody ht rfl ?_
      rw [bootRecordBody_sound hm hmin hmax hlen hok, Fabric.begun_clk, if_pos hclk]
      rfl
  · intro s w ok hl hw hp ho ha good
    have goes : Goes (.fwStageVerified ok) s (s.fab.stageVerified ok) := goes_event (fun f => f.stageVerified ok) hl rfl rfl
    cases hgood : good with
    | true =>
      obtain ⟨rfl, form⟩ := Bool.and_eq_true_iff.mp hgood
      obtain ⟨e, flash, -, -, parts, own, status, result⟩ := Fabric.stageVerified_good hw hp ho ha form
      exact ⟨_, goes, congrArg Flash.writing flash, own, parts, fun _ => ⟨congrArg Flash.staged flash, status, result⟩, nofun⟩
    | false =>
      obtain ⟨e, flash, -, -, parts, own, status, -⟩ := Fabric.stageVerified_bad hw hp ho ha hgood
      exact ⟨_, goes, congrArg Flash.writing flash, own, parts, nofun, fun _ => ⟨(congrArg Flash.staged flash :), status⟩⟩

end Sys2Proof.Proofs
end

section
/-!
SUPPORT. Orders at the end of their message time (R405, R406, R409, R414, R418, R446, R323, R291, R298): what each one sets.
-/
namespace Sys2Proof.Machine

variable {f g : Fabric} {o : Order}

/-! ### The meaning of an order -/

theorem Fabric.applyOrder_routeUpdate (h : o.opcode = 0x0500) : f.applyOrder o = f.routeUpdate o := by simp [Fabric.applyOrder, h]
theorem Fabric.applyOrder_seatSet (h : o.opcode = 0x0502) : f.applyOrder o = f.seatSet o := by simp [Fabric.applyOrder, h]
theorem Fabric.applyOrder_flowSet (h : o.opcode = 0x0580) : f.applyOrder o = f.flowSet o := by simp [Fabric.applyOrder, h]
theorem Fabric.applyOrder_powerCap (h : o.opcode = 0x0700) : f.applyOrder o = f.powerCap o := by simp [Fabric.applyOrder, h]
theorem Fabric.applyOrder_opPoint (h : o.opcode = 0x0701) : f.applyOrder o = f.opPoint o := by simp [Fabric.applyOrder, h]
theorem Fabric.applyOrder_resetLevel (h : o.opcode = 0x0800) : f.applyOrder o = f.resetLevel o := by simp [Fabric.applyOrder, h]
theorem Fabric.applyOrder_hangSet (h : o.opcode = 0x0801) : f.applyOrder o = f.hangSet o := by simp [Fabric.applyOrder, h]
theorem Fabric.applyOrder_injectPolicy (h : o.opcode = 0x0806) : f.applyOrder o = f.injectPolicy o := by simp [Fabric.applyOrder, h]

theorem Fabric.orderFails_routeUpdate (h : o.opcode = 0x0500) : f.orderFails o = f.routeLimits f.rtr.afterDrains o.sets := by simp [Fabric.orderFails, h]
theorem Fabric.orderFails_seatSet (h : o.opcode = 0x0502) : f.orderFails o = f.seatBad (fld (wd o.pay 0) 5 0) (wd o.pay 1) := by simp [Fabric.orderFails, h]
theorem Fabric.orderFails_hangSet (h : o.opcode = 0x0801) : f.orderFails o = hangBad o.len o.pay f.rtr.afterDrains.gapTicks := by simp [Fabric.orderFails, h]
theorem Fabric.orderFails_other (h : o.opcode ∈ [0x0580, 0x0700, 0x0701, 0x0800, 0x0806]) : f.orderFails o = false := by
  simp only [List.mem_cons, List.not_mem_nil, or_false] at h
  obtain h | h | h | h | h := h <;> simp [Fabric.orderFails, h]

/-! ### What an order sets -/

/-- A cap takes effect, and the answer is the effective cap (R409). -/
theorem Fabric.powerCap_reads (ho : (f.mbx o.mbx).env.own = true) (ha : (f.mbx o.mbx).accepted = true) :
    (f.powerCap o).pwr.cap = fld (wd o.pay 0) 15 0 ∧ ((f.powerCap o).mbx o.mbx).env.status = stOk ∧ (f.powerCap o).orders = f.orders ∧
      ((f.powerCap o).mbx o.mbx).env.result0 = w64 (f.powerCap o).pwr.capEff ∧ (f.powerCap o).parts = f.parts ∧ (f.powerCap o).rtr = f.rtr := by
  obtain ⟨v, updated, _, _, _, hv⟩ := f.updPwr_eq fun w => { w with cap := fld (wd o.pay 0) 15 0 }
  have answered := Fabric.finish_answered { f with pwr := v } o.mbx stOk v.capEff ho ha
  have capped : f.powerCap o = ({ f with pwr := v } : Fabric).finish o.mbx stOk v.capEff := by
    unfold Fabric.powerCap
    rw [updated]
  obtain ⟨_, _, _, e⟩ := Fabric.complete_eq { f with pwr := v } o.mbx stOk (w64 v.capEff) [] 0
  have fields := (Fabric.finish_inProgress (f := { f with pwr := v }) ho ha stOk v.capEff [] 0).trans e
  have pwr : (f.powerCap o).pwr = v := by rw [capped, fields]
  rw [pwr, capped]
  exact ⟨by rw [hv], answered.status, by rw [fields], answered.result, answered.parts, by rw [fields]⟩

section
variable (ho : (f.mbx o.mbx).env.own = true) (ha : (f.mbx o.mbx).accepted = true)
include ho ha

theorem Fabric.hangSet_completes : f.hangSet o =
    ({ f with win := { eng := fld (wd o.pay 0) 31 0, par := fld (wd o.pay 0) 63 32, port := wn o.pay 1 } } : Fabric).complete o.mbx stOk 0 [] 0 :=
  Fabric.finish_inProgress (by exact ho) (by exact ha) stOk 0 [] 0

theorem Fabric.injectPolicy_completes : f.injectPolicy o =
    ({ f with ladder := { f.ladder with policy := (wd o.pay 0).toNat } } : Fabric).complete o.mbx stOk (wd o.pay 0) [] 0 := by
  have word : w64 (wn o.pay 0) = wd o.pay 0 := BitVec.ofNat_toNat ..
  have done : f.injectPolicy o = ({ f with ladder := { f.ladder with policy := (wd o.pay 0).toNat } } : Fabric).complete o.mbx stOk
      (w64 (wn o.pay 0)) [] 0 := Fabric.finish_inProgress (by exact ho) (by exact ha) stOk (wn o.pay 0) [] 0
  rw [done, word]

theorem Fabric.seatSet_completes : f.seatSet o =
    ({ f with rtr := { f.rtr with seats := f.rtr.seats.set (fld (wd o.pay 0) 5 0) (wd o.pay 1) } } : Fabric).complete o.mbx stOk 0 [] 0 :=
  Fabric.finish_inProgress (by exact ho) (by exact ha) stOk 0 [] 0

theorem Fabric.flowSet_completes :
    f.flowSet o = ({ f with flow := { f.flow with newCtl := some (wd o.pay 0) } } : Fabric).complete o.mbx stOk 0 [] 0 :=
  Fabric.finish_inProgress (by exact ho) (by exact ha) stOk 0 [] 0

/-- OP_POINT DEFINE of a point that is not the operating point keeps it (R405). -/
theorem Fabric.opPoint_defines (hbit : bit (wd o.pay 0) 0 = false) (hp : f.pwr.point ≠ fld (wd o.pay 0) 10 8) :
    f.opPoint o =
      ({ f with pwr := { f.pwr with points := f.pwr.points.set (fld (wd o.pay 0) 10 8) { mv := fld (wd o.pay 1) 15 0, fixed := bit (wd o.pay 1) 16 } } } : Fabric).complete
        o.mbx stOk (w64 (fld (wd o.pay 0) 10 8)) [] 0 := by
  rw [← Fabric.finish_inProgress (by exact ho) (by exact ha)]
  simp [Fabric.opPoint, hbit, hp]

/-- OP_POINT SELECT for a later Bell count waits (R406). -/
theorem Fabric.opPoint_selects (hbit : bit (wd o.pay 0) 0 = true) (hb : f.bell < wn o.pay 2) :
    f.opPoint o = ({ f with pwr := { f.pwr with selects := f.pwr.selects ++ [(wn o.pay 2, fld (wd o.pay 0) 10 8)] } } : Fabric).complete
      o.mbx stOk (w64 (fld (wd o.pay 0) 10 8)) [] 0 := by
  rw [← Fabric.finish_inProgress (by exact ho) (by exact ha)]
  simp [Fabric.opPoint, hbit, Nat.not_le.mpr hb]

end

/-! ### Route updates (R298) -/

/-- The ports that a route update drains (Table 8.5). -/
def Order.drains (o : Order) : List Nat := (List.range 8).filter fun k => o.sets.any fun x => (drainPorts x.1).contains k

theorem Fabric.routeUpdate_applies (hports : o.drains = []) : f.routeUpdate o = (f.applyRoutes o).finish o.mbx stOk :=
  if_pos (by rw [show ((List.range 8).filter fun k => o.sets.any fun x => (drainPorts x.1).contains k) = [] from hports]; rfl)

theorem Fabric.routeUpdate_drains (hports : o.drains ≠ []) :
    ∃ d, f.routeUpdate o = { f with rtr := { f.rtr with drains := f.rtr.drains ++ [d] } } ∧ d.order = o ∧ d.ports = o.drains ∧
      d.start = f.tick :=
  ⟨_, if_neg fun none => hports (List.isEmpty_iff.mp none), rfl, rfl, rfl⟩

/-- No drain is in progress: a route update is judged against the present routes. -/
theorem Fabric.orderFails_noDrain (hop : o.opcode = 0x0500) (hd : f.rtr.drains = []) (hlim : f.routeLimits f.rtr o.sets = false) :
    f.orderFails o = false := by
  rw [Fabric.orderFails_routeUpdate hop, Router.afterDrains, hd]
  exact hlim

/-! ### RESET_LEVEL (R418) -/

theorem Fabric.cReset_gone {tag m : Nat} (hc : (f.ctx tag).state = .free) : f.cReset tag m = f.finish m stOk 0 := by
  simp [Fabric.cReset, hc]

section
variable (hdis : (f.part (fld (wd o.pay 0) 12 8)).disabled = false) (hdr : (f.part (fld (wd o.pay 0) 12 8)).draining = false)
include hdis hdr

theorem Fabric.resetLevel_partition (hlv : fld (wd o.pay 0) 1 0 = 2) :
    f.resetLevel o = f.startP (fld (wd o.pay 0) 12 8) 0 false false [o.mbx] := by
  simp [Fabric.resetLevel, hlv, hdis, hdr]

theorem Fabric.resetLevel_engine (hlv : fld (wd o.pay 0) 1 0 = 1) :
    f.resetLevel o = f.startE (fld (wd o.pay 0) 12 8) (fld (wd o.pay 0) 18 16) false [o.mbx] := by
  simp [Fabric.resetLevel, hlv, hdis, hdr]

/-- RESET_LEVEL C of a context that is gone has nothing to reset. -/
theorem Fabric.resetLevel_gone (hlv : fld (wd o.pay 0) 1 0 = 0) (hc : (f.ctx o.tag).state = .free)
    (ho : (f.mbx o.mbx).env.own = true) (ha : (f.mbx o.mbx).accepted = true) : f.resetLevel o = f.complete o.mbx stOk 0 [] 0 := by
  rw [show f.complete o.mbx stOk 0 [] 0 = _ from (Fabric.finish_inProgress ho ha stOk 0 [] 0).symm]
  simp [Fabric.resetLevel, hlv, hdis, hdr, Fabric.cReset_gone hc]

end

end Sys2Proof.Machine

namespace Sys2Proof.Proofs
open Sys2Proof.Machine

/-- Settles O35: O7 applies the lone order, and one lemma for each order says what it sets. -/
theorem ordersTakeEffect : Obligations.OrdersTakeEffect := by
  intro s o hl hos hover ho ha f e w
  obtain ⟨applies, -, -⟩ := messageTimeEndAppliesAStandingOrder s o hl hos
  have takes {g : Fabric} (hf : f.orderFails o = false) (hg : f.applyOrder o = g) : Goes e s g := hg ▸ applies hover hf
  refine ⟨fun hop => ?_, fun hop hbad => ?_, fun hop => ?_, fun hop hbad => ?_, fun hop => ?_, ?_, fun hop hbit hpt => ?_,
    fun hop hbit hb => ?_, fun hop hdis hdr => ?_⟩
  · obtain ⟨cap, status, orders, result, parts, rtr⟩ := Fabric.powerCap_reads (f := f) ho ha
    exact ⟨_, takes (Fabric.orderFails_other (by simp [hop])) (Fabric.applyOrder_powerCap hop), cap, status, orders, result, parts, rtr, rfl⟩
  · exact takes ((Fabric.orderFails_hangSet hop).trans hbad) ((Fabric.applyOrder_hangSet hop).trans (Fabric.hangSet_completes ho ha))
  · exact takes (Fabric.orderFails_other (by simp [hop])) ((Fabric.applyOrder_injectPolicy hop).trans (Fabric.injectPolicy_completes ho ha))
  · exact takes ((Fabric.orderFails_seatSet hop).trans hbad) ((Fabric.applyOrder_seatSet hop).trans (Fabric.seatSet_completes ho ha))
  · exact takes (Fabric.orderFails_other (by simp [hop])) ((Fabric.applyOrder_flowSet hop).trans (Fabric.flowSet_completes ho ha))
  · intro hop hlim hd ports
    have stands : f.orderFails o = false := Fabric.orderFails_noDrain hop hd hlim
    refine ⟨fun hp => ?_, fun hp => ?_⟩
    · exact takes stands ((Fabric.applyOrder_routeUpdate hop).trans (Fabric.routeUpdate_applies hp))
    · obtain ⟨d, drains, rest⟩ := Fabric.routeUpdate_drains (f := f) (o := o) hp
      rw [show f.rtr.drains = [] from hd, List.nil_append] at drains
      exact ⟨_, takes stands ((Fabric.applyOrder_routeUpdate hop).trans drains), d, rfl, rest⟩
  · exact takes (Fabric.orderFails_other (by simp [hop])) ((Fabric.applyOrder_opPoint hop).trans (Fabric.opPoint_defines ho ha hbit hpt))
  · exact takes (Fabric.orderFails_other (by simp [hop])) ((Fabric.applyOrder_opPoint hop).trans (Fabric.opPoint_selects ho ha hbit hb))
  · have stands : f.orderFails o = false := Fabric.orderFails_other (by simp [hop])
    refine ⟨fun hlv => ?_, fun hlv => ?_, fun hlv hc => ?_⟩
    · exact takes stands ((Fabric.applyOrder_resetLevel hop).trans (Fabric.resetLevel_partition hdis hdr hlv))
    · exact takes stands ((Fabric.applyOrder_resetLevel hop).trans (Fabric.resetLevel_engine hdis hdr hlv))
    · exact takes stands ((Fabric.applyOrder_resetLevel hop).trans (Fabric.resetLevel_gone hdis hdr hlv hc ho ha))

end Sys2Proof.Proofs
end

section
/-!
SUPPORT. Teardown of a context (R426): CTX_DESTROY past its checks, the teardown in a partition that holds no work, and the end of the
linger.
-/
namespace Sys2Proof.Machine

variable {f : Fabric} {c : Cmd} {tag m : Nat}

/-! ### CTX_DESTROY (Table 3.11) -/

/-- A CTX_DESTROY in mailbox `m` waits for the end of its context's teardown. -/
def Fabric.awaitTeardown (f : Fabric) (tag m : Nat) : Fabric :=
  f.updCtx tag fun x => { x with destroyMbx := x.destroyMbx ++ [m] }

theorem ctxDestroyBody_gone (ho : f.opens c = true) (hlen : c.len = 0)
    (hg : (f.ctx c.tag).state = .free ∨ (f.ctx c.tag).gen ≠ tagGen c.tag) : ctxDestroyBody c f = okay f 0 := by
  simp [ctxDestroyBody, hlen, ctxGate_opens ho, hg]

theorem ctxDestroyBody_draining (ho : f.opens c = true) (hlen : c.len = 0) (hs : (f.ctx c.tag).state = .draining)
    (hg : (f.ctx c.tag).gen = tagGen c.tag) : ctxDestroyBody c f = (f.awaitTeardown c.tag c.mbx, .wait) := by
  simp [ctxDestroyBody, hlen, ctxGate_opens ho, hs, hg, Fabric.awaitTeardown]

theorem ctxDestroyBody_starts (ho : f.opens c = true) (hlen : c.len = 0)
    (hs : (f.ctx c.tag).state = .live ∨ (f.ctx c.tag).state = .switchedOut) (hg : (f.ctx c.tag).gen = tagGen c.tag) :
    ctxDestroyBody c f = ((f.awaitTeardown c.tag c.mbx).tearDown c.tag, .wait) := by
  obtain hs | hs := hs <;> simp [ctxDestroyBody, hlen, ctxGate_opens ho, hs, hg, Fabric.awaitTeardown]

/-! ### Teardown where there is no work -/

/-- A partition that holds no descriptor, collective or list. -/
def Part.NoWork (x : Part) : Prop := x.runs = [] ∧ x.colls = [] ∧ x.lists = [] ∧ x.issued = []

@[simp] theorem Fabric.part_setPart_same (f : Fabric) (p : Nat) (x : Part) : (f.setPart p x).part p = x := by
  simp [Fabric.part]

@[simp] theorem Fabric.ctx_updCtx_same (f : Fabric) (tag : Nat) (g : Ctx → Ctx) : (f.updCtx tag g).ctx tag = g (f.ctx tag) := by
  rw [Fabric.updCtx, Fabric.ctx_updPart_same]
  simp [Part.updCtx, Part.setCtx, Part.ctx, Fabric.ctx]

@[simp] theorem Fabric.setPart_setPart (f : Fabric) (p : Nat) (x y : Part) : (f.setPart p x).setPart p y = f.setPart p y := by
  simp [Fabric.setPart]

/-- With no work in the partition there is nothing to cancel (R426, step 1). -/
theorem Fabric.cancelCtx_noWork (f : Fabric) {x : Part} (hx : x.NoWork) :
    (f.setPart (tagPart tag) x).cancelCtx tag = f.setPart (tagPart tag) x := by
  obtain ⟨runs, -, lists, issued⟩ := hx
  have kept {g : Part → Part} (hg : g x = x) : (f.setPart (tagPart tag) x).updPart (tagPart tag) g = f.setPart (tagPart tag) x := by
    simp [Fabric.updPart, hg]
  have noIssued : (x.issued.filter fun i => i.tag != tag) = x.issued := by rw [issued]; rfl
  have noRuns (hit : Run → Bool) (g : Run → Run) : updWhere x.runs hit g = x.runs := by rw [runs]; rfl
  unfold Fabric.cancelCtx
  dsimp only
  rw [Fabric.part_setPart_same, lists, List.filter_nil, List.foldl_nil, Fabric.part_setPart_same, issued, List.filter_nil, List.foldl_nil,
    kept (congrArg (fun l => { x with issued := l }) noIssued), kept (congrArg (fun l => { x with runs := l }) (noRuns _ _))]
  exact Fabric.settleAll_idle (by simp [runs])

/-- In a partition without work the teardown makes the context DRAINING and ends its time SWITCHED_OUT. -/
theorem Fabric.tearDown_noWork (h : (f.part (tagPart tag)).NoWork) :
    f.tearDown tag = f.updCtx tag fun x => { x with state := .draining, outTicks := x.outNow f.tick } := by
  have cancelled := f.cancelCtx_noWork (tag := tag)
    (x := (f.part (tagPart tag)).updCtx (tagSlot tag) fun x => { x with state := .draining, outTicks := x.outNow f.tick }) h
  obtain ⟨-, noColls, -, -⟩ := h
  unfold Fabric.tearDown
  simp only [Fabric.updCtx, Fabric.updPart, cancelled]
  simp [Part.updCtx, Part.setCtx, noColls]

/-! ### CONTEXT_LINGER_END -/

/-- The requests of the context, if it ever had one, closed GAP_TICKS ago or earlier (R426, step 5). -/
def Fabric.Lingered (f : Fabric) (tag : Nat) : Prop := (f.ctx tag).lastClose = 0 ∨ (f.ctx tag).lastClose + f.rtr.gapTicks ≤ f.tick

/-- The slot of a context becomes FREE with its generation retired, and its journal and expert maps go (R426, step 6). -/
def Fabric.freeCtx (f : Fabric) (tag : Nat) : Fabric :=
  (f.updCtx tag fun _ => { gen := (f.ctx tag).gen, retiredGen := (f.ctx tag).gen }).updPart (tagPart tag) fun x =>
    { x with journals := x.journals.del (tagSlot tag), emaps := x.emaps.filter fun m => m.tag != tag }

theorem Fabric.lingerEnd_waits
    (h : (f.ctx tag).state ≠ .draining ∨ (f.ctx tag).gen ≠ tagGen tag ∨ f.ctxIdle tag = false ∨ ¬ f.Lingered tag) :
    f.lingerEnd tag = f := by
  refine if_pos ?_
  simpa [Fabric.Lingered, or_assoc] using h

theorem Fabric.lingerEnd_frees (hs : (f.ctx tag).state = .draining) (hg : (f.ctx tag).gen = tagGen tag) (hi : f.ctxIdle tag = true)
    (hl : f.Lingered tag) (hd : (f.ctx tag).destroyMbx = [m]) (hop : (f.mbx m).env.opcode = 0x0101) (ho : (f.mbx m).env.own = true)
    (ha : (f.mbx m).accepted = true) : f.lingerEnd tag = (f.freeCtx tag).complete m stOk 1 [] 0 := by
  have ended : ¬ ((f.ctx tag).state != .draining || (f.ctx tag).gen != tagGen tag || !f.ctxIdle tag ||
      ((f.ctx tag).lastClose != 0 && f.tick < (f.ctx tag).lastClose + f.rtr.gapTicks)) = true := by
    simpa [hs, hg, hi, Fabric.Lingered, or_iff_not_imp_left] using hl
  have completes : (f.freeCtx tag).finish m stOk 1 = (f.freeCtx tag).complete m stOk 1 [] 0 :=
    Fabric.finish_inProgress (by exact ho) (by exact ha) stOk 1 [] 0
  have destroys : ((f.freeCtx tag).mbx m).env.opcode = 0x0101 := hop
  unfold Fabric.lingerEnd
  dsimp only
  rw [if_neg ended, hd, ← completes]
  change ((f.freeCtx tag).finish m stOk (if (((f.freeCtx tag).mbx m).env.opcode == 0x0101) = true then 1 else 0)) = _
  rw [destroys]
  rfl

end Sys2Proof.Machine

namespace Sys2Proof.Proofs
open Sys2Proof.Machine

/-- Settles O11: CTX_DESTROY by the state of the slot (a context whose requests never closed lingers no further, and journal and expert
maps go with the slot: log entries 100 and 101), and the end of the linger for the one mailbox that waits. -/
theorem contextsAreTornDown : Obligations.ContextsAreTornDown := by
  refine ⟨fun s c ht ho hlen => ?_, fun s tag hl => ?_⟩
  · intro x waits
    have starts (hs : x.state = .live ∨ x.state = .switchedOut) (hg : x.gen = tagGen c.tag) :
        Goes (.ctxDestroy c) s (waits.tearDown c.tag) :=
      goes_taken 0x0101 ctxDestroyBody ht rfl (by rw [ctxDestroyBody_starts (f := s.fab.begun c 0x0101) ho hlen hs hg]; rfl)
    refine ⟨fun hg => goes_answers ctxDestroyBody ht rfl (ctxDestroyBody_gone (f := s.fab.begun c 0x0101) ho hlen hg),
      fun hs hg => goes_taken 0x0101 ctxDestroyBody ht rfl ?_, starts, fun hs hg _ hw => ⟨_, starts (.inl hs) hg, ?_⟩⟩
    · rw [ctxDestroyBody_draining (f := s.fab.begun c 0x0101) ho hlen hs hg]
      rfl
    have noWork : (waits.part (tagPart c.tag)).NoWork := by
      rw [show waits.part (tagPart c.tag) = _ from Fabric.part_updPart_same _ _ _]
      exact hw
    have waiting : waits.ctx c.tag = { x with destroyMbx := x.destroyMbx ++ [c.mbx] } := Fabric.ctx_updCtx_same _ _ _
    rw [Fabric.tearDown_noWork noWork]
    refine ⟨?_, rfl, rfl, rfl, rfl⟩
    rw [show Fabric.ctx _ c.tag = _ from Fabric.ctx_updCtx_same waits c.tag _, waiting]
    simp [Ctx.outNow, hs]
  · intro x lingered
    exact ⟨fun m hs hg hi hli hd hop ho ha => goes_event (fun f => f.lingerEnd tag) hl rfl (Fabric.lingerEnd_frees hs hg hi hli hd hop ho ha),
      fun h => goes_event (fun f => f.lingerEnd tag) hl rfl (Fabric.lingerEnd_waits h)⟩

end Sys2Proof.Proofs
end

section
/-!
SUPPORT. The progress counters and the ladder (R412, R413, R415), and what ends the resets of engines and partitions (R419 to R423, R557).
-/
namespace Sys2Proof

/-- What a map holds after a change of its values that keeps the default. -/
theorem Map.get_map {α : Type} (m : Map α) (g : α → α) (i : Nat) {d : α} (hd : g d = d) :
    Map.get (m.map fun e => (e.1, g e.2)) i d = g (Map.get m i d) := by
  induction m with
  | nil => exact hd.symm
  | cons e m ih =>
    by_cases h : e.1 = i
    · simp [Map.get, h]
    · simpa [Map.get, h] using ih

end Sys2Proof

namespace Sys2Proof.Machine

variable {f : Fabric} {p e k t0 : Nat} {r : Run} {c : Coll} {er : EReset} {x : PReset}

/-! ### Progress counters (R412, R413, R415) -/

theorem Fabric.engineExpire_none (he : (f.part p).onEngine e = none) : f.engineExpire p e = f := by
  simp [Fabric.engineExpire, he]

theorem Fabric.engineExpire_waits (he : (f.part p).onEngine e = some r)
    (h : f.engCounts p r = false ∨ (f.part p).draining = true ∨ f.tick < r.lastProgress + f.win.eng) : f.engineExpire p e = f := by
  simp only [Fabric.engineExpire, he]
  exact if_pos (by simpa [or_assoc] using h)

/-- The first rung for an engine: HANG and an E reset. -/
theorem Fabric.engineExpire_resets (he : (f.part p).onEngine e = some r) (hc : f.engCounts p r = true) (hd : (f.part p).draining = false)
    (ht : r.lastProgress + f.win.eng ≤ f.tick) (hn : (f.part p).eResetAt.find e = none) :
    f.engineExpire p e = (f.hang ⟨1, 1, e, p, f.win.eng, r.lastProgress, f.listIdOf p r.src⟩).startE p e true [] := by
  simp [Fabric.engineExpire, he, hc, hd, ht, hn]

theorem Fabric.partitionExpire_waits (hc : (f.part p).colls.find? (·.launched) = some c)
    (h : (f.part p).draining = true ∨ f.tick < (f.part p).lastStep + f.win.par) : f.partitionExpire p = f := by
  simp only [Fabric.partitionExpire, hc]
  exact if_pos (by simpa using h)

theorem Fabric.partitionExpire_resets (hc : (f.part p).colls.find? (·.launched) = some c) (hd : (f.part p).draining = false)
    (ht : (f.part p).lastStep + f.win.par ≤ f.tick) :
    f.partitionExpire p =
      f.ladderP p { trigger := 2, action := 2, part := p, window := f.win.par, last := (f.part p).lastStep, work := wd c.words 0 } := by
  simp [Fabric.partitionExpire, hc, hd, ht]

/-- The progress counter of a port has expired: it is ACTIVE, a flit as old as its window waits for it, no progress came within the
window, and it does not drain already. -/
def Fabric.portHangs (f : Fabric) (k : Nat) : Prop :=
  (f.port k).state = .active ∧ (∃ q ∈ f.rtr.queue, q.out = some k ∧ q.since + f.win.port ≤ f.tick) ∧
    (f.port k).progress + f.win.port ≤ f.tick ∧ (f.port k).drainFor = none

/-- The test of PORT_PROGRESS_EXPIRE decides whether the counter has expired. -/
theorem Fabric.portHangs_iff :
    ((f.port k).state != .active || !(f.rtr.queue.any fun q => q.out == some k && q.since + f.win.port ≤ f.tick) ||
      f.tick < (f.port k).progress + f.win.port || (f.port k).drainFor.isSome) = false ↔ f.portHangs k := by
  simp [Fabric.portHangs, and_assoc]

theorem Fabric.portExpire_waits (h : ¬ f.portHangs k) : f.portExpire k = f :=
  if_pos (Bool.eq_true_of_not_eq_false fun test => h (Fabric.portHangs_iff.mp test))

/-- The first expiry of a port within a second orders BOUNCE. -/
theorem Fabric.portExpire_first (h : f.portHangs k) (hx : (f.port k).expiries = []) :
    f.portExpire k =
      ((f.updPort k fun p => { p with expiries := [f.tick], progress := f.tick }).hang
        { trigger := 3, action := 4, unit := k, window := f.win.port, last := (f.port k).progress }).inward 36 opRung [w64 k, 0]
        [({ block := blkPort, index := k, field := 0 }, 3)] := by
  have expiries : ([f.tick].filter fun t => f.tick < t + second) = [f.tick] := by simp [second]
  refine (if_neg (Bool.eq_false_iff.mp (Fabric.portHangs_iff.mpr h))).trans ?_
  simp only [hx, List.nil_append, expiries]
  rfl

/-! ### Resets of an engine (R419) -/

theorem Fabric.eReset_lone (hx : (f.part p).eResets = [er]) (he : er.eng = e) :
    ((f.part p).eResets.find? fun r => r.eng == e) = some er := by
  simp [hx, he]

/-- An injected stall keeps an E reset from its end (R446). -/
theorem Fabric.eResetDone_stalled (hx : (f.part p).eResets = [er]) (he : er.eng = e) (hh : er.hang = true) : f.eResetDone p e = f := by
  simp [Fabric.eResetDone, Fabric.eReset_lone hx he, hh]

theorem Fabric.eResetDone_frees (hx : (f.part p).eResets = [er]) (he : er.eng = e) (hh : er.hang = false) (hr : er.run = none)
    (hm : er.mbxs = []) (hl : er.ladder = false) :
    f.eResetDone p e = f.updPart p fun x => { x with eResets := [], stalled := x.stalled.filter (· != e) } := by
  simp [Fabric.eResetDone, hx, he, hh, hr, hm, hl, Fabric.updPart]

theorem Fabric.eHung_early (hx : (f.part p).eResets = [er]) (he : er.eng = e) (ht : f.tick < er.start + 31250) : f.eHung p e = f := by
  simp [Fabric.eHung, Fabric.eReset_lone hx he, ht]

theorem Fabric.eHung_due (hx : (f.part p).eResets = [er]) (he : er.eng = e) (ht : er.start + 31250 ≤ f.tick) (hr : er.run = none) :
    f.eHung p e = f.ladderP p { trigger := 5, action := 2, unit := e, part := p, window := 31250, last := er.start } := by
  simp [Fabric.eHung, Fabric.eReset_lone hx he, ht, hr]

/-! ### Resets of a partition (Table 12.5) -/

/-- Nothing runs in the partition, and each list has ended. -/
def Part.Emptied (x : Part) : Prop := x.runs = [] ∧ x.colls = [] ∧ ∀ l ∈ x.lists, l.finished = true

theorem Fabric.noReset_waits (h : (f.part p).reset = none) : f.pDrainDone p = f ∧ f.pScrubDone p = f ∧ f.pHung p = f := by
  simp [Fabric.pDrainDone, Fabric.pScrubDone, Fabric.pHung, h]

/-- The test of P_RESET_DRAIN_DONE decides whether the partition is empty and not cleared yet. -/
theorem Part.emptied_iff {y : Part} {cleared : Bool} :
    (cleared || !y.runs.isEmpty || !y.colls.isEmpty || y.lists.any fun l => !l.finished) = false ↔ cleared = false ∧ y.Emptied := by
  simp [Part.Emptied, and_assoc]

/-- Step 4 of Table 12.5 lasts until the partition is empty. -/
theorem Fabric.pDrainDone_waits (hx : (f.part p).reset = some x) (h : x.cleared = true ∨ ¬ (f.part p).Emptied) : f.pDrainDone p = f := by
  simp only [Fabric.pDrainDone, hx]
  refine if_pos (Bool.eq_true_of_not_eq_false fun test => ?_)
  obtain ⟨hc, he⟩ := Part.emptied_iff.mp test
  exact h.elim (by simp [hc]) (· he)

theorem Fabric.pDrainDone_clears (hx : (f.part p).reset = some x) (hc : x.cleared = false) (he : (f.part p).Emptied) :
    f.pDrainDone p = (f.loseCommands p x.mbxs).updPart p fun y => { y with reset := some { x with cleared := true } } := by
  simp only [Fabric.pDrainDone, hx]
  exact if_neg (Bool.eq_false_iff.mp (Part.emptied_iff.mpr ⟨hc, he⟩))

theorem Fabric.pScrubDone_waits (hx : (f.part p).reset = some x) (h : x.cleared = false ∨ x.fence.isSome = true) : f.pScrubDone p = f := by
  simp only [Fabric.pScrubDone, hx]
  exact if_pos (by simpa using h)

theorem Fabric.pHung_waits (hx : (f.part p).reset = some x) (h : x.fence.isSome = true ∨ f.tick < x.start + 781250) : f.pHung p = f := by
  simp only [Fabric.pHung, hx]
  exact if_pos (by obtain h | h := h <;> simp [h])

theorem Fabric.pHung_fences (hx : (f.part p).reset = some x) (hf : x.fence = none) (ht : x.start + 781250 ≤ f.tick) (ho : f.orders = []) :
    f.pHung p = (f.hang { trigger := 6, action := 3, part := p, window := 781250, last := x.start }).orderFence p := by
  simp [Fabric.pHung, hx, hf, ht, ho]

theorem Fabric.noFence_waits (hx : (f.part p).reset = some x) (hf : x.fence = none) : f.fenceDone p = f ∧ f.fenceHung p = f := by
  obtain ⟨⟩ := x
  cases hf
  simp [Fabric.fenceDone, Fabric.fenceHung, hx]

theorem Fabric.fenceHung_eq (hx : (f.part p).reset = some x) (hf : x.fence = some t0) :
    f.fenceHung p = if t0 + 156250 ≤ f.tick then f.orderDevice 3 6 156250 t0 else f := by
  obtain ⟨⟩ := x
  cases hf
  simp only [Fabric.fenceHung, hx]

/-! ### A partition after its reset -/

/-- The partition is new: no context, no reset, an empty TLB and no command in its mailbox; its quiet time, whether it is disabled and how
often it was reset are as given. -/
structure Fabric.Renewed (g : Fabric) (p quiet resets : Nat) (disabled : Bool) : Prop where
  ctxs : (g.part p).ctxs = []
  reset : (g.part p).reset = none
  tlb : (g.part p).tlb = []
  draining : (g.part p).draining = false
  quiet : (g.part p).quietUntil = quiet
  resets : (g.part p).pResets = resets
  disabled : (g.part p).disabled = disabled
  own : (g.mbx p).env.own = false

theorem Fabric.Renewed.noticed {g h : Fabric} {quiet resets : Nat} {disabled : Bool} (hg : g.Renewed p quiet resets disabled)
    (hn : g.Noticed h) : h.Renewed p quiet resets disabled := by
  obtain ⟨_, _, _, _, _, rfl, -⟩ := hn
  exact ⟨hg.ctxs, hg.reset, hg.tlb, hg.draining, hg.quiet, hg.resets, hg.disabled, hg.own⟩

theorem Fabric.randomBits_parts (f : Fabric) : f.randomBits.1.parts = f.parts := by
  unfold Fabric.randomBits
  dsimp only
  split
  · split <;> rfl
  · rfl

theorem Fabric.seedNonces_part (f : Fabric) (p : Nat) : ∃ n, (f.seedNonces p).part p = { f.part p with nonces := n } := by
  have parts : f.randomBits.1.part p = f.part p := congrArg (fun m : Map Part => m.get p {}) f.randomBits_parts
  have seeds : f.seedNonces p = f.randomBits.1.updPart p fun x => { x with nonces := some { seed := f.randomBits.2 } } := rfl
  exact ⟨some { seed := f.randomBits.2 }, by rw [seeds, Fabric.part_updPart_same, parts]⟩

/-- A command that is forgotten leaves of its traces in a partition nothing that makes or ends a context or a reset. -/
theorem Fabric.forget_part (f : Fabric) (m p : Nat) :
    ∃ runs issued ranges walks tables reds lists eResets ctx reset, (f.forget m).part p =
      { f.part p with runs := runs, issued := issued, ranges := ranges, walks := walks, tables := tables, reds := reds, lists := lists,
                      eResets := eResets, ctxs := (f.part p).ctxs.map ctx, reset := (f.part p).reset.map reset } := by
  unfold Fabric.forget
  extract_lets mv drop tx ask part
  exact ⟨_, _, _, _, _, _, _, _, _, _, Map.get_map f.parts part p rfl⟩

theorem Fabric.clearMailbox_part (f : Fabric) (p : Nat) : (f.clearMailbox p).part p = (f.forget p).part p := rfl

theorem Fabric.clearMailbox_mbx (f : Fabric) (p : Nat) : (f.clearMailbox p).mbx p = {} := Fabric.mbx_setMbx_same _ _ _

/-- A partition without contexts, reset and translations is new once its mailbox is cleared. -/
theorem Fabric.clearMailbox_renewed {y : Part} (hy : f.part p = y) (hc : y.ctxs = []) (hr : y.reset = none) (ht : y.tlb = [])
    (hd : y.draining = false) : (f.clearMailbox p).Renewed p y.quietUntil y.pResets y.disabled := by
  obtain ⟨_, _, _, _, _, _, _, _, _, _, forgot⟩ := f.forget_part p p
  have part := (f.clearMailbox_part p).trans forgot
  rw [hy] at part
  exact ⟨by rw [part, hc]; rfl, by rw [part, hr]; rfl, by rw [part, ht], by rw [part, hd], by rw [part], by rw [part], by rw [part],
    by rw [f.clearMailbox_mbx]⟩

/-- No mailbox but the partition's own waits for the reset. -/
theorem PReset.others_none (hm : ∀ m ∈ x.mbxs, m = p) : x.mbxs.filter (· != p) = [] := List.filter_eq_nil_iff.mpr (by simpa using hm)

/-- Steps 5 to 7 of Table 12.5 for a partition without a claim. -/
theorem Fabric.pScrubDone_renews (hx : (f.part p).reset = some x) (hc : x.cleared = true) (hf : x.fence = none)
    (hcl : (f.part p).claimed = false) (hm : ∀ m ∈ x.mbxs, m = p) :
    (f.pScrubDone p).Renewed p (f.tick + f.rtr.gapTicks) (min 65535 ((f.part p).pResets + 1)) false := by
  have seeded (y : Part) : ∃ n, ((f.setPart p y).seedNonces p).part p = { y with nonces := n } := by
    simpa using (f.setPart p y).seedNonces_part p
  unfold Fabric.pScrubDone
  simp only [hx, hc, hf, hcl, PReset.others_none hm, Bool.not_true, Option.isSome_none, Bool.or_self, Bool.false_eq_true, if_false,
    Bool.false_and, List.foldl_nil]
  obtain ⟨_, new⟩ := seeded
    { claimed := false, quietUntil := f.tick + f.rtr.gapTicks, nextWalk := (f.part p).nextWalk, nextRun := (f.part p).nextRun,
      nextList := (f.part p).nextList, nextColl := (f.part p).nextColl, ladderResets := (f.part p).ladderResets,
      pResets := min 65535 ((f.part p).pResets + 1) }
  have renewed := Fabric.clearMailbox_renewed new rfl rfl rfl rfl
  split
  · exact renewed.noticed (Fabric.notify_noticed _ 32 (show 4 ≠ 2 by decide))
  · exact renewed

/-- PARTITION_FENCE_DONE for a partition without a claim (R423). -/
theorem Fabric.fenceDone_disables (hx : (f.part p).reset = some x) (hf : x.fence = some t0) (hcl : (f.part p).claimed = false)
    (hm : ∀ m ∈ x.mbxs, m = p) : (f.fenceDone p).Renewed p 0 (min 65535 ((f.part p).pResets + 1)) true := by
  unfold Fabric.fenceDone
  simp only [hx, hf, hcl, PReset.others_none hm, Option.isNone_some, Bool.false_eq_true, if_false, List.foldl_nil]
  exact (Fabric.clearMailbox_renewed (Fabric.part_setPart_same _ _ _) rfl rfl rfl rfl).noticed (Fabric.notify_noticed _ 32 (show 4 ≠ 2 by decide))

end Sys2Proof.Machine

namespace Sys2Proof.Proofs
open Sys2Proof.Machine

/-- Settles O43: each counter and each reset by its condition, with what it leaves where the condition holds (the numbers of the objects that
the ladder's orders set are log entries 40 and 41). -/
theorem theLadderAndItsResets : Obligations.TheLadderAndItsResets := by
  intro s hl f
  have goes {i : Instr} (act : Fabric → Fabric) {g : Fabric} (hact : act s.fab = g) (hi : exec i s = s.onFabric Fabric.live act) :
      Goes i s g := goes_event act hl hi hact
  refine ⟨fun p => ⟨fun e r he => ⟨fun hc hd ht hn => ?_, fun h => ?_⟩, fun e he => ?_, fun c hc => ?_, fun e er hx he => ?_, fun r hx => ?_,
    fun hx => ?_, fun hq => ?_, fun hq => ?_⟩, fun k => ⟨fun h => ?_, fun h hx => ?_⟩⟩
  · exact goes (fun f => f.engineExpire p e) (Fabric.engineExpire_resets he hc hd ht hn) rfl
  · exact goes (fun f => f.engineExpire p e) (Fabric.engineExpire_waits he h) rfl
  · exact goes (fun f => f.engineExpire p e) (Fabric.engineExpire_none he) rfl
  · exact ⟨fun hd ht => goes (fun f => f.partitionExpire p) (Fabric.partitionExpire_resets hc hd ht) rfl,
      fun h => goes (fun f => f.partitionExpire p) (Fabric.partitionExpire_waits hc h) rfl⟩
  · exact ⟨fun hh => goes (fun f => f.eResetDone p e) (Fabric.eResetDone_stalled hx he hh) rfl,
      fun hh hr hm hla => goes (fun f => f.eResetDone p e) (Fabric.eResetDone_frees hx he hh hr hm hla) rfl,
      fun ht => goes (fun f => f.eHung p e) (Fabric.eHung_early hx he ht) rfl,
      fun ht hr => goes (fun f => f.eHung p e) (Fabric.eHung_due hx he ht hr) rfl⟩
  · refine ⟨fun hc he => ?_, fun h => ?_, fun h => ?_, fun _ hc hf hcl hm => ?_, fun h => ?_, fun hf ht ho => ?_, fun hf => ?_, fun t0 hf =>
      ⟨fun _ hcl hm => ?_, fun ht => ?_, fun ht => ?_⟩⟩
    · exact goes (fun f => f.pDrainDone p) (Fabric.pDrainDone_clears hx hc he) rfl
    · exact goes (fun f => f.pDrainDone p) (Fabric.pDrainDone_waits hx h) rfl
    · exact goes (fun f => f.pScrubDone p) (Fabric.pScrubDone_waits hx h) rfl
    · have new := Fabric.pScrubDone_renews hx hc hf hcl hm
      exact ⟨_, goes (fun f => f.pScrubDone p) rfl rfl, new.ctxs, new.quiet, new.reset, new.draining, new.tlb, new.resets, new.own, rfl⟩
    · exact goes (fun f => f.pHung p) (Fabric.pHung_waits hx h) rfl
    · exact goes (fun f => f.pHung p) (Fabric.pHung_fences hx hf ht ho) rfl
    · obtain ⟨fenceDone, fenceHung⟩ := Fabric.noFence_waits hx hf
      exact ⟨goes (fun f => f.fenceDone p) fenceDone rfl, goes (fun f => f.fenceHung p) fenceHung rfl⟩
    · have new := Fabric.fenceDone_disables hx hf hcl hm
      exact ⟨_, goes (fun f => f.fenceDone p) rfl rfl, new.disabled, new.ctxs, new.reset, new.own, rfl⟩
    · exact goes (fun f => f.fenceHung p) ((Fabric.fenceHung_eq hx hf).trans (if_pos ht)) rfl
    · exact goes (fun f => f.fenceHung p) ((Fabric.fenceHung_eq hx hf).trans (if_neg (Nat.not_le.mpr ht))) rfl
  · obtain ⟨drainDone, scrubDone, hung⟩ := Fabric.noReset_waits hx
    exact ⟨goes (fun f => f.pDrainDone p) drainDone rfl, goes (fun f => f.pScrubDone p) scrubDone rfl, goes (fun f => f.pHung p) hung rfl⟩
  · exact goes (fun f => f.pQuietEnd p) (if_pos hq) rfl
  · exact goes (fun f => f.pQuietEnd p) (if_neg (Nat.not_le.mpr hq)) rfl
  · exact goes (fun f => f.portExpire k) (Fabric.portExpire_waits h) rfl
  · exact goes (fun f => f.portExpire k) (Fabric.portExpire_first h hx) rfl

end Sys2Proof.Proofs
end

section
/-!
SUPPORT. Heartbeats, misses, tallies and isolation (R428, R431, R433, R437), injections at their Bell count (R446), SRAM errors (R30) and
the reads of roll call and error log (R448).
-/
namespace Sys2Proof.Machine

variable {f g : Fabric} {c : Cmd} {k n m first i : Nat} {t : Tally} {x : Injection}

/-! ### Heartbeats (R428) -/

/-- A link control flit changes ports and lanes alone. -/
theorem Fabric.putLcf_eq (f : Fabric) (k : Nat) (hb : Option (List Word)) : ∃ ps ls, f.putLcf k hb = { f with ports := ps, lanes := ls } := by
  unfold Fabric.putLcf
  dsimp only
  split
  · exact ⟨_, _, rfl⟩
  · exact ⟨_, _, rfl⟩

/-- A link control flit that is not dropped is counted and takes a slot (a dropped one takes none: log entry 166). -/
theorem Fabric.putLcf_counts (f : Fabric) (k : Nat) (hb : Option (List Word)) :
    ((f.putLcf k hb).port k).lcfTx = (f.port k).lcfTx + (if (f.port k).lcfDrop then 0 else 1) ∧
      ((f.putLcf k hb).port k).slot = (f.port k).slot + (if (f.port k).lcfDrop then 0 else 1) := by
  unfold Fabric.putLcf
  dsimp only
  cases (f.port k).lcfDrop
  · simp [Fabric.putSlot, Port.paid]
  · simp [Port.paid]

/-- The device once a heartbeat has left on a torus link: two owed items are gone, and when it left is noted. -/
def Fabric.heartbeatLeft (f : Fabric) (k : Nat) : Fabric :=
  { f.putLcf k (some (f.heartbeatWords k)) with
      roll := { f.roll with sent := f.roll.sent.set k f.tick, owed := f.roll.owed.set k ((f.roll.owed.get k []).drop 2) },
      bells := { f.bells with sent := f.bells.sent.set k ((f.bell :: f.bells.sent.get k []).take 64) } }

/-- What a heartbeat on torus link `k` leaves: two owed items gone, its sending noted, the link control flit counted, and no other part of
the device changed that an operation or the router uses. -/
structure Fabric.SentHeartbeat (f g : Fabric) (k : Nat) : Prop where
  roll : g.roll = { f.roll with owed := f.roll.owed.set k ((f.roll.owed.get k []).drop 2), sent := f.roll.sent.set k f.tick }
  bells : g.bells = { f.bells with sent := f.bells.sent.set k ((f.bell :: f.bells.sent.get k []).take 64) }
  lcfTx : (g.port k).lcfTx = (f.port k).lcfTx + (if (f.port k).lcfDrop then 0 else 1)
  slot : (g.port k).slot = (f.port k).slot + (if (f.port k).lcfDrop then 0 else 1)
  parts : g.parts = f.parts
  mbxs : g.mbxs = f.mbxs
  rtr : g.rtr = f.rtr

theorem Fabric.heartbeatLeft_sent (f : Fabric) (k : Nat) : f.SentHeartbeat (f.heartbeatLeft k) k := by
  obtain ⟨lcfTx, slot⟩ := f.putLcf_counts k (some (f.heartbeatWords k))
  obtain ⟨_, _, put⟩ := f.putLcf_eq k (some (f.heartbeatWords k))
  refine ⟨rfl, rfl, lcfTx, slot, ?_, ?_, ?_⟩ <;> (unfold Fabric.heartbeatLeft; rw [put])

/-- What a port owes next is none of what a heartbeat leaves. -/
theorem Fabric.SentHeartbeat.owes (h : f.SentHeartbeat g k) (tick : Nat) :
    f.SentHeartbeat (g.updPort k fun p => { p.owe tick with owedHb := true }) k :=
  ⟨h.roll, h.bells, by rw [Fabric.port_updPort_same]; exact h.lcfTx, by rw [Fabric.port_updPort_same]; exact h.slot, h.parts, h.mbxs, h.rtr⟩

theorem Fabric.heartbeatSend_shut (h : f.roll.state = 2 ∨ f.mayHeartbeat k = false) : f.heartbeatSend k = f :=
  if_pos (by simpa using h)

section
variable (hr : f.roll.state ≠ 2) (hm : f.mayHeartbeat k = true)
include hr hm

theorem Fabric.heartbeatSend_uplink (hk : 6 ≤ k) : f.heartbeatSend k = f.putLcf k (some (f.heartbeatWords k)) := by
  simp [Fabric.heartbeatSend, hr, hm, hk]

/-- An injected silence withholds a heartbeat in each of its periods. -/
theorem Fabric.heartbeatSend_silent (hk : k < 6) (hs : 0 < (f.port k).silence) :
    f.heartbeatSend k =
      if f.roll.sent.get k 0 + 3125 ≤ f.tick then
        ({ f with roll := { f.roll with sent := f.roll.sent.set k f.tick } } : Fabric).updPort k fun p => { p with silence := p.silence - 1 }
      else f := by
  simp [Fabric.heartbeatSend, hr, hm, Nat.not_le.mpr hk, hs]

theorem Fabric.heartbeatSend_torus (hk : k < 6) (hs : (f.port k).silence = 0) : f.SentHeartbeat (f.heartbeatSend k) k := by
  obtain ⟨_, _, put⟩ := f.putLcf_eq k (some (f.heartbeatWords k))
  have leaves : f.heartbeatSend k =
      if ((f.roll.owed.get k []).drop 2).isEmpty then f.heartbeatLeft k
      else (f.heartbeatLeft k).updPort k fun p => { p.owe f.tick with owedHb := true } := by
    simp [Fabric.heartbeatSend, Fabric.heartbeatLeft, hr, hm, Nat.not_le.mpr hk, hs, put]
  rw [leaves]
  split
  · exact f.heartbeatLeft_sent k
  · exact (f.heartbeatLeft_sent k).owes f.tick

end

/-! ### Misses, tallies and isolation (R431, R433, R437) -/

theorem Fabric.rollcallMiss_waits (h : 6 ≤ k ∨ f.roll.state = 2 ∨ f.tick < f.roll.period.get k 0 + 3125) : f.rollcallMiss k = f :=
  if_pos (by simpa [or_assoc] using h)

/-- A miss below the tenth is counted alone. -/
theorem Fabric.rollcallMiss_counts (hk : k < 6) (hr : f.roll.state ≠ 2) (ht : f.roll.period.get k 0 + 3125 ≤ f.tick)
    (hm : f.roll.misses.get k 0 < 9) :
    f.rollcallMiss k = { f with roll := { f.roll with
      misses := f.roll.misses.set k (f.roll.misses.get k 0 + 1), period := f.roll.period.set k (f.roll.period.get k 0 + 3125) } } := by
  have few : ¬ 10 ≤ f.roll.misses.get k 0 + 1 ∧ f.roll.misses.get k 0 + 1 ≠ 10 := by omega
  simp [Fabric.rollcallMiss, Nat.not_le.mpr hk, hr, ht, few]

theorem Fabric.tallyTimeout_eq (ht : (f.roll.tallies.find? fun t => t.node == n) = some t) :
    f.tallyTimeout n = if t.opened + 250000 ≤ f.tick then f.closeTally n else f := by
  simp [Fabric.tallyTimeout, ht]

/-- Every neighbour that a device of the torus heard was last heard 31,250 ref ticks ago or earlier (log entry 68: counted from the last
good heartbeat). -/
def Fabric.isolated (f : Fabric) : Prop :=
  f.roll.state ≠ 2 ∧ f.isSpare = false ∧ f.roll.heard.vals ≠ [] ∧ ∀ t ∈ f.roll.heard.vals, t + 31250 ≤ f.tick

/-- The test of ISOLATION_TIMEOUT decides whether the device is isolated. -/
theorem Fabric.isolated_iff :
    (f.roll.state != 2 && !f.isSpare && !f.roll.heard.vals.isEmpty && f.roll.heard.vals.all fun t => t + 31250 ≤ f.tick) = true ↔
      f.isolated := by
  simp [Fabric.isolated, and_assoc]

/-! ### Injections (R446) -/

theorem Fabric.injectAtBell_waits (h : ∀ x ∈ f.ladder.injections, f.bell < x.bell) : f.injectAtBell = f := by
  have none_due : (f.ladder.injections.find? fun x => x.bell ≤ f.bell) = none := by simpa using h
  simp [Fabric.injectAtBell, none_due]

/-- An injection reaches no mailbox. -/
@[simp] theorem Fabric.doInject_mbxs (f : Fabric) (pay : List Word) : (f.doInject pay).mbxs = f.mbxs := by
  have kept {step : Fabric → Nat → Fabric} (hstep : ∀ g k, (step g k).mbxs = g.mbxs) (ks : List Nat) : (ks.foldl step f).mbxs = f.mbxs :=
    List.foldlRecOn (motive := fun g => g.mbxs = f.mbxs) ks step rfl fun g hg k _ => (hstep g k).trans hg
  unfold Fabric.doInject
  dsimp only
  split
  · exact kept (fun g k => by split <;> rfl) _
  · rfl
  · rfl
  · rfl
  · rfl
  · rfl
  · rfl
  · rfl
  · exact kept (step := fun g k => g.updPort k fun p => { p with silence := injN pay }) (fun _ _ => rfl) _

theorem Fabric.injectAtBell_fires (hx : f.ladder.injections = [x]) (hb : x.bell ≤ f.bell) (ho : (f.mbx x.mbx).env.own = true)
    (ha : (f.mbx x.mbx).accepted = true) :
    f.injectAtBell = (({ f with ladder := { f.ladder with injections := [] } } : Fabric).doInject x.pay).complete x.mbx stOk 1 [] 0 := by
  have box : (({ f with ladder := { f.ladder with injections := [] } } : Fabric).doInject x.pay).mbx x.mbx = f.mbx x.mbx :=
    congrArg (fun m : Map Mailbox => m.get x.mbx {}) (Fabric.doInject_mbxs _ _)
  rw [show (1 : Word) = w64 1 from rfl, ← Fabric.finish_inProgress (by rw [box, ho]) (by rw [box, ha])]
  simp [Fabric.injectAtBell, hx, hb]

/-! ### SRAM errors (R30) -/

theorem Fabric.sramError_corrected (h1 : 1 ≤ k) (h5 : k ≤ 5) (p : Nat) (hit : SramHit) (a y : Word) :
    f.sramError k false p hit a y = f.countSram k p false := by
  have array : ¬ 5 < k ∧ k ≠ 0 := by omega
  simp [Fabric.sramError, array]

/-- An uncorrectable error in the staging memory of a partition (array 0 of Table 15.2, unit 5) that no operation needs writes one FAULT
notice. -/
theorem Fabric.sramError_idle {p : Nat} (hp : p < f.partCount) (hd : (f.part p).disabled = false) (a y : Word) :
    f.sramError 0 true p .idle a y = (f.countSram 0 p true).notify p (faultNotice p 5 0 0 1 a y 0) := by
  simp [Fabric.sramError, Nat.not_le.mpr hp, hd]

/-! ### ROLLCALL_STATUS and LOG_READ (R448) -/

/-- A well-formed ROLLCALL_STATUS answers 3,104 bytes and changes nothing. -/
theorem rollStatusBody_reads (hlen : c.len = 8) (hf : first < 2) (hpay : c.pay = [w64 (16384 * first)]) :
    ∃ ws, rollStatusBody c f = (f, .done stOk 0 ws 3104) := by
  have word : wd c.pay 0 = w64 (16384 * first) := by rw [hpay]; rfl
  have inRange : 16384 * first < 2 ^ (14 + 1) := by omega
  have node : fld (w64 (16384 * first)) 14 0 = 16384 * first := fld_w64 inRange (by decide)
  have sound : ¬ (c.len != 8 || !onlyBits (w64 (16384 * first)) [(14, 0)] || 16384 * first % 16384 != 0) = true := by
    simp [hlen, onlyBits_w64 inRange]
  unfold rollStatusBody
  dsimp only
  rw [word, node, if_neg sound]
  exact ⟨_, rfl⟩

theorem logReadBody_reads (hm : c.mbx ∈ [32, 33]) (hlen : c.len = 8) (hi : i < 65536) (h1 : 1 ≤ n) (h62 : n ≤ 62)
    (hpay : c.pay = [pack [(21, 16, n), (15, 0, i)]]) :
    logReadBody c f = (f, .done stOk 0 ((List.range n).flatMap fun j => f.logEntry ((i + j) % 65536)) (64 * n)) := by
  have word : wd c.pay 0 = pack [(21, 16, n), (15, 0, i)] := by rw [hpay]; rfl
  have count : fld (pack [(21, 16, n), (15, 0, i)]) 21 16 = n := by
    rw [fld_pack_cons_same (by decide) (by simp)]
    exact Nat.mod_eq_of_lt (by omega)
  have start : fld (pack [(21, 16, n), (15, 0, i)]) 15 0 = i := by
    rw [fld_pack_cons_other (by simp), fld_pack_cons_same (by decide) (by simp)]
    exact Nat.mod_eq_of_lt hi
  have fields : onlyBits (pack [(21, 16, n), (15, 0, i)]) [(21, 0)] = true := onlyBits_pack (by simp)
  have sound : ¬ (c.len != 8 || !onlyBits (pack [(21, 16, n), (15, 0, i)]) [(21, 0)] || decide (n < 1) || decide (62 < n)) = true := by
    simp [hlen, fields, Nat.not_lt.mpr h62]; omega
  unfold logReadBody
  dsimp only
  rw [fromOf_mem hm, word, count, start, if_neg (by decide), if_neg sound]

end Sys2Proof.Machine

namespace Sys2Proof.Proofs
open Sys2Proof.Machine

/-- Settles O44: each timed event by its condition (64 kept send times of a link are log entry 162), errors by their array, and the two
reads. -/
theorem rollCallInjectionAndErrors : Obligations.RollCallInjectionAndErrors := by
  refine ⟨fun s hl => ?_, fun s hup => ⟨fun k p hit a y h1 h5 => ?_, fun p a y hp hd => ?_⟩, fun s c ht hlen =>
    ⟨fun first hf hpay => ?_, fun i n hm hi h1 h62 hpay => ?_⟩⟩
  · intro f r
    have goes {i : Instr} (act : Fabric → Fabric) {g : Fabric} (hact : act s.fab = g) (hi : exec i s = s.onFabric Fabric.live act) :
        Goes i s g := goes_event act hl hi hact
    refine ⟨fun k => ?_, fun n t ht => ?_, ?_, fun h => ?_, fun x hx hb ho ha => ?_⟩
    · intro p
      refine ⟨fun h => ?_, fun hk hr hm => ?_, fun hk hr hm hs => ⟨fun ht => ?_, fun ht => ?_⟩, fun hk hr hm hs => ?_, fun h => ?_, ?_⟩
      · exact goes (fun f => f.heartbeatSend k) (Fabric.heartbeatSend_shut h) rfl
      · exact goes (fun f => f.heartbeatSend k) (Fabric.heartbeatSend_uplink hr hm hk) rfl
      · exact goes (fun f => f.heartbeatSend k) ((Fabric.heartbeatSend_silent hr hm hk hs).trans (if_pos ht)) rfl
      · exact goes (fun f => f.heartbeatSend k) ((Fabric.heartbeatSend_silent hr hm hk hs).trans (if_neg (Nat.not_le.mpr ht))) rfl
      · have sent := Fabric.heartbeatSend_torus hr hm hk hs
        exact ⟨_, goes (fun f => f.heartbeatSend k) rfl rfl, sent.roll, sent.bells, sent.lcfTx, sent.slot, sent.parts, sent.mbxs, sent.rtr, rfl⟩
      · exact goes (fun f => f.rollcallMiss k) (Fabric.rollcallMiss_waits h) rfl
      · rintro due counted ⟨hk, hr, ht⟩ hm
        exact goes (fun f => f.rollcallMiss k) (Fabric.rollcallMiss_counts hk hr ht hm) rfl
    · exact ⟨fun h => goes (fun f => f.tallyTimeout n) ((Fabric.tallyTimeout_eq ht).trans (if_pos h)) rfl,
        fun h => goes (fun f => f.tallyTimeout n) ((Fabric.tallyTimeout_eq ht).trans (if_neg (Nat.not_le.mpr h))) rfl⟩
    · exact goes_when (fun f => f.isolationTimeout) hl rfl rfl Fabric.isolated_iff
    · exact goes (fun f => f.injectAtBell) (Fabric.injectAtBell_waits h) rfl
    · exact goes (fun f => f.injectAtBell) (Fabric.injectAtBell_fires hx hb ho ha) rfl
  · exact goes_event (fun f => f.sramError k false p hit a y) hup rfl (Fabric.sramError_corrected h1 h5 p hit a y)
  · exact goes_event (fun f => f.sramError 0 true p .idle a y) hup rfl (Fabric.sramError_idle hp hd a y)
  · obtain ⟨ws, reads⟩ := rollStatusBody_reads (f := s.fab.begun c 0x0802) hlen hf hpay
    have goes : Goes (.rollcallStatus c) s ((s.fab.begun c 0x0802).complete c.mbx stOk 0 ws 3104) :=
      goes_taken 0x0802 rollStatusBody ht rfl (by rw [reads]; rfl)
    have box := (s.fab.begun c 0x0802).complete_mbx c.mbx stOk 0 ws 3104
    obtain ⟨_, _, _, completed⟩ := (s.fab.begun c 0x0802).complete_eq c.mbx stOk 0 ws 3104
    refine ⟨_, goes, by rw [box]; rfl, by rw [box]; rfl, ?_⟩
    rw [completed]
    exact ⟨rfl, rfl, rfl, rfl⟩
  · exact goes_answers logReadBody ht rfl (logReadBody_reads (f := s.fab.begun c 0x0808) hm hlen hi h1 h62 hpay)

end Sys2Proof.Proofs
end

section
/-!
SUPPORT. The gate of Table 13.12 and plain SPDM frames (R457, R459): what the Proctor does with each request of a connection. The request
codes, their order and the ERROR codes are those of SPDM 1.3 (log entry 70).
-/
namespace Sys2Proof.Machine

variable {f : Fabric} {s : State} {i : Instr} {c : Cmd} {m code : Nat} {req : List Word}

/-! ### The gate -/

/-- A source that the table admits passes the gate with a well-formed payload while its partition does not drain. -/
theorem prcGate_open {admitted bad : Bool} (ha : admitted = true) (hd : c.mbx < 32 → (f.part c.mbx).draining = false) (hb : bad = false)
    (len : Nat) (k : Fabric → Fabric × Reply) : prcGate admitted bad len c f k = k f := by
  have serves : (decide (c.mbx < 32) && (f.part c.mbx).draining) = false := by simpa using hd
  simp [prcGate, ha, serves, hb]

theorem reportCardBody_reads (hm : c.mbx ≤ 33) (hd : c.mbx < 32 → (f.part c.mbx).draining = false) (ht : c.tag = 0) (hlen : c.len = 32) :
    reportCardBody c f = (f, .done stOk 0 (f.card (takePad 4 c.pay)) 720) :=
  prcGate_open (by simpa using hm) hd (by simp [ht, hlen]) _ _

/-- A mailbox takes a well-formed SPDM frame, plain or secured, while its partition does not drain. -/
structure Fabric.TakesFrame (f : Fabric) (c : Cmd) (secured : Bool) : Prop where
  takes : f.takes c = true
  source : c.mbx ≤ 33
  tag : c.tag = 0
  serves : c.mbx < 32 → (f.part c.mbx).draining = false
  frame : frameOk c.len c.pay = true
  secured : bit (wd c.pay 0) 0 = secured

/-- The words that an SPDM frame carries (Table 13.5). -/
def spdmWords (c : Cmd) : List Word := takePad (ceilDiv (fld (wd c.pay 2) 15 0) 8) (c.pay.drop 4)

/-- A plain frame answers what its request answers, under a header of its own. -/
theorem spdmBodyOf_plain (h : s.fab.TakesFrame c false) (name : Option Nat) :
    spdmBodyOf name c (s.fab.begun c 0x0900) =
      let r := (s.fab.begun c 0x0900).spdmRequest c.mbx false (withCode name (spdmWords c))
      (r.1, .done stOk 0 ([0, 0, w64 r.2.1, 0] ++ takePad (ceilDiv r.2.1 8) r.2.2) (32 + r.2.1)) := by
  unfold spdmBodyOf
  rw [prcGate_open (f := s.fab.begun c 0x0900) (by simpa using h.source) h.serves (by simp [h.tag, h.frame]), h.secured]
  rfl

/-- A secured frame is opened in its session. -/
theorem spdmBodyOf_secured (h : s.fab.TakesFrame c true) (name : Option Nat) :
    spdmBodyOf name c (s.fab.begun c 0x0900) =
      (s.fab.begun c 0x0900).spdmSecured c.mbx (fld (wd c.pay 2) 15 0) name (takePad 4 c.pay) (spdmWords c) := by
  unfold spdmBodyOf
  rw [prcGate_open (f := s.fab.begun c 0x0900) (by simpa using h.source) h.serves (by simp [h.tag, h.frame]), h.secured]
  rfl

/-- The code that a request is named by is the code that it has. -/
theorem spdmCode_withCode {w : Word} {ws : List Word} (hc : code < 256) : spdmCode (withCode (some code) (w :: ws)) = code := by
  rw [withCode, spdmCode, wd, List.getD_cons_zero, fld_pack_cons_other (by decide), fld_pack_cons_same (by decide) (by simp)]
  exact Nat.mod_eq_of_lt hc

/-- A well-formed frame carries a first word. -/
theorem spdmWords_ne_nil (h : frameOk c.len c.pay = true) : ∃ w ws, spdmWords c = w :: ws := by
  have long : 4 ≤ fld (wd c.pay 2) 15 0 := by
    simp only [frameOk, Bool.and_eq_true, decide_eq_true_eq] at h
    omega
  obtain ⟨n, hn⟩ : ∃ n, ceilDiv (fld (wd c.pay 2) 15 0) 8 = n + 1 := ⟨_, (Nat.succ_pred (by unfold ceilDiv; omega)).symm⟩
  rw [spdmWords, hn]
  cases c.pay.drop 4 with
  | nil => exact ⟨_, _, rfl⟩
  | cons w ws => exact ⟨_, _, rfl⟩

/-! ### One request -/

/-- The Proctor's full response to a request: its length and its words. -/
def Fabric.spdmFull (f : Fabric) (code : Nat) (req : List Word) : Nat × List Word :=
  let r := Config.spdmBody code req (f.cardBody [])
  (max 4 (min 3984 r.1), r.2)

theorem Fabric.spdmRequest_unknown (h : spdmCode req = code) (hc : code ∉ spdmCodes) (secured : Bool) :
    f.spdmRequest m secured req = (f, spdmError 7 code) := by
  subst h
  simp [Fabric.spdmRequest, hc]

theorem Fabric.spdmRequest_version (h : spdmCode req = 0x84) : f.spdmRequest m false req = (f.setConn m 1, f.spdmFull 0x84 req) := by
  simp [Fabric.spdmRequest, h, spdmCodes, Fabric.spdmFull]

theorem Fabric.spdmRequest_capabilities (h : spdmCode req = 0xE1) :
    f.spdmRequest m false req = if f.prc.conns.get m 0 < 1 then (f, spdmError 4 0xE1) else (f.setConn m 2, f.spdmFull 0xE1 req) := by
  simp [Fabric.spdmRequest, h, spdmCodes, Fabric.spdmFull]

theorem Fabric.spdmRequest_algorithms (h : spdmCode req = 0xE3) :
    f.spdmRequest m false req = if f.prc.conns.get m 0 < 2 then (f, spdmError 4 0xE3) else (f.setConn m 3, f.spdmFull 0xE3 req) := by
  simp [Fabric.spdmRequest, h, spdmCodes, Fabric.spdmFull]

/-- GET_DIGESTS, GET_CERTIFICATE, CHALLENGE and GET_MEASUREMENTS of a negotiated connection are answered. -/
theorem Fabric.spdmRequest_data (h : spdmCode req = code) (hc : code ∈ [0x81, 0x82, 0x83, 0xE0]) :
    f.spdmRequest m false req = if f.prc.conns.get m 0 < 3 then (f, spdmError 4 code) else (f, f.spdmFull code req) := by
  simp only [List.mem_cons, List.not_mem_nil, or_false] at hc
  obtain rfl | rfl | rfl | rfl := hc <;> simp [Fabric.spdmRequest, h, spdmCodes, Fabric.spdmFull]

/-- The session that a KEY_EXCHANGE opens: half of its identifier and its secret come from the random generator. -/
def Fabric.exchanged (f : Fabric) (req : List Word) : Session :=
  { id := fld (wd req 0) 47 32 + 65536 * fld (wd f.randomBits.2 0) 15 0, last := f.tick, secret := Config.exportSecret req f.randomBits.2 }

theorem Fabric.randomBits_tick (f : Fabric) : f.randomBits.1.tick = f.tick := by
  unfold Fabric.randomBits
  dsimp only
  split
  · split <;> rfl
  · rfl

/-- Acceptance of a command draws nothing. -/
theorem Fabric.begun_exchanged (f : Fabric) (c : Cmd) (op : Nat) (req : List Word) : (f.begun c op).exchanged req = f.exchanged req := by
  have same : (f.begun c op).randomBits.2 = f.randomBits.2 := by
    unfold Fabric.randomBits
    rw [Fabric.begun_prc]
    cases f.prc.drbg with
    | none => rfl
    | some d => dsimp only; split <;> rfl
  simp only [Fabric.exchanged, same, Fabric.begun_tick]

theorem Fabric.spdmRequest_exchange (h : spdmCode req = 0xE4) (hs : f.prc.sessions.find m = none) :
    f.spdmRequest m false req =
      if f.prc.conns.get m 0 < 3 then (f, spdmError 4 0xE4)
      else (f.randomBits.1.setSession m (f.exchanged req), f.spdmFull 0xE4 req) := by
  simp [Fabric.spdmRequest, h, spdmCodes, hs, Fabric.spdmFull, Fabric.exchanged, Fabric.randomBits_tick]

theorem Fabric.spdmRequest_exchange_again (h : spdmCode req = 0xE4) (hs : f.prc.sessions.find m ≠ none) :
    f.spdmRequest m false req = (f, spdmError 0x0A 0) := by
  simp [Fabric.spdmRequest, h, spdmCodes, Option.isSome_iff_ne_none.mpr hs]

/-- The requests of a session are refused in the clear. -/
theorem Fabric.spdmRequest_clear (h : spdmCode req = code) (hc : code ∈ [0xE5, 0xE8, 0xE9, 0xEC]) :
    f.spdmRequest m false req = (f, spdmError 4 code) := by
  simp only [List.mem_cons, List.not_mem_nil, or_false] at hc
  obtain rfl | rfl | rfl | rfl := hc <;> simp only [Fabric.spdmRequest, h] <;> cases f.prc.sessions.find m <;> rfl

/-! ### A plain frame -/

/-- A command whose body is that of one named SPDM request answers what the request does. -/
theorem goes_plainFrame {change : Fabric → Fabric} {len : Nat} {ws : List Word} (h : s.fab.TakesFrame c false)
    (hi : exec i s = s.command c 0x0900 (spdmBodyOf (some code)))
    (hr : (s.fab.begun c 0x0900).spdmRequest c.mbx false (withCode (some code) (spdmWords c)) = (change (s.fab.begun c 0x0900), len, ws)) :
    Goes i s (s.fab.answers c 0x0900 change stOk 0 ([0, 0, w64 len, 0] ++ takePad (ceilDiv len 8) ws) (32 + len)) :=
  goes_answers (spdmBodyOf (some code)) h.takes hi (by rw [spdmBodyOf_plain h, hr]; rfl)

/-- A request of a connection that has not reached its state is refused, and one that has is answered. -/
theorem goes_ordered {change : Fabric → Fabric} {conn need : Nat} {refused full : Nat × List Word} (h : s.fab.TakesFrame c false)
    (hi : exec i s = s.command c 0x0900 (spdmBodyOf (some code)))
    (hr : (s.fab.begun c 0x0900).spdmRequest c.mbx false (withCode (some code) (spdmWords c)) =
      if conn < need then (s.fab.begun c 0x0900, refused) else (change (s.fab.begun c 0x0900), full)) :
    (need ≤ conn → Goes i s (s.fab.answers c 0x0900 change stOk 0 ([0, 0, w64 full.1, 0] ++ takePad (ceilDiv full.1 8) full.2) (32 + full.1))) ∧
      (conn < need → Goes i s (s.fab.answers c 0x0900 id stOk 0 ([0, 0, w64 refused.1, 0] ++ takePad (ceilDiv refused.1 8) refused.2)
        (32 + refused.1))) :=
  ⟨fun hn => goes_plainFrame h hi (hr.trans (if_neg (Nat.not_lt.mpr hn))), fun hn => goes_plainFrame h hi (hr.trans (if_pos hn))⟩

/-- GET_DIGESTS, GET_CERTIFICATE, CHALLENGE and GET_MEASUREMENTS are their requests. -/
theorem exec_dataRequest {mk : Cmd → Instr}
    (h : (mk, code) ∈ [(Instr.getDigests, 0x81), (.getCertificate, 0x82), (.challenge, 0x83), (.getMeasurements, 0xE0)]) :
    code ∈ [0x81, 0x82, 0x83, 0xE0] ∧ exec (mk c) s = s.command c 0x0900 (spdmBodyOf (some code)) := by
  simp only [List.mem_cons, Prod.mk.injEq, List.not_mem_nil, or_false] at h
  obtain ⟨rfl, rfl⟩ | ⟨rfl, rfl⟩ | ⟨rfl, rfl⟩ | ⟨rfl, rfl⟩ := h <;> exact ⟨by decide, rfl⟩

/-- FINISH, HEARTBEAT, KEY_UPDATE and END_SESSION are their requests. -/
theorem exec_sessionRequest {mk : Cmd → Instr}
    (h : (mk, code) ∈ [(Instr.finish, 0xE5), (.heartbeat, 0xE8), (.keyUpdate, 0xE9), (.endSession, 0xEC)]) :
    code ∈ [0xE5, 0xE8, 0xE9, 0xEC] ∧ exec (mk c) s = s.command c 0x0900 (spdmBodyOf (some code)) := by
  simp only [List.mem_cons, Prod.mk.injEq, List.not_mem_nil, or_false] at h
  obtain ⟨rfl, rfl⟩ | ⟨rfl, rfl⟩ | ⟨rfl, rfl⟩ | ⟨rfl, rfl⟩ := h <;> exact ⟨by decide, rfl⟩

end Sys2Proof.Machine

namespace Sys2Proof.Proofs
open Sys2Proof.Machine

/-- Settles O45: each request by its own lemma, under the header that a plain frame's answer has (codes, order and ERROR codes are log entry
70, PRESUMED from SPDM 1.3). -/
theorem spdmConnectionsAreNegotiated : Obligations.SpdmConnectionsAreNegotiated := by
  intro s c ht hm htag hd
  refine ⟨fun hlen => goes_answers reportCardBody ht rfl (reportCardBody_reads (f := s.fab.begun c 0x0901) hm hd htag hlen),
    fun hframe hplain => ?_⟩
  intro conn req body respond full refuse _
  have h : s.fab.TakesFrame c false := ⟨ht, hm, htag, hd, hframe, hplain⟩
  obtain ⟨w, ws, hw⟩ := spdmWords_ne_nil hframe
  have named {code : Nat} (hc : code < 256) : spdmCode (withCode (some code) (spdmWords c)) = code := by rw [hw]; exact spdmCode_withCode hc
  have ordered {i : Instr} {code need : Nat} {change : Fabric → Fabric} (hi : exec i s = s.command c 0x0900 (spdmBodyOf (some code)))
      (hr : (s.fab.begun c 0x0900).spdmRequest c.mbx false (req code) =
        if conn < need then (s.fab.begun c 0x0900, spdmError 4 code) else (change (s.fab.begun c 0x0900), s.fab.spdmFull code (req code))) :
      (need ≤ conn → Goes i s (full change code)) ∧ (conn < need → Goes i s (refuse 4 code)) :=
    goes_ordered (conn := conn) (refused := spdmError 4 code) (full := s.fab.spdmFull code (req code)) h hi hr
  obtain ⟨capabilities, noCapabilities⟩ := ordered (i := .getCapabilities c) (change := fun f => f.setConn c.mbx 2) rfl
    (Fabric.spdmRequest_capabilities (named (by decide)))
  obtain ⟨algorithms, noAlgorithms⟩ := ordered (i := .negotiateAlgorithms c) (change := fun f => f.setConn c.mbx 3) rfl
    (Fabric.spdmRequest_algorithms (named (by decide)))
  refine ⟨goes_plainFrame (len := (s.fab.spdmFull 0x84 (req 0x84)).1) (ws := (s.fab.spdmFull 0x84 (req 0x84)).2) h rfl
      (Fabric.spdmRequest_version (named (by decide))), capabilities, noCapabilities,
    algorithms, noAlgorithms, fun mk code hmk => ?_, fun hs => ?_, fun hs => ?_, fun mk code hmk => ?_, fun code hc hunknown => ?_⟩
  · obtain ⟨hc, hi⟩ := exec_dataRequest (c := c) (s := s) hmk
    exact ordered (change := id) hi (Fabric.spdmRequest_data (named (by simp at hc; omega)) hc)
  · refine ordered (i := .keyExchange c) (change := fun f => f.randomBits.1.setSession c.mbx (s.fab.exchanged (req 0xE4))) rfl ?_
    exact (Fabric.spdmRequest_exchange (f := s.fab.begun c 0x0900) (named (by decide)) hs).trans (by rw [Fabric.begun_exchanged]; rfl)
  · exact goes_plainFrame (len := 4) (ws := (spdmError 0x0A 0).2) h rfl (Fabric.spdmRequest_exchange_again (named (by decide)) hs)
  · obtain ⟨hc, hi⟩ := exec_sessionRequest (c := c) (s := s) hmk
    exact goes_plainFrame (len := 4) (ws := (spdmError 4 code).2) h hi (Fabric.spdmRequest_clear (named (by simp at hc; omega)) hc)
  · exact goes_plainFrame (len := 4) (ws := (spdmError 7 code).2) h rfl (Fabric.spdmRequest_unknown (named hc) hunknown false)

end Sys2Proof.Proofs
end

section
/-!
SUPPORT. Secured SPDM frames and the end of a silent session (R459 to R461): what a dropped frame leaves, what an opened one steps.
SEQ_NUM goes on over KEY_UPDATE, and its operations 1 and 2 are those of SPDM 1.3 (log entry 70).
-/
namespace Sys2Proof

@[simp] theorem Map.find_del_same {α : Type} (m : Map α) (i : Nat) : Map.find (Map.del m i) i = none := by
  induction m with
  | nil => rfl
  | cons e m ih =>
    obtain ⟨k, v⟩ := e
    by_cases h : k = i
    · simpa [Map.del, h] using ih
    · simpa [Map.del, h, Map.find] using ih

/-- A padded list's words are those of the list. -/
theorem wd_takePad {n i : Nat} (h : i < n) (l : List Word) : wd (takePad n l) i = wd l i := by
  induction n generalizing i l with
  | zero => omega
  | succ n ih =>
    cases i with
    | zero => cases l <;> rfl
    | succ i =>
      cases l with
      | nil => exact ih (by omega) []
      | cons w l => exact ih (by omega) l

/-- A narrow field is the low part of a wider one. -/
theorem fld_eq_mod {w : Word} {hi top lo : Nat} (h : hi ≤ top) : fld w hi lo = fld w top lo % 2 ^ (hi + 1 - lo) :=
  (Nat.mod_mod_of_dvd _ (Nat.pow_dvd_pow 2 (by omega))).symm

end Sys2Proof

namespace Sys2Proof.Machine

variable {f : Fabric} {m n code : Nat} {name : Option Nat} {hdr body req : List Word} {x : Session}

/-! ### The sessions of the Proctor -/

/-- A frame that a session opens: its identifier, its number and its length. -/
def Session.accepts (x : Session) (n : Nat) (hdr : List Word) : Prop :=
  ¬ (x.id ≠ fld (wd hdr 0) 63 32 ∨ x.reqSeq ≠ wn hdr 1 ∨ n < 20)

/-- The session after a good frame: both numbers advance and the ref tick is kept (R459, R460). -/
def Session.stepped (x : Session) (tick : Nat) : Session := { x with last := tick, reqSeq := x.reqSeq + 1, rspSeq := x.rspSeq + 1 }

/-- A session's end without a claim takes the session away, and nothing else. -/
theorem Fabric.endSession_unclaimed (hx : f.prc.sessions.find m = some x) (hc : f.prc.claims.find m = none) :
    f.endSession m = { f with prc := { f.prc with sessions := f.prc.sessions.del m } } := by
  simp [Fabric.endSession, hx, hc]

theorem Fabric.sessionTimeout_silent (hx : f.prc.sessions.find m = some x) (hc : f.prc.claims.find m = none)
    (ht : x.last + 18750000000 ≤ f.tick) :
    f.sessionTimeout m = { f with prc := { f.prc with sessions := f.prc.sessions.del m } } := by
  rw [← Fabric.endSession_unclaimed hx hc]
  simp [Fabric.sessionTimeout, hx, ht]

theorem Fabric.sessionTimeout_early (hx : f.prc.sessions.find m = some x) (ht : f.tick < x.last + 18750000000) : f.sessionTimeout m = f := by
  simp [Fabric.sessionTimeout, hx, Nat.not_le.mpr ht]

/-! ### A secured frame -/

theorem Fabric.spdmSecured_alone (h : f.prc.sessions.find m = none) : f.spdmSecured m n name hdr body = (f, .done stOk) := by
  simp only [Fabric.spdmSecured, h]

theorem Fabric.spdmSecured_other (h : f.prc.sessions.find m = some x) (ho : ¬ x.accepts n hdr) :
    f.spdmSecured m n name hdr body = (f, .done stOk) := by
  simp only [Fabric.spdmSecured, h]
  exact if_pos (by simpa [Session.accepts, or_assoc] using not_not.mp ho)

/-- A frame whose MAC fails is dropped (R460). -/
theorem Fabric.spdmSecured_forged (h : f.prc.sessions.find m = some x) (ho : Config.spdmOpen x.secret x.reqKeys hdr body = none) :
    f.spdmSecured m n name hdr body = (f, .done stOk) := by
  simp only [Fabric.spdmSecured, h, ho]
  split <;> rfl

/-- What a session's request leaves of the device: the request's own change, and the session's end after an END_SESSION. -/
def Fabric.afterRequest (f : Fabric) (m : Nat) (x : Session) (req : List Word) : Fabric :=
  let g := ((f.setSession m (x.stepped f.tick)).spdmRequest m true req).1
  if spdmCode req == 0xEC && x.state == 2 then g.endSession m else g

/-- An opened frame steps its session and is answered. -/
theorem Fabric.spdmSecured_opened {pt : List Word} (h : f.prc.sessions.find m = some x) (ha : x.accepts n hdr)
    (ho : Config.spdmOpen x.secret x.reqKeys hdr body = some pt) :
    ∃ resp len, f.spdmSecured m n name hdr body = (f.afterRequest m x (withCode name pt), .done stOk 0 resp len) := by
  have fits : ¬ (x.id != fld (wd hdr 0) 63 32 || x.reqSeq != wn hdr 1 || decide (n < 20)) = true := by
    simpa [Session.accepts, or_assoc] using ha
  simp only [Fabric.spdmSecured, h, ho]
  rw [if_neg fits]
  exact ⟨_, _, rfl⟩

/-! ### The requests of a session -/

theorem Fabric.afterRequest_other (hc : spdmCode req ≠ 0xEC) :
    f.afterRequest m x req = ((f.setSession m (x.stepped f.tick)).spdmRequest m true req).1 := by
  simp [Fabric.afterRequest, hc]

/-- An empty message has no request's code. -/
theorem Fabric.afterRequest_empty : f.afterRequest m x [] = f.setSession m (x.stepped f.tick) := rfl

theorem Fabric.afterRequest_finish (hc : spdmCode req = 0xE5) (hx : x.state = 1) :
    f.afterRequest m x req = (f.setSession m (x.stepped f.tick)).setSession m { x.stepped f.tick with state := 2 } := by
  rw [Fabric.afterRequest_other (by rw [hc]; decide)]
  simp [Fabric.spdmRequest, hc, spdmCodes, Fabric.setSession, Session.stepped, hx]

theorem Fabric.afterRequest_heartbeat (hc : spdmCode req = 0xE8) (hx : x.state = 2) :
    f.afterRequest m x req = (f.setSession m (x.stepped f.tick)).setSession m (x.stepped f.tick) := by
  rw [Fabric.afterRequest_other (by rw [hc]; decide)]
  simp [Fabric.spdmRequest, hc, spdmCodes, Fabric.setSession, Session.stepped, hx]

/-- The session after a KEY_UPDATE: operation 1 advances the requests' keys, 2 those of both directions. -/
def Session.updated (x : Session) (op : Nat) : Session :=
  { x with reqKeys := x.reqKeys + b2n (op == 1 || op == 2), rspKeys := x.rspKeys + b2n (op == 2) }

theorem Fabric.afterRequest_keyUpdate (hc : spdmCode req = 0xE9) (hx : x.state = 2) :
    f.afterRequest m x req = (f.setSession m (x.stepped f.tick)).setSession m ((x.stepped f.tick).updated (fld (wd req 0) 23 16)) := by
  rw [Fabric.afterRequest_other (by rw [hc]; decide)]
  simp [Fabric.spdmRequest, hc, spdmCodes, Fabric.setSession, Session.stepped, hx, Session.updated]

theorem Fabric.afterRequest_end (hc : spdmCode req = 0xEC) (hx : x.state = 2) (hcl : f.prc.claims.find m = none) :
    (f.afterRequest m x req).prc.sessions.find m = none := by
  have answered : ((f.setSession m (x.stepped f.tick)).spdmRequest m true req).1 =
      (f.setSession m (x.stepped f.tick)).setSession m (x.stepped f.tick) := by
    simp [Fabric.spdmRequest, hc, spdmCodes, Fabric.setSession, Session.stepped, hx]
  have ends : f.afterRequest m x req = ((f.setSession m (x.stepped f.tick)).setSession m (x.stepped f.tick)).endSession m := by
    rw [Fabric.afterRequest, answered]
    simp [hc, hx]
  rw [ends, Fabric.endSession_unclaimed (f := (f.setSession m (x.stepped f.tick)).setSession m (x.stepped f.tick))
    (Map.find_set_same _ _ _) hcl]
  exact Map.find_del_same _ _

/-- The operation of a named KEY_UPDATE is that of its message. -/
theorem fld_withCode {w : Word} {ws : List Word} : fld (wd (withCode (some code) (w :: ws)) 0) 23 16 = fld w 23 16 := by
  have whole : fld (wd (withCode (some code) (w :: ws)) 0) 63 16 = fld w 63 16 := by
    rw [withCode, wd, List.getD_cons_zero, fld_pack_cons_other (by decide), fld_pack_cons_other (by decide),
      fld_pack_cons_same (by decide) (by simp)]
    exact Nat.mod_eq_of_lt (Nat.mod_lt _ (by decide))
  rw [fld_eq_mod (top := 63) (by decide), whole, ← fld_eq_mod (by decide)]

end Sys2Proof.Machine

namespace Sys2Proof.Proofs
open Sys2Proof.Machine

/-- Settles O46: a dropped frame completes and changes nothing else, an opened one steps its session by one lemma for each request (the
operations of KEY_UPDATE and SEQ_NUM over it are log entry 70, PRESUMED). -/
theorem sessionsAnswerTheirFrames : Obligations.SessionsAnswerTheirFrames := by
  refine ⟨fun s c ht hm htag hd hframe hsec => ?_, fun s m x hl hx => ⟨fun h hc => ?_, fun h => ?_⟩⟩
  · intro n body kept mk code hmk
    obtain ⟨hc, hi⟩ := exec_sessionRequest (c := c) (s := s) hmk
    have goes {g : Fabric} {resp : List Word} {len : Nat}
        (hr : (s.fab.begun c 0x0900).spdmSecured c.mbx n (some code) (takePad 4 c.pay) body = (g, .done stOk 0 resp len)) :
        Goes (mk c) s (g.complete c.mbx stOk 0 resp len) :=
      goes_taken 0x0900 (spdmBodyOf (some code)) ht hi
        (congrArg (Fabric.ended c.mbx) ((spdmBodyOf_secured ⟨ht, hm, htag, hd, hframe, hsec⟩ (some code)).trans hr))
    have dropped (hr : (s.fab.begun c 0x0900).spdmSecured c.mbx n (some code) (takePad 4 c.pay) body =
        (s.fab.begun c 0x0900, .done stOk)) : ∃ g : Fabric, Goes (mk c) s g ∧ kept { s with fab := g } ∧ (g.mbx c.mbx).env.own = false := by
      have done := (s.fab.begun c 0x0900).complete_answered c.mbx stOk 0 [] 0
      exact ⟨_, goes hr, ⟨congrArg Prc.sessions done.prc, done.parts, done.status, by rw [Fabric.complete_mbx]; rfl⟩, done.own⟩
    have fits (x : Session) : x.accepts n (takePad 4 c.pay) ↔ ¬ (x.id ≠ fld (wd c.pay 0) 63 32 ∨ x.reqSeq ≠ wn c.pay 1 ∨ n < 20) := by
      rw [Session.accepts, wn, wd_takePad (by decide), wd_takePad (by decide)]
      rfl
    refine ⟨fun hx => ?_, fun x hx => ?_⟩
    · obtain ⟨g, hg, hk, -⟩ := dropped (Fabric.spdmSecured_alone hx)
      exact ⟨_, hg, hk⟩
    · intro other stepped
      refine ⟨fun ho => ?_, fun ho => ?_⟩
      · obtain ⟨g, hg, hk, -⟩ := dropped (Fabric.spdmSecured_other hx fun ha => (fits x).mp ha ho)
        exact ⟨_, hg, hk⟩
      · cases hopen : Config.spdmOpen x.secret x.reqKeys (takePad 4 c.pay) body with
        | none =>
          obtain ⟨g, hg, hk, hown⟩ := dropped (Fabric.spdmSecured_forged hx hopen)
          have ⟨_, _, status, _⟩ := hk
          exact ⟨_, hg, status, hown, rfl, hk⟩
        | some pt =>
          obtain ⟨resp, len, hr⟩ := Fabric.spdmSecured_opened (f := s.fab.begun c 0x0900) (name := some code) hx ((fits x).mpr ho) hopen
          have done := ((s.fab.begun c 0x0900).afterRequest c.mbx x (withCode (some code) pt)).complete_answered c.mbx stOk 0 resp len
          have sessions := congrArg Prc.sessions done.prc
          refine ⟨_, goes hr, done.status, done.own, rfl, ?_⟩
          cases pt with
          | nil => exact sessions.trans (congrArg (fun g => g.prc.sessions) Fabric.afterRequest_empty)
          | cons w ws =>
            have named : spdmCode (withCode (some code) (w :: ws)) = code := spdmCode_withCode (by simp at hc; omega)
            refine ⟨fun hcode hst => ?_, fun hcode hst => ?_, fun hcode hst => ?_, fun hcode hst hcl => ?_⟩
            · rw [sessions, Fabric.afterRequest_finish (named.trans hcode) hst]
              rfl
            · rw [sessions, Fabric.afterRequest_heartbeat (named.trans hcode) hst]
              rfl
            · rw [sessions, Fabric.afterRequest_keyUpdate (named.trans hcode) hst, fld_withCode]
              rfl
            · rw [sessions]
              exact Fabric.afterRequest_end (named.trans hcode) hst hcl
  · exact goes_event (fun f => f.sessionTimeout m) hl rfl (Fabric.sessionTimeout_silent hx hc h)
  · exact goes_event (fun f => f.sessionTimeout m) hl rfl (Fabric.sessionTimeout_early hx h)

end Sys2Proof.Proofs
end

section
/-!
SUPPORT. Keys, seal bindings, claims and the debug port (R462 to R466, R468 to R471, R478, R480, R482): each command past its gate and each
event by its condition. How a claim drains its partition is log entries 71 and 72, the KEY_EVENT of a load and of both rotations log
entry 74.
-/
namespace Sys2Proof

theorem Map.get_of_find {α : Type} {m : Map α} {i : Nat} {v : α} (h : Map.find m i = some v) (d : α) : Map.get m i d = v := by
  induction m with
  | nil => simp at h
  | cons e m ih =>
    obtain ⟨k, w⟩ := e
    by_cases hk : k = i
    · simpa [Map.find, Map.get, hk] using h
    · simp only [Map.find, hk, if_false] at h
      simpa [Map.get, hk] using ih h

/-- A field of a packed word is its value, where the value fits it and no other field overlaps it. -/
theorem fld_pack_cons_fits {hi lo v : Nat} {fs : List (Nat × Nat × Nat)} (hhi : hi < 64) (hfs : ∀ e ∈ fs, hi < e.2.1 ∨ e.1 < lo)
    (hv : v < 2 ^ (hi + 1 - lo)) : fld (pack ((hi, lo, v) :: fs)) hi lo = v :=
  (fld_pack_cons_same hhi hfs).trans (Nat.mod_eq_of_lt hv)

/-- A flag of a packed word, where no other field overlaps it. -/
theorem bit_pack_cons_flag {n : Nat} {b : Bool} {fs : List (Nat × Nat × Nat)} (hn : n < 64) (hfs : ∀ e ∈ fs, n < e.2.1 ∨ e.1 < n) :
    bit (pack ((n, n, b2n b) :: fs)) n = b := by
  rw [bit_eq_fld, fld_pack_cons_fits hn hfs (by cases b <;> simp [b2n])]
  cases b <;> rfl

theorem bit_pack_cons_other {n hi lo v : Nat} {fs : List (Nat × Nat × Nat)} (h : n < lo ∨ hi < n) :
    bit (pack ((hi, lo, v) :: fs)) n = bit (pack fs) n := by
  rw [bit_eq_fld, bit_eq_fld, fld_pack_cons_other h]

end Sys2Proof

namespace Sys2Proof.Machine

variable {f : Fabric} {c : Cmd} {slot gen seg : Nat} {weight : Bool} {base : Word} {k : KeySlot} {z : Session} {o : KeyOp} {q : ClaimOp}

/-! ### Key slots (R468 to R470, R478) -/

/-- No tile resolved a generation where none is destroyed: the command completes at once. -/
theorem Fabric.putKey_free (f : Fabric) (m slot : Nat) (k : KeySlot) :
    f.putKey m slot k none = okay (f.updPart m fun x => { x with keys := x.keys.set slot k }) k.gen := rfl

/-- A well-formed KEY_WRAP_LOAD in the session of a claimed partition, for an empty slot (Table 13.8). -/
structure Fabric.WrapLoads (f : Fabric) (c : Cmd) (z : Session) (slot : Nat) (weight : Bool) (gen : Nat) : Prop where
  source : c.mbx < 32
  serves : (f.part c.mbx).draining = false
  tag : c.tag = 0
  session : f.inSession c.mbx = true
  holds : f.prc.sessions.find c.mbx = some z
  len : c.len = 80
  slotFits : slot < 16
  genFits : gen < 256
  word : wd c.pay 0 = pack [(3, 0, slot), (8, 8, b2n weight), (23, 16, gen)]
  names : wd c.pay 1 = w64 z.id
  idFits : z.id < 2 ^ 32
  nonce : onlyBits (wd c.pay 3) [(31, 0)] = true
  empty : ((f.part c.mbx).keys.get slot {}).loaded = false

/-- What the wrapped key of a KEY_WRAP_LOAD opens to. -/
def unwrapped (c : Cmd) (z : Session) : Option (List Word) :=
  Config.gcmOpen (wrapKey z.secret) [wd c.pay 2, wd c.pay 3] [wd c.pay 0, wd c.pay 1, w64 c.mbx] (takePad 4 (c.pay.drop 4)) (takePad 2 (c.pay.drop 8))

/-- The slot that a wrapped key loads: a weight key is itself, a sealing key is derived from it (R469). -/
def KeySlot.ofSecret (weight : Bool) (gen : Nat) (secret : List Word) : KeySlot :=
  { loaded := true, weight := weight, gen := gen, key := if weight then takePad 4 secret else sealKey (takePad 4 secret) gen,
    secret := if weight then [] else takePad 4 secret }

theorem keyWrapLoadBody_empty (h : f.WrapLoads c z slot weight gen) :
    keyWrapLoadBody c f =
      match unwrapped c z with
      | none => faulted f
      | some secret => okay ((f.keyNotice c.mbx 1 slot gen).updPart c.mbx fun x =>
          { x with keys := x.keys.set slot (KeySlot.ofSecret weight gen secret) }) gen := by
  have isSlot : fld (wd c.pay 0) 3 0 = slot := by rw [h.word, fld_pack_cons_fits (by decide) (by simp) h.slotFits]
  have isWeight : bit (wd c.pay 0) 8 = weight := by
    rw [h.word, bit_pack_cons_other (by decide), bit_pack_cons_flag (by decide) (by simp)]
  have isGen : fld (wd c.pay 0) 23 16 = gen := by
    rw [h.word, fld_pack_cons_other (by decide), fld_pack_cons_other (by decide), fld_pack_cons_fits (by decide) (by simp) h.genFits]
  have isSession : fld (wd c.pay 1) 31 0 = z.id := by rw [h.names, fld_w64 h.idFits (by decide)]
  have fields : onlyBits (wd c.pay 0) [(3, 0), (8, 8), (23, 16)] = true := by rw [h.word]; exact onlyBits_pack (by simp)
  have named : onlyBits (wd c.pay 1) [(31, 0)] = true := by rw [h.names]; exact onlyBits_w64 h.idFits
  unfold keyWrapLoadBody
  dsimp only
  rw [prcGate_open (by simpa using h.source) (fun _ => h.serves) (by simp [h.tag, h.len, fields, named, h.nonce])]
  simp only [h.holds, h.session, isSession, isSlot, isWeight, isGen, h.empty, Bool.not_true, bne_self_eq_false, Bool.or_self,
    Bool.false_eq_true, if_false, Bool.false_and, Fabric.putKey_free]
  rfl

/-- A SEAL slot with its next generation installed; the present one is retiring (R470). -/
def KeySlot.advanced (k : KeySlot) : KeySlot :=
  { k with gen := (k.gen + 1) % 256, key := sealKey k.secret ((k.gen + 1) % 256), retiring := some (k.gen, k.key), sealedPages := 0 }

/-- A well-formed KEY_ROTATE of a loaded slot without a retiring generation, in the session of a claimed partition (R470). -/
structure Fabric.Rotates (f : Fabric) (c : Cmd) (slot : Nat) (k : KeySlot) : Prop where
  source : c.mbx < 32
  serves : (f.part c.mbx).draining = false
  tag : c.tag = 0
  session : f.inSession c.mbx = true
  len : c.len = 8
  slotFits : slot < 16
  key : (f.part c.mbx).keys.find slot = some k
  loaded : k.loaded = true
  single : k.retiring = none

/-- The gate of KEY_ROTATE is open to both actions, and the slot is the one that the payload names. -/
theorem Fabric.Rotates.body {action : Nat} (h : f.Rotates c slot k) (hw : wd c.pay 0 = pack [(9, 8, action), (3, 0, slot)]) (ha : action < 2) :
    keyRotateBody c f =
      if action = 1 then (f.keyNotice c.mbx 2 slot k.gen).putKey c.mbx slot k none
      else if k.weight then faulted f
      else (f.keyNotice c.mbx 2 slot ((k.gen + 1) % 256)).putKey c.mbx slot k.advanced none := by
  have isSlot : fld (wd c.pay 0) 3 0 = slot := by
    rw [hw, fld_pack_cons_other (by decide), fld_pack_cons_fits (by decide) (by simp) h.slotFits]
  have isAction : fld (wd c.pay 0) 9 8 = action := by
    rw [hw, fld_pack_cons_fits (by decide) (by simp) (show action < 2 ^ (9 + 1 - 8) by omega)]
  have fields : onlyBits (wd c.pay 0) [(3, 0), (9, 8)] = true := by rw [hw]; exact onlyBits_pack (by simp)
  have held : (f.part c.mbx).keys.get slot {} = k := Map.get_of_find h.key {}
  have kept : ({ k with retiring := none } : KeySlot) = k := by rw [← h.single]
  unfold keyRotateBody
  dsimp only
  rw [prcGate_open (by simpa using h.source) (fun _ => h.serves) (by simp [h.tag, h.len, fields, isAction]; omega)]
  simp only [h.session, isSlot, isAction, held, kept, Bool.not_true, Bool.false_eq_true, if_false]
  simp [h.loaded, h.single, KeySlot.install, KeySlot.advanced]

theorem keyRotateBody_advances (h : f.Rotates c slot k) (hw : wd c.pay 0 = w64 slot) (hk : k.weight = false) :
    keyRotateBody c f =
      okay ((f.keyNotice c.mbx 2 slot ((k.gen + 1) % 256)).updPart c.mbx fun x => { x with keys := x.keys.set slot k.advanced })
        ((k.gen + 1) % 256) := by
  have word : wd c.pay 0 = pack [(9, 8, 0), (3, 0, slot)] := by
    rw [hw, w64_eq_pack (hi := 3) h.slotFits]
    simp [pack]
  rw [h.body word (by decide), if_neg (by decide), hk]
  exact Fabric.putKey_free _ _ _ _

theorem keyRotateBody_drops (h : f.Rotates c slot k) (hw : wd c.pay 0 = pack [(9, 8, 1), (3, 0, slot)]) :
    keyRotateBody c f = okay ((f.keyNotice c.mbx 2 slot k.gen).updPart c.mbx fun x => { x with keys := x.keys.set slot k }) k.gen := by
  rw [h.body hw (by decide), if_pos rfl, Fabric.putKey_free]

/-- A key change completes once none of its tiles is in flight, at once where it waits for none. -/
theorem Fabric.keyDrained_done (ho : f.prc.keyOps = [o]) (ht : o.tiles = []) :
    f.keyDrained o.mbx = ({ f with prc := { f.prc with keyOps := [] } } : Fabric).finish o.mbx stOk o.gen := by
  simp [Fabric.keyDrained, ho, ht]

theorem Fabric.keyDrained_waits {t : Nat × Nat} (ho : f.prc.keyOps = [o]) (ht : t ∈ o.tiles)
    (hu : ∃ u ∈ f.tilesWhere o.part fun _ _ => true, u.2 = t) : f.keyDrained o.mbx = f := by
  obtain ⟨u, hu, rfl⟩ := hu
  have flies : (o.tiles.any fun t => (f.tilesWhere o.part fun _ _ => true).any fun u => u.2 == t) = true :=
    List.any_eq_true.mpr ⟨_, ht, List.any_eq_true.mpr ⟨u, hu, by simp⟩⟩
  have found : (f.prc.keyOps.find? fun x => x.mbx == o.mbx) = some o := by simp [ho]
  simp only [Fabric.keyDrained, found, flies, if_true]

/-! ### Seal bindings (R471) -/

/-- SEAL_BIND and its unbind for a live context of a claimed partition's session: the flag of the payload decides. -/
theorem sealBindBody_sets {bind : Bool} (hm : c.mbx < 32) (hd : (f.part c.mbx).draining = false) (hs : f.inSession c.mbx = true)
    (htag : tagPart c.tag = c.mbx) (hl : f.tagLive c.tag = true) (hlen : c.len = 16) (hslot : slot < 16) (hseg : seg < 8)
    (hbase : onlyBits base [(56, 6)] = true) (hpay : c.pay = [pack [(11, 8, slot), (7, 7, b2n bind), (2, 0, seg)], base]) :
    sealBindBody c f = okay (f.updCtx c.tag fun x =>
      if bind then { x with seals := x.seals.set seg { keySlot := slot, tagBase := base.toNat } }
      else { x with seals := x.seals.del seg }) := by
  have word : wd c.pay 0 = pack [(11, 8, slot), (7, 7, b2n bind), (2, 0, seg)] := by rw [hpay]; rfl
  have isBase : wd c.pay 1 = base := by rw [hpay]; rfl
  have isSlot : fld (wd c.pay 0) 11 8 = slot := by rw [word, fld_pack_cons_fits (by decide) (by simp) hslot]
  have isSeg : fld (wd c.pay 0) 2 0 = seg := by
    rw [word, fld_pack_cons_other (by decide), fld_pack_cons_other (by decide), fld_pack_cons_fits (by decide) (by simp) hseg]
  have isBind : bit (wd c.pay 0) 7 = bind := by
    rw [word, bit_pack_cons_other (by decide), bit_pack_cons_flag (by decide) (by simp)]
  have fields : onlyBits (wd c.pay 0) [(2, 0), (7, 7), (11, 8)] = true := by rw [word]; exact onlyBits_pack (by simp)
  unfold sealBindBody
  dsimp only
  rw [prcGate_open (by simpa using hm) (fun _ => hd) (by simp [hlen, fields, isBase, hbase])]
  simp [htag, hs, hl, isSlot, isSeg, isBind, wn, isBase]

/-! ### Claims (R462, R463) -/

theorem Fabric.begun_actsOn_other {n : Nat} (h : n ≠ c.mbx) (f : Fabric) (op p : Nat) : (f.begun c op).actsOn n p = f.actsOn n p := by
  simp only [Fabric.actsOn, Fabric.begun_mbx_other f c op n h.symm]

/-- CONF_CLAIM of an empty partition drains it and waits for the scrub; no other mailbox has a command on it. -/
theorem confClaimBody_drains (hm : c.mbx < 32) (hd : (f.part c.mbx).draining = false) (ht : c.tag = 0) (hlen : c.len = 8)
    (hz : f.prc.sessions.find c.mbx = some z) (hw : wd c.pay 0 = w64 z.id) (hid : z.id < 2 ^ 32) (he : (f.part c.mbx).claimable = true)
    (hdebug : f.prc.debugNow = false) (hfree : ∀ i < 34, i ≠ c.mbx → f.actsOn i c.mbx = false) :
    confClaimBody c f =
      (({ f with prc := { f.prc with claimOps := f.prc.claimOps ++ [{ mbx := c.mbx, part := c.mbx, session := z.id }] } } : Fabric).updPart c.mbx
        fun x => { x with draining := true }, .wait) := by
  have isSession : fld (wd c.pay 0) 31 0 = z.id := by rw [hw, fld_w64 hid (by decide)]
  have fields : onlyBits (wd c.pay 0) [(31, 0)] = true := by rw [hw]; exact onlyBits_w64 hid
  have noneActs : ((List.range 34).filter fun n => n != c.mbx && f.actsOn n c.mbx) = [] :=
    List.filter_eq_nil_iff.mpr fun n hn => by
      by_cases hne : n = c.mbx
      · simp [hne]
      · simp [hfree n (List.mem_range.mp hn) hne]
  unfold confClaimBody
  dsimp only
  rw [prcGate_open (by simpa using hm) (fun _ => hd) (by simp [ht, hlen, fields])]
  simp [hz, isSession, he, hdebug, noneActs]

/-- What ends a command leaves the Proctor and the partitions. -/
theorem Fabric.finish_prc_parts (f : Fabric) (m st r0 : Nat) (resp : List Word) (len : Nat) :
    (f.finish m st r0 resp len).prc = f.prc ∧ (f.finish m st r0 resp len).parts = f.parts := by
  unfold Fabric.finish
  split
  · obtain ⟨_, _, _, e⟩ := f.complete_eq m st (w64 r0) resp len
    rw [e]
    exact ⟨rfl, rfl⟩
  · exact ⟨rfl, rfl⟩

/-- The device with a lone claim whose scrub is done: the partition is clean, claimed, and takes commands. -/
def Fabric.claimedBy (f : Fabric) (q : ClaimOp) : Fabric :=
  ({ f with prc := { f.prc with claimOps := [], claims := f.prc.claims.set q.part q.session } } : Fabric).updPart q.part fun x =>
    { x.scrubbed with draining := false, claimed := true }

/-- CLAIM_SCRUB_DONE with the session still there claims the partition: Proctor and partitions are those of the claim. -/
theorem Fabric.claimDone_claims (hq : f.prc.claimOps = [q]) (hz : f.prc.sessions.find q.part = some z) (hid : z.id = q.session) :
    (f.claimDone q.part).prc = (f.claimedBy q).prc ∧ (f.claimDone q.part).parts = (f.claimedBy q).parts := by
  have found : (f.prc.claimOps.find? fun x => x.part == q.part) = some q := by simp [hq]
  have others : f.prc.claimOps.filter (fun x => x.part != q.part) = [] := by simp [hq]
  unfold Fabric.claimDone
  rw [found]
  dsimp -zeta only
  rw [others]
  extract_lets _ _ _ b f₁ f₂ f₃ held
  obtain ⟨_, _, _, _, _, e, -⟩ := f₁.notify_noticed q.part (n := keyEvent q.part 0 9 0xFF 0 q.session 0 b.env.cmdId 0) (show 8 ≠ 2 by decide)
  have noticed : f₂.prc = (f.claimedBy q).prc ∧ f₂.parts = (f.claimedBy q).parts := by
    unfold f₂
    rw [e]
    exact ⟨rfl, rfl⟩
  obtain ⟨noticedPrc, noticedParts⟩ := noticed
  obtain ⟨finishedPrc, finishedParts⟩ := f₂.finish_prc_parts q.mbx stOk f₂.tick [] 0
  have prc : f₃.prc = (f.claimedBy q).prc := finishedPrc.trans noticedPrc
  have same : held = true := by
    have found : f₃.prc.sessions.find q.part = some z := by rw [prc]; exact hz
    unfold held
    rw [found]
    simpa using hid
  rw [if_pos same]
  exact ⟨prc, finishedParts.trans noticedParts⟩

/-! ### Release and status -/

/-- A payload of the own number names the partition of the mailbox. -/
theorem fld_ownNumber (hm : c.mbx < 32) (hpay : c.pay = [w64 c.mbx]) : fld (wd c.pay 0) 4 0 = c.mbx := by
  rw [hpay]
  exact fld_w64 hm (by decide)

section
variable (hm : c.mbx < 32) (hd : (f.part c.mbx).draining = false) (ht : c.tag = 0) (hlen : c.len = 8) (hpay : c.pay = [w64 c.mbx])
  (hp : c.mbx < f.partCount)
include hm hd ht hlen hpay hp

/-- CONF_RELEASE of a partition by its own mailbox. -/
theorem confReleaseBody_own :
    confReleaseBody c f = if !(f.part c.mbx).claimed then okay f else (f.startP c.mbx 0 false true [c.mbx], .wait) := by
  have fields : onlyBits (wd c.pay 0) [(4, 0)] = true := by rw [hpay]; exact onlyBits_w64 hm
  unfold confReleaseBody
  rw [fld_ownNumber hm hpay]
  exact prcGate_open (by simp) (fun _ => hd) (by simp [ht, hlen, fields, hp]) _ _

/-- KEY_STATUS of a partition by its own mailbox changes nothing. -/
theorem keyStatusBody_own : ∃ ws, keyStatusBody c f = (f, .done stOk 0 ws 152) := by
  have fields : onlyBits (wd c.pay 0) [(4, 0)] = true := by rw [hpay]; exact onlyBits_w64 hm
  unfold keyStatusBody
  rw [fld_ownNumber hm hpay]
  exact ⟨_, prcGate_open (by simp) (fun _ => hd) (by simp [ht, hlen, fields, hp]) _ _⟩

end

/-! ### The debug port (R480) -/

theorem debugUnlockBody_fuse (hm : c.mbx = 32) (ht : c.tag = 0) (hc : f.conf = false) (hfuse : f.prc.debugFuse = true)
    (hn : f.prc.debugNow = false) :
    debugUnlockBody c f = okay ({ f with prc := { f.prc with debugNow := true } } : Fabric).newEpoch 1 := by
  simp [debugUnlockBody, hm, ht, hc, hfuse, hn, Fabric.newEpoch, b2n]

theorem debugUnlockBody_length (hm : c.mbx = 32) (ht : c.tag = 0) (hc : f.conf = false) (hfuse : f.prc.debugFuse = false)
    (hlen : c.len ≠ 96) : debugUnlockBody c f = okay f (b2n f.prc.debugNow) := by
  simp [debugUnlockBody, hm, ht, hc, hfuse, hlen]

end Sys2Proof.Machine

namespace Sys2Proof.Proofs
open Sys2Proof.Machine

/-- Settles O47: each command past its gate, and each event by its condition (how a claim drains is log entries 71 and 72, the codes of
KEY_EVENT log entry 74). -/
theorem keysAndClaims : Obligations.KeysAndClaims := by
  refine ⟨fun s c hm hd => ?_, fun s c ht hm htag hconf => ⟨fun hfuse hn => ?_, fun hfuse hlen => ?_⟩, fun s hl => ?_⟩
  · intro m x
    refine ⟨fun z slot weight gen ht htag hs hz hlen hslot hgen hw0 hw1 hid hnonce hempty => ?_,
      fun slot k ht htag hs hlen hslot hw hk hload hweight hret => ?_, fun slot k ht htag hs hlen hslot hw hk hload hret => ?_,
      fun slot seg base hslot hseg hbase htag hs hlive hlen => ⟨fun ht hpay => ?_, fun ht hpay => ?_⟩,
      fun z ht htag hz hlen hw hid he hdebug hfree => ?_, fun ht htag hlen hpay hp => ⟨fun hc => ?_, fun hc => ?_, ?_⟩⟩
    · have loads := keyWrapLoadBody_empty (f := s.fab.begun c 0x0902)
        ⟨hm, hd, htag, hs, hz, hlen, hslot, hgen, hw0, hw1, hid, hnonce, hempty⟩
      generalize hopen : Config.gcmOpen _ _ _ _ _ = key
      rw [show unwrapped c z = key from hopen] at loads
      cases key with
      | none => exact goes_answers keyWrapLoadBody ht rfl loads
      | some k => exact goes_answers keyWrapLoadBody ht rfl loads
    · exact goes_answers keyRotateBody ht rfl
        (keyRotateBody_advances (f := s.fab.begun (force c 9 8 0) 0x0903) ⟨hm, hd, htag, hs, hlen, hslot, hk, hload, hret⟩ hw hweight)
    · exact goes_answers keyRotateBody ht rfl
        (keyRotateBody_drops (f := s.fab.begun (force c 9 8 1) 0x0903) ⟨hm, hd, htag, hs, hlen, hslot, hk, hload, hret⟩ hw)
    · exact goes_answers sealBindBody ht rfl
        (sealBindBody_sets (f := s.fab.begun (force c 7 7 1) 0x0904) (bind := true) hm hd hs htag hlive hlen hslot hseg hbase hpay)
    · exact goes_answers sealBindBody ht rfl
        (sealBindBody_sets (f := s.fab.begun (force c 7 7 0) 0x0904) (bind := false) hm hd hs htag hlive hlen hslot hseg hbase
          (hpay.trans (by simp [pack, b2n])))
    · refine goes_taken 0x0905 confClaimBody ht rfl ?_
      rw [confClaimBody_drains (f := s.fab.begun c 0x0905) hm hd htag hlen hz hw hid he hdebug fun i hi hne =>
        (Fabric.begun_actsOn_other hne s.fab 0x0905 c.mbx).trans (hfree i hi hne)]
      rfl
    · exact goes_answers confReleaseBody ht rfl
        ((confReleaseBody_own (f := s.fab.begun c 0x0906) hm hd htag hlen hpay hp).trans (if_pos (by simpa using hc)))
    · refine goes_taken 0x0906 confReleaseBody ht rfl ?_
      rw [confReleaseBody_own (f := s.fab.begun c 0x0906) hm hd htag hlen hpay hp, if_neg (by simpa using hc)]
      rfl
    · obtain ⟨ws, reads⟩ := keyStatusBody_own (f := s.fab.begun c 0x0907) hm hd htag hlen hpay hp
      have done := (s.fab.begun c 0x0907).complete_answered c.mbx stOk 0 ws 152
      exact ⟨_, goes_taken 0x0907 keyStatusBody ht rfl (congrArg (Fabric.ended c.mbx) reads), done.status,
        by rw [Fabric.ended_done, Fabric.complete_mbx]; rfl, done.parts, done.prc⟩
  · have done := ({ s.fab.begun c 0x0908 with prc := { s.fab.prc with debugNow := true } } : Fabric).newEpoch.complete_answered c.mbx stOk 1 [] 0
    rw [← hm]
    exact ⟨_, goes_taken 0x0908 debugUnlockBody ht rfl
      (congrArg (Fabric.ended c.mbx) (debugUnlockBody_fuse (f := s.fab.begun c 0x0908) hm htag hconf hfuse hn)),
      congrArg Prc.debugNow done.prc, done.status, done.result, done.parts⟩
  · exact goes_answers debugUnlockBody ht rfl (debugUnlockBody_length (f := s.fab.begun c 0x0908) hm htag hconf hfuse hlen)
  · refine ⟨goes_event (fun f => f.deviceScrubDone) hl rfl rfl, fun o ho => ⟨fun ht => ?_, fun t ht hu => ?_⟩, fun q z hq hp hz hid => ?_⟩
    · exact goes_event (fun f => f.keyDrained o.mbx) hl rfl (Fabric.keyDrained_done ho ht)
    · exact goes_event (fun f => f.keyDrained o.mbx) hl rfl (Fabric.keyDrained_waits ho ht hu)
    · obtain ⟨prc, parts⟩ := Fabric.claimDone_claims hq hz hid
      have part : (s.fab.claimDone q.part).part q.part =
          { (s.fab.part q.part).scrubbed with draining := false, claimed := true } := by
        rw [Fabric.part, parts]
        exact Fabric.part_updPart_same _ q.part _
      exact ⟨_, goes_event (fun f => f.claimDone q.part) hl rfl rfl, congrArg Part.claimed part, congrArg Part.draining part,
        congrArg Part.ctxs part, congrArg Part.keys part, (congrArg (fun p : Prc => p.claims.find q.part) prc).trans (Map.find_set_same _ _ _),
        congrArg Prc.claimOps prc, rfl⟩

end Sys2Proof.Proofs
end

section
/-!
SUPPORT. Packed words, padded lists and numbers, as the frames and records of the meter use them (R495, R500).
-/
namespace Sys2Proof

/-- A field of value zero adds nothing to a word. -/
@[simp] theorem pack_cons_zero (hi lo : Nat) (fs : List (Nat × Nat × Nat)) : pack ((hi, lo, 0) :: fs) = pack fs := by
  simp [pack]

/-- Fields that lie in [hi:lo] are put into a word by copying that field. -/
theorem pack_fld_cons {hi lo : Nat} {fs gs : List (Nat × Nat × Nat)} (hfs : ∀ e ∈ fs, lo ≤ e.2.1 ∧ e.1 ≤ hi) :
    pack ((hi, lo, fld (pack fs) hi lo) :: gs) = pack (fs ++ gs) := by
  refine BitVec.eq_of_getLsbD_eq fun i hw => ?_
  rw [getLsbD_pack _ hw, getLsbD_pack _ hw, List.any_cons, List.any_append]
  congr 1
  by_cases hin : lo ≤ i ∧ i ≤ hi
  · have low : i - lo < hi + 1 - lo := by omega
    rw [testBit_fld, Nat.add_sub_cancel' hin.1, getLsbD_pack _ hw]
    simp [hin, low]
  · have outside : (fs.any fun e => decide (e.2.1 ≤ i ∧ i ≤ e.1) && e.2.2.testBit (i - e.2.1)) = false := by
      refine List.any_eq_false.mpr fun e he => ?_
      have : ¬ (e.2.1 ≤ i ∧ i ≤ e.1) := by have := hfs e he; omega
      simp [this]
    rw [outside]
    simp [hin]

@[simp] theorem w64_toNat (w : Word) : w64 w.toNat = w := by simp [w64]

theorem takePad_of_length {l : List Word} {n : Nat} (h : l.length = n) : takePad n l = l := h ▸ Machine.takePad_length l

@[simp] theorem length_takePad (n : Nat) (l : List Word) : (takePad n l).length = n := by
  induction n generalizing l with
  | zero => rfl
  | succ n ih => cases l <;> simp [takePad, ih]

theorem takePad_eq_take {n : Nat} {l : List Word} (h : n ≤ l.length) : takePad n l = l.take n := by
  induction n generalizing l with
  | zero => rfl
  | succ n ih =>
    cases l with
    | nil => simp at h
    | cons w l => simp [takePad, ih (Nat.le_of_succ_le_succ h)]

end Sys2Proof
end

section
/-!
SUPPORT. The meter die: how a command of it answers, what writing a record does (R500, R502), and what each of its commands
can do to the audit log, the parameter sets and EVENT_COUNT.
-/
namespace Sys2Proof.Machine

variable {m t : Meter} {s : State} {i : Instr}

/-- A command of the meter die answers the meter die that its meaning makes. -/
theorem meters_of (hi : exec i s = .next { s with meter := t }) (h : t = m) : Meters i s m := by rw [Meters, hi, h]

theorem yields_meter {P : State → Prop} (hi : exec i s = .next { s with meter := t }) (h : t = m) (hp : P { s with meter := m }) : Yields i s P :=
  ⟨_, hi, h ▸ hp⟩

/-! ### Writing a record -/

/-- A record is written under RSEQ, unsigned; its last word is zero at RSEQ 0. -/
theorem Meter.write_eq (m : Meter) (ws : List Word) : ∃ prev free, (m.rseq = 0 → prev = 0) ∧
    m.write ws = { m with
      recs := m.recs.set (m.rseq % 16384) { words := (pack [(63, 32, fld (wd ws 0) 63 32), (31, 0, m.rseq)] :: (ws.drop 1).take 6) ++ [prev] }
      rseq := m.rseq + 1, waiting := m.waiting ++ [m.rseq], free := free } := by
  unfold Meter.write
  dsimp only
  split
  · exact ⟨0, m.free, fun _ => rfl, rfl⟩
  · next later =>
    split
    · split
      · exact ⟨_, _, fun h => absurd h later, rfl⟩
      · exact ⟨_, _, fun h => absurd h later, rfl⟩
    · exact ⟨_, _, fun h => absurd h later, rfl⟩

theorem Meter.put_room (h : m.room) (ws : List Word) : m.put ws = m.write ws := by
  obtain ⟨ho, hw⟩ := h
  simp [Meter.put, ho, hw]

theorem Meter.put_full (h : ¬ m.room) (ws : List Word) : m.put ws = { m with overflow := m.overflow ++ [ws] } := by
  have full : ¬ (m.overflow.isEmpty && decide (m.waiting.length < 8)) = true := by
    simpa [Meter.room, List.isEmpty_iff] using h
  rw [Meter.put, if_neg full]

/-- What recording an event may change: the log, and the counter of free values. -/
def Meter.Logs (m t : Meter) : Prop :=
  ∃ recs rseq waiting overflow free, t = { m with recs := recs, rseq := rseq, waiting := waiting, overflow := overflow, free := free }

theorem Meter.write_logs (m : Meter) (ws : List Word) : m.Logs (m.write ws) := by
  obtain ⟨prev, free, -, e⟩ := m.write_eq ws
  exact ⟨_, _, _, _, _, e⟩

theorem Meter.put_logs (m : Meter) (ws : List Word) : m.Logs (m.put ws) := by
  by_cases h : m.room
  · rw [Meter.put_room h]
    exact m.write_logs ws
  · rw [Meter.put_full h]
    exact ⟨_, _, _, _, _, rfl⟩

/-! ### The calendar mark (R489, R494) -/

/-- A field of 32 bits is the quotient, where that is exact and fits. -/
def ExactIn (num : Int) (den v : Nat) : Prop := den ≠ 0 → ∀ q : Nat, q < 2 ^ 32 → num = q * den → v = q

theorem Meter.field_eq (m : Meter) (num : Int) (den : Nat) : ∃ free v, m.field num den = ({ m with free := free }, v) ∧ ExactIn num den v := by
  unfold Meter.field
  dsimp only [Meter.draw]
  split
  · refine ⟨m.free, _, rfl, fun hd q hq e => ?_⟩
    rw [e, Int.mul_ediv_cancel _ (by exact_mod_cast hd), Int.toNat_natCast]
    exact Nat.mod_eq_of_lt hq
  · next inexact =>
    refine ⟨_, _, rfl, fun hd q _ e => absurd ?_ inexact⟩
    have low : (0 : Int) ≤ q * den := by positivity
    simp [e, hd, low]

/-- The window that a mark closes, with its averages; the sums begin again. -/
def Meter.closed (m : Meter) (free v i p x : Nat) : Meter :=
  { m with winCal := m.cal, winEnergy := m.energy, vAvg := v, iAvg := i, pAvg := p, pMax := x, lastOver := m.overNow, overNow := false,
           sumV := 0, sumI := 0, sumP := 0, maxP := 0, samples := 0, free := free }

/-- The TICK frame of a mark. -/
def Meter.tick (m : Meter) : List Word := [frameHeader 0 16 0 0x90, w64 m.cal, m.status]

/-- The newest parameter set comes into force; the mark and the TICK frame are sent. -/
def Meter.sendTick (m : Meter) : Meter :=
  { m with inForce := m.params.length, tickFrame := m.tick, line := m.line.mark.send (frameBits m.tick) }

theorem Meter.calendarTick_backup (hb : (m.advance (4096 - m.phase)).backup = true) : m.calendarTick = m.advance (4096 - m.phase) := by
  unfold Meter.calendarTick
  generalize m.advance (4096 - m.phase) = a at hb ⊢
  extract_lets m₁
  rw [if_pos hb]

/-- Under main power a mark closes the window, records a first overrange window and sends the TICK frame. -/
theorem Meter.calendarTick_eq (hb : (m.advance (4096 - m.phase)).backup = false) : ∃ free v i p x,
    let a := m.advance (4096 - m.phase)
    let w := a.closed free v i p x
    m.calendarTick = (if a.overNow && !a.lastOver then w.event 9 (w64 a.cal) else w).sendTick ∧
      ExactIn (a.sumV * 1000000) (a.samples * 2 ^ 32) v ∧ ExactIn (a.sumI * 1000) (a.samples * 2 ^ 32) i ∧
      ExactIn (a.sumP * 1000) (a.samples * 2 ^ 64) p ∧ ExactIn (a.maxP * 1000) (b2n (a.samples != 0) * 2 ^ 64) x := by
  unfold Meter.calendarTick
  generalize m.advance (4096 - m.phase) = a at hb ⊢
  have main : ¬ a.backup = true := by simp [hb]
  -- `Meter.field` gets a name of its own: the kernel would else evaluate quotients by multiples of 2 ^ 32 when it compares the matches.
  obtain ⟨field, named⟩ : ∃ g, g = Meter.field := ⟨_, rfl⟩
  have quotient := Meter.field_eq
  rw [← named] at quotient ⊢
  obtain ⟨free₁, v, e₁, hv⟩ := quotient a (a.sumV * 1000000) (a.samples * 2 ^ 32)
  obtain ⟨free₂, i, e₂, hi⟩ := quotient { a with free := free₁ } (a.sumI * 1000) (a.samples * 2 ^ 32)
  obtain ⟨free₃, p, e₃, hp⟩ := quotient { a with free := free₂ } (a.sumP * 1000) (a.samples * 2 ^ 64)
  obtain ⟨free₄, x, e₄, hx⟩ := quotient { a with free := free₃ } (a.maxP * 1000) (b2n (a.samples != 0) * 2 ^ 64)
  refine ⟨free₄, v, i, p, x, ?_, hv, hi, hp, hx⟩
  simp only [if_neg main, e₁, e₂, e₃, e₄]
  rfl

/-! ### What a command of the meter die can do -/

/-- EVENT_COUNT and the parameter sets stay, and no new time begins to wait. -/
structure Meter.Steady (m t : Meter) : Prop where
  eventCount : t.eventCount = m.eventCount := by rfl
  params : t.params = m.params := by rfl
  newTime : m.newTime = none → t.newTime = none := by exact id

theorem Meter.Steady.trans {a b c : Meter} (h : a.Steady b) (k : b.Steady c) : a.Steady c :=
  ⟨k.eventCount.trans h.eventCount, k.params.trans h.params, fun e => k.newTime (h.newTime e)⟩

theorem Meter.Logs.steady (h : m.Logs t) : m.Steady t := by
  obtain ⟨_, _, _, _, _, rfl⟩ := h
  exact {}

/-- The audit log stays too. -/
structure Meter.Same (m t : Meter) : Prop extends m.Steady t where
  recs : t.recs = m.recs := by rfl
  rseq : t.rseq = m.rseq := by rfl
  waiting : t.waiting = m.waiting := by rfl
  overflow : t.overflow = m.overflow := by rfl

/-- A change that burns no bit of EVENT_COUNT and, of the log, writes further records only. -/
inductive Meter.Quiet : Meter → Meter → Prop
  | same {m t : Meter} : m.Same t → m.Quiet t
  | put (m : Meter) (ws : List Word) : m.Quiet (m.put ws)
  | trans {a b c : Meter} : a.Quiet b → b.Quiet c → a.Quiet c

namespace Meter.Quiet

theorem refl (m : Meter) : m.Quiet m := .same {}

theorem steady (h : m.Quiet t) : m.Steady t := by
  induction h with
  | same same => exact same.toSteady
  | put m ws => exact (m.put_logs ws).steady
  | trans _ _ ih ih' => exact ih.trans ih'

theorem event (m : Meter) (kind : Nat) (arg : Word) : m.Quiet (m.event kind arg) := .put m _

/-- Ticks pass, and a new time that waits takes effect. -/
theorem advance (m : Meter) (n : Nat) : m.Quiet (m.advance n) := by
  unfold Meter.advance
  split
  · exact refl m
  · split
    · exact .same {}
    · extract_lets _ m₁
      have recorded : m.Quiet m₁ := .trans (.same { newTime := fun _ => rfl }) (event _ 5 _)
      exact recorded.trans (.same {})

theorem within (m : Meter) (n : Nat) : m.Quiet (m.within n) := by
  unfold Meter.within
  split
  · exact advance m n
  · exact advance m _

theorem calendarTick (m : Meter) : m.Quiet m.calendarTick := by
  have ticks := advance m (4096 - m.phase)
  cases hb : (m.advance (4096 - m.phase)).backup with
  | true => rwa [Meter.calendarTick_backup hb]
  | false =>
    obtain ⟨free, v, i, p, x, e, -⟩ := Meter.calendarTick_eq hb
    have window (a : Meter) : a.Quiet (a.closed free v i p x) := .same {}
    have sent (a : Meter) : a.Quiet a.sendTick := .same {}
    rw [e]
    refine (ticks.trans (window _)).trans (.trans ?_ (sent _))
    split
    · exact event _ 9 _
    · exact refl _

theorem sample (m : Meter) (n : Nat) (v c : Int) : m.Quiet (m.sample n v c) := by
  refine (within m n).trans ?_
  unfold Meter.sample
  dsimp only
  split
  · exact refl _
  · exact .same {}

theorem sealChange (m : Meter) (n : Nat) (o : Bool) : m.Quiet (m.sealChange n o) := by
  refine (within m n).trans ?_
  unfold Meter.sealChange
  dsimp only
  split
  · exact refl _
  · split
    · exact .same {}
    · exact .trans (.same {}) (event _ _ 0)

theorem supplyLoss (m : Meter) (n : Nat) : m.Quiet (m.supplyLoss n) := by
  refine (within m n).trans ?_
  unfold Meter.supplyLoss
  dsimp only
  split
  · exact refl _
  · exact (event _ 7 0).trans (.same {})

theorem foldl {α : Type} {f : Meter → α → Meter} (h : ∀ (g : Meter) x, g.Quiet (f g x)) (l : List α) (m : Meter) : m.Quiet (l.foldl f m) :=
  List.foldlRecOn (motive := m.Quiet) l f (refl m) fun g hg x _ => hg.trans (h g x)

/-- With a good retained memory SUPPLY_RETURN and the latched seal changes are recorded. -/
theorem supplyReturn_good (m : Meter) (n : Nat) : m.Quiet (m.supplyReturn n true) := by
  refine (within m n).trans ?_
  unfold Meter.supplyReturn
  extract_lets m₁ m₂ m₃ m₄
  split
  · exact refl _
  · have back : m₁.Quiet m₂ := .same {}
    have returned : m₂.Quiet m₃ := event _ 8 _
    have seals : m₃.Quiet m₄ := foldl (fun g e => .put g _) _ _
    exact back.trans (returned.trans (seals.trans (.same {})))

theorem backupCheck (m : Meter) (low : Bool) : m.Quiet (m.backupCheck low) := by
  unfold Meter.backupCheck
  split
  · exact refl m
  · exact .same {}

/-! ### Requests of the Meter Link -/

theorem sync (m : Meter) (seq : Nat) : m.Quiet (m.sync seq) := by
  unfold Meter.sync
  split
  · exact refl m
  · exact .same {}

/-- A request does at most what its own part does. -/
theorem request {k : Meter → Meter} (m : Meter) (seq : Nat) (h : m.Quiet (k m)) : m.Quiet (m.request seq k) := by
  unfold Meter.request
  split
  · exact refl m
  · split
    · split
      · exact .same {}
      · exact h
    · exact h

theorem readValues (m : Meter) (seq : Nat) : m.Quiet (m.readValues seq) := request m seq (.same {})

theorem readRecord (m : Meter) (seq rseq : Nat) : m.Quiet (m.readRecord seq rseq) := request m seq (.same {})

theorem readIdentity (m : Meter) (seq : Nat) : m.Quiet (m.readIdentity seq) := request m seq (.same {})

theorem readStatus (m : Meter) (seq : Nat) : m.Quiet (m.readStatus seq) := request m seq (.same {})

theorem writeMark (m : Meter) (n seq : Nat) (d : List Word) : m.Quiet (m.writeMark n seq d) := by
  refine (within m n).trans (request _ seq ?_)
  dsimp only
  split
  · exact .same {}
  · split
    · exact .same {}
    · split
      · exact .same {}
      · exact .trans (.put _ _) (.same {})

theorem unknownType (m : Meter) (type seq : Nat) : m.Quiet (m.unknownType type seq) := by
  unfold Meter.unknownType
  split
  · exact refl m
  · exact request m seq (.same {})

/-! ### Requests of the calibration port -/

/-- A request of the calibration port does nothing of its own, or what its own part does. -/
theorem calRequest (m : Meter) (type seq : Nat) (k : Meter → Meter × Nat × List Word) :
    m.Quiet (m.calRequest type seq k) ∨ (k m).1.Quiet (m.calRequest type seq k) := by
  unfold Meter.calRequest
  split
  · exact .inl (refl m)
  · dsimp only
    split
    · exact .inl (.same {})
    · exact .inr (.same {})

theorem paramRead (m : Meter) (seq : Nat) : m.Quiet (m.paramRead seq) := (calRequest m 0x42 seq _).elim id id

end Meter.Quiet

/-- A bit is burnt and a set added (R506, R507). -/
def Meter.addSet (m : Meter) (p : List Word) : Meter := { m with eventCount := m.eventCount + 1, params := m.params ++ [p] }

/-- A bit is burnt and a new time waits (R506, Table 14.8). -/
def Meter.awaitTime (m : Meter) (cal : Nat) : Meter := { m with eventCount := m.eventCount + 1, newTime := some (cal % 2 ^ 64) }

namespace Meter.Quiet

/-- PARAM_WRITE burns a bit only for the set that it adds (R506). -/
theorem paramWrite (m : Meter) (n seq : Nat) (p : List Word) : m.Quiet (m.paramWrite n seq p) ∨
    m.eventCount < 1023 ∧ ((m.within n).addSet p).Quiet (m.paramWrite n seq p) := by
  have ticks := within m n
  refine (calRequest (m.within n) 0x40 seq _).elim (fun h => .inl (ticks.trans h)) fun h => ?_
  change Meter.Quiet _ (m.paramWrite n seq p) at h
  dsimp only at h
  split at h
  · exact .inl (ticks.trans h)
  · next open_ =>
    split at h
    · exact .inl (ticks.trans h)
    · have count : (m.within n).eventCount < 1023 := by simp_all
      exact .inr ⟨ticks.steady.eventCount ▸ count, (event _ 4 _).trans h⟩

/-- TIME_SET burns a bit only for the time that it has wait (R506). -/
theorem timeSet (m : Meter) (n seq cal : Nat) : m.Quiet (m.timeSet n seq cal) ∨
    m.eventCount < 1023 ∧ ((m.within n).awaitTime cal).Quiet (m.timeSet n seq cal) := by
  have ticks := within m n
  refine (calRequest (m.within n) 0x41 seq _).elim (fun h => .inl (ticks.trans h)) fun h => ?_
  change Meter.Quiet _ (m.timeSet n seq cal) at h
  split at h
  · exact .inl (ticks.trans h)
  · have count : (m.within n).eventCount < 1023 := by simp_all
    exact .inr ⟨ticks.steady.eventCount ▸ count, h⟩

end Meter.Quiet

/-- What an instruction can do to the meter die. -/
inductive Meter.Effect (m : Meter) : Instr → Meter → Prop
  | quiet {i : Instr} {t : Meter} : m.Quiet t → Effect m i t
  | signs : Effect m .meterRecordSigned m.recordSigned
  | loses (n : Nat) : Effect m (.meterSupplyReturn n false) (m.supplyReturn n false)
  | addsSet {n seq : Nat} {p : List Word} {t : Meter} : m.eventCount < 1023 → ((m.within n).addSet p).Quiet t →
      Effect m (.paramWrite n seq p) t
  | setsTime {n seq cal : Nat} {t : Meter} : m.eventCount < 1023 → ((m.within n).awaitTime cal).Quiet t →
      Effect m (.timeSet n seq cal) t

theorem exec_effect {t : State} (h : exec i s = .next t) : s.meter.Effect i t.meter := by
  cases hi : onMeterDie i with
  | false =>
    obtain ⟨gate, g, e⟩ := exec_fabric hi s
    have kept : t.meter = s.meter := by
      rw [e, State.onFabric] at h
      obtain rfl := Host.Outcome.next.inj h
      split <;> rfl
    rw [kept]
    exact .quiet (.refl _)
  | true =>
    have acts {u : Meter} (k : s.meter.Effect i u) (e : exec i s = .next { s with meter := u }) : s.meter.Effect i t.meter := by
      rw [e] at h
      obtain rfl := Host.Outcome.next.inj h
      exact k
    cases i with
    | meterCalendarTick => exact acts (.quiet (.calendarTick _)) rfl
    | meterSample n v c => exact acts (.quiet (.sample _ n v c)) rfl
    | meterSealChange n o => exact acts (.quiet (.sealChange _ n o)) rfl
    | meterSupplyLoss n => exact acts (.quiet (.supplyLoss _ n)) rfl
    | meterSupplyReturn n good =>
      cases good with
      | true => exact acts (.quiet (.supplyReturn_good _ n)) rfl
      | false => exact acts (.loses n) rfl
    | meterBackupCheck low => exact acts (.quiet (.backupCheck _ low)) rfl
    | meterRecordSigned => exact acts .signs rfl
    | sync seq => exact acts (.quiet (.sync _ seq)) rfl
    | readValues seq => exact acts (.quiet (.readValues _ seq)) rfl
    | readRecord seq rseq => exact acts (.quiet (.readRecord _ seq rseq)) rfl
    | writeMark n seq d => exact acts (.quiet (.writeMark _ n seq d)) rfl
    | readIdentity seq => exact acts (.quiet (.readIdentity _ seq)) rfl
    | readStatus seq => exact acts (.quiet (.readStatus _ seq)) rfl
    | mtlUnknownType type seq => exact acts (.quiet (.unknownType _ type seq)) rfl
    | paramWrite n seq p => exact acts ((Meter.Quiet.paramWrite s.meter n seq p).elim .quiet fun k => .addsSet k.1 k.2) rfl
    | timeSet n seq cal => exact acts ((Meter.Quiet.timeSet s.meter n seq cal).elim .quiet fun k => .setsTime k.1 k.2) rfl
    | paramRead seq => exact acts (.quiet (.paramRead _ seq)) rfl
    | _ => nomatch hi

end Sys2Proof.Machine
end

section
/-!
SUPPORT. The audit log (R500–R502): writing a record and signing one keep `Meter.LogInv`, and so does every step.
-/
namespace Sys2Proof.Machine

variable {m t : Meter} {s : State} {i : Instr}

/-- The records that await signature are the newest ones. -/
theorem Meter.LogInv.mem_waiting (h : m.LogInv) (n : Nat) : n ∈ m.waiting ↔ m.rseq ≤ n + m.waiting.length ∧ n < m.rseq := by
  obtain ⟨-, hle, -, hw, -⟩ := h
  rw [hw, List.mem_range'_1, List.length_range']
  omega

/-- A record's low word carries its RSEQ. -/
theorem fld_rseq (v n : Nat) : fld (pack [(63, 32, v), (31, 0, n)]) 31 0 = n % 2 ^ 32 := by
  rw [fld_pack_cons_other (by omega), fld_pack_cons_same (by omega) (by simp)]

/-- A record is written where fewer than 8 await signature; of those that wait for room, only their number's bound is asked. -/
theorem Meter.LogInv.write (ws : List Word) (h : ({ m with overflow := [] } : Meter).LogInv) (room : m.waiting.length < 8)
    (full : m.overflow ≠ [] → m.waiting.length = 7) : (m.write ws).LogInv := by
  have waits := h.mem_waiting
  obtain ⟨-, hle, -, hw, hrec⟩ := h
  obtain ⟨prev, free, -, e⟩ := m.write_eq ws
  dsimp only at waits hle hw hrec
  have other {n k : Nat} (hn : n < k) (hk : k < n + 16384) : k % 16384 ≠ n % 16384 := by omega
  rw [e]
  refine ⟨?_, ?_, fun ho => ?_, ?_, fun n hn hwin => ?_⟩
  · simpa using room
  · simpa using hle
  · simp [full ho]
  · have start : m.rseq + 1 - (m.waiting.length + 1) = m.rseq - m.waiting.length := by omega
    have last : m.rseq - m.waiting.length + m.waiting.length = m.rseq := by omega
    simp only [List.length_append, List.length_singleton, start, List.range'_1_concat, last, ← hw]
  · dsimp only at hn hwin ⊢
    obtain rfl | hlt : n = m.rseq ∨ n < m.rseq := by omega
    · exact ⟨_, Map.find_set_same _ _ _, fld_rseq _ _, fun _ => rfl, fun hnot => absurd (List.mem_append_right _ (List.mem_singleton_self _)) hnot⟩
    · obtain ⟨r, found, num, pending, signed⟩ := hrec n hlt (by omega)
      have stays {k : Nat} (hk : k < m.rseq) (hwk : m.rseq + 1 ≤ k + 16384) (x : Record) :
          (m.recs.set (m.rseq % 16384) x).find (k % 16384) = m.recs.find (k % 16384) :=
        Map.find_set_other _ _ _ _ (other hk (by omega))
      have same : n ∈ m.waiting ++ [m.rseq] ↔ n ∈ m.waiting := by simp [Nat.ne_of_lt hlt]
      refine ⟨r, (stays hlt hwin _).trans found, num, fun hmem => pending (same.mp hmem), fun hnot => ?_⟩
      obtain ⟨sig, first, chain⟩ := signed fun hmem => hnot (same.mpr hmem)
      exact ⟨sig, first, fun q h0 hq hfind => chain q h0 (by omega) ((stays (by omega) hq _).symm.trans hfind)⟩

theorem Meter.LogInv.put (ws : List Word) (h : m.LogInv) : (m.put ws).LogInv := by
  obtain ⟨h8, hle, hfull, hw, hrec⟩ := h
  by_cases room : m.room
  · rw [Meter.put_room room]
    exact .write ws ⟨h8, hle, fun ho => absurd rfl ho, hw, hrec⟩ room.2 fun ho => absurd room.1 ho
  · rw [Meter.put_full room]
    refine ⟨h8, hle, fun _ => ?_, hw, hrec⟩
    by_contra few
    have none : m.overflow = [] := by by_contra ho; exact few (hfull ho)
    exact room ⟨none, Nat.lt_of_le_of_ne h8 few⟩

theorem Meter.LogInv.quiet (k : m.Quiet t) (h : m.LogInv) : t.LogInv := by
  induction k with
  | same same =>
    rw [Meter.LogInv, same.waiting, same.rseq, same.overflow, same.recs]
    exact h
  | put m ws => exact h.put ws
  | trans _ _ ih ih' => exact ih' (ih h)

/-! ### Signing -/

/-- The first pending record after its signature, under a given PREV. -/
def Record.signed (r : Record) (prev : Word) : Record :=
  { words := takePad 7 r.words ++ [prev], sig := takePad 8 (Config.meterSign (bytesOf (takePad 7 r.words ++ [prev]) 64)) }

/-- PREV of record `n`: zero at 0, else that of its predecessor. -/
def Meter.prevOf (m : Meter) (n : Nat) (old : Word) : Word :=
  if n = 0 then 0 else match m.recs.find ((n - 1) % 16384) with
    | some q => q.chain
    | none => old

/-- The meter after its first pending record was signed, before one that waits for room is written. -/
def Meter.signFirst (m : Meter) (n : Nat) (rest : List Nat) (r : Record) : Meter :=
  { m with recs := m.recs.set (n % 16384) (r.signed (m.prevOf n (wd r.words 7))), waiting := rest }

theorem Meter.recordSigned_idle (h : m.backup = true ∨ m.waiting = []) : m.recordSigned = m := by
  unfold Meter.recordSigned
  split
  · next hb hw => simp [hb, hw] at h
  · rfl

/-- Under main power the first pending record is signed. -/
theorem Meter.recordSigned_last {n : Nat} {rest : List Nat} {r : Record} (hb : m.backup = false) (hw : m.waiting = n :: rest)
    (hr : m.recs.find (n % 16384) = some r) (ho : m.overflow = []) : m.recordSigned = m.signFirst n rest r := by
  simp only [Meter.recordSigned, Meter.signFirst, hb, hw, hr, ho]
  rfl

/-- The first record that waits for room is written into the room that a signature makes. -/
theorem Meter.recordSigned_more {n : Nat} {rest : List Nat} {r : Record} {o : List Word} {os : List (List Word)} (hb : m.backup = false)
    (hw : m.waiting = n :: rest) (hr : m.recs.find (n % 16384) = some r) (ho : m.overflow = o :: os) :
    m.recordSigned = ({ m.signFirst n rest r with overflow := os } : Meter).write o := by
  simp only [Meter.recordSigned, Meter.signFirst, hb, hw, hr, ho]
  rfl

theorem Record.signed_prev (r : Record) (prev : Word) : wd (r.signed prev).words 7 = prev := by
  simp [Record.signed, wd, length_takePad]

/-- A signature leaves RSEQ. -/
theorem Record.signed_first (r : Record) (prev : Word) : wd (r.signed prev).words 0 = wd r.words 0 := by
  rw [← wd_takePad (n := 7) (by decide) r.words]
  exact List.getD_append _ _ _ _ (by simp)

/-- A record that awaits signature is held. -/
theorem Meter.LogInv.held (h : m.LogInv) {n : Nat} (hn : n ∈ m.waiting) :
    n < m.rseq ∧ m.rseq ≤ n + 8 ∧ ∃ r, m.recs.find (n % 16384) = some r ∧ fld (wd r.words 0) 31 0 = n % 2 ^ 32 := by
  have newest := (h.mem_waiting n).mp hn
  obtain ⟨h8, -, -, -, hrec⟩ := h
  obtain ⟨r, found, num, -⟩ := hrec n newest.2 (by omega)
  exact ⟨newest.2, by omega, r, found, num⟩

/-- Signing the first pending record under the PREV of its predecessor keeps the chain. -/
theorem Meter.LogInv.signFirst {n : Nat} {rest : List Nat} {r : Record} (h : m.LogInv) (hw : m.waiting = n :: rest)
    (hr : m.recs.find (n % 16384) = some r) : ({ m.signFirst n rest r with overflow := [] } : Meter).LogInv := by
  have waits := h.mem_waiting
  obtain ⟨hlt, hnew, r', found, num⟩ := h.held (hw ▸ List.mem_cons_self)
  obtain rfl : r = r' := Option.some.inj (hr.symm.trans found)
  obtain ⟨h8, hle, -, hrange, hrec⟩ := h
  have size : m.waiting.length = rest.length + 1 := by rw [hw]; rfl
  have first : n = m.rseq - m.waiting.length ∧ rest = List.range' (m.rseq - m.waiting.length + 1) rest.length := by
    rw [size, List.range'_succ] at hrange
    rw [size]
    exact List.cons.inj (hw.symm.trans hrange)
  obtain ⟨hn, hrest⟩ := first
  refine ⟨?_, ?_, fun ho => absurd rfl ho, ?_, fun k hk hwin => ?_⟩
  · dsimp only [Meter.signFirst]
    omega
  · dsimp only [Meter.signFirst]
    omega
  · have start : m.rseq - m.waiting.length + 1 = m.rseq - rest.length := by omega
    rw [start] at hrest
    exact hrest
  · dsimp only [Meter.signFirst] at hk hwin ⊢
    generalize hp : m.prevOf n (wd r.words 7) = prev
    have stays {j : Nat} (hj : j < m.rseq) (hwj : m.rseq ≤ j + 16384) (hne : j ≠ n) :
        (m.recs.set (n % 16384) (r.signed prev)).find (j % 16384) = m.recs.find (j % 16384) :=
      Map.find_set_other _ _ _ _ (by omega)
    have later (j : Nat) : j ∈ rest ↔ n < j ∧ j < m.rseq := by
      rw [hrest, List.mem_range'_1]
      omega
    obtain rfl | hne := eq_or_ne k n
    · refine ⟨r.signed prev, Map.find_set_same _ _ _, by rw [r.signed_first, num], fun hmem => absurd ((later k).mp hmem).1 (by omega), fun _ =>
        ⟨rfl, fun h0 => ?_, fun q h0 hq hfind => ?_⟩⟩
      · rw [r.signed_prev, ← hp, Meter.prevOf, if_pos h0]
      · have before : m.recs.find ((k - 1) % 16384) = some q := (stays (by omega) hq (by omega)).symm.trans hfind
        rw [r.signed_prev, ← hp, Meter.prevOf, if_neg h0, before]
        rfl
    · obtain ⟨x, there, xnum, pending, signed⟩ := hrec k hk hwin
      have same : k ∈ rest ↔ k ∈ m.waiting := by simp [hw, hne]
      refine ⟨x, (stays hk hwin hne).trans there, xnum, fun hmem => pending (same.mp hmem), fun hnot => ?_⟩
      obtain ⟨sig, atZero, chain⟩ := signed fun hmem => hnot (same.mpr hmem)
      refine ⟨sig, atZero, fun q h0 hq hfind => chain q h0 hq ((stays (by omega) hq fun e => hnot ((later k).mpr ?_)).symm.trans hfind)⟩
      omega

theorem Meter.LogInv.recordSigned (h : m.LogInv) : m.recordSigned.LogInv := by
  by_cases idle : m.backup = true ∨ m.waiting = []
  · rwa [Meter.recordSigned_idle idle]
  · push Not at idle
    obtain ⟨hb, hpend⟩ := idle
    obtain ⟨n, rest, hw⟩ := List.exists_cons_of_ne_nil hpend
    obtain ⟨-, -, r, hr, -⟩ := h.held (hw ▸ List.mem_cons_self)
    have hb : m.backup = false := by simpa using hb
    have chain := h.signFirst hw hr
    obtain ⟨h8, -, hfull, -⟩ := h
    have size : m.waiting.length = rest.length + 1 := by rw [hw]; rfl
    cases ho : m.overflow with
    | nil =>
      obtain ⟨c8, cle, -, cw, crec⟩ := chain
      rw [Meter.recordSigned_last hb hw hr ho]
      exact ⟨c8, cle, fun hne => absurd ho hne, cw, crec⟩
    | cons o os =>
      have room : rest.length = 7 := by have := hfull (by simp [ho]); omega
      rw [Meter.recordSigned_more hb hw hr ho]
      exact Meter.LogInv.write (m := { m.signFirst n rest r with overflow := os }) o chain (by dsimp only [Meter.signFirst]; omega) fun _ => room

/-! ### A new era (R492) -/

/-- The meter when the retained memory fails its check, before LOG_RESET is recorded. -/
def Meter.wiped (m : Meter) : Meter :=
  { m with backup := false, era := min 255 (m.era + 1), eraExhausted := m.eraExhausted || 255 ≤ m.era, recs := [], rseq := 0, waiting := [],
           overflow := [], latched := [], marks := [], energy := 0, residue := 0, cal := 0, calValid := false, newTime := none,
           kept := none, keptCal := none }

theorem Meter.supplyReturn_main {n : Nat} {good : Bool} (hb : (m.within n).backup = false) : m.supplyReturn n good = m.within n := by
  simp [Meter.supplyReturn, hb]

theorem Meter.supplyReturn_bad {n : Nat} (hb : (m.within n).backup = true) :
    m.supplyReturn n false = (m.within n).wiped.event 6 (w64 (m.within n).wiped.era) := by
  simp only [Meter.supplyReturn, hb]
  rfl

theorem Meter.wiped_logInv (m : Meter) : m.wiped.LogInv :=
  ⟨Nat.zero_le 8, Nat.le_refl 0, fun h => absurd rfl h, rfl, fun _ hn => absurd hn (Nat.not_lt_zero _)⟩

theorem Meter.LogInv.supplyReturn_bad (n : Nat) (h : m.LogInv) : (m.supplyReturn n false).LogInv := by
  cases hb : (m.within n).backup with
  | true =>
    rw [Meter.supplyReturn_bad hb]
    exact (Meter.wiped_logInv _).put _
  | false =>
    rw [Meter.supplyReturn_main hb]
    exact h.quiet (.within m n)

/-! ### Every step -/

theorem Meter.LogInv.effect (k : m.Effect i t) (h : m.LogInv) : t.LogInv := by
  cases k with
  | quiet k => exact h.quiet k
  | signs => exact h.recordSigned
  | loses n => exact h.supplyReturn_bad n
  | @addsSet n _ p _ _ k =>
    have ticks : (m.within n).LogInv := h.quiet (.within m n)
    have added : ((m.within n).addSet p).LogInv := ticks
    exact added.quiet k
  | @setsTime n _ cal _ _ k =>
    have ticks : (m.within n).LogInv := h.quiet (.within m n)
    have awaits : ((m.within n).awaitTime cal).LogInv := ticks
    exact awaits.quiet k

theorem Meter.signFirst_steady (m : Meter) (n : Nat) (rest : List Nat) (r : Record) : m.Steady (m.signFirst n rest r) := {}

theorem Meter.recordSigned_steady (m : Meter) : m.Steady m.recordSigned := by
  by_cases idle : m.backup = true ∨ m.waiting = []
  · rw [Meter.recordSigned_idle idle]
    exact {}
  · push Not at idle
    obtain ⟨hb, hpend⟩ := idle
    obtain ⟨n, rest, hw⟩ := List.exists_cons_of_ne_nil hpend
    have hb : m.backup = false := by simpa using hb
    cases hr : m.recs.find (n % 16384) with
    | none =>
      have skipped : m.recordSigned = { m with waiting := rest } := by simp [Meter.recordSigned, hb, hw, hr]
      rw [skipped]
      exact {}
    | some r =>
      have signed := m.signFirst_steady n rest r
      cases ho : m.overflow with
      | nil => rwa [Meter.recordSigned_last hb hw hr ho]
      | cons o os =>
        have taken : (m.signFirst n rest r).Steady { m.signFirst n rest r with overflow := os } := {}
        rw [Meter.recordSigned_more hb hw hr ho]
        exact signed.trans (taken.trans (Meter.write_logs _ o).steady)

theorem Meter.supplyReturn_bad_steady (m : Meter) (n : Nat) : m.Steady (m.supplyReturn n false) := by
  have ticks := (Meter.Quiet.within m n).steady
  cases hb : (m.within n).backup with
  | true =>
    have wiped : (m.within n).Steady (m.within n).wiped := { newTime := fun _ => rfl }
    rw [Meter.supplyReturn_bad hb]
    exact ticks.trans (wiped.trans (Meter.Quiet.event _ 6 _).steady)
  | false => rwa [Meter.supplyReturn_main hb]

/-- EVENT_COUNT rises by one, below 1,023, with a PARAM_WRITE or a TIME_SET that takes effect; else it stays, with the sets (R506). -/
theorem Meter.Effect.burns (k : m.Effect i t) : m.Steady t ∨ m.eventCount < 1023 ∧ t.eventCount = m.eventCount + 1 ∧
    ((∃ n q p, i = .paramWrite n q p ∧ t.params = m.params ++ [p] ∧ (m.newTime = none → t.newTime = none)) ∨
      ∃ n q c, i = .timeSet n q c ∧ t.params = m.params) := by
  cases k with
  | quiet k => exact .inl k.steady
  | signs => exact .inl m.recordSigned_steady
  | loses n => exact .inl (m.supplyReturn_bad_steady n)
  | @addsSet n q p _ count k =>
    obtain ⟨tc, tp, tt⟩ := (Meter.Quiet.within m n).steady
    obtain ⟨kc, kp, kt⟩ := k.steady
    exact .inr ⟨count, kc.trans (congrArg (· + 1) tc), .inl ⟨n, q, p, rfl, kp.trans (congrArg (· ++ [p]) tp), fun h => kt (tt h)⟩⟩
  | @setsTime n q cal _ count k =>
    obtain ⟨tc, tp, -⟩ := (Meter.Quiet.within m n).steady
    obtain ⟨kc, kp, -⟩ := k.steady
    exact .inr ⟨count, kc.trans (congrArg (· + 1) tc), .inr ⟨n, q, cal, rfl, kp.trans tp⟩⟩

end Sys2Proof.Machine

namespace Sys2Proof.Proofs
open Sys2Proof.Machine

/-- Settles O4: a row of `exec` is a lift of one die's change. -/
theorem diesAreSeparate : Obligations.DiesAreSeparate := by
  intro i s t h
  refine ⟨fun hi => ?_, fun hi => ?_⟩
  · obtain ⟨g, e⟩ := exec_meter hi
    obtain rfl := Host.Outcome.next.inj ((e s).symm.trans h)
    rfl
  · obtain ⟨gate, g, e⟩ := exec_fabric hi s
    obtain rfl := Host.Outcome.next.inj (e.symm.trans h)
    split <;> rfl

/-- Settles O56: the only record awaits its signature. -/
theorem logIsAChainAtReset : Obligations.LogIsAChainAtReset := by
  refine ⟨by decide, by decide, fun h => absurd rfl h, rfl, fun n hn _ => ?_⟩
  obtain rfl : n = 0 := Nat.lt_one_iff.mp hn
  exact ⟨_, rfl, by decide, fun _ => rfl, fun hnot => absurd List.mem_cons_self hnot⟩

/-- Settles O57: writing and signing keep the chain, a new era begins one, and nothing else touches the log. -/
theorem auditLogStaysAChain : Obligations.AuditLogStaysAChain := by
  intro s t h e
  cases hp : s.pending with
  | nil =>
    rw [step_idle hp] at e
    obtain rfl := Host.Outcome.next.inj e
    exact h
  | cons i rest =>
    rw [step, hp] at e
    exact Meter.LogInv.effect (exec_effect e) h

end Sys2Proof.Proofs
end

section
/-!
SUPPORT. The calibration port of the meter die (R486, R506, R507, Table 14.8): one lemma for each way in which a request is answered.
-/
namespace Sys2Proof.Machine

variable {m w : Meter} {n seq type cal st : Nat} {p r : List Word}

/-! ### Ticks that pass before a request -/

/-- Ticks move CAL; what a new time that takes effect records goes to the log. -/
theorem Meter.advance_logs (m : Meter) (n : Nat) : ∃ cal valid new, Meter.Logs { m with cal := cal, calValid := valid, newTime := new } (m.advance n) := by
  unfold Meter.advance
  split
  · exact ⟨m.cal, m.calValid, m.newTime, _, _, _, _, _, rfl⟩
  · split
    · exact ⟨_, m.calValid, m.newTime, _, _, _, _, _, rfl⟩
    · next c hc =>
      obtain ⟨_, _, _, _, _, e⟩ := Meter.put_logs { m with cal := c, calValid := true, newTime := none } _
      dsimp only [Meter.event]
      rw [e]
      exact ⟨_, true, none, _, _, _, _, _, rfl⟩

theorem Meter.within_logs (m : Meter) (n : Nat) : ∃ cal valid new, Meter.Logs { m with cal := cal, calValid := valid, newTime := new } (m.within n) := by
  unfold Meter.within
  split
  · exact m.advance_logs n
  · exact m.advance_logs _

/-! ### Requests and their answers -/

/-- A response goes out on the wires of the calibration port. -/
def Meter.calGives (m : Meter) (r : List Word) : Meter := { m with calAnswer := r, calLine := m.calLine.send (frameBits r) }

theorem response_nil (type status seq : Nat) : response type status seq [] = [pack [(31, 24, status), (15, 8, seq), (7, 0, 0x80 + type)]] := by
  simp [response, frameHeader, pack]

theorem Meter.calRequest_kept {k : Meter → Meter × Nat × List Word} (hb : m.backup = false) (hk : m.keptCal = some (seq % 256, r)) :
    m.calRequest type seq k = m.calGives r := by
  unfold Meter.calRequest
  rw [if_neg (by simp [hb])]
  simp [Meter.calGives, hk]

/-- A request under a SEQ that the calibration port does not keep finds main power. -/
structure Meter.CalNew (m : Meter) (seq : Nat) : Prop where
  main : m.backup = false
  new : m.keptCal.map Prod.fst ≠ some (seq % 256)

theorem Meter.CalNew.within (h : m.CalNew seq) (n : Nat) : (m.within n).CalNew seq := by
  obtain ⟨_, _, _, _, _, _, _, _, e⟩ := m.within_logs n
  rw [e]
  exact ⟨h.main, h.new⟩

/-- A request that is new is served and answered; with status 0 its response is kept. -/
theorem Meter.CalNew.request {k : Meter → Meter × Nat × List Word} {g : Meter} {body : List Word} (h : m.CalNew seq) (hk : k m = (g, st, body)) :
    m.calRequest type seq k =
      ({ g with keptCal := if st = 0 then some (seq % 256, response type st (seq % 256) body) else g.keptCal } : Meter).calGives
        (response type st (seq % 256) body) := by
  unfold Meter.calRequest
  rw [if_neg (by simp [h.main]), hk]
  cases hc : m.keptCal with
  | none => rfl
  | some x =>
    have new : x.1 ≠ seq % 256 := by simpa [hc] using h.new
    simp only [if_neg new]
    rfl

/-- PARAM_WRITE and TIME_SET find the seal closed or no event left. -/
def Meter.Shut (m : Meter) : Prop := m.sealOpen = false ∨ 1023 ≤ m.eventCount

theorem Meter.paramWrite_shut (hw : m.within n = w) (h : w.CalNew seq) (hs : w.Shut ∨ 32 ≤ w.params.length) :
    m.paramWrite n seq p = w.calGives (response 0x40 2 (seq % 256) []) := by
  have shut : (!w.sealOpen || decide (1023 ≤ w.eventCount) || decide (32 ≤ w.params.length)) = true := by
    simpa [Meter.Shut] using hs
  rw [Meter.paramWrite, hw]
  exact h.request (st := 2) (if_pos shut)

theorem Meter.timeSet_shut (hw : m.within n = w) (h : w.CalNew seq) (hs : w.Shut) :
    m.timeSet n seq cal = w.calGives (response 0x41 2 (seq % 256) []) := by
  have shut : (!w.sealOpen || decide (1023 ≤ w.eventCount)) = true := by simpa [Meter.Shut] using hs
  rw [Meter.timeSet, hw]
  exact h.request (st := 2) (if_pos shut)

theorem Meter.paramWrite_bad (hw : m.within n = w) (h : w.CalNew seq) (hs : ¬ w.Shut) (hroom : w.params.length < 32)
    (hp : onlyBits (wd p 3) [(15, 0)] = false) : m.paramWrite n seq p = w.calGives (response 0x40 3 (seq % 256) []) := by
  have free : ¬ (!w.sealOpen || decide (1023 ≤ w.eventCount) || decide (32 ≤ w.params.length)) = true := by
    simpa [Meter.Shut, hroom] using hs
  have bad : (p.length != 4 || !onlyBits (wd p 3) [(15, 0)]) = true := by simp [hp]
  rw [Meter.paramWrite, hw]
  exact h.request (st := 3) ((if_neg free).trans (if_pos bad))

/-- PARAM_WRITE of a valid set burns a bit for it and records it. -/
theorem Meter.paramWrite_adds (hw : m.within n = w) (h : w.CalNew seq) (hs : ¬ w.Shut) (hroom : w.params.length < 32)
    (hlen : p.length = 4) (hp : onlyBits (wd p 3) [(15, 0)] = true) :
    m.paramWrite n seq p =
      ({ (w.addSet p).event 4 (wd (Config.sha512 (bytesOf p 32)) 0) with
          keptCal := some (seq % 256, response 0x40 0 (seq % 256) []) } : Meter).calGives (response 0x40 0 (seq % 256) []) := by
  have free : ¬ (!w.sealOpen || decide (1023 ≤ w.eventCount) || decide (32 ≤ w.params.length)) = true := by
    simpa [Meter.Shut, hroom] using hs
  have sound : ¬ (p.length != 4 || !onlyBits (wd p 3) [(15, 0)]) = true := by simp [hlen, hp]
  rw [Meter.paramWrite, hw]
  exact h.request (st := 0) ((if_neg free).trans (if_neg sound))

/-- TIME_SET with the seal open burns a bit, and the new time waits for the next tick. -/
theorem Meter.timeSet_awaits (hw : m.within n = w) (h : w.CalNew seq) (hs : ¬ w.Shut) :
    m.timeSet n seq cal = ({ w.awaitTime cal with keptCal := some (seq % 256, response 0x41 0 (seq % 256) []) } : Meter).calGives
      (response 0x41 0 (seq % 256) []) := by
  have free : ¬ (!w.sealOpen || decide (1023 ≤ w.eventCount)) = true := by simpa [Meter.Shut] using hs
  rw [Meter.timeSet, hw]
  exact h.request (st := 0) (if_neg free)

theorem Meter.paramWrite_kept (hw : m.within n = w) (hb : w.backup = false) (hk : w.keptCal = some (seq % 256, r)) :
    m.paramWrite n seq p = w.calGives r := by
  rw [Meter.paramWrite, hw]
  exact Meter.calRequest_kept hb hk

theorem Meter.timeSet_kept (hw : m.within n = w) (hb : w.backup = false) (hk : w.keptCal = some (seq % 256, r)) :
    m.timeSet n seq cal = w.calGives r := by
  rw [Meter.timeSet, hw]
  exact Meter.calRequest_kept hb hk

theorem Meter.inForceSet_length (m : Meter) : m.inForceSet.length = 4 := by
  unfold Meter.inForceSet
  split <;> simp [zeros]

theorem Meter.paramRead_shut (h : m.CalNew seq) (hs : m.sealOpen = false) :
    m.paramRead seq = m.calGives (response 0x42 2 (seq % 256) []) := by
  refine h.request (st := 2) (g := m) (body := []) ?_
  simp [hs]

theorem Meter.paramRead_open (h : m.CalNew seq) (hs : m.sealOpen = true) :
    let r := response 0x42 0 (seq % 256) (m.inForceSet ++ [w64 (m.inForce - 1)])
    m.paramRead seq = ({ m with keptCal := some (seq % 256, r) } : Meter).calGives r := by
  refine h.request (st := 0) (g := m) (body := m.inForceSet ++ [w64 (m.inForce - 1)]) ?_
  simp [hs]

end Sys2Proof.Machine

namespace Sys2Proof.Proofs
open Sys2Proof.Machine

/-- Settles O55: `Meter.Effect.burns` for every step, and the refusals of the calibration port with no event left. -/
theorem eventCountBurnsOncePerChange : Obligations.EventCountBurnsOncePerChange := by
  intro s
  refine ⟨fun i t h => ?_, fun n q c p hq hb hfull hk => ?_⟩
  · dsimp only
    obtain ⟨count, sets, time⟩ | ⟨room, count, burnt⟩ := (exec_effect h).burns
    · exact ⟨.inl count, fun hle => count ▸ hle, fun hne => absurd sets hne, fun h0 h1 => absurd (time h0) h1⟩
    · rcases burnt with ⟨n, q, p, rfl, sets, time⟩ | ⟨n, q, c, rfl, sets⟩
      · exact ⟨.inr ⟨.inl ⟨n, q, p, rfl⟩, room, count⟩, fun _ => by omega, fun _ => ⟨⟨n, q, p, rfl, sets⟩, count⟩, fun h0 h1 => absurd (time h0) h1⟩
      · exact ⟨.inr ⟨.inr ⟨n, q, c, rfl⟩, room, count⟩, fun _ => by omega, fun hne => absurd sets hne, fun _ _ => ⟨⟨n, q, c, rfl⟩, count⟩⟩
  · have hseq : q % 256 = q := Nat.mod_eq_of_lt hq
    have new : (s.meter.within n).CalNew q := Meter.CalNew.within ⟨hb, by rwa [hseq]⟩ n
    have shut : (s.meter.within n).Shut := .inr ((Meter.Quiet.within s.meter n).steady.eventCount ▸ hfull)
    refine ⟨⟨_, rfl, ?_⟩, ⟨_, rfl, ?_⟩⟩
    · dsimp only
      rw [Meter.paramWrite_shut rfl new (.inl shut), hseq, response_nil]
      rfl
    · dsimp only
      rw [Meter.timeSet_shut rfl new shut, hseq, response_nil]
      rfl

end Sys2Proof.Proofs
end

section
/-!
SUPPORT. What a record of the meter holds (R500, Table 14.6), and the ticks that pass while no new time waits (R490, log entry 89).
-/
namespace Sys2Proof.Machine

variable {m t u : Meter} {n : Nat}

/-! ### The words of a record -/

/-- The first seven words of the record that an event writes under RSEQ `n`. -/
theorem Meter.latch_words (m : Meter) (n kind cal : Nat) (arg : Word) (source markKind markNo bell : Nat) :
    let ws := m.latch kind cal arg source markKind markNo bell
    pack [(63, 32, fld (wd ws 0) 63 32), (31, 0, n)] :: (ws.drop 1).take 6 =
      [ pack [(55, 48, m.flags), (47, 40, kind), (39, 32, m.era), (31, 0, n)], w64 cal, w64 m.energy,
        pack [(39, 32, source), (31, 24, markKind), (23, 16, m.inForce - 1), (9, 0, m.eventCount)], arg, w64 markNo, w64 bell ] := by
  refine List.cons_eq_cons.mpr ⟨pack_fld_cons (fs := [(55, 48, m.flags), (47, 40, kind), (39, 32, m.era)]) ?_, rfl⟩
  simp

/-- A record is written unsigned, with its words, under RSEQ. -/
theorem Meter.write_latch (m : Meter) (kind cal : Nat) (arg : Word) (source markKind markNo bell : Nat) :
    ∃ r free, m.write (m.latch kind cal arg source markKind markNo bell) =
        { m with recs := m.recs.set (m.rseq % 16384) r, rseq := m.rseq + 1, waiting := m.waiting ++ [m.rseq], free := free } ∧
      r.sig = [] ∧ r.words.take 7 =
        [ pack [(55, 48, m.flags), (47, 40, kind), (39, 32, m.era), (31, 0, m.rseq)], w64 cal, w64 m.energy,
          pack [(39, 32, source), (31, 24, markKind), (23, 16, m.inForce - 1), (9, 0, m.eventCount)], arg, w64 markNo, w64 bell ] := by
  obtain ⟨prev, free, -, e⟩ := m.write_eq (m.latch kind cal arg source markKind markNo bell)
  rw [m.latch_words m.rseq kind cal arg source markKind markNo bell] at e
  exact ⟨_, free, e, rfl, rfl⟩

/-- Recording an event keeps what does not depend on the log. -/
theorem Meter.event_keeps {α : Type} (get : Meter → α) (m : Meter) (kind : Nat) (arg : Word)
    (h : ∀ recs rseq waiting overflow free,
      get { m with recs := recs, rseq := rseq, waiting := waiting, overflow := overflow, free := free } = get m) :
    get (m.event kind arg) = get m := by
  obtain ⟨_, _, _, _, _, e⟩ := m.put_logs (m.latch kind m.cal arg 0 0 0 0)
  rw [Meter.event, e]
  exact h _ _ _ _ _

section
variable (kind : Nat) (arg : Word)
@[simp] theorem Meter.event_cal : (m.event kind arg).cal = m.cal := m.event_keeps Meter.cal kind arg fun _ _ _ _ _ => rfl
@[simp] theorem Meter.event_calValid : (m.event kind arg).calValid = m.calValid := m.event_keeps Meter.calValid kind arg fun _ _ _ _ _ => rfl
@[simp] theorem Meter.event_newTime : (m.event kind arg).newTime = m.newTime := m.event_keeps Meter.newTime kind arg fun _ _ _ _ _ => rfl
@[simp] theorem Meter.event_energy : (m.event kind arg).energy = m.energy := m.event_keeps Meter.energy kind arg fun _ _ _ _ _ => rfl
@[simp] theorem Meter.event_eventCount : (m.event kind arg).eventCount = m.eventCount := m.event_keeps Meter.eventCount kind arg fun _ _ _ _ _ => rfl
@[simp] theorem Meter.event_params : (m.event kind arg).params = m.params := m.event_keeps Meter.params kind arg fun _ _ _ _ _ => rfl
@[simp] theorem Meter.event_inForce : (m.event kind arg).inForce = m.inForce := m.event_keeps Meter.inForce kind arg fun _ _ _ _ _ => rfl
@[simp] theorem Meter.event_sealOpen : (m.event kind arg).sealOpen = m.sealOpen := m.event_keeps Meter.sealOpen kind arg fun _ _ _ _ _ => rfl
@[simp] theorem Meter.event_latched : (m.event kind arg).latched = m.latched := m.event_keeps Meter.latched kind arg fun _ _ _ _ _ => rfl
@[simp] theorem Meter.event_backup : (m.event kind arg).backup = m.backup := m.event_keeps Meter.backup kind arg fun _ _ _ _ _ => rfl
@[simp] theorem Meter.event_overNow : (m.event kind arg).overNow = m.overNow := m.event_keeps Meter.overNow kind arg fun _ _ _ _ _ => rfl
@[simp] theorem Meter.event_lastOver : (m.event kind arg).lastOver = m.lastOver := m.event_keeps Meter.lastOver kind arg fun _ _ _ _ _ => rfl
end

/-- An event that happens now is recorded, or waits for room. -/
theorem Meter.event_wrote (m : Meter) (kind : Nat) (arg : Word) : m.wrote (m.event kind arg) kind m.cal arg := by
  refine ⟨fun room => ?_, fun full => ?_⟩
  · obtain ⟨r, free, e, unsigned, words⟩ := m.write_latch kind m.cal arg 0 0 0 0
    rw [pack_cons_zero, pack_cons_zero] at words
    rw [Meter.event, Meter.put_room room, e]
    exact ⟨rfl, rfl, room.1, r, Map.find_set_same _ _ _, unsigned, words⟩
  · rw [Meter.event, Meter.put_full full]
    exact ⟨rfl, rfl, rfl, by simp⟩

/-- What a later change leaves of the log, of FLAGS and of EVENT_COUNT stays recorded. -/
theorem Meter.wrote.of_same {kind cal : Nat} {arg : Word} (h : m.wrote t kind cal arg) (same : t.Same u) (flags : u.flags = t.flags) :
    m.wrote u kind cal arg := by
  rw [Meter.wrote, same.rseq, same.waiting, same.overflow, same.recs, flags, same.eventCount]
  exact h

/-! ### Ticks that pass while no new time waits -/

theorem Meter.advance_now (hn : m.newTime = none) (hlt : m.cal + n < 2 ^ 64) : m.advance n = { m with cal := m.cal + n } := by
  unfold Meter.advance
  split
  · next h0 => rw [h0]; rfl
  · split
    · rw [Nat.mod_eq_of_lt hlt]
    · next hc => simp [hn] at hc

/-- An event between two marks, or one on backup, comes its ticks after the last one. -/
theorem Meter.within_now (hn : m.newTime = none) (hin : m.backup = true ∨ m.cal % 4096 + n < 4096) (hlt : m.cal + n < 2 ^ 64) :
    m.within n = { m with cal := m.cal + n } := by
  by_cases hb : m.backup = true
  · rw [Meter.within, if_pos hb, Meter.advance_now hn hlt]
  · have short := hin.resolve_left hb
    have phase : m.phase = m.cal % 4096 := by rw [Meter.phase, hn]
    have all : min n (4095 - m.cal % 4096) = n := by omega
    rw [Meter.within, if_neg hb, phase, all, Meter.advance_now hn hlt]

theorem Meter.advance_toMark (hn : m.newTime = none) (hlt : m.cal + (4096 - m.cal % 4096) < 2 ^ 64) :
    m.advance (4096 - m.phase) = { m with cal := m.cal + (4096 - m.cal % 4096) } := by
  have phase : m.phase = m.cal % 4096 := by rw [Meter.phase, hn]
  rw [phase, Meter.advance_now hn hlt]

end Sys2Proof.Machine
end

section
/-!
SUPPORT. Samples, calendar marks and the check of the backup voltage (R487–R491, R494, R507).
-/
namespace Sys2Proof.Machine

variable {m w : Meter} {n : Nat} {p : List Word} {vCode iCode : Int}

/-- The offset of a channel with its sign, which is open (log entry 82). -/
def offsetOf (w : Word) : Int := if Config.offsetSubtracted then - signed 32 (fld w 63 32) else signed 32 (fld w 63 32)

/-- A channel's reading: gain times code with offset (R487). -/
def reading (w : Word) (code : Int) : Int := fld w 31 0 * (code + offsetOf w)

theorem Meter.inForceSet_eq (h0 : 0 < m.inForce) (hp : m.params[m.inForce - 1]? = some p) (hlen : p.length = 4) : m.inForceSet = p := by
  rw [Meter.inForceSet, if_neg (by omega), List.getD_eq_getElem?_getD, hp, Option.getD_some, takePad_of_length hlen]

/-- A sample under main power: energy to the register, the readings to the window (R488, R489). -/
theorem Meter.sample_main (hw : m.within n = w) (hb : w.backup = false) (hp : w.inForceSet = p) :
    let v := reading (wd p 0) vCode
    let i := reading (wd p 1) iCode
    let add := w.residue + 5 * (v * i).toNat
    m.sample n vCode iCode = { w with
      energy := w.energy + add / (18 * 2 ^ 78), residue := add % (18 * 2 ^ 78), sumV := w.sumV + v, sumI := w.sumI + i, sumP := w.sumP + v * i
      maxP := if w.samples = 0 then v * i else max w.maxP (v * i), samples := w.samples + 1
      overNow := w.overNow || decide (vCode ≥ 2 ^ 23 - 1 ∨ vCode ≤ -(2 ^ 23) ∨ iCode ≥ 2 ^ 23 - 1 ∨ iCode ≤ -(2 ^ 23)) } := by
  intro v i add
  have largest : (if w.samples = 0 || w.maxP < v * i then v * i else w.maxP) = if w.samples = 0 then v * i else max w.maxP (v * i) := by
    by_cases h0 : w.samples = 0
    · simp [h0]
    · simp only [h0, decide_false, Bool.false_or, decide_eq_true_eq, if_false]
      split <;> omega
  have overrange : (w.overNow || (decide (2 ^ 23 - 1 ≤ vCode) || decide (vCode ≤ -(2 ^ 23))) || (decide (2 ^ 23 - 1 ≤ iCode) || decide (iCode ≤ -(2 ^ 23)))) =
      (w.overNow || decide (vCode ≥ 2 ^ 23 - 1 ∨ vCode ≤ -(2 ^ 23) ∨ iCode ≥ 2 ^ 23 - 1 ∨ iCode ≤ -(2 ^ 23))) := by
    simp only [ge_iff_le, Bool.decide_or, Bool.or_assoc]
  rw [← largest, ← overrange]
  unfold Meter.sample
  rw [hw]
  dsimp only
  rw [if_neg (by simp [hb]), hp]
  rfl

theorem Meter.sample_backup (hb : (m.within n).backup = true) : m.sample n vCode iCode = m.within n := by
  simp [Meter.sample, hb]

@[simp] theorem Meter.sendTick_tickFrame (m : Meter) : m.sendTick.tickFrame = m.tick := rfl

theorem Meter.sendTick_line (m : Meter) : m.sendTick.line = m.line.mark.send (frameBits m.sendTick.tickFrame) := by
  rw [Meter.sendTick_tickFrame, Meter.sendTick]

/-- A mark under main power: what the closed window, and its record where one falls due, leave is sent with the TICK frame. -/
theorem Meter.calendarTick_main (hn : m.newTime = none) (hb : m.backup = false) (hlt : m.cal + (4096 - m.cal % 4096) < 2 ^ 64) :
    let mark := m.cal + (4096 - m.cal % 4096)
    ∃ free v i p x u, m.calendarTick = Meter.sendTick u ∧ (({ m with cal := mark } : Meter).closed free v i p x).Logs u ∧
      (m.overNow = true → m.lastOver = false → m.wrote u 9 mark (w64 mark)) ∧
      (m.overNow = false ∨ m.lastOver = true → u.recs = m.recs ∧ u.rseq = m.rseq ∧ u.waiting = m.waiting ∧ u.overflow = m.overflow) ∧
      ExactIn (m.sumV * 1000000) (m.samples * 2 ^ 32) v ∧ ExactIn (m.sumI * 1000) (m.samples * 2 ^ 32) i ∧
      ExactIn (m.sumP * 1000) (m.samples * 2 ^ 64) p ∧ ExactIn (m.maxP * 1000) (b2n (m.samples != 0) * 2 ^ 64) x := by
  have ticks := Meter.advance_toMark hn hlt
  obtain ⟨free, v, i, p, x, e, exact⟩ := Meter.calendarTick_eq (show (m.advance (4096 - m.phase)).backup = false by rw [ticks]; exact hb)
  rw [ticks] at e exact
  refine ⟨free, v, i, p, x, _, e, ?_, fun now last => ?_, fun calm => ?_, exact⟩
  · split
    · exact Meter.put_logs _ _
    · exact ⟨_, _, _, _, _, rfl⟩
  · rw [if_pos (by simp [now, last])]
    exact (({ m with cal := m.cal + (4096 - m.cal % 4096) } : Meter).closed free v i p x).event_wrote 9 _
  · have none : ¬ (m.overNow && !m.lastOver) = true := by
      rcases calm with now | last
      · simp [now]
      · simp [last]
    rw [if_neg none]
    exact ⟨rfl, rfl, rfl, rfl⟩

/-- An exact average is the one integer of which the sum is that multiple. -/
theorem ExactIn.average {sum u : Int} {k unit v : Nat} (h : ExactIn sum (k * unit) v) (hk : k ≠ 0) (hu : unit ≠ 0) (cast : u = unit) :
    ∀ q : Nat, q < 2 ^ 32 → sum = q * (k * u) → (v : Int) = q :=
  fun q hq e => congrArg Nat.cast (h (Nat.mul_ne_zero hk hu) q hq (by rw [e, cast]; push_cast; rfl))

end Sys2Proof.Machine

namespace Sys2Proof.Proofs
open Sys2Proof.Machine

/-- Settles O50: one lemma for each of the three events, under main power and on backup (the bounds of full scale are log entry 91, the
mark before the TICK log entry 169). -/
theorem meterMeasures : Obligations.MeterMeasures := by
  intro s hn m mark
  refine ⟨fun hb hmark => ⟨fun n vCode iCode p hin h0 hp hlen => ?_, ?_, fun low => ?_⟩, fun hb hmark => ⟨fun n v i hlt => ?_, ?_, fun low => ?_⟩⟩
  · have ticks : m.within n = { m with cal := m.cal + n } := Meter.within_now hn (.inr hin) (by omega)
    have sampled := Meter.sample_main (vCode := vCode) (iCode := iCode) ticks hb (Meter.inForceSet_eq h0 hp hlen)
    intro off v i full
    have energy : (if v * i < 0 then 0 else 5 * (v * i).toNat) = 5 * (v * i).toNat := by
      split
      · next neg => rw [Int.toNat_of_nonpos (Int.le_of_lt neg)]
      · rfl
    refine yields_meter rfl sampled ⟨?_, Nat.mod_lt _ (by decide), rfl⟩
    rw [energy, Nat.add_mul, Nat.add_assoc, Nat.div_add_mod', Nat.add_assoc]
    rfl
  · obtain ⟨free, v, i, p, x, u, e, logs, wrote, calm, hv, hi, hpw, hx⟩ := Meter.calendarTick_main hn hb hmark
    refine yields_meter rfl e ?_
    obtain ⟨recs, rseq, waiting, overflow, free', rfl⟩ := logs
    refine ⟨rfl, rfl, rfl, rfl, fun hk => ⟨hv.average hk (by decide) (by norm_num), hi.average hk (by decide) (by norm_num),
        hpw.average hk (by decide) (by norm_num), fun q hq hm => ?_⟩,
      rfl, rfl, rfl, rfl, rfl, rfl, rfl, rfl, rfl, rfl, ?_, Meter.sendTick_line _, wrote, calm⟩
    · have one : b2n (m.samples != 0) = 1 := by simp [hk, b2n]
      rw [one] at hx
      exact hx (by decide) q hq (by rw [hm]; push_cast; ring)
    · have head : frameHeader 0 16 0 0x90 = pack [(23, 16, 16), (7, 0, 0x90)] := by decide
      exact congrArg (· :: _) head
  · exact meters_of rfl (if_neg (Bool.eq_false_iff.mp hb))
  · have ticks : m.within n = { m with cal := m.cal + n } := Meter.within_now hn (.inl hb) hlt
    exact meters_of rfl ((Meter.sample_backup (by rw [ticks]; exact hb)).trans ticks)
  · have ticks := Meter.advance_toMark hn hmark
    exact meters_of rfl ((Meter.calendarTick_backup (by rw [ticks]; exact hb)).trans ticks)
  · exact meters_of rfl (if_pos hb)

end Sys2Proof.Proofs
end

section
/-!
SUPPORT. Seal, supply and signatures (R491, R492, R501, R502, R505, R538, R545).
-/
namespace Sys2Proof.Machine

variable {m w : Meter} {n : Nat} {o : Bool}

/-! ### The seal -/

theorem Meter.sealChange_same (hw : m.within n = w) (ho : w.sealOpen = o) : m.sealChange n o = w := by
  rw [Meter.sealChange, hw]
  exact if_pos ho

theorem Meter.sealChange_main (hw : m.within n = w) (ho : w.sealOpen ≠ o) (hb : w.backup = false) :
    m.sealChange n o = ({ w with sealOpen := o } : Meter).event (if o then 2 else 3) 0 := by
  rw [Meter.sealChange, hw]
  exact (if_neg ho).trans (if_neg (Bool.eq_false_iff.mp hb))

/-- On backup a seal change is latched with its CAL (R538). -/
theorem Meter.sealChange_backup (hw : m.within n = w) (ho : w.sealOpen ≠ o) (hb : w.backup = true) :
    m.sealChange n o = { w with sealOpen := o, latched := w.latched ++ [(o, w.cal)] } := by
  rw [Meter.sealChange, hw]
  exact (if_neg ho).trans (if_pos hb)

/-! ### The supply -/

theorem Meter.supplyLoss_backup (hw : m.within n = w) (hb : w.backup = true) : m.supplyLoss n = w := by
  rw [Meter.supplyLoss, hw]
  exact if_pos hb

/-- SUPPLY_LOSS is recorded; on backup nothing is measured. -/
theorem Meter.supplyLoss_main (hw : m.within n = w) (hb : w.backup = false) :
    m.supplyLoss n =
      { w.event 7 0 with backup := true, backupSince := w.cal, sumV := 0, sumI := 0, sumP := 0, maxP := 0, samples := 0, overNow := false } := by
  obtain ⟨_, _, _, _, _, e⟩ := w.put_logs (w.latch 7 w.cal 0 0 0 0 0)
  rw [Meter.supplyLoss, hw, Meter.event, e]
  exact if_neg (Bool.eq_false_iff.mp hb)

theorem Meter.latched_none (h : m.latched = []) : { m with latched := [] } = m := by rw [← h]

/-- With a good retained memory and no seal change latched, SUPPLY_RETURN is recorded with the ticks spent on backup. -/
theorem Meter.supplyReturn_good (hw : m.within n = w) (hb : w.backup = true) (hl : w.latched = []) :
    m.supplyReturn n true = ({ w with backup := false } : Meter).event 8 (w64 (w.cal + 2 ^ 64 - w.backupSince)) := by
  have none : (({ w with backup := false } : Meter).event 8 (w64 (w.cal + 2 ^ 64 - w.backupSince))).latched = [] :=
    (Meter.event_latched 8 _).trans hl
  unfold Meter.supplyReturn
  rw [hw]
  extract_lets m₁ m₂ m₃ m₄
  have seals : m₄ = m₃ := by
    unfold m₄
    rw [none]
    rfl
  rw [if_neg (by simp [m₁, hb]), if_neg (by simp), seals]
  exact Meter.latched_none none

/-- A difference of two ticks is the same on a counter of 64 bits. -/
theorem w64_add_sub {a b : Nat} (h : b ≤ a) : w64 (a + 2 ^ 64 - b) = w64 (a - b) := by
  refine BitVec.eq_of_toNat_eq ?_
  simp only [w64, BitVec.toNat_ofNat]
  omega

/-- The first record of a new era (R492). -/
theorem Meter.wiped_event (m : Meter) (arg : Word) : ∃ r free, m.wiped.event 6 arg = { m.wiped with recs := [(0, r)], rseq := 1, waiting := [0], free := free } ∧
    r.sig = [] ∧ r.words = [pack [(55, 48, m.wiped.flags), (47, 40, 6), (39, 32, m.wiped.era)], 0, 0,
      pack [(23, 16, m.inForce - 1), (9, 0, m.eventCount)], arg, 0, 0, 0] := by
  have room : m.wiped.room := ⟨rfl, Nat.zero_lt_succ 7⟩
  obtain ⟨prev, free, first, e⟩ := m.wiped.write_eq (m.wiped.latch 6 m.wiped.cal arg 0 0 0 0)
  rw [Meter.event, Meter.put_room room, e, m.wiped.latch_words m.wiped.rseq 6 m.wiped.cal arg 0 0 0 0, first rfl]
  refine ⟨_, free, rfl, rfl, ?_⟩
  have word : pack [(55, 48, m.wiped.flags), (47, 40, 6), (39, 32, m.wiped.era), (31, 0, m.wiped.rseq)] =
      pack [(55, 48, m.wiped.flags), (47, 40, 6), (39, 32, m.wiped.era)] := by
    simp [pack, Meter.wiped]
  rw [word, pack_cons_zero, pack_cons_zero]
  rfl

end Sys2Proof.Machine

namespace Sys2Proof.Proofs
open Sys2Proof.Machine

/-- Settles O51: one lemma for each event, under main power and on backup; a record waits for room where 8 await signature (log entry 83). -/
theorem sealAndSupplyAreRecorded : Obligations.SealAndSupplyAreRecorded := by
  intro s hn m
  refine ⟨fun n hb hin hlt => ?_, fun n hb hlt => ?_, fun h => meters_of rfl (Meter.recordSigned_idle h), fun n rest r q hb hw ho hr hq hlen => ?_⟩
  · have ticks : m.within n = { m with cal := m.cal + n } := Meter.within_now hn (.inr hin) hlt
    refine ⟨fun o hne => ?_, fun o same => ?_, ?_, fun good => ?_⟩
    · exact yields_meter rfl (Meter.sealChange_main ticks hne hb)
        ⟨Meter.event_sealOpen _ _, Meter.event_cal _ _, Meter.event_wrote { m with cal := m.cal + n, sealOpen := o } _ 0, Meter.event_eventCount _ _⟩
    · exact meters_of rfl (Meter.sealChange_same ticks same)
    · exact yields_meter rfl (Meter.supplyLoss_main ticks hb)
        ⟨rfl, rfl, Meter.event_cal _ _, Meter.event_wrote { m with cal := m.cal + n } 7 0, rfl, Meter.event_energy _ _, Meter.event_eventCount _ _⟩
    · exact meters_of rfl ((Meter.supplyReturn_main (by rw [ticks]; exact hb)).trans ticks)
  · have ticks : m.within n = { m with cal := m.cal + n } := Meter.within_now hn (.inl hb) hlt
    refine ⟨fun o hne => ?_, ?_, fun hl hsince => ?_, ?_⟩
    · exact meters_of rfl (Meter.sealChange_backup ticks hne hb)
    · exact meters_of rfl (Meter.supplyLoss_backup ticks hb)
    · have returned := Meter.event_wrote { m with cal := m.cal + n, backup := false } 8 (w64 (m.cal + n + 2 ^ 64 - m.backupSince))
      have spent := w64_add_sub hsince
      refine yields_meter rfl (Meter.supplyReturn_good ticks hb hl) ⟨Meter.event_backup _ _, Meter.event_cal _ _, ?_, Meter.event_energy _ _, Meter.event_eventCount _ _⟩
      rw [← spent]
      exact returned
    · obtain ⟨r, free, e, unsigned, words⟩ := Meter.wiped_event { m with cal := m.cal + n } (w64 (Meter.wiped { m with cal := m.cal + n }).era)
      have begins := Meter.supplyReturn_bad (show (m.within n).backup = true by rw [ticks]; exact hb)
      rw [ticks, e] at begins
      exact yields_meter rfl begins ⟨rfl, rfl, rfl, rfl, rfl, rfl, rfl, rfl, rfl, rfl, rfl, r, rfl, unsigned, words⟩
  · have signed := Meter.recordSigned_last hb hw hr ho
    have prev : m.prevOf (n + 1) (wd r.words 7) = q.chain := by
      rw [Meter.prevOf, if_neg (Nat.succ_ne_zero n), Nat.add_sub_cancel, hq]
    refine meters_of rfl (signed.trans ?_)
    rw [Meter.signFirst, prev, Record.signed, takePad_eq_take (by omega)]
    rfl

end Sys2Proof.Proofs
end

section
/-!
SUPPORT. TIME_SET at its tick (R490, Table 14.8, log entry 85): the new time is CAL from that tick on, and is recorded.
-/
namespace Sys2Proof.Machine

variable {m : Meter} {n c : Nat}

/-- The meter at the tick at which a new time becomes CAL. -/
def Meter.setTime (m : Meter) (c : Nat) : Meter :=
  ({ m with cal := c, calValid := true, newTime := none } : Meter).event 5 (w64 ((m.cal + 1) % 2 ^ 64))

theorem Meter.advance_sets (hc : m.newTime = some c) (h0 : n ≠ 0) : m.advance n = { m.setTime c with cal := (c + (n - 1)) % 2 ^ 64 } := by
  simp only [Meter.advance, if_neg h0, hc]
  rfl

/-- The mark after a new time is the next multiple of 4,096 from it on. -/
theorem Meter.advance_toNewMark (hc : m.newTime = some c) (hlt : c + 4096 < 2 ^ 64) :
    m.advance (4096 - m.phase) = { m.setTime c with cal := c + (4096 - c % 4096) % 4096 } := by
  have phase : m.phase = (c + 4095) % 4096 := by rw [Meter.phase, hc]
  have ticks : (c + (4096 - (c + 4095) % 4096 - 1)) % 2 ^ 64 = c + (4096 - c % 4096) % 4096 := by omega
  rw [phase, Meter.advance_sets hc (by omega), ticks]

theorem Meter.setTime_wrote (hlt : m.cal + 1 < 2 ^ 64) : m.wrote (m.setTime c) 5 c (w64 (m.cal + 1)) := by
  have recorded := Meter.event_wrote { m with cal := c, calValid := true, newTime := none } 5 (w64 ((m.cal + 1) % 2 ^ 64))
  rw [Nat.mod_eq_of_lt hlt] at recorded
  rw [Meter.setTime, Nat.mod_eq_of_lt hlt]
  exact recorded

/-- A mark that closes a window within range leaves FLAGS. -/
theorem Meter.closed_flags {free v i p x : Nat} (h : m.lastOver = m.overNow) : (m.closed free v i p x).sendTick.flags = m.flags := by
  simp only [Meter.flags, h]
  rfl

/-- The mark after a TIME_SET, of a window within range: nothing but the new time is recorded. -/
theorem Meter.calendarTick_newTime (hc : m.newTime = some c) (hlt : c + 4096 < 2 ^ 64) (hnow : m.overNow = false) (hlast : m.lastOver = false) :
    (m.setTime c).Same m.calendarTick ∧ m.calendarTick.flags = (m.setTime c).flags ∧ m.calendarTick.cal = c + (4096 - c % 4096) % 4096 ∧
      m.calendarTick.calValid = (m.setTime c).calValid ∧ m.calendarTick.newTime = (m.setTime c).newTime := by
  have ticks := Meter.advance_toNewMark hc hlt
  have over_ : (m.setTime c).overNow = false := (Meter.event_overNow 5 _).trans hnow
  have last : (m.setTime c).lastOver = false := (Meter.event_lastOver 5 _).trans hlast
  cases hb : (m.advance (4096 - m.phase)).backup with
  | true =>
    rw [Meter.calendarTick_backup hb, ticks]
    exact ⟨{}, rfl, rfl, rfl, rfl⟩
  | false =>
    obtain ⟨free, v, i, p, x, e, -⟩ := Meter.calendarTick_eq hb
    rw [ticks] at e
    rw [if_neg (by simp [over_])] at e
    rw [e]
    exact ⟨{}, Meter.closed_flags (last.trans over_.symm), rfl, rfl, rfl⟩

end Sys2Proof.Machine

namespace Sys2Proof.Proofs
open Sys2Proof.Machine

/-- Settles O54: the mark after a TIME_SET, and one lemma for each answer of the calibration port (records, layouts and refusals are log
entries 83, 85 and 88). -/
theorem calibrationNeedsTheSealOpen : Obligations.CalibrationNeedsTheSealOpen := by
  refine ⟨fun s c hc hlt hcal hnow hlast => ?_, fun s n seq cal p hn hb hseq hcal hin hlt => ?_⟩
  · obtain ⟨same, flags, time, valid, new⟩ := Meter.calendarTick_newTime hc hlt hnow hlast
    exact yields_meter rfl rfl ⟨time, valid.trans (Meter.event_calValid 5 _), new.trans (Meter.event_newTime 5 _),
      (Meter.setTime_wrote hcal).of_same same flags⟩
  · intro m head closed gives
    have mod : seq % 256 = seq := Nat.mod_eq_of_lt hseq
    have ticks : s.meter.within n = m := Meter.within_now hn (.inr hin) hlt
    refine ⟨fun r hr => ?_, fun hk => ?_⟩
    · have kept : m.keptCal = some (seq % 256, r) := by rw [mod]; exact hr
      exact ⟨meters_of rfl (Meter.paramWrite_kept ticks hb kept), meters_of rfl (Meter.timeSet_kept ticks hb kept), meters_of rfl (Meter.calRequest_kept hb kept)⟩
    · have new : m.CalNew seq := ⟨hb, by rw [mod]; exact hk⟩
      have before : s.meter.CalNew seq := ⟨hb, new.new⟩
      refine ⟨fun h => ?_, fun h hroom _ hp => ?_, fun h hroom hlen hp => ?_, fun h => ?_, fun h => ?_, fun h => ?_, fun h => ?_⟩
      · have e := Meter.paramWrite_shut (p := p) ticks new h
        rw [mod] at e
        exact meters_of rfl e
      · have e := Meter.paramWrite_bad ticks new h hroom hp
        rw [mod] at e
        exact meters_of rfl e
      · have e := Meter.paramWrite_adds ticks new h hroom hlen hp
        rw [mod] at e
        exact yields_meter rfl e ⟨Meter.event_params 4 _, Meter.event_inForce 4 _, Meter.event_eventCount 4 _, rfl, rfl, Meter.event_energy 4 _,
          (m.addSet p).event_wrote 4 _⟩
      · have e := Meter.timeSet_shut (cal := cal) ticks new h
        rw [mod] at e
        exact meters_of rfl e
      · have e := Meter.timeSet_awaits (cal := cal) ticks new h
        rw [mod, Meter.awaitTime, Nat.mod_eq_of_lt hcal] at e
        exact meters_of rfl e
      · have e := Meter.paramRead_shut before h
        rw [mod] at e
        exact meters_of rfl e
      · have e := Meter.paramRead_open before h
        rw [mod, response, List.length_append, Meter.inForceSet_length] at e
        exact meters_of rfl e

end Sys2Proof.Proofs
end

section
/-!
SUPPORT. Requests of the Meter Link at the meter die (R485, R495–R497, R500, R504, Table 14.4).
-/
namespace Sys2Proof.Machine

variable {m w : Meter} {n seq rseq type : Nat} {r : List Word} {k : Meter → Meter}

/-! ### How a request is answered -/

/-- A response goes out on the wires of the link. -/
def Meter.gives (m : Meter) (r : List Word) : Meter := ({ m with answer := r } : Meter).drive r

/-- A response that is kept under its SEQ goes out. -/
def Meter.keeps (m : Meter) (type seq : Nat) (body : List Word) : Meter :=
  ({ m with kept := some (seq, response type 0 seq body) } : Meter).gives (response type 0 seq body)

theorem Meter.executed_eq (hseq : seq < 256) (type : Nat) (body : List Word) : m.executed type seq body = m.keeps type seq body := by
  rw [Meter.executed, Nat.mod_eq_of_lt hseq]
  rfl

theorem Meter.turned_eq (hseq : seq < 256) (type status : Nat) : m.turned type seq status = m.gives (response type status seq []) := by
  rw [Meter.turned, Nat.mod_eq_of_lt hseq]
  rfl

theorem Meter.request_backup (hb : m.backup = true) : m.request seq k = m := if_pos hb

theorem Meter.request_kept (hseq : seq < 256) (hb : m.backup = false) (hk : m.kept = some (seq, r)) : m.request seq k = m.gives r := by
  have same : seq = seq % 256 := (Nat.mod_eq_of_lt hseq).symm
  unfold Meter.request
  rw [if_neg (Bool.eq_false_iff.mp hb)]
  split
  · next x y hx =>
    obtain ⟨rfl, rfl⟩ := Prod.mk.inj (Option.some.inj (hk.symm.trans hx))
    exact if_pos same
  · next hx => simp [hk] at hx

theorem Meter.request_new (hseq : seq < 256) (hb : m.backup = false) (hk : m.kept.map Prod.fst ≠ some seq) : m.request seq k = k m := by
  unfold Meter.request
  rw [if_neg (Bool.eq_false_iff.mp hb)]
  cases hc : m.kept with
  | none => rfl
  | some x =>
    have other : ¬ x.1 = seq % 256 := by
      rw [Nat.mod_eq_of_lt hseq]
      simpa [hc] using hk
    exact if_neg other

/-! ### Reads -/

theorem Meter.sync_main (hseq : seq < 256) (hb : m.backup = false) : m.sync seq = ({ m with kept := none } : Meter).gives (response 0 0 seq []) := by
  rw [Meter.sync, if_neg (Bool.eq_false_iff.mp hb), Nat.mod_eq_of_lt hseq]
  rfl

theorem Meter.record_held {x : Record} (hlt : rseq < m.rseq) (hwin : m.rseq ≤ rseq + 16384) (hx : m.recs.find (rseq % 16384) = some x)
    (hlen : x.words.length = 8) : m.record rseq = x.words ++ takePad 8 x.sig := by
  simp [Meter.record, hx, hlt, hwin, takePad_of_length hlen]

/-- A number that is not written yet, or that is overwritten, reads zeros (R500). -/
theorem Meter.record_gone (h : m.rseq ≤ rseq ∨ rseq + 16384 < m.rseq) : m.record rseq = zeros 16 := by
  have out : ¬ (decide (rseq < m.rseq) && decide (m.rseq ≤ rseq + 16384)) = true := by
    simp only [Bool.and_eq_true, decide_eq_true_eq]
    omega
  unfold Meter.record
  split
  · exact if_neg out
  · rfl

/-- A request of another type is turned away with REFUSED or BAD (R485, log entry 86). -/
theorem Meter.unknownType_new (hseq : seq < 256) (ht : 5 < type) (ht' : type < 128) (hb : m.backup = false) (hk : m.kept.map Prod.fst ≠ some seq) :
    ∃ st ∈ [2, 3], m.unknownType type seq = ({ m with free := m.free + 1 } : Meter).gives (response type st seq []) := by
  refine ⟨if (Config.meterValue m.free).toNat % 2 = 1 then 2 else 3, by split <;> simp, ?_⟩
  rw [Meter.unknownType, if_neg (by omega), Meter.request_new hseq hb hk, Meter.draw, Nat.mod_eq_of_lt ht']
  exact Meter.turned_eq hseq type _

/-! ### WRITE_MARK (R504) -/

/-- What a well-formed WRITE_MARK names. -/
structure MarkPayload (d : List Word) (ses bell : Word) (kind no src : Nat) : Prop where
  sound : markBad d = false
  ses : wd d 0 = ses
  bell : wd d 2 = bell
  kind : fld (wd d 1) 33 32 = kind
  no : fld (wd d 1) 31 0 = no
  src : fld (wd d 1) 47 40 = src

theorem markPayload {ses bell : Word} {kind no src : Nat} (hk : kind < 3) (hno : no < 2 ^ 32) (hsrc : src < 256) :
    MarkPayload [ses, pack [(31, 0, no), (33, 32, kind), (47, 40, src)], bell, 0, 0] ses bell kind no src := by
  have fkind : fld (pack [(31, 0, no), (33, 32, kind), (47, 40, src)]) 33 32 = kind := by
    rw [fld_pack_cons_other (by omega), fld_pack_cons_fits (by omega) (by simp) (by omega)]
  have fno : fld (pack [(31, 0, no), (33, 32, kind), (47, 40, src)]) 31 0 = no := fld_pack_cons_fits (by omega) (by simp) (by omega)
  have fsrc : fld (pack [(31, 0, no), (33, 32, kind), (47, 40, src)]) 47 40 = src := by
    rw [fld_pack_cons_other (by omega), fld_pack_cons_other (by omega), fld_pack_cons_fits (by omega) (by simp) (by omega)]
  have fields : onlyBits (pack [(31, 0, no), (33, 32, kind), (47, 40, src)]) [(33, 0), (47, 40)] = true := onlyBits_pack (by simp)
  refine ⟨?_, rfl, rfl, fkind, fno, fsrc⟩
  have none : kind ≠ 3 := by omega
  simp [markBad, wd, fields, fkind, none]

/-- The mark of a WRITE_MARK is one of the last 64. -/
def sameMark (ses : Word) (kind no : Nat) (x : Nat × Nat × Nat × Nat) : Bool := x.1 == ses.toNat && x.2.1 == kind && x.2.2.1 == no

section
variable {d : List Word} {ses bell : Word} {kind no src : Nat} (hd : MarkPayload d ses bell kind no src) (hw : m.within n = w) (hseq : seq < 256)
  (hb : w.backup = false) (hk : w.kept.map Prod.fst ≠ some seq)
include hd hw hseq hb hk

/-- A new WRITE_MARK: one of the last 64 marks is the same, 8 records await signature, or the record is written. -/
theorem Meter.writeMark_new : m.writeMark n seq d = match w.marks.find? (sameMark ses kind no) with
    | some x => w.executed 3 seq [pack [(31, 0, x.2.2.2), (39, 32, w.era)]]
    | none => if !w.overflow.isEmpty || 8 ≤ w.waiting.length then w.turned 3 seq 1 else
      let u := w.put (w.latch 1 w.cal ses src kind no bell.toNat)
      ({ u with marks := ((ses.toNat, kind, no, w.rseq) :: u.marks).take 64 } : Meter).executed 3 seq [pack [(31, 0, w.rseq), (39, 32, u.era)]] := by
  obtain ⟨sound, rfl, rfl, rfl, rfl, rfl⟩ := hd
  rw [Meter.writeMark, hw, Meter.request_new hseq hb hk]
  dsimp only
  rw [if_neg (Bool.eq_false_iff.mp sound)]
  rfl

theorem Meter.writeMark_repeated {x : Nat × Nat × Nat × Nat} (hx : w.marks.find? (sameMark ses kind no) = some x) :
    m.writeMark n seq d = w.keeps 3 seq [pack [(31, 0, x.2.2.2), (39, 32, w.era)]] := by
  rw [Meter.writeMark_new hd hw hseq hb hk, hx]
  exact Meter.executed_eq hseq 3 _

theorem Meter.writeMark_busy (hx : w.marks.find? (sameMark ses kind no) = none) (full : w.overflow ≠ [] ∨ 8 ≤ w.waiting.length) :
    m.writeMark n seq d = w.gives (response 3 1 seq []) := by
  have busy : (!w.overflow.isEmpty || decide (8 ≤ w.waiting.length)) = true := by simpa [List.isEmpty_iff] using full
  rw [Meter.writeMark_new hd hw hseq hb hk, hx]
  exact (if_pos busy).trans (Meter.turned_eq hseq 3 1)

theorem Meter.writeMark_writes (hx : w.marks.find? (sameMark ses kind no) = none) (room : w.room) :
    ∃ r free, m.writeMark n seq d = Meter.keeps
        { w with recs := w.recs.set (w.rseq % 16384) r, rseq := w.rseq + 1, waiting := w.waiting ++ [w.rseq], free := free
                 marks := ((ses.toNat, kind, no, w.rseq) :: w.marks).take 64 } 3 seq [pack [(31, 0, w.rseq), (39, 32, w.era)]] ∧
      r.sig = [] ∧ r.words.take 7 =
        [ pack [(55, 48, w.flags), (47, 40, 1), (39, 32, w.era), (31, 0, w.rseq)], w64 w.cal, w64 w.energy,
          pack [(39, 32, src), (31, 24, kind), (23, 16, w.inForce - 1), (9, 0, w.eventCount)], ses, w64 no, bell ] := by
  have free_ : ¬ (!w.overflow.isEmpty || decide (8 ≤ w.waiting.length)) = true := by simpa [Meter.room, List.isEmpty_iff] using room
  obtain ⟨r, free, e, unsigned, words⟩ := w.write_latch 1 w.cal ses src kind no bell.toNat
  rw [w64_toNat] at words
  refine ⟨r, free, ?_, unsigned, words⟩
  rw [Meter.writeMark_new hd hw hseq hb hk, hx]
  dsimp only
  rw [if_neg free_, Meter.put_room room, e]
  exact Meter.executed_eq hseq 3 _

end

end Sys2Proof.Machine

namespace Sys2Proof.Proofs
open Sys2Proof.Machine

/-- Settles O52: backup, a kept SEQ and a new one decide how a request is answered, and each request says what it reads. -/
theorem meterAnswersItsRequests : Obligations.MeterAnswersItsRequests := by
  intro s seq type rseq hseq ht ht' hr m all head keeps status
  have known : ¬ type ≤ 5 := by omega
  refine ⟨fun hb => ?_, fun hb => ⟨meters_of rfl (Meter.sync_main hseq hb), fun r hk => ?_, fun hk => ⟨⟨Config.meterValue m.free, ?_⟩, fun x hlt hwin hx hlen => ?_, fun h => ?_, ?_, ?_, ?_⟩⟩⟩
  · have none {k : Meter → Meter} : m.request seq k = m := Meter.request_backup hb
    simp only [all, List.forall_mem_cons]
    exact ⟨meters_of rfl (if_pos hb), meters_of rfl none, meters_of rfl none, meters_of rfl none, meters_of rfl none,
      meters_of rfl ((if_neg known).trans none), fun _ h => absurd h List.not_mem_nil⟩
  · have again {k : Meter → Meter} : m.request seq k = m.gives r := Meter.request_kept hseq hb hk
    simp only [all, List.forall_mem_cons]
    exact ⟨meters_of rfl again, meters_of rfl again, meters_of rfl again, meters_of rfl again,
      meters_of rfl ((if_neg known).trans again), fun _ h => absurd h List.not_mem_nil⟩
  · exact meters_of rfl ((Meter.request_new hseq hb hk).trans (Meter.executed_eq hseq 1 _))
  · have read : m.record (rseq % 2 ^ 32) = x.words ++ takePad 8 x.sig := by
      rw [Nat.mod_eq_of_lt hr]
      exact Meter.record_held hlt hwin hx hlen
    rw [← read]
    exact meters_of rfl ((Meter.request_new hseq hb hk).trans (Meter.executed_eq hseq 2 _))
  · have read : m.record (rseq % 2 ^ 32) = zeros 16 := by
      rw [Nat.mod_eq_of_lt hr]
      exact Meter.record_gone h
    rw [← read]
    exact meters_of rfl ((Meter.request_new hseq hb hk).trans (Meter.executed_eq hseq 2 _))
  · exact ⟨takePad 2 (Config.meterIdentity 0), takePad 4 (Config.meterIdentity 1), [pack [(31, 0, wn (Config.meterIdentity 2) 0)]],
      takePad 4 (Config.meterIdentity 3), length_takePad 2 _, length_takePad 4 _, rfl, length_takePad 4 _,
      meters_of rfl ((Meter.request_new hseq hb hk).trans (Meter.executed_eq hseq 4 _))⟩
  · exact meters_of rfl ((Meter.request_new hseq hb hk).trans (Meter.executed_eq hseq 5 _))
  · obtain ⟨st, hst, e⟩ := Meter.unknownType_new hseq ht ht' hb hk
    exact ⟨st, hst, meters_of rfl e⟩

end Sys2Proof.Proofs
end

section
/-!
SUPPORT. The Meter Link at the fabric die (R496–R499): requests out, responses and TICK frames in, and the link declared down.
-/
namespace Sys2Proof.Machine

variable {f g h : Fabric} {r : MtlReq} {frame b : List Word}

/-! ### Notices and completions leave the link as it is -/

/-- What notices and completions may change. -/
def Fabric.Told (f g : Fabric) : Prop :=
  ∃ mbxs rings hdp aon pins trc, g = { f with mbxs := mbxs, rings := rings, hdp := hdp, aon := aon, pins := pins, trc := trc }

theorem Fabric.Told.refl (f : Fabric) : f.Told f := ⟨_, _, _, _, _, _, rfl⟩

theorem Fabric.Told.trans (k : f.Told g) (k' : g.Told h) : f.Told h := by
  obtain ⟨_, _, _, _, _, _, rfl⟩ := k
  obtain ⟨_, _, _, _, _, _, rfl⟩ := k'
  exact ⟨_, _, _, _, _, _, rfl⟩

theorem Fabric.meterEvent_told (f : Fabric) (pay : List Word) : f.Told (f.meterEvent pay) := by
  obtain ⟨_, _, _, _, _, e, -⟩ := f.notify_noticed 32 (n := { code := 0x0A, pay := pay }) (show 0x0A ≠ 2 by decide)
  exact ⟨f.mbxs, _, _, _, _, _, e⟩

theorem Fabric.complete_told (f : Fabric) (m st : Nat) (r0 : Word) (resp : List Word) (len : Nat) : f.Told (f.complete m st r0 resp len) := by
  obtain ⟨_, _, _, e⟩ := f.complete_eq m st r0 resp len
  exact ⟨_, f.rings, _, f.aon, _, f.trc, e⟩

theorem Fabric.finish_told (f : Fabric) (m st r0 : Nat) (resp : List Word) (len : Nat) : f.Told (f.finish m st r0 resp len) := by
  unfold Fabric.finish
  split
  · exact f.complete_told m st (w64 r0) resp len
  · exact .refl f

theorem Fabric.foldl_told {α : Type} {step : Fabric → α → Fabric} (hs : ∀ (g : Fabric) x, g.Told (step g x)) (l : List α) (f : Fabric) :
    f.Told (l.foldl step f) :=
  List.foldlRecOn (motive := f.Told) l step (.refl f) fun g hg x _ => hg.trans (hs g x)

theorem Fabric.Told.mtl (k : f.Told g) : g.mtl = f.mtl := by
  obtain ⟨_, _, _, _, _, _, rfl⟩ := k
  rfl

/-! ### Requests -/

theorem Fabric.mtlPump_empty (hq : f.mtl.queue = []) : f.mtlPump = f := by
  unfold Fabric.mtlPump
  split
  · next hq' => simp [hq] at hq'
  · rfl

/-- The side of the link after a request went out under a new SEQ (R496). -/
def Mtl.asked (m : Mtl) (r : MtlReq) (tick : Nat) : Mtl := Mtl.drive { m with seq := (m.seq + 1) % 256, out := some r, sentAt := tick, tries := 0 }

/-- With the link up, nothing outstanding or queued and REFCLK good, a request goes out at once. -/
theorem Fabric.mtlAsk_idle (hl : f.mtl.link = 2) (ho : f.mtl.out = none) (hq : f.mtl.queue = []) (hc : f.clk.state ≠ 2) :
    f.mtlAsk r = { f with mtl := Mtl.asked { f.mtl with queue := [] } r f.tick } := by
  have up : (f.mtl.link = 2 && f.clk.state != 2) = true := by simp [hl, hc]
  unfold Fabric.mtlAsk Fabric.mtlPump Fabric.updMtl
  simp only [hq, ho, List.nil_append, up, if_true]
  rfl

/-- What sending requests may change of the link's side. -/
def Mtl.Asks (m t : Mtl) : Prop :=
  ∃ seq out line sentAt tries queue, t = { m with seq := seq, out := out, line := line, sentAt := sentAt, tries := tries, queue := queue }

theorem Fabric.mtlPump_asks (f : Fabric) : f.mtl.Asks f.mtlPump.mtl := by
  unfold Fabric.mtlPump
  split
  · split
    · exact ⟨_, _, _, _, _, _, rfl⟩
    · exact ⟨_, _, _, _, _, _, rfl⟩
  · exact ⟨_, _, _, _, _, _, rfl⟩

theorem Fabric.mtlAsk_asks (f : Fabric) (r : MtlReq) : f.mtl.Asks (f.mtlAsk r).mtl := by
  obtain ⟨_, _, _, _, _, _, e⟩ := (f.updMtl fun m => { m with queue := m.queue ++ [r] }).mtlPump_asks
  exact ⟨_, _, _, _, _, _, e⟩

theorem Fabric.nextRecord_asks (f : Fabric) : f.mtl.Asks f.nextRecord.mtl := by
  unfold Fabric.nextRecord
  split
  · split
    · exact f.mtlAsk_asks _
    · exact ⟨_, _, _, _, _, _, rfl⟩
  · exact ⟨_, _, _, _, _, _, rfl⟩

theorem Mtl.Asks.refl (m : Mtl) : m.Asks m := ⟨_, _, _, _, _, _, rfl⟩

theorem Mtl.Asks.trans {a b c : Mtl} (k : a.Asks b) (k' : b.Asks c) : a.Asks c := by
  obtain ⟨_, _, _, _, _, _, rfl⟩ := k
  obtain ⟨_, _, _, _, _, _, rfl⟩ := k'
  exact ⟨_, _, _, _, _, _, rfl⟩

/-- SYNC opens a link that is DOWN (R497, R499). -/
theorem Fabric.mtlSync_opens (hl : f.mtl.link = 0) (ho : f.mtl.out = none) (hc : f.clk.state ≠ 2)
    (hs : f.mtl.lastSync = 0 ∨ f.mtl.lastSync + 156250 ≤ f.tick) :
    f.mtlSync = { f with mtl := Mtl.asked { f.mtl with link := 1, lastSync := f.tick } { type := 0, data := [], why := .sync } f.tick } := by
  have due : ¬ (f.mtl.link != 0 || f.mtl.out.isSome || decide (f.clk.state = 2) ||
      (f.mtl.lastSync != 0 && decide (f.tick < f.mtl.lastSync + 156250))) = true := by
    simpa [hl, ho, hc, Decidable.or_iff_not_imp_left] using hs
  exact if_neg due

/-! ### A link without answer or mark -/

/-- The link's side after the link was declared down. -/
def Mtl.lostLink (m : Mtl) : Mtl := { m with link := 0, lost := true, out := none, queue := [], logs := [], tries := 0 }

theorem Fabric.mtlDown_told (f : Fabric) :
    Fabric.Told { f with mtl := f.mtl.lostLink, clk := { f.clk with windowOpen := false } } f.mtlDown := by
  unfold Fabric.mtlDown
  extract_lets clk all was f₀ f₁ f₂
  have noticed : f₁.Told f₂ := by
    unfold f₂
    split
    · exact .refl f₁
    · exact f₁.meterEvent_told _
  exact noticed.trans (Fabric.foldl_told (fun g m => g.finish_told m _ _ _ _) _ f₂)

/-! ### Responses and TICK frames -/

/-- A whole response while a request is outstanding: it counts as a frame, and only one of its SEQ and type is taken. -/
theorem Fabric.mtlResponse_good {h : Word} (ho : f.mtl.out = some r) :
    f.mtlResponse (h :: b) true =
      if fld h 15 8 != f.mtl.seq || fld h 7 0 != 0x80 + r.type then { f with mtl := { f.mtl with frames := sat32 (f.mtl.frames + 1) } }
      else (({ f with mtl := { f.mtl with frames := sat32 (f.mtl.frames + 1), out := none } } : Fabric).mtlTake r.why (fld h 31 24) b).mtlPump := by
  simp only [Fabric.mtlResponse, Fabric.updMtl, ho]
  rfl

theorem Fabric.mtlResponse_other {h : Word} (ho : f.mtl.out = some r) (hne : fld h 15 8 ≠ f.mtl.seq ∨ fld h 7 0 ≠ 0x80 + r.type) :
    f.mtlResponse (h :: b) true = { f with mtl := { f.mtl with frames := sat32 (f.mtl.frames + 1) } } := by
  rw [Fabric.mtlResponse_good ho, if_pos (by simpa using hne)]

theorem Fabric.mtlResponse_takes {h : Word} (ho : f.mtl.out = some r) (hseq : fld h 15 8 = f.mtl.seq) (hty : fld h 7 0 = 0x80 + r.type) :
    f.mtlResponse (h :: b) true =
      (({ f with mtl := { f.mtl with frames := sat32 (f.mtl.frames + 1), out := none } } : Fabric).mtlTake r.why (fld h 31 24) b).mtlPump := by
  rw [Fabric.mtlResponse_good ho, if_neg (by simp [hseq, hty])]

/-- The good answer to SYNC sets UP (R497). -/
theorem Fabric.mtlTake_sync (f : Fabric) (b : List Word) :
    ({ f with mtl := { f.mtl with link := 2, lost := false, wasUp := true } } : Fabric).Told (f.mtlTake .sync 0 b) := by
  unfold Fabric.mtlTake
  dsimp only
  rw [if_neg (by decide)]
  split
  · exact Fabric.meterEvent_told _ _
  · exact .refl _

/-- The link's side after a TICK frame (R498). -/
def Mtl.ticked (m : Mtl) (cal : Nat) (st : Word) (next : Nat) : Mtl :=
  { m with frames := sat32 (m.frames + 1), cal := cal, latest := fld st 31 0, era := fld st 39 32, eventCount := fld st 49 40, flags := fld st 57 50
           nextRec := some next }

/-- A TICK frame is taken, and requests follow it. -/
theorem Fabric.mtlTick_asks (f : Fabric) (h w st : Word) : ∃ next, (f.mtl.ticked w.toNat st next).Asks (f.mtlTick [h, w, st] true).mtl := by
  unfold Fabric.mtlTick
  rw [if_neg (by decide), if_neg (show ¬ [h, w, st].isEmpty = true from Bool.false_ne_true)]
  extract_lets cal s latest era low next clk f₁ f₂ f₃
  refine ⟨next, ?_⟩
  have marked : f₁.mtl = f.mtl := by
    unfold f₁
    split <;> rfl
  have taken : f₂.mtl = f.mtl.ticked w.toNat st next := by
    show Mtl.ticked f₁.mtl w.toNat st next = _
    rw [marked]
  have noticed : f₃.mtl = f₂.mtl := by
    unfold f₃
    split
    · exact (f₂.meterEvent_told _).mtl
    · rfl
  rw [← taken, ← noticed]
  split
  · exact .refl f₃.mtl
  · have asked := f₃.mtlAsk_asks { type := 1, data := [], why := .values }
    split
    · exact asked
    · exact asked.trans (Fabric.nextRecord_asks _)

theorem Fabric.mtlTimeout_early (h : f.tick < f.mtl.sentAt + 31250) : f.mtlTimeout = f := if_pos (by simp [h])

theorem Fabric.mtlTimeout_resends (ho : f.mtl.out = some r) (hdue : f.mtl.sentAt + 31250 ≤ f.tick) (hn : f.mtl.tries < 8) :
    f.mtlTimeout = { f with mtl := Mtl.drive { f.mtl with tries := f.mtl.tries + 1, sentAt := f.tick, resends := min 65535 (f.mtl.resends + 1) } } :=
  (if_neg (by simp [ho, hdue])).trans (if_pos hn)

theorem Fabric.mtlTimeout_down (ho : f.mtl.out = some r) (hdue : f.mtl.sentAt + 31250 ≤ f.tick) (hn : 8 ≤ f.mtl.tries) : f.mtlTimeout = f.mtlDown :=
  (if_neg (by simp [ho, hdue])).trans (if_neg (by omega))

end Sys2Proof.Machine

namespace Sys2Proof.Proofs
open Sys2Proof.Machine

/-- Settles O49: each event of the link acts when it is due; what notices, completions and further requests leave alone of the link says the rest. -/
theorem meterLinkIsKept : Obligations.MeterLinkIsKept := by
  intro s hc f m down damaged
  have goes {i : Instr} {g : Fabric} (act : Fabric → Fabric) (hi : exec i s = s.onFabric Fabric.counting act) (hact : act s.fab = g) :
      Goes i s g := goes_event act hc hi hact
  have falls : down { s with fab := f.mtlDown } := by
    obtain ⟨_, _, _, _, _, _, e⟩ := f.mtlDown_told
    rw [e]
    exact ⟨rfl, rfl, rfl, rfl⟩
  refine ⟨fun hl ho hclk hs => goes Fabric.mtlSync rfl (Fabric.mtlSync_opens hl ho hclk hs), fun r ho => ⟨fun early => ?_, fun due hn => ?_, fun due hn => ?_⟩,
    fun early => goes Fabric.mtlSilence rfl (if_pos early), fun due => ?_, goes (fun g => g.mtlResponse s.meter.answer false) rfl rfl,
    fun hp => goes_event (fun g => g.mtlTick s.meter.tickFrame false) hp rfl rfl, fun h b r hans ho => ⟨fun other => ?_, fun hseq hty hst hwhy hq => ?_⟩,
    fun h cal st hp hfr hcal => ?_⟩
  · exact goes Fabric.mtlTimeout rfl (Fabric.mtlTimeout_early early)
  · exact goes Fabric.mtlTimeout rfl (Fabric.mtlTimeout_resends ho due hn)
  · exact ⟨_, goes Fabric.mtlTimeout rfl (Fabric.mtlTimeout_down ho due hn), falls⟩
  · exact ⟨_, goes Fabric.mtlSilence rfl (if_neg (Nat.not_lt.mpr due)), falls⟩
  · refine goes (fun g => g.mtlResponse s.meter.answer true) rfl ?_
    rw [hans]
    exact Fabric.mtlResponse_other ho other
  · let g : Fabric := { f with mtl := { m with frames := sat32 (m.frames + 1), out := none } }
    have up : (g.mtlTake .sync 0 b).mtl = { g.mtl with link := 2, lost := false, wasUp := true } := (g.mtlTake_sync b).mtl
    have taken : f.mtlResponse (h :: b) true = g.mtlTake .sync 0 b := by
      rw [Fabric.mtlResponse_takes ho hseq hty, hst, hwhy]
      exact Fabric.mtlPump_empty (by rw [up]; exact hq)
    refine ⟨_, goes (fun g => g.mtlResponse s.meter.answer true) rfl (by rw [hans]; exact taken), up, rfl⟩
  · obtain ⟨_, _, _, _, _, _, _, e⟩ := f.mtlTick_asks h (w64 cal) st
    refine ⟨_, goes_event (fun g => g.mtlTick s.meter.tickFrame true) hp rfl (by rw [hfr]), ?_⟩
    dsimp only
    rw [e, toNat_w64 hcal]
    exact ⟨rfl, rfl, rfl, rfl, rfl, rfl, rfl, rfl⟩

/-- Settles O53: the meter answers a WRITE_MARK of the last 64 with that one's RSEQ, else with BUSY while 8 records await signature (log entry 83), else
with the RSEQ and ERA of the record it writes (log entry 88), on its wires (log entry 169); the fabric die ends METER_MARK with the BUSY it got. -/
theorem marksAreWrittenOnce : Obligations.MarksAreWrittenOnce := by
  refine ⟨?_, ?_⟩
  · intro s n seq ses bell w kind no src hnew hb hseq hkind hno hsrc hin hlt hk hw m i same ok
    subst hw
    have payload := markPayload (ses := ses) (bell := bell) hkind hno hsrc
    have ticks : s.meter.within n = m := Meter.within_now hnew (.inr hin) hlt
    have answers (r : Nat) : response 3 0 seq [pack [(31, 0, r), (39, 32, m.era)]] = ok r := by
      simp [response, frameHeader, ok]
    refine ⟨fun x hx => ?_, fun hx full => ?_, fun hx room => ?_⟩
    · have e := Meter.writeMark_repeated payload ticks hseq hb hk hx
      rw [Meter.keeps, answers] at e
      exact meters_of rfl e
    · have e := Meter.writeMark_busy payload ticks hseq hb hk hx full
      rw [response_nil 3 1 seq] at e
      exact meters_of rfl e
    · obtain ⟨r, free, e, unsigned, words⟩ := Meter.writeMark_writes payload ticks hseq hb hk hx room
      rw [Meter.keeps, answers] at e
      exact yields_meter rfl e ⟨rfl, rfl, rfl, rfl, rfl, rfl, rfl, fun k hne => Map.find_set_other _ _ _ _ hne.symm, r, Map.find_set_same _ _ _, unsigned, words⟩
  · intro s h b data x hc hans ho hq hh hseq hown hacc
    subst hh
    let g : Fabric := { s.fab with mtl := { s.fab.mtl with frames := sat32 (s.fab.mtl.frames + 1), out := none } }
    have status : fld (pack [(31, 24, 1), (15, 8, s.fab.mtl.seq), (7, 0, 0x83)]) 31 24 = 1 := fld_pack_cons_fits (by omega) (by simp) (by omega)
    have isSeq : fld (pack [(31, 24, 1), (15, 8, s.fab.mtl.seq), (7, 0, 0x83)]) 15 8 = s.fab.mtl.seq := by
      rw [fld_pack_cons_other (by omega), fld_pack_cons_fits (by omega) (by simp) (by omega)]
    have isType : fld (pack [(31, 24, 1), (15, 8, s.fab.mtl.seq), (7, 0, 0x83)]) 7 0 = 0x83 := by
      rw [fld_pack_cons_other (by omega), fld_pack_cons_other (by omega), fld_pack_cons_fits (by omega) (by simp) (by omega)]
    have ended : g.mtlTake (.mark x) 1 b = g.complete x stBusy 0 [] 0 := Fabric.finish_inProgress (f := g) hown hacc stBusy 0 [] 0
    refine goes_event (fun f => f.mtlResponse s.meter.answer true) hc rfl ?_
    rw [hans, Fabric.mtlResponse_takes ho isSeq isType, status]
    refine (congrArg Fabric.mtlPump ended).trans (Fabric.mtlPump_empty ?_)
    rw [(g.complete_told x stBusy 0 [] 0).mtl]
    exact hq

end Sys2Proof.Proofs
end

section
/-!
SUPPORT. The commands of the meter (R503, R509–R511, Table 14.10): the gate before them, what confidential mode shows, and how they send their requests.
-/
namespace Sys2Proof.Machine

variable {f : Fabric} {c : Cmd} {admitted bad : Bool} {n : Nat} {k : Fabric → Fabric × Reply}

/-! ### The gate (R509) -/

theorem meterGate_denied (ha : admitted = false) : meterGate admitted bad n f k = denied n f := by
  simp [meterGate, ha]

theorem meterGate_down (ha : admitted = true) (hb : bad = false) (hl : f.mtl.link ≠ 2) : meterGate admitted bad n f k = (f, .done stBusy) := by
  simp [meterGate, ha, hb, hl]

theorem meterGate_up (ha : admitted = true) (hb : bad = false) (hl : f.mtl.link = 2) : meterGate admitted bad n f k = k f := by
  simp [meterGate, ha, hb, hl]

/-! ### What confidential mode shows (R510) -/

theorem down_eq (v unit : Nat) : down v unit = v / unit * unit := (Nat.div_mul_self_eq_mod_sub_self).symm

theorem Fabric.shownEnergy_eq (f : Fabric) (e : Nat) : f.shownEnergy e = if f.conf then e / 1000 * 1000 else e := by
  rw [Fabric.shownEnergy, down_eq]

theorem Fabric.shownPAvg_eq (f : Fabric) : f.shownPAvg = if f.conf then f.mtl.pAvg / 10000 * 10000 else f.mtl.pAvg := by
  rw [Fabric.shownPAvg, down_eq]

theorem Fabric.shownIAvg_eq (f : Fabric) : f.shownIAvg = if f.conf then f.mtl.iAvg / 1000 * 1000 else f.mtl.iAvg := by
  rw [Fabric.shownIAvg, down_eq]

/-! ### What a command notes before its request goes out -/

/-- The device that has noted a METER_MARK. -/
def Fabric.notesMark (f : Fabric) : Fabric := { f with mtl := { f.mtl with lastMarkCmd := some f.tick } }

/-- The device that has noted a METER_LOG_READ. -/
def Fabric.notesLog (f : Fabric) (l : MtlLog) : Fabric := { f with mtl := { f.mtl with logs := f.mtl.logs ++ [l] } }

theorem Mtl.asked_eq (m : Mtl) (r : MtlReq) (t : Nat) : m.asked r t =
    { m with seq := (m.seq + 1) % 256, out := some r, sentAt := t, tries := 0, line := m.line.send (frameBits (r.frame ((m.seq + 1) % 256))) } := rfl

theorem Mtl.asked_lastMarkCmd (m : Mtl) (k : Option Nat) (r : MtlReq) (t : Nat) :
    Mtl.asked { m with lastMarkCmd := k } r t = { m.asked r t with lastMarkCmd := k } := by rw [Mtl.asked_eq, Mtl.asked_eq]

theorem Mtl.asked_logs (m : Mtl) (k : List MtlLog) (r : MtlReq) (t : Nat) :
    Mtl.asked { m with logs := k } r t = { m.asked r t with logs := k } := by rw [Mtl.asked_eq, Mtl.asked_eq]

section
variable (hl : f.mtl.link = 2) (ho : f.mtl.out = none) (hq : f.mtl.queue = []) (hc : f.clk.state ≠ 2) (r : MtlReq)
include hl ho hq hc

theorem Fabric.mtlAsk_notesMark :
    f.notesMark.mtlAsk r = { f with mtl := { Mtl.asked { f.mtl with queue := [] } r f.tick with lastMarkCmd := some f.tick } } := by
  rw [Fabric.mtlAsk_idle (f := f.notesMark) hl ho hq hc, ← Mtl.asked_lastMarkCmd]
  rfl

theorem Fabric.mtlAsk_notesLog (l : MtlLog) :
    (f.notesLog l).mtlAsk r = { f with mtl := { Mtl.asked { f.mtl with queue := [] } r f.tick with logs := f.mtl.logs ++ [l] } } := by
  rw [Fabric.mtlAsk_idle (f := f.notesLog l) hl ho hq hc, ← Mtl.asked_logs]
  rfl

end

/-! ### METER_READ -/

/-- The mailboxes that read the meter. -/
theorem readers_eq (m : Nat) : (decide (m = 32) || decide (m = 33) || decide (m = 36)) = decide (m ∈ [32, 33, 36]) := by simp [Bool.or_assoc]

theorem meterReadBody_denied (hm : c.mbx ∉ [32, 33, 36]) : meterReadBody c f = denied 48 f :=
  meterGate_denied ((readers_eq _).trans (decide_eq_false hm))

theorem meterReadBody_up (hm : c.mbx ∈ [32, 33, 36]) (hlen : c.len = 0) (hl : f.mtl.link = 2) :
    meterReadBody c f = (f, .done stOk 0
      [w64 f.mtl.winCal, w64 (if f.conf then f.mtl.energy / 1000 * 1000 else f.mtl.energy),
        pack [(63, 32, f.shownPMax), (31, 0, if f.conf then f.mtl.pAvg / 10000 * 10000 else f.mtl.pAvg)],
        pack [(63, 32, if f.conf then f.mtl.iAvg / 1000 * 1000 else f.mtl.iAvg), (31, 0, f.mtl.vAvg)], f.mtl.status, w64 f.mtl.winBell] 48) := by
  unfold meterReadBody
  rw [meterGate_up ((readers_eq _).trans (decide_eq_true hm)) (by simp [hlen]) hl]
  dsimp only
  rw [Fabric.shownEnergy_eq, Fabric.shownPAvg_eq, Fabric.shownIAvg_eq]

/-! ### METER_MARK (R503, R511) -/

/-- The request of a METER_MARK. -/
def Fabric.markRequest (f : Fabric) (c : Cmd) : MtlReq :=
  { type := 3, data := [wd c.pay 0, pack [(33, 0, fld (wd c.pay 1) 33 0), (47, 40, c.mbx)], w64 f.bell, 0, 0], why := .mark c.mbx }

/-- A METER_MARK within a second of the last accepted one. -/
def Fabric.markSoon (f : Fabric) : Bool := match f.mtl.lastMarkCmd with | some t => f.tick < t + 15625000 | none => false

section
variable (hm : c.mbx ≤ 33) (hlen : c.len = 24) (hbits : onlyBits (wd c.pay 1) [(33, 0)] = true) (hkind : fld (wd c.pay 1) 33 32 ≠ 3) (hzero : wd c.pay 2 = 0)
  (hl : f.mtl.link = 2)
include hm hlen hbits hkind hzero hl

theorem meterMarkBody_valid : meterMarkBody c f =
    if f.conf && f.markSoon then (f, .done stBusy) else (f.notesMark.mtlAsk (f.markRequest c), .wait) := by
  unfold meterMarkBody
  dsimp only
  rw [meterGate_up (by simpa using hm) (by simp [hlen, hbits, hkind, hzero]) hl]
  rfl

theorem meterMarkBody_soon {t0 : Nat} (hc : f.conf = true) (ht : f.mtl.lastMarkCmd = some t0) (hlt : f.tick < t0 + 15625000) :
    meterMarkBody c f = (f, .done stBusy) := by
  rw [meterMarkBody_valid hm hlen hbits hkind hzero hl, if_pos (by simp [hc, Fabric.markSoon, ht, hlt])]

theorem meterMarkBody_sends (hlate : ∀ t0, f.conf = true → f.mtl.lastMarkCmd = some t0 → t0 + 15625000 ≤ f.tick) :
    meterMarkBody c f = (f.notesMark.mtlAsk (f.markRequest c), .wait) := by
  have late : ¬ (f.conf && f.markSoon) = true := by
    rw [Bool.and_eq_true]
    rintro ⟨hc, soon⟩
    unfold Fabric.markSoon at soon
    split at soon
    · next t0 ht => exact absurd (of_decide_eq_true soon) (Nat.not_lt.mpr (hlate t0 hc ht))
    · exact Bool.false_ne_true soon
  rw [meterMarkBody_valid hm hlen hbits hkind hzero hl, if_neg late]

end

/-! ### METER_LOG_READ -/

theorem meterLogBody_valid {first : Nat} (hm : c.mbx ≤ 33) (hlen : c.len = 8) (hfirst : first < 2 ^ 32) (hlo : 1 ≤ n) (hhi : n ≤ 31)
    (hw : wd c.pay 0 = pack [(36, 32, n), (31, 0, first)]) (hl : f.mtl.link = 2) :
    meterLogBody c f = ((f.notesLog { mbx := c.mbx, next := first, left := n }).mtlAsk
      { type := 2, data := [w64 first], why := .log c.mbx }, .wait) := by
  have isN : fld (wd c.pay 0) 36 32 = n := by rw [hw, fld_pack_cons_fits (by omega) (by simp) (by omega)]
  have isFirst : fld (wd c.pay 0) 31 0 = first := by
    rw [hw, fld_pack_cons_other (by omega), fld_pack_cons_fits (by omega) (by simp) (by omega)]
  have fields : onlyBits (wd c.pay 0) [(36, 0)] = true := by rw [hw]; exact onlyBits_pack (by simp)
  have positive : n ≠ 0 := by omega
  unfold meterLogBody
  dsimp only
  rw [meterGate_up (by simpa using hm) (by simp [hlen, fields, isN, positive]) hl, isN, isFirst]
  rfl

/-! ### METER_IDENTITY -/

theorem meterIdentityBody_up (hlen : c.len = 0) (hl : f.mtl.link = 2) :
    meterIdentityBody c f = (f.mtlAsk { type := 4, data := [], why := .identity c.mbx }, .wait) :=
  meterGate_up rfl (by simp [hlen]) hl

end Sys2Proof.Machine

namespace Sys2Proof.Proofs
open Sys2Proof.Machine

/-- Settles O48: the gate decides between a denial, BUSY and the command; the reads answer what the link holds, the others send at once on an idle link. -/
theorem meterCommandsAnswer : Obligations.MeterCommandsAnswer := by
  intro s c ht f m shown sent
  have noPayload (h : c.len = 0) : (c.len != 0) = false := by simp [h]
  refine ⟨fun hlen hl => ⟨?_, ?_, fun hm => ?_⟩, fun hlen hl => ⟨fun hm => ?_, fun hm => ?_, ?_⟩, fun hm hlen hbits hkind hzero hl hc t0 hlast hlt => ?_,
    fun hl ho hq hclk => ⟨fun hm hlen hbits hkind hzero hlate => ?_, fun first n hm hlen hfirst hlo hhi hw => ?_, fun hlen => ?_⟩⟩
  · exact goes_answers meterTimeBody ht rfl (meterGate_down rfl (noPayload hlen) hl)
  · exact goes_answers meterIdentityBody ht rfl (meterGate_down rfl (noPayload hlen) hl)
  · exact goes_answers meterReadBody ht rfl (meterGate_down ((readers_eq _).trans (decide_eq_true hm)) (noPayload hlen) hl)
  · exact goes_answers meterReadBody ht rfl (meterReadBody_up hm hlen hl)
  · have done := (f.begun c 0x0A00).violate.complete_answered c.mbx stOk 0 (zeros (ceilDiv 48 8)) 48
    obtain ⟨_, _, _, _, _, _, e⟩ := (f.begun c 0x0A00).violate.complete_told c.mbx stOk 0 (zeros (ceilDiv 48 8)) 48
    have counted := congrArg Fabric.violations e
    have link := congrArg Fabric.mtl e
    exact ⟨_, goes_taken 0x0A00 meterReadBody ht rfl (congrArg (Fabric.ended c.mbx) (meterReadBody_denied hm)), counted, done.status, link, done.parts⟩
  · exact goes_answers meterTimeBody ht rfl (meterGate_up rfl (noPayload hlen) hl)
  · exact goes_answers meterMarkBody ht rfl (meterMarkBody_soon hm hlen hbits hkind hzero hl hc hlast hlt)
  · refine goes_taken 0x0A01 meterMarkBody ht rfl ?_
    rw [meterMarkBody_sends (f := f.begun c 0x0A01) hm hlen hbits hkind hzero hl hlate, Fabric.ended_wait]
    exact Fabric.mtlAsk_notesMark (f := f.begun c 0x0A01) hl ho hq hclk _
  · refine goes_taken 0x0A02 meterLogBody ht rfl ?_
    rw [meterLogBody_valid (f := f.begun c 0x0A02) hm hlen hfirst hlo hhi hw hl, Fabric.ended_wait]
    exact Fabric.mtlAsk_notesLog (f := f.begun c 0x0A02) hl ho hq hclk _ _
  · refine goes_taken 0x0A04 meterIdentityBody ht rfl ?_
    rw [meterIdentityBody_up (f := f.begun c 0x0A04) hlen hl, Fabric.ended_wait]
    exact Fabric.mtlAsk_idle (f := f.begun c 0x0A04) hl ho hq hclk

end Sys2Proof.Proofs
end

section
/-!
SUPPORT. A step of a device with commands waiting.
-/
namespace Sys2Proof.Machine

/-- With commands waiting a step runs the front one on the state that holds the rest. -/
theorem step_queued {c : Instr} {rest : List Instr} {s : State} (h : s.pending = c :: rest) :
    step s = exec c { s with pending := rest } := by
  simp [step, h]

end Sys2Proof.Machine

namespace Sys2Proof.Proofs
open Sys2Proof.Machine

/-- Settles O1: the queue decides which of its two cases a step is. -/
theorem stepTakesTheFrontCommand : Obligations.StepTakesTheFrontCommand := by
  intro c rest s hs
  exact step_queued hs

end Sys2Proof.Proofs
end

section
/-!
SUPPORT. The SMBus management port (R547 to R551): what a message answers, and what a fragment leaves of the rack manager's mailbox.
-/
namespace Sys2Proof

/-- A field of a number's word. -/
theorem fld_w64_eq {v hi lo : Nat} (h : hi < 64) (hl : lo ≤ hi) : fld (w64 v) hi lo = v / 2 ^ lo % 2 ^ (hi + 1 - lo) := by
  refine Nat.eq_of_testBit_eq fun j => ?_
  rw [testBit_fld, Nat.testBit_mod_two_pow, Nat.testBit_div_two_pow, w64, BitVec.getLsbD_ofNat, Nat.add_comm lo j]
  by_cases hj : j < hi + 1 - lo
  · simp [hj, show j + lo < 64 by omega]
  · simp [hj]

/-- A list in which words were put from place `i` on. -/
theorem getElem?_splice {α : Type} {l ws : List α} {i j : Nat} (h : i + ws.length ≤ l.length) :
    (l.take i ++ ws ++ l.drop (i + ws.length))[j]? = if i ≤ j ∧ j < i + ws.length then ws[j - i]? else l[j]? := by
  have before : (l.take i).length = i := List.length_take_of_le (by omega)
  obtain hj | hj := Nat.lt_or_ge j i
  · rw [if_neg (by omega), List.append_assoc, List.getElem?_append_left (by omega), List.getElem?_take_of_lt hj]
  obtain hj' | hj' := Nat.lt_or_ge j (i + ws.length)
  · rw [if_pos ⟨hj, hj'⟩, List.getElem?_append_left (by simp; omega), List.getElem?_append_right (by omega), before]
  · have here : (l.take i ++ ws).length = i + ws.length := by rw [List.length_append, before]
    rw [if_neg (by omega), List.getElem?_append_right (by omega), List.getElem?_drop, here, Nat.add_sub_cancel' hj']

end Sys2Proof

namespace Sys2Proof.Machine

variable {f : Fabric} {s : State} {i : Instr} {w : Word} {o off len mask : Nat} {pec : Bool} {data : List Word} {b : Mailbox}

/-! ### PEC and power (R541, R547) -/

/-- A message is answered by its meaning where it has a correct PEC and the AON domain runs. -/
theorem exec_smbusMessage (hi : i ∈ [Instr.status pec, .regRead pec w, .mbxWrite pec off data, .mbxRead pec off len, .alertClear pec mask]) :
    ∃ act, ∀ s, exec i s = s.onFabric Fabric.always fun f => f.smb pec act := by
  simp only [List.mem_cons, List.not_mem_nil, or_false] at hi
  obtain rfl | rfl | rfl | rfl | rfl := hi <;> exact ⟨_, fun _ => rfl⟩

theorem Fabric.smb_unpowered (hp : f.pins.powerGood = false) (act : Fabric → Fabric) : f.smb pec act = f := by
  simp [Fabric.smb, hp]

theorem Fabric.smb_badPec (hp : f.pins.powerGood = true) (act : Fabric → Fabric) : f.smb false act = f.smbAnswer [] := by
  simp [Fabric.smb, hp]

theorem Fabric.smb_taken (hp : f.pins.powerGood = true) (act : Fabric → Fabric) : f.smb true act = act f := by
  simp [Fabric.smb, hp]

/-- A message with a correct PEC to a device that has power is served. -/
theorem goes_smbus {g : Fabric} (act : Fabric → Fabric) (hp : s.fab.pins.powerGood = true)
    (hi : exec i s = s.onFabric Fabric.always fun f => f.smb true act) (h : act s.fab = g) : Goes i s g :=
  goes_always (fun f => f.smb true act) hi ((Fabric.smb_taken hp act).trans h)

/-! ### STATUS and the registers (R548, R549) -/

theorem strapsOf_fields (v : Nat) :
    strapsOf v = { node := v % 2 ^ 15, len := v / 2 ^ 15 % 2 ^ 15, qmap := v / 2 ^ 31 % 2 ^ 3, par := v / 2 ^ 34 % 2 ^ 2,
                   smba := v / 2 ^ 36 % 2 ^ 3 } := by
  simp (disch := decide) only [strapsOf, fld_w64_eq, Nat.pow_zero, Nat.div_one]

theorem Fabric.smbRegRead_one (ho : o < 2 ^ 26) (ha : o % 8 = 0) :
    f.smbRegRead (pack [(25, 0, o)]) = if smbGrants o then f.smbAnswer [f.reg o] else f.violate.smbAnswer [0] := by
  have fields : onlyBits (pack [(25, 0, o)]) [(30, 0)] = true := onlyBits_pack (by simp)
  have count : fld (pack [(25, 0, o)]) 30 26 = 0 := by rw [fld_pack_cons_other (by omega), fld_pack_nil]
  have first : fld (pack [(25, 0, o)]) 25 0 = o := fld_pack_cons_fits (by omega) (by simp) ho
  have aligned : fld (pack [(25, 0, o)]) 2 0 = 0 := by rw [fld_eq_mod (show 2 ≤ 25 by decide), first]; exact ha
  unfold Fabric.smbRegRead
  simp only [fields, count, first, aligned]
  cases hg : smbGrants o <;> simp [hg]

theorem Fabric.smbRegRead_malformed (h : onlyBits w [(30, 0)] = false ∨ fld w 2 0 ≠ 0) : f.smbRegRead w = f.smbAnswer [] := by
  unfold Fabric.smbRegRead
  dsimp only
  rw [if_pos]
  rcases h with h | h <;> simp [h]

/-! ### The rack manager's mailbox (R550) -/

theorem Fabric.smbMbxRead_inside (ha : off % 8 = 0) (hl : len % 8 = 0) (hlo : 8 ≤ len) (hhi : len ≤ 240) (hin : off + len ≤ 4096) :
    f.smbMbxRead off len = f.smbAnswer ((List.range (len / 8)).map fun i => (f.mbx 33).word (off / 8 + i)) := by
  have page : ¬ 4096 ≤ off := by omega
  simp [Fabric.smbMbxRead, ha, hl, Nat.not_lt.mpr hlo, Nat.not_lt.mpr hhi, Nat.not_lt.mpr hin, page]

theorem Fabric.smbMbxRead_outside (h : off % 8 ≠ 0 ∨ len % 8 ≠ 0 ∨ len < 8 ∨ 240 < len ∨ 4096 < off + len) :
    f.smbMbxRead off len = f.smbAnswer [] := by
  unfold Fabric.smbMbxRead
  rw [if_pos]
  rcases h with h | h | h | h | h <;> simp [h]

theorem Fabric.smbMbxWrite_owned (ho : (f.mbx 33).env.own = true) : f.smbMbxWrite off data = f.smbAnswer [] := by
  unfold Fabric.smbMbxWrite
  dsimp only
  rw [Fabric.mailboxWrite_owned (f := f.smbAnswer []) ho, ite_self, ite_self]

/-- A fragment that would set OWN without the whole envelope has no effect. -/
theorem Fabric.smbMbxWrite_torn (hoff : off ≤ 56) (hin : 7 < off / 8 + data.length) (htorn : off ≠ 0 ∨ data.length < 8)
    (ha : off % 8 = 0) (hset : bit (wd data (7 - off / 8)) 63 = true) : f.smbMbxWrite off data = f.smbAnswer [] := by
  have envelope : off / 8 ≤ 7 := by omega
  have torn : ¬ (off / 8 = 0 ∧ 8 ≤ data.length) := by omega
  unfold Fabric.smbMbxWrite
  dsimp only
  rw [if_pos (c := (_ && !(decide (off / 8 = 0) && decide (8 ≤ data.length))) = true), ite_self]
  simp only [envelope, hin, hset, Bool.and_self, decide_true, ← Bool.decide_and, torn, decide_false, Bool.not_false]

/-! ### The words of a mailbox page -/

/-- The words of an envelope spell it again. -/
theorem Env.words_ofWords (e : Env) : (Env.ofWords e.words).words = e.words := by
  simp (disch := simp) only [Env.words, Env.ofWords, Env.cmdId, wd, wn, List.getD_cons_zero, List.getD_cons_succ, bit_pack_cons_other,
    bit_pack_cons_flag, fld_pack_cons_same, fld_pack_cons_other]
  simp only [w64_toNat, pack, Nat.mod_mod]

theorem Mailbox.word_low {b : Mailbox} {j : Nat} (hj : j < 8) : b.word j = wd b.env.words j := if_pos hj

/-- The page beyond the words of its payload is zero. -/
theorem Mailbox.word_beyond {b : Mailbox} {j : Nat} (hj : 8 + b.pay.length ≤ j) : b.word j = 0 := by
  rw [Mailbox.word, if_neg (by omega), wd, List.getD_eq_default _ _ (by omega)]

/-- The first words of a mailbox page. -/
def Mailbox.page (b : Mailbox) (n : Nat) : List Word := (List.range n).map b.word

theorem Mailbox.getD_page (b : Mailbox) (n j : Nat) (hn : 8 + b.pay.length ≤ n) : (b.page n).getD j 0 = b.word j := by
  obtain hj | hj := Nat.lt_or_ge j n
  · simp [Mailbox.page, hj]
  · rw [Mailbox.word_beyond (by omega), List.getD_eq_default _ _ (by simpa [Mailbox.page] using hj)]

/-- Words that are put into the payload leave the envelope as it reads. -/
theorem Mailbox.putWords_payload {ws : List Word} {i : Nat} (hi : 8 ≤ i) :
    ∃ n, i + ws.length ≤ n ∧ 8 + b.pay.length ≤ n ∧
      b.putWords i ws = { b with env := Env.ofWords b.env.words
                                 pay := ((b.page n).take i ++ ws ++ (b.page n).drop (i + ws.length)).drop 8 } := by
  refine ⟨max 8 (max (i + ws.length) (8 + b.pay.length)), by omega, by omega, ?_⟩
  generalize hn : max 8 (max (i + ws.length) (8 + b.pay.length)) = n
  have envelope : ((b.page n).take i ++ ws ++ (b.page n).drop (i + ws.length)).take 8 = b.env.words := by
    have before : ((b.page n).take i).length = i := List.length_take_of_le (by simp [Mailbox.page]; omega)
    rw [List.append_assoc, List.take_append_of_le_length (by omega), List.take_take, Nat.min_eq_left hi, Mailbox.page, ← List.map_take,
      List.take_range, Nat.min_eq_left (by omega)]
    rfl
  unfold Mailbox.putWords
  dsimp only
  rw [hn, show (List.range n).map b.word = b.page n from rfl, envelope]

/-- Words that were put into the payload stand there; the rest of the page is as before. -/
theorem Mailbox.putWords_word {ws : List Word} {i j : Nat} (hi : 8 ≤ i) :
    (b.putWords i ws).word j = if i ≤ j ∧ j < i + ws.length then wd ws (j - i) else b.word j := by
  obtain ⟨n, hws, hn, put⟩ := b.putWords_payload (ws := ws) hi
  rw [put]
  obtain hj | hj := Nat.lt_or_ge j 8
  · rw [if_neg (by omega), Mailbox.word_low hj, Mailbox.word_low hj, Env.words_ofWords]
  · rw [Mailbox.word, if_neg (by omega), wd, List.getD_eq_getElem?_getD, List.getElem?_drop, Nat.add_sub_cancel' hj,
      getElem?_splice (by simpa [Mailbox.page] using hws), apply_ite (Option.getD · 0)]
    simp only [← List.getD_eq_getElem?_getD, b.getD_page n j hn]
    rfl

theorem Mailbox.putWords_own {ws : List Word} {i : Nat} (hi : 8 ≤ i) : (b.putWords i ws).env.own = b.env.own := by
  obtain ⟨n, -, -, put⟩ := b.putWords_payload (ws := ws) hi
  rw [put]
  exact bit_pack_cons_flag (by decide) (by simp)

/-- A fragment of the payload is put into the mailbox. -/
theorem Fabric.smbMbxWrite_payload (ho : (f.mbx 33).env.own = false) (hlo : 64 ≤ off) (ha : off % 8 = 0) (hne : data ≠ [])
    (hmax : data.length ≤ 30) (hin : off + 8 * data.length ≤ 4096) :
    f.smbMbxWrite off data = (f.smbAnswer []).setMbx 33 ((f.mbx 33).putWords (off / 8) data) := by
  have given : 0 < data.length := List.length_pos_of_ne_nil hne
  have formed : ¬ (off % 8 != 0 || decide (4096 ≤ off) || data.isEmpty || decide (30 < data.length) ||
      decide (512 < off / 8 + data.length)) = true := by
    simp [ha, hne, show ¬ 4096 ≤ off by omega, Nat.not_lt.mpr hmax, show ¬ 512 < off / 8 + data.length by omega]
  have payload : ¬ off / 8 ≤ 7 := by omega
  have idle : ((f.mbx 33).putWords (off / 8) data).env.own = false := (Mailbox.putWords_own (by omega)).trans ho
  unfold Fabric.smbMbxWrite
  dsimp only
  rw [if_neg formed, if_neg (by simp [payload])]
  unfold Fabric.mailboxWrite
  rw [show (f.smbAnswer []).mbx 33 = f.mbx 33 from rfl]
  simp only [ho, idle, Bool.false_eq_true, if_false, Bool.not_false, if_true]

/-! ### ALERT_N (R551) -/

/-- What ALERT_CLEAR leaves of a bit. -/
theorem alertClear_bit {x i : Nat} (hi : i < 8) :
    maskOf ((bitsOf x 8).filter fun i => !(mask / 2 ^ i % 2 == 1)) / 2 ^ i % 2 = if mask / 2 ^ i % 2 = 1 then 0 else x / 2 ^ i % 2 := by
  have kept := maskOf_filter_range_testBit (fun i => !(mask / 2 ^ i % 2 == 1) && x / 2 ^ i % 2 == 1) 8 i hi
  rw [Nat.testBit_eq_decide_div_mod_eq] at kept
  rw [bitsOf, List.filter_filter]
  obtain hm | hm := Nat.mod_two_eq_zero_or_one (mask / 2 ^ i) <;> obtain hx | hx := Nat.mod_two_eq_zero_or_one (x / 2 ^ i) <;>
    simp_all

theorem Fabric.alertResponse_silent {won : Bool} (h : f.pins.fresh = 0 ∨ won = false) : f.alertResponse won = f.smbAnswer [] := by
  rcases h with h | h <;> simp [Fabric.alertResponse, h]

theorem Fabric.alertResponse_won (h : f.pins.fresh ≠ 0) :
    f.alertResponse true =
      { f with pins := { f.pins with fresh := 0, smbData := [w64 (2 * (0x58 + f.pins.straps / 2 ^ 36 % 8))] } } := by
  rw [Fabric.alertResponse, if_neg (by simp [h]), strapsOf_fields]
  rfl

end Sys2Proof.Machine

namespace Sys2Proof.Proofs
open Sys2Proof.Machine

/-- Settles O59: a message passes power and PEC, and then each kind says what it answers. -/
theorem smbusMessagesAnswer : Obligations.SmbusMessagesAnswer := by
  intro s w off len mask data f gives all
  refine ⟨fun hp pec i hi => ?_, goes_always Fabric.smbTimeout rfl rfl, fun hp => ?_⟩
  · obtain rfl | hi := List.mem_cons.mp hi
    · exact goes_always (fun f => f.smb true fun f => f.alertResponse pec) rfl (Fabric.smb_unpowered hp _)
    · obtain ⟨act, means⟩ := exec_smbusMessage hi
      exact goes_always (fun f => f.smb pec act) (means s) (Fabric.smb_unpowered hp act)
  have answers {i : Instr} {g : Fabric} (act : Fabric → Fabric) (hi : exec i s = s.onFabric Fabric.always fun f => f.smb true act)
      (h : act f = g) : Goes i s g := goes_smbus act hp hi h
  refine ⟨fun i hi => ?_, ?_, fun o ho ha hw => ⟨fun hg => ?_, fun hg => ?_⟩, fun hw => ?_, fun ha hl hlo hhi hin => ?_, fun h => ?_,
    fun ho => ?_, fun ho hlo ha hne hmax hin => ?_, fun hoff ha hin htorn hset => ?_, ?_, fun hf won => ?_, ?_, fun hf => ?_⟩
  · obtain ⟨act, means⟩ := exec_smbusMessage hi
    exact goes_always (fun f => f.smb false act) (means s) (Fabric.smb_badPec hp act)
  · refine answers (fun f => f.smbStatus) rfl ?_
    rw [Fabric.smbStatus, strapsOf_fields]
    simp only [pack, Nat.reduceAdd, Nat.reduceSub, Nat.reducePow, Nat.mod_mod]
    rfl
  · exact answers (fun f => f.smbRegRead w) rfl (by rw [hw, Fabric.smbRegRead_one ho ha, if_pos hg]; rfl)
  · exact answers (fun f => f.smbRegRead w) rfl (by rw [hw, Fabric.smbRegRead_one ho ha, hg]; rfl)
  · exact answers (fun f => f.smbRegRead w) rfl (Fabric.smbRegRead_malformed hw)
  · exact answers (fun f => f.smbMbxRead off len) rfl (Fabric.smbMbxRead_inside ha hl hlo hhi hin)
  · exact answers (fun f => f.smbMbxRead off len) rfl (Fabric.smbMbxRead_outside h)
  · exact answers (fun f => f.smbMbxWrite off data) rfl (Fabric.smbMbxWrite_owned ho)
  · have page (i : Nat) : (((f.smbAnswer []).setMbx 33 ((f.mbx 33).putWords (off / 8) data)).mbx 33).word i =
        if off / 8 ≤ i ∧ i < off / 8 + data.length then wd data (i - off / 8) else (f.mbx 33).word i := by
      rw [Fabric.mbx_setMbx_same, Mailbox.putWords_word (by omega)]
    refine ⟨_, answers (fun f => f.smbMbxWrite off data) rfl (Fabric.smbMbxWrite_payload ho hlo ha hne hmax hin), fun i hi => ?_,
      fun i hi => ?_, rfl, rfl, rfl⟩
    · rw [page, if_pos (by omega), Nat.add_sub_cancel_left]
    · rw [page, if_neg (by omega)]
  · exact answers (fun f => f.smbMbxWrite off data) rfl (Fabric.smbMbxWrite_torn hoff hin htorn ha hset)
  · exact ⟨_, answers (fun f => f.alertClear mask) rfl rfl, fun i hi => ⟨alertClear_bit hi, alertClear_bit hi⟩, rfl⟩
  · exact answers (fun f => f.alertResponse won) rfl (Fabric.alertResponse_silent (.inl hf))
  · exact answers (fun f => f.alertResponse false) rfl (Fabric.alertResponse_silent (.inr rfl))
  · exact answers (fun f => f.alertResponse true) rfl (Fabric.alertResponse_won hf)

end Sys2Proof.Proofs
end

section
/-!
SUPPORT. Power, RST_N and brown-out (R541, R534, R542): what starts over and what stays.
-/
namespace Sys2Proof.Machine

variable {f : Fabric} {cause straps : Nat}

/-- CHECKING is the only cause of FAULT_N where none held before. -/
theorem Fabric.checking_eq (h : f.pins.faults = []) :
    ∃ alerts fresh, f.checking = { f with pins := { f.pins with faults := [1], alerts := alerts, fresh := fresh } } := by
  simp only [Fabric.checking, Fabric.faultOn, h, List.isEmpty_nil, if_true]
  rw [show (f.alert 0).pins.faults = [] from h]
  exact ⟨_, _, rfl⟩

/-- POWER_ON while RST_N is low (R541): a device at stage 1 that holds flash and fuses. -/
theorem Fabric.powerOn_held (hr : f.pins.rstN = false) :
    ∃ alerts fresh, f.powerOn =
      { f.vReset with aon := { stage := 1 }
                      pins := { f.vReset.pins with powerGood := true, faults := [1], alerts := alerts, fresh := fresh } } := by
  obtain ⟨alerts, fresh, checks⟩ := Fabric.checking_eq
    (f := { f.vReset with aon := { stage := 1 }, pins := { f.vReset.pins with powerGood := true } }) rfl
  refine ⟨alerts, fresh, ?_⟩
  unfold Fabric.powerOn
  dsimp only
  rw [checks]
  exact if_neg (Bool.eq_false_iff.mp hr)

/-- A D reset without a dump while RST_N is low stops at stage 2. -/
theorem Fabric.deviceReset_held (hr : f.pins.rstN = false) :
    ∃ alerts fresh, f.deviceReset cause false =
      { f.afterReset cause with aon := { (f.afterReset cause).aon with stage := 2 }
                                pins := { (f.afterReset cause).pins with faults := [1], alerts := alerts, fresh := fresh } } := by
  obtain ⟨alerts, fresh, checks⟩ := Fabric.checking_eq (f := { f.afterReset cause with lanes := [] }) rfl
  refine ⟨alerts, fresh, ?_⟩
  unfold Fabric.deviceReset
  simp only [Bool.false_eq_true, if_false]
  rw [checks]
  exact if_neg (by simp [Fabric.afterReset, hr])

theorem Fabric.rstAssert_running (hp : f.pins.powerGood = true) (hr : f.pins.rstN = true) :
    f.rstAssert = ({ f with pins := { f.pins with rstN := false } } : Fabric).deviceReset 1 false := by
  simp [Fabric.rstAssert, hp, hr]

theorem Fabric.rstAssert_held (hr : f.pins.rstN = false) : f.rstAssert = f := by simp [Fabric.rstAssert, hr]

/-- The straps are latched and start-up begins, or stops at the straps (R534, R535). -/
theorem Fabric.rstRelease_held (hp : f.pins.powerGood = true) (hr : f.pins.rstN = false) :
    f.rstRelease straps = ({ f with pins := { f.pins with rstN := true, straps := straps } } : Fabric).latchStraps := by
  simp [Fabric.rstRelease, hp, hr]

/-- The device with the node address and the axis lengths of its straps. -/
def Fabric.placed (f : Fabric) : Fabric :=
  let v := strapsOf f.pins.straps
  { f with rtr := { f.rtr with node := v.node, lx := v.axes.1, ly := v.axes.2.1, lz := v.axes.2.2 } }

theorem Fabric.latchStraps_eq (f : Fabric) :
    f.latchStraps = if (strapsOf f.pins.straps).valid then { f.placed with aon := { f.aon with stage := 4 } }
      else ({ f.placed with aon := { f.aon with stage := 3 } } : Fabric).faultOn 3 := rfl

/-- A brown-out of the core supplies (R542): the safe states, and FAULT_N for BROWNOUT. -/
theorem Fabric.brownout_safe (hp : f.pins.powerGood = true) : (f.brownout false).Safe ∧ 6 ∈ (f.brownout false).pins.faults := by
  rw [show f.brownout false = f.safeStates.faultOn 6 by simp [Fabric.brownout, hp]]
  generalize hg : f.safeStates = g
  exact (hg ▸ f.safeStates_safe : g.Safe).faultOn 6

theorem Fabric.brownoutEnd_resets (h : 6 ∈ f.pins.faults) : f.brownoutEnd = f.deviceReset 0 false := by
  simp [Fabric.brownoutEnd, h]

end Sys2Proof.Machine

namespace Sys2Proof.Proofs
open Sys2Proof.Machine

/-- Settles O20: what V and D resets leave, and the safe states of a brown-out. -/
theorem powerAndResetStartOver : Obligations.PowerAndResetStartOver := by
  intro s f
  refine ⟨fun hr => ?_, fun hp hr => ?_, fun hr => goes_always Fabric.rstAssert rfl (Fabric.rstAssert_held hr), fun straps hp hr => ?_,
    fun hp => ?_, fun hp hr h6 => ?_⟩
  · obtain ⟨_, _, starts⟩ := Fabric.powerOn_held hr
    exact ⟨_, goes_always Fabric.powerOn rfl starts, rfl, rfl, rfl, rfl, rfl, rfl, rfl, rfl, rfl, rfl, rfl, rfl, rfl, rfl, rfl, rfl⟩
  · obtain ⟨_, _, resets⟩ := Fabric.deviceReset_held (f := { f with pins := { f.pins with rstN := false } }) (cause := 1) rfl
    exact ⟨_, goes_always Fabric.rstAssert rfl ((Fabric.rstAssert_running hp hr).trans resets),
      rfl, rfl, rfl, rfl, rfl, rfl, rfl, rfl, rfl, rfl, rfl, rfl⟩
  · intro v g
    have latched : s.fab.rstRelease straps = if v.valid then { g with aon := { f.aon with stage := 4 } }
        else Fabric.faultOn { g with aon := { f.aon with stage := 3 } } 3 :=
      (Fabric.rstRelease_held hp hr).trans (Fabric.latchStraps_eq _)
    exact ⟨fun hv => goes_always (fun f => f.rstRelease straps) rfl (latched.trans (if_pos hv)),
      fun hv => goes_always (fun f => f.rstRelease straps) rfl (latched.trans (if_neg (by simp [hv])))⟩
  · obtain ⟨⟨stopped, off⟩, here⟩ := Fabric.brownout_safe hp
    exact ⟨_, goes_always (fun f => f.brownout false) rfl rfl, rfl, stopped, here, off⟩
  · obtain ⟨_, _, resets⟩ := Fabric.deviceReset_held (f := f) (cause := 0) hr
    exact ⟨_, goes_always Fabric.brownoutEnd rfl ((Fabric.brownoutEnd_resets h6).trans resets), rfl, rfl, rfl, rfl, rfl⟩

end Sys2Proof.Proofs
end

section
/-!
SUPPORT. COUNTER_SNAP (R515 to R517): the blocks that a snapshot names, and the words of a snapshot.
-/
namespace Sys2Proof

theorem down_eq_div_mul (n m : Nat) : down n m = n / m * m := Nat.div_mul_self_eq_mod_sub_self.symm

theorem bit_eq_getLsbD (w : Word) (n : Nat) : bit w n = w.getLsbD n := by
  rw [bit, BitVec.getLsbD, Nat.testBit_eq_decide_div_mod_eq]
  rfl

/-- A mask of a packed word's lowest field. -/
theorem bit_pack_mask {hi v p : Nat} {fs : List (Nat × Nat × Nat)} (hhi : hi < 64) (hp : p ≤ hi) (hfs : ∀ e ∈ fs, hi < e.2.1) :
    bit (pack ((hi, 0, v) :: fs)) p = decide (v / 2 ^ p % 2 = 1) := by
  have others : (fs.any fun e => decide (e.2.1 ≤ p ∧ p ≤ e.1) && e.2.2.testBit (p - e.2.1)) = false := by
    refine List.any_eq_false.mpr fun e he => ?_
    have : ¬ (e.2.1 ≤ p ∧ p ≤ e.1) := by have := hfs e he; omega
    simp [this]
  rw [bit_eq_getLsbD, getLsbD_pack _ (by omega), List.any_cons, others]
  simp [hp, Nat.testBit_eq_decide_div_mod_eq]

end Sys2Proof

namespace Sys2Proof.Machine

variable {f : Fabric} {c : Cmd} {m mask : Nat} {device : Bool}

/-- The payload of a COUNTER_SNAP. -/
def snapWord (mask : Nat) (device : Bool) : Word := pack [(31, 0, mask), (32, 32, b2n device)]

theorem snapWord_part {p : Nat} (hp : p < 32) : bit (snapWord mask device) p = decide (mask / 2 ^ p % 2 = 1) :=
  bit_pack_mask (by decide) (by omega) (by simp)

theorem snapWord_device : bit (snapWord mask device) 32 = device :=
  (bit_pack_cons_other (by decide)).trans (bit_pack_cons_flag (by decide) (by simp))

theorem snapWord_mask (hm : mask < 2 ^ 32) : fld (snapWord mask device) 31 0 = mask :=
  fld_pack_cons_fits (by decide) (by simp) hm

theorem snapWord_names (hm : mask < 2 ^ 32) : (snapWord mask device != 0) = (mask != 0 || device) := by
  have named (h : snapWord mask device = 0) : mask = 0 ∧ device = false :=
    ⟨(snapWord_mask hm).symm.trans (congrArg (fld · 31 0) h), snapWord_device.symm.trans (congrArg (bit · 32) h)⟩
  rw [Bool.eq_iff_iff]
  simp only [bne_iff_ne, Bool.or_eq_true, ne_eq]
  refine ⟨fun h => ?_, fun h hw => ?_⟩
  · by_contra none
    obtain ⟨rfl, rfl⟩ : mask = 0 ∧ device = false := by simpa using none
    exact h rfl
  · obtain ⟨rfl, rfl⟩ := named hw
    simp at h

/-- The blocks that a snapshot names and a tenant may not read. -/
def namesForeign (m mask : Nat) (device : Bool) : Prop := m < 32 ∧ (device = true ∨ ∃ p < 32, p ≠ m ∧ mask / 2 ^ p % 2 = 1)

theorem counterSnapBody_waits (hlen : c.len = 8) (hw : wd c.pay 0 = snapWord mask device) :
    (namesForeign c.mbx mask device → counterSnapBody c f =
      ({ f.violate with trc := { f.trc with snaps := f.trc.snaps ++ [(c.mbx, wd c.pay 0)] } }, .wait)) ∧
    (¬ namesForeign c.mbx mask device → counterSnapBody c f =
      ({ f with trc := { f.trc with snaps := f.trc.snaps ++ [(c.mbx, wd c.pay 0)] } }, .wait)) := by
  have fields : onlyBits (wd c.pay 0) [(32, 0)] = true := by rw [hw]; exact onlyBits_pack (by simp)
  have foreign : (decide (c.mbx < 32) && (bit (wd c.pay 0) 32 || (List.range 32).any fun p => bit (wd c.pay 0) p && p != c.mbx)) = true ↔
      namesForeign c.mbx mask device := by
    simp only [hw, snapWord_device, Bool.and_eq_true, Bool.or_eq_true, decide_eq_true_eq, List.any_eq_true, List.mem_range, bne_iff_ne]
    refine and_congr_right fun _ => or_congr_right (exists_congr fun p => and_congr_right fun hp => ?_)
    rw [snapWord_part hp, decide_eq_true_eq, and_comm]
  unfold counterSnapBody
  dsimp only
  rw [if_neg (by simp [hlen, fields])]
  exact ⟨fun h => by rw [if_pos (foreign.mpr h)]; rfl, fun h => by rw [if_neg (fun hb => h (foreign.mp hb))]⟩

/-! ### The words of a snapshot (Tables 15.1 to 15.6) -/

theorem shownCount_eq (coarse : Bool) (n : Nat) : shownCount coarse n = w64 (if coarse then n / 4096 * 4096 else n) := by
  rw [shownCount, down_eq_div_mul]

theorem shownTicks_eq (coarse : Bool) (n : Nat) : shownTicks coarse n = w64 (if coarse then n / 15625 * 15625 else n) := by
  rw [shownTicks, down_eq_div_mul]

/-- The device's own snapshot of an instant at which it is the only one that waits. -/
theorem Fabric.tickCounts_one {w : Word} (hs : f.trc.snaps = [(m, w)]) (ho : (f.mbx m).env.own = true) (ha : (f.mbx m).accepted = true) :
    f.tickCounts = ({ f with trc := { f.trc with snaps := [] } } : Fabric).complete m stOk (w64 f.tick) (f.counterWords m w) 2744 := by
  rw [Fabric.tickCounts, hs]
  exact Fabric.finish_inProgress (f := { f with trc := { f.trc with snaps := [] } }) ho ha _ _ _ _

/-- The words of a snapshot: the device's registers for the admin alone, and each named partition's, for a tenant its own. -/
theorem Fabric.counterWords_eq (hm : mask < 2 ^ 32) :
    f.counterWords m (snapWord mask device) =
      [w64 f.tick, pack [(32, 32, b2n ((f.conf && !decide (m < 32)) && (mask != 0 || device))), (31, 0, mask)], 0, 0] ++
        (if device && !decide (m < 32) then f.deviceCounters (f.conf && !decide (m < 32)) else zeros 19) ++
        (List.range 32).flatMap fun p =>
          if mask / 2 ^ p % 2 = 1 ∧ (m < 32 → p = m) then f.partCounters p (f.conf && !decide (m < 32)) else zeros 10 := by
  unfold Fabric.counterWords
  dsimp only
  rw [snapWord_device, snapWord_mask hm, snapWord_names hm]
  congr 1
  refine List.flatMap_congr fun p hp => if_congr ?_ rfl rfl
  simp [snapWord_part (List.mem_range.mp hp), imp_iff_not_or]

end Sys2Proof.Machine
end

section
/-!
SUPPORT. Trace of the management cores (R522 to R526) and wait-for graphs (R527 to R530): what TRACE_ARM, a trigger, TRACE_READ and
WAITFOR_DUMP do.
-/
namespace Sys2Proof

theorem bitsOf_single {k : Nat} (hk : k < 8) : bitsOf (2 ^ k) 8 = [k] := by
  revert k
  decide

theorem maskOf_single (k : Nat) : maskOf [k] = 2 ^ k := by simp [maskOf]

end Sys2Proof

namespace Sys2Proof.Machine

variable {f : Fabric} {s : State} {c : Cmd} {j k m act kind post : Nat} {v : Word} {t : CoreTrace}

/-! ### The cores -/

@[simp] theorem Fabric.core_setCore_same (f : Fabric) (k : Nat) (t : CoreTrace) : (f.setCore k t).core k = t :=
  Map.get_set_same _ _ _ _

theorem Fabric.core_setCore_other (f : Fabric) (t : CoreTrace) (h : k ≠ j) : (f.setCore k t).core j = f.core j :=
  Map.get_set_other _ _ _ _ _ h

@[simp] theorem Fabric.begun_core (f : Fabric) (c : Cmd) (op k : Nat) : (f.begun c op).core k = f.core k := rfl

theorem Fabric.complete_trc (f : Fabric) (m st : Nat) (r0 : Word) (resp : List Word) (len : Nat) :
    (f.complete m st r0 resp len).trc = f.trc := by
  obtain ⟨_, _, _, e⟩ := f.complete_eq m st r0 resp len
  rw [e]

/-- Outside confidential mode TRC_STATUS shows a cancelled core as OFF (R526). -/
theorem Fabric.coreState_open (hc : f.conf = false) : f.coreState k = if (f.core k).state = 5 then 0 else (f.core k).state := by
  simp [Fabric.coreState, hc]

theorem Fabric.coreState_frozen_iff (hc : f.conf = false) : f.coreState k = 4 ↔ (f.core k).state = 4 := by
  rw [Fabric.coreState_open hc]
  split <;> omega

/-! ### TRACE_ARM (R522) -/

/-- A core that an action of TRACE_ARM leaves as it is. -/
def CoreTrace.settled (t : CoreTrace) (act post kind : Nat) (v : Word) : Bool :=
  match act with
  | 0 => t.state = 1
  | 1 => t.state = 2 && t.post = post && t.kind = kind && t.value == v
  | 2 => !(t.state = 1 || t.state = 2)
  | _ => t == {}

/-- A core after an action of TRACE_ARM that changes it. -/
def CoreTrace.moved (t : CoreTrace) (act post kind : Nat) (v : Word) (tick : Nat) : CoreTrace :=
  match act with
  | 0 => { state := 1, needSync := true, syncTick := tick }
  | 1 => { state := 2, post := post, kind := kind, value := v, needSync := true, syncTick := tick }
  | 2 => { t with state := 4 }
  | _ => {}

/-- A TRACE_ARM of one core with fields in range (Table 15.16). -/
structure ArmsCore (c : Cmd) (k act kind post : Nat) (v : Word) : Prop where
  len : c.len = 24
  core : k < 8
  action : act ≤ 3
  condition : kind ≤ 5
  pay : c.pay = [pack [(7, 0, 2 ^ k), (10, 8, act), (15, 12, kind)], w64 post, v]
  window : if act = 1 then 1024 ≤ post ∧ post ≤ 65536 else post = 0
  value : act = 1 → (kind = 0 → v = 0) ∧ (kind = 2 → v.toNat < 256) ∧ (kind = 3 → v.toNat < 65536)

namespace ArmsCore

variable (h : ArmsCore c k act kind post v)
include h

theorem cores : fld (wd c.pay 0) 7 0 = 2 ^ k := by
  have fits : 2 ^ k < 2 ^ (7 + 1 - 0) := Nat.pow_lt_pow_right (by decide) h.core
  rw [h.pay]
  exact fld_pack_cons_fits (by decide) (by simp) fits

theorem act_eq : fld (wd c.pay 0) 10 8 = act := by
  rw [h.pay]
  exact (fld_pack_cons_other (by decide)).trans (fld_pack_cons_fits (by decide) (by simp) (by have := h.action; omega))

theorem kind_eq : fld (wd c.pay 0) 15 12 = kind := by
  rw [h.pay]
  exact (fld_pack_cons_other (by decide)).trans ((fld_pack_cons_other (by decide)).trans
    (fld_pack_cons_fits (by decide) (by simp) (by have := h.condition; omega)))

theorem post_eq : wn c.pay 1 = post := by
  have := h.window
  rw [h.pay]
  exact toNat_w64 (by split at this <;> omega)

theorem value_eq : wd c.pay 2 = v := by
  rw [h.pay]
  rfl

theorem notBad : armBad c.len c.pay = false := by
  have fields : onlyBits (wd c.pay 0) [(10, 0), (15, 12)] = true := by rw [h.pay]; exact onlyBits_pack (by simp)
  have named : ¬ 2 ^ k = 0 := Nat.two_pow_pos k |>.ne'
  have action : ¬ 3 < act := Nat.not_lt.mpr h.action
  have condition : ¬ 5 < kind := Nat.not_lt.mpr h.condition
  have window := h.window
  have low {hi : Nat} (hv : v.toNat < 2 ^ (hi + 1)) : onlyBits v [(hi, 0)] = true := by rw [← w64_toNat v]; exact onlyBits_w64 hv
  unfold armBad
  dsimp only
  rw [h.cores, h.act_eq, h.kind_eq, h.post_eq, h.len, fields, h.value_eq]
  by_cases ha : act = 1
  · obtain ⟨always, notice, opcode⟩ := h.value ha
    rw [if_pos ha] at window
    have opcode' : kind = 3 → onlyBits v [(15, 0)] = true := fun hk => low (opcode hk)
    have notice' : kind = 2 → onlyBits v [(7, 0)] = true := fun hk => low (notice hk)
    simpa [named, condition, ha, window] using ⟨⟨always, notice'⟩, opcode'⟩
  · rw [if_neg ha] at window
    simp [action, condition, ha, window]

end ArmsCore

theorem traceArmBody_confidential (hconf : f.conf = true) : traceArmBody c f = denied 0 f := by
  simp [traceArmBody, hconf]

/-- RING and ARM of a frozen core. -/
theorem traceArmBody_frozen (h : ArmsCore c k act kind post v) (hm : c.mbx = 32) (hconf : f.conf = false) (ha : act ≤ 1)
    (hs : (f.core k).state = 4) : traceArmBody c f = (f, .done stBusy) := by
  unfold traceArmBody
  simp only [h.cores, h.act_eq, h.notBad, bitsOf_single h.core]
  simp [hm, hconf, ha, (Fabric.coreState_frozen_iff hconf).mpr hs]

/-- TRACE_ARM changes the named cores that are not settled, and answers their mask. -/
theorem traceArmBody_moves (h : ArmsCore c k act kind post v) (hm : c.mbx = 32) (hconf : f.conf = false)
    (hs : act ≤ 1 → (f.core k).state ≠ 4) :
    ∃ arms, traceArmBody c f =
      let unsettled := [k].filter fun k => !(f.core k).settled act post kind v
      let g := unsettled.foldl (fun g k => g.setCore k ((g.core k).moved act post kind v f.tick)) f
      okay { g with trc := { g.trc with arms := arms } } (maskOf unsettled) := by
  have posted : (if act = 1 then post else 0) = post := by
    have := h.window
    split at this <;> simp_all
  unfold traceArmBody
  simp only [h.cores, h.act_eq, h.kind_eq, h.post_eq, h.value_eq, h.notBad, bitsOf_single h.core, posted]
  rw [if_neg (by simp [hm, hconf]), if_neg (by simp), if_neg (by simpa [Fabric.coreState_frozen_iff hconf] using hs)]
  exact ⟨_, rfl⟩

/-- TRACE_ARM of one core changes that core alone, and answers its mask where it changed. -/
theorem traceArmBody_one (h : ArmsCore c k act kind post v) (hm : c.mbx = 32) (hconf : f.conf = false)
    (hs : act ≤ 1 → (f.core k).state ≠ 4) :
    ∃ arms, traceArmBody c f =
      if (f.core k).settled act post kind v then okay { f with trc := { f.trc with arms := arms } } 0
      else okay { f with trc := { (f.setCore k ((f.core k).moved act post kind v f.tick)).trc with arms := arms } } (2 ^ k) := by
  obtain ⟨arms, moves⟩ := traceArmBody_moves h hm hconf hs
  refine ⟨arms, moves.trans ?_⟩
  cases hset : (f.core k).settled act post kind v with
  | true => simp [hset, maskOf]
  | false => simp [hset, maskOf_single, Fabric.setCore]

/-- The core and the answer after TRACE_ARM of one core; the other cores and the partitions are as before. -/
theorem traceArm_answers (h : ArmsCore c k act kind post v) (hm : c.mbx = 32) (hconf : f.conf = false) (hs : act ≤ 1 → (f.core k).state ≠ 4) :
    let held := (f.core k).settled act post kind v
    let g := Fabric.ended c.mbx (traceArmBody c f)
    g.core k = (if held then f.core k else (f.core k).moved act post kind v f.tick) ∧ (∀ j, j ≠ k → g.core j = f.core j) ∧
      (g.mbx 32).env.status = stOk ∧ (g.mbx 32).env.result0 = (if held then 0 else w64 (2 ^ k)) ∧ g.parts = f.parts := by
  obtain ⟨arms, one⟩ := traceArmBody_one h hm hconf hs
  intro held g
  have core (x : Fabric) (r0 : Word) (j : Nat) : (x.complete 32 stOk r0 [] 0).core j = x.core j := by
    rw [Fabric.core, Fabric.complete_trc, Fabric.core]
  cases hheld : held with
  | true =>
    have ends : g = ({ f with trc := { f.trc with arms := arms } } : Fabric).complete 32 stOk (w64 0) [] 0 := by
      rw [show g = _ from congrArg (Fabric.ended c.mbx) (one.trans (if_pos hheld)), hm]
      rfl
    obtain ⟨-, -, -, parts, -, status, result⟩ := Fabric.complete_answered { f with trc := { f.trc with arms := arms } } 32 stOk (w64 0) [] 0
    rw [ends]
    exact ⟨core _ _ k, fun j _ => core _ _ j, status, result, parts⟩
  | false =>
    generalize hg : f.setCore k ((f.core k).moved act post kind v f.tick) = x at one
    have ends : g = ({ f with trc := { x.trc with arms := arms } } : Fabric).complete 32 stOk (w64 (2 ^ k)) [] 0 := by
      rw [show g = _ from congrArg (Fabric.ended c.mbx) (one.trans (if_neg (by simpa using hheld))), hm]
      rfl
    obtain ⟨-, -, -, parts, -, status, result⟩ :=
      Fabric.complete_answered { f with trc := { x.trc with arms := arms } } 32 stOk (w64 (2 ^ k)) [] 0
    rw [ends]
    refine ⟨(core _ _ k).trans ?_, fun j hj => (core _ _ j).trans ?_, status, result, parts⟩
    · exact (congrArg (Fabric.core · k) hg).symm.trans (f.core_setCore_same k _)
    · exact (congrArg (Fabric.core · j) hg).symm.trans (f.core_setCore_other _ hj.symm)

/-! ### TRACE_TRIGGER (R523) -/

/-- A core that captures: its ring is kept, and its window holds some records. -/
structure CoreTrace.Capturing (t : CoreTrace) (ring : List (Word × Word)) (post : Nat) (cross : Bool) (count : Nat) : Prop where
  state : t.state = 3
  ring : t.ring = ring
  post : t.post = post
  cross : t.cross = cross
  count : t.winCount = count

/-- A record that leaves room in the window. -/
theorem CoreTrace.Capturing.put {ring : List (Word × Word)} {cross : Bool} {n : Nat} (h : t.Capturing ring post cross n)
    (hn : n + 1 < post) (r : Word × Word) : (t.put r).Capturing ring post cross (n + 1) := by
  obtain ⟨state, ring, size, cross, count⟩ := h
  have room : ¬ t.post ≤ t.winCount + 1 := by omega
  rw [CoreTrace.put, if_neg (by omega), if_pos state]
  exact ⟨if_neg room, ring, size, cross, congrArg (· + 1) count⟩

/-- A core enters CAPTURING with the ring of before. -/
theorem CoreTrace.capture_capturing (cross : Bool) (addr : Word) (icount tick : Nat) (hp : 1024 ≤ t.post) (hw : t.winCount = 0) :
    ∃ n, (t.capture cross addr icount tick).Capturing t.ring t.post cross n := by
  unfold CoreTrace.capture
  extract_lets entered triggered
  have first : triggered.Capturing t.ring t.post cross 1 :=
    CoreTrace.Capturing.put (t := entered) ⟨rfl, rfl, rfl, rfl, hw⟩ (show 0 + 1 < t.post by omega) _
  split
  · obtain ⟨state, ring, size, cross, count⟩ := first.put (show 1 + 1 < t.post by omega) (traceRecord (w64 triggered.lostNow) 4 0 true 0 tick)
    exact ⟨2, state, ring, size, cross, count⟩
  · exact ⟨1, first⟩

/-- The only arm is of one core, on an address that the core retires. -/
theorem Fabric.traceTrigger_met {a : TraceArm} (harms : f.trc.arms = [a]) (hk : k < 8) (hcores : a.cores = 2 ^ k) (hkind : a.kind = 1)
    (hv : a.value = v) (hs : (f.core k).state = 2) :
    ∃ n icount, f.traceTrigger k v =
      ({ f with free := n, trc := { f.trc with arms := [], origin := k, trigTick := f.tick } } : Fabric).setCore k
        ((f.core k).capture false v icount f.tick) := by
  have found : f.trc.arms.find? (fun a => a.cores / 2 ^ k % 2 == 1 && f.armMet a v) = some a := by
    simp [harms, hcores, Fabric.armMet, hkind, hv]
  have used : [a].filter (fun b => b != a) = [] := by simp
  unfold Fabric.traceTrigger
  rw [found]
  simp only [hcores, bitsOf_single hk, harms, used, List.foldl_cons, List.foldl_nil]
  have armed : ¬ ((f.core k).state != 2) = true := by simp [hs]
  simp only [beq_self_eq_true, Bool.not_true, hkind, decide_true, Bool.and_self, if_true]
  exact ⟨_, _, if_neg armed⟩

theorem Fabric.traceTrigger_unmet {a : TraceArm} (harms : f.trc.arms = [a]) (hkind : a.kind = 1) (hv : a.value ≠ v) :
    f.traceTrigger k v = f := by
  simp [Fabric.traceTrigger, Fabric.armMet, harms, hkind, hv]

/-! ### TRACE_READ (R525) -/

/-- A TRACE_READ of one core to an address of the host. -/
structure ReadsCore (c : Cmd) (k : Nat) : Prop where
  admin : c.mbx = 32
  len : c.len = 16
  core : k < 8
  pay : ∃ addr, c.pay = [w64 k, pack [(47, 6, addr)]]

theorem ReadsCore.core_eq (h : ReadsCore c k) : fld (wd c.pay 0) 2 0 = k := by
  obtain ⟨addr, hpay⟩ := h.pay
  rw [hpay]
  exact fld_w64 h.core (by decide)

/-- TRACE_READ past its checks: a core that runs is busy, an empty array has nothing to write, and another is written in 64 B units. -/
theorem traceReadBody_valid (h : ReadsCore c k) (hconf : f.conf = false) :
    traceReadBody c f =
      let t := f.core k
      let ws := (t.ring.reverse ++ t.win.reverse).flatMap fun r => [r.1, r.2]
      if !(f.coreState k = 4 || f.coreState k = 0) then (f, .done stBusy)
      else if ceilDiv ws.length 8 = 0 then (f, .done stOk (pack [(31, 0, t.ring.length), (63, 32, t.win.length)]))
      else
        let g := (List.range (ceilDiv ws.length 8)).foldl (fun (g : Fabric) i =>
          g.hdpSend { kind := .memWr, addr := wn c.pay 1 + 64 * i, units := 1, data := takePad 8 (ws.drop (8 * i)), purpose := .trace c.mbx }) f
        ({ g with trc := { g.trc with reads := g.trc.reads ++ [{ mbx := c.mbx, pend := ceilDiv ws.length 8
                                                                 result := pack [(31, 0, t.ring.length), (63, 32, t.win.length)] }] } },
          .wait) := by
  obtain ⟨addr, hpay⟩ := h.pay
  have fields0 : onlyBits (wd c.pay 0) [(2, 0)] = true := by rw [hpay]; exact onlyBits_w64 h.core
  have fields1 : onlyBits (wd c.pay 1) [(47, 6)] = true := by rw [hpay]; exact onlyBits_pack (by simp)
  unfold traceReadBody
  dsimp only
  rw [h.core_eq, if_neg (by simp [h.admin, hconf]), if_neg (by simp [h.len, fields0, fields1])]

/-- The units that the records of a core take: four records in 64 bytes. -/
theorem traceUnits (t : CoreTrace) :
    ceilDiv ((t.ring.reverse ++ t.win.reverse).flatMap fun r => [r.1, r.2]).length 8 = (t.ring.length + t.win.length + 3) / 4 := by
  have words : ((t.ring.reverse ++ t.win.reverse).flatMap fun r => [r.1, r.2]).length = 2 * (t.ring.length + t.win.length) := by
    simp [List.length_flatMap]
    omega
  rw [words, ceilDiv]
  omega

theorem traceReadBody_running (h : ReadsCore c k) (hconf : f.conf = false) (hs : (f.core k).state ∈ [1, 2, 3]) :
    traceReadBody c f = (f, .done stBusy) := by
  rw [traceReadBody_valid h hconf]
  refine if_pos ?_
  rw [Fabric.coreState_open hconf]
  simp only [List.mem_cons, List.not_mem_nil, or_false] at hs
  rcases hs with hs | hs | hs <;> simp [hs]

theorem Fabric.coreState_stopped (hconf : f.conf = false) (hs : (f.core k).state ∈ [0, 4, 5]) : f.coreState k = 4 ∨ f.coreState k = 0 := by
  rw [Fabric.coreState_open hconf]
  simp only [List.mem_cons, List.not_mem_nil, or_false] at hs
  rcases hs with hs | hs | hs <;> simp [hs]

theorem traceReadBody_empty (h : ReadsCore c k) (hconf : f.conf = false) (hs : (f.core k).state ∈ [0, 4, 5])
    (hring : (f.core k).ring = []) (hwin : (f.core k).win = []) : traceReadBody c f = (f, .done stOk) := by
  rw [traceReadBody_valid h hconf]
  dsimp only
  rw [if_neg (by simpa using fun h4 => (Fabric.coreState_stopped hconf hs).resolve_left h4), traceUnits, hring, hwin]
  rfl

theorem traceReadBody_writes (h : ReadsCore c k) (hconf : f.conf = false) (hs : (f.core k).state ∈ [0, 4, 5])
    (hne : (f.core k).ring ≠ [] ∨ (f.core k).win ≠ []) :
    ∃ hdp, traceReadBody c f =
      ({ f with hdp := hdp
                trc := { f.trc with reads := f.trc.reads ++
                  [{ mbx := 32, pend := ((f.core k).ring.length + (f.core k).win.length + 3) / 4
                     result := pack [(31, 0, (f.core k).ring.length), (63, 32, (f.core k).win.length)] }] } }, .wait) := by
  have some : 0 < (f.core k).ring.length + (f.core k).win.length := by
    rcases hne with hne | hne <;> have := List.length_pos_of_ne_nil hne <;> omega
  rw [traceReadBody_valid h hconf]
  dsimp only
  rw [if_neg (by simpa using fun h4 => (Fabric.coreState_stopped hconf hs).resolve_left h4), traceUnits, if_neg (by omega)]
  obtain ⟨hdp, sent⟩ := foldl_hdp (List.range (((f.core k).ring.length + (f.core k).win.length + 3) / 4)) f fun i =>
    { kind := .memWr, addr := wn c.pay 1 + 64 * i, units := 1
      data := takePad 8 ((((f.core k).ring.reverse ++ (f.core k).win.reverse).flatMap fun r => [r.1, r.2]).drop (8 * i))
      purpose := .trace c.mbx }
  rw [sent, h.admin]
  exact ⟨hdp, rfl⟩

/-! ### WAITFOR_DUMP (R527 to R530) -/

/-- A dump to the mailbox of one partition's graph, or of all partitions'. -/
structure Dumps (c : Cmd) (p : Nat) (all : Bool) : Prop where
  len : c.len = 8
  part : p < 32
  pay : c.pay = [pack [(57, 53, p), (48, 48, b2n all)]]

namespace Dumps

variable {p : Nat} {all : Bool} (h : Dumps c p all)
include h

theorem addr_eq : fld (wd c.pay 0) 47 6 = 0 := by
  rw [h.pay]
  exact (fld_pack_cons_other (by decide)).trans ((fld_pack_cons_other (by decide)).trans (fld_pack_nil 47 6))

theorem all_eq : bit (wd c.pay 0) 48 = all := by
  rw [h.pay]
  exact (bit_pack_cons_other (by decide)).trans (bit_pack_cons_flag (by decide) (by simp))

theorem part_eq : fld (wd c.pay 0) 57 53 = p := by
  rw [h.pay]
  exact fld_pack_cons_fits (by decide) (by simp) h.part

/-- WAITFOR_DUMP past its checks of form: the silent answer to a tenant that asks for another partition, and else the graph. -/
theorem body (hm : c.mbx ≤ 33) (hp : p < f.partCount) :
    waitforBody c f =
      if c.mbx < 32 && (all || p != c.mbx) then denied 64 f
      else
        let (g, ws, whole) := f.graph (f.dumpEdges all p c.mbx) (f.conf && 32 ≤ c.mbx) 4032
        (g, .done stOk (w64 whole) ws (8 * ws.length)) := by
  have fields : onlyBits (wd c.pay 0) [(48, 6), (57, 53)] = true := by rw [h.pay]; exact onlyBits_pack (by simp)
  unfold waitforBody
  simp only [h.addr_eq, h.all_eq, h.part_eq]
  rw [if_neg (by omega), if_neg (by simp [h.len, fields, hp])]
  rfl

end Dumps

/-- Records of edges, each drawing one free value. -/
theorem foldl_edgeRecords {α : Type} {step : Fabric × List Word → α → Fabric × List Word}
    (hstep : ∀ st x, (∃ n, (step st x).1 = { st.1 with free := n }) ∧ (step st x).2.length = st.2.length + 2)
    (es : List α) (st : Fabric × List Word) :
    (∃ n, (es.foldl step st).1 = { st.1 with free := n }) ∧ (es.foldl step st).2.length = st.2.length + 2 * es.length := by
  induction es generalizing st with
  | nil => exact ⟨⟨st.1.free, rfl⟩, rfl⟩
  | cons e es ih =>
    obtain ⟨⟨_, drawn⟩, two⟩ := hstep st e
    obtain ⟨⟨n, rest⟩, length⟩ := ih (step st e)
    refine ⟨⟨n, ?_⟩, ?_⟩
    · rw [List.foldl_cons, rest, drawn]
    · rw [List.foldl_cons, length, two, List.length_cons]
      omega

/-- What a graph leaves and holds: free values are drawn, and whole records of 16 bytes behind a header of 64 fit the room. -/
structure Fabric.Graphed (f : Fabric) (room : Nat) (r : Fabric × List Word × Nat) : Prop where
  drawn : ∃ n, r.1 = { f with free := n }
  tick : wd r.2.1 0 = w64 f.tick
  fits : ∃ n, r.2.1.length = 8 + 2 * n ∧ 16 * n ≤ room - 64

theorem Fabric.graph_graphed (f : Fabric) (es : List WaitEdge) (coarse : Bool) (room : Nat) : f.Graphed room (f.graph es coarse room) := by
  unfold Fabric.graph
  extract_lets nodes ix edges links cyc whole fit shownNodes shownEdges cut
  generalize hr : List.foldl _ _ _ = r
  obtain ⟨⟨n, drawn⟩, length⟩ : (∃ n, r.1 = { f with free := n }) ∧ r.2.length = 0 + 2 * edges.length := by
    rw [← hr]
    exact foldl_edgeRecords (fun st e => ⟨⟨st.1.free + 1, rfl⟩, List.length_append⟩) edges (f, [])
  obtain ⟨g, recs⟩ := r
  dsimp only at drawn length
  subst drawn
  refine ⟨⟨n, rfl⟩, rfl, shownNodes + shownEdges, ?_, ?_⟩
  · have nodeWords : ((nodes.take shownNodes).flatMap WaitNode.words).length = 2 * shownNodes := by
      simp [List.length_flatMap, WaitNode.words]
      omega
    have edgeWords : (recs.take (2 * shownEdges)).length = 2 * shownEdges := List.length_take_of_le (by omega)
    rw [List.length_append, List.length_append, nodeWords, edgeWords]
    simp only [List.length_cons, List.length_nil]
    omega
  · omega

/-- The answer of a dump is the graph: whole records that fit 4,032 bytes, from the tick of the dump on. -/
theorem Fabric.Graphed.answered {r : Fabric × List Word × Nat} (h : f.Graphed 4032 r) (m : Nat) (r0 : Word) :
    let t := r.1.complete m stOk r0 r.2.1 (8 * r.2.1.length)
    (t.mbx m).env.status = stOk ∧ 64 ≤ (t.mbx m).env.respLen ∧ (t.mbx m).env.respLen ≤ 4032 ∧ (t.mbx m).env.respLen % 16 = 0 ∧
      wd (t.mbx m).pay 0 = w64 f.tick ∧ t.parts = f.parts ∧ t.violations = f.violations := by
  obtain ⟨⟨n, drawn⟩, tick, k, length, fits⟩ := h
  have box := r.1.complete_mbx m stOk r0 r.2.1 (8 * r.2.1.length)
  obtain ⟨_, _, _, e⟩ := r.1.complete_eq m stOk r0 r.2.1 (8 * r.2.1.length)
  have words : ceilDiv (8 * r.2.1.length) 8 = r.2.1.length := by rw [ceilDiv]; omega
  have pay : wd ((r.1.complete m stOk r0 r.2.1 (8 * r.2.1.length)).mbx m).pay 0 = wd r.2.1 0 := by
    rw [box]
    dsimp only [Mailbox.completed]
    rw [words, takePad_length, wd, List.getD_append _ _ _ _ (by omega), wd]
  have respLen : ((r.1.complete m stOk r0 r.2.1 (8 * r.2.1.length)).mbx m).env.respLen = 8 * r.2.1.length := by rw [box]; rfl
  refine ⟨by rw [box]; rfl, by omega, by omega, by omega, pay.trans tick, ?_, ?_⟩ <;> rw [e, drawn]

end Sys2Proof.Machine

namespace Sys2Proof.Proofs
open Sys2Proof.Machine

/-- Settles O58: one lemma for each command's answer, and for a snapshot one for its words. -/
theorem countersTraceAndWaits : Obligations.CountersTraceAndWaits := by
  refine ⟨?_, ?_, ?_, ?_, ?_, ?_⟩
  · intro s c mask device ht hlen hmask hw f foreign waits
    have w0 : wd c.pay 0 = snapWord mask device := hw
    exact ⟨fun h => goes_taken 0x0B00 counterSnapBody ht rfl (by rw [(counterSnapBody_waits hlen w0).2 h]; rfl),
      fun h => goes_taken 0x0B00 counterSnapBody ht rfl (by rw [(counterSnapBody_waits hlen w0).1 h]; rfl)⟩
  · intro f m mask device hmask hs ho ha tenant coarse mib count ticks sram block dev
    have hdev : dev = if device && !decide (m < 32) then f.deviceCounters coarse else zeros 19 := by
      simp only [dev, Fabric.deviceCounters, shownCount_eq, shownTicks_eq, down_eq_div_mul]
      rfl
    have hblock (p : Nat) : block p = f.partCounters p coarse := by
      simp only [block, Fabric.partCounters, shownCount_eq, shownTicks_eq]
      rfl
    rw [Fabric.tickCounts_one hs ho ha, ← snapWord, Fabric.counterWords_eq hmask, hdev]
    simp only [hblock]
    rfl
  · intro s c k kind post v hk hkind hlen hm t0 words given
    have arms {mk : Cmd → Instr} {act post : Nat} {held : Bool} {t1 : CoreTrace}
        (hi : ∀ c, exec (mk c) s = s.command (force c 10 8 act) 0x0B01 traceArmBody)
        (form : (force c 10 8 act).pay = words act post v → ArmsCore (force c 10 8 act) k act kind post v)
        (held_eq : t0.settled act post kind v = held) (moved_eq : t0.moved act post kind v s.fab.tick = t1) :
        given mk act post v held t1 := by
      intro ht hpay
      have h := form hpay
      refine ⟨fun hconf => ?_, fun hconf ha hs => ?_, fun hconf hs => ?_⟩
      · exact goes_answers traceArmBody ht (hi c) (traceArmBody_confidential hconf)
      · exact goes_answers traceArmBody ht (hi c) (traceArmBody_frozen h hm hconf ha hs)
      · obtain ⟨moved, others, status, result, parts⟩ := traceArm_answers (f := s.fab.begun (force c 10 8 act) 0x0B01) h hm hconf hs
        subst held_eq moved_eq
        exact ⟨_, goes_taken 0x0B01 traceArmBody ht (hi c) rfl, moved, others, status, result, parts, rfl⟩
    have core {act post : Nat} (ha : act ≤ 3) (window : if act = 1 then 1024 ≤ post ∧ post ≤ 65536 else post = 0)
        (value : act = 1 → (kind = 0 → v = 0) ∧ (kind = 2 → v.toNat < 256) ∧ (kind = 3 → v.toNat < 65536))
        (hpay : (force c 10 8 act).pay = words act post v) : ArmsCore (force c 10 8 act) k act kind post v :=
      ⟨hlen, hk, ha, hkind, hpay, window, value⟩
    exact ⟨arms (fun _ => rfl) (core (by decide) rfl nofun) rfl rfl,
      fun hlo hhi always notice opcode => arms (fun _ => rfl) (core (by decide) ⟨hlo, hhi⟩ fun _ => ⟨always, notice, opcode⟩) rfl rfl,
      arms (fun _ => rfl) (core (by decide) rfl nofun) (Bool.not_or _ _) rfl, arms (fun _ => rfl) (core (by decide) rfl nofun) rfl rfl⟩
  · intro s k v a hl hk harms hcores hkind
    refine ⟨fun hv hs hp hw => ?_, fun hv => ?_⟩
    · obtain ⟨n, icount, triggers⟩ := Fabric.traceTrigger_met harms hk hcores hkind hv hs
      obtain ⟨count, captures⟩ := CoreTrace.capture_capturing (t := s.fab.core k) false v icount s.fab.tick hp hw
      refine ⟨_, goes_event (fun f => f.traceTrigger k v) hl rfl triggers, ?_⟩
      dsimp only
      rw [Fabric.core_setCore_same]
      exact ⟨captures.state, captures.cross, captures.ring, rfl, rfl, rfl, rfl⟩
    · exact goes_event (fun f => f.traceTrigger k v) hl rfl (Fabric.traceTrigger_unmet harms hkind hv)
  · intro s c k addr ht hm hlen hk hpay haddr hconf t0
    have h : ReadsCore c k := ⟨hm, hlen, hk, addr, hpay⟩
    refine ⟨fun hs => ?_, fun hs hring hwin => ?_, fun hs hne => ?_⟩
    · exact goes_answers traceReadBody ht rfl (traceReadBody_running (f := s.fab.begun c 0x0B02) h hconf hs)
    · exact goes_answers traceReadBody ht rfl (traceReadBody_empty (f := s.fab.begun c 0x0B02) h hconf hs hring hwin)
    · obtain ⟨hdp, writes⟩ := traceReadBody_writes (f := s.fab.begun c 0x0B02) h hconf hs hne
      have own : ((s.fab.begun c 0x0B02).mbx 32).env.own = true := by rw [← hm, Fabric.begun_mbx]; rfl
      exact ⟨_, goes_taken 0x0B02 traceReadBody ht rfl (congrArg (Fabric.ended c.mbx) writes), own, rfl⟩
  · intro s c p all ht hm hlen hp hp32 hpay
    have body := Dumps.body (f := s.fab.begun c 0x0B03) ⟨hlen, hp32, hpay⟩ hm hp
    refine ⟨fun htenant hother => ?_, fun hallowed => ?_⟩
    · exact goes_answers waitforBody ht rfl (body.trans (if_pos (by simpa [htenant] using hother)))
    · have own : ¬ (decide (c.mbx < 32) && (all || p != c.mbx)) = true := by
        rcases hallowed with admin | ⟨rfl, rfl⟩
        · simp [Nat.not_lt.mpr admin]
        · simp
      rw [if_neg own] at body
      have graphed := (s.fab.begun c 0x0B03).graph_graphed ((s.fab.begun c 0x0B03).dumpEdges all p c.mbx)
        ((s.fab.begun c 0x0B03).conf && decide (32 ≤ c.mbx)) 4032
      obtain ⟨status, lo, hi, whole, tick, parts, violations⟩ := graphed.answered c.mbx (w64 _)
      exact ⟨_, goes_taken 0x0B03 waitforBody ht rfl (congrArg (Fabric.ended c.mbx) body), status, lo, hi, whole, tick, parts, violations, rfl⟩

end Sys2Proof.Proofs
end
